-- ==== Sys2Proof/Word.lean ====
section
/-! DEFINITION. The machine's words: bytes, half words, words and the wider words the manual names, and nothing else. -/

namespace Sys2Proof

/-- A byte (R8). -/
abbrev Byte := BitVec 8
/-- A 16-bit value. -/
abbrev Half := BitVec 16
/-- A 32-bit register or line cycle number (R22, R632). -/
abbrev Word := BitVec 32
/-- A 64-bit value: cycle count (R23), sample index (R10), serial (Table 11-3), group mask. -/
abbrev Dword := BitVec 64
/-- A 48-bit unique identifier (Table 0-4). -/
abbrev Uid := BitVec 48

end Sys2Proof
end

