-- ==== Sys2Proof/Syntax.lean ====
section
/-! DEFINITION. The commands of the block: one constructor for each row of spec/opcode_table.json, in the table's order, each with what
reaches the device in that step from outside (a burst, a frame, a register value, a measured quantity, a random draw). -/

namespace Sys2Proof

/-- A line port (Table 0-2). -/
inductive Port where | a | b
  deriving DecidableEq, Repr

/-- The path a register access or a Tollgate write comes by (R515, R646). -/
inductive Path where | bar0 | sb | mon
  deriving DecidableEq, Repr

/-- The size of a BAR access (R632). -/
inductive AccSize where | b4 | b8 | other
  deriving DecidableEq, Repr

/-- The processing elements, by their monitor codes (Table 15-4). -/
inductive Elem where | cc | ae0 | ae1 | ls
  deriving DecidableEq, Repr

/-- The blocks an element reset can reset (Table 14-6, R612). -/
inductive ResetBlock where | ae0 | ae1 | tag | toll
  deriving DecidableEq, Repr

/-- States of the PCIe link (R403, Table 9-13). -/
inductive LinkState where | l0 | l0s | l1 | l11 | l12 | l2 | l3
  deriving DecidableEq, Repr

/-- The groups of staged fields (Table 14-5). -/
inductive CfgGroup where | atomic | ech | micWake | tdm | eq | pclass
  deriving DecidableEq, Repr

/-- Where a monitor request came from (Table 15-1). -/
inductive Transport where
  | uart
  | sb
  | pcie (c : Fin 16)
  | line (addr : Nat) (session : Nat)
  deriving DecidableEq, Repr

/-- A monitor request whose packet has passed its check: its transport, tag and payload (Table 15-2). -/
structure MonReq where
  via : Transport
  tag : Byte
  payload : List Byte
  deriving DecidableEq, Repr

/-- A beacon burst as received on a port: how many of the 64 sync symbols matched, the 32 body bytes of Table 2-5, and how many symbols
its first sync symbol lies after the node's own symbol 0 (negative when it is early). -/
structure BeaconBurst where
  port : Port
  syncMatches : Nat
  body : List Byte
  displacement : Int
  deriving DecidableEq, Repr

/-- A talker slot burst as received on a port (Table 2-8). -/
structure SlotBurst where
  port : Port
  trained : Bool
  header : Word
  payload : List Byte
  crc : Half
  deriving DecidableEq, Repr

/-- A ledger frame as received on a port (Table 2-7, Table 3-2). -/
structure LedgerFrame where
  port : Port
  source : Byte
  destination : Byte
  typ : Byte
  length : Byte
  sequence : Half
  flags : Half
  payload : List Byte
  crc : Word
  deriving DecidableEq, Repr

/-- A join request burst (Table 2-11) and its arrival after its scheduled position, in 1/16 symbol (R100). -/
structure JoinBurst where
  port : Port
  body : List Byte
  arrival : Nat
  deriving DecidableEq, Repr

/-- One bell pair as the receiver measures it: peak in 1 mV, RMS in 0.25 mV (R71, Table 2-14). -/
structure BellObs where
  position : Fin 128
  pair : Fin 3
  peak : Nat
  rms : Nat
  deriving DecidableEq, Repr

/-- The quiet-interval measurement of one port: RMS and peak in 0.25 mV (R90). -/
structure NoiseObs where
  rms : Nat
  peak : Nat
  deriving DecidableEq, Repr

/-- What the acoustic and audio paths measure over one cycle: the manual gives the rules that use these quantities, not the
arithmetic that forms them (notes/assumptions/5.md). -/
structure CycleObs where
  noiseA : Option NoiseObs
  noiseB : Option NoiseObs
  /-- ERLE estimate of beam 0, dB (Table 7-9). -/
  erle : Byte
  /-- Near-end speech found, per beam (R285). -/
  nearEnd : BitVec 2
  /-- Bands whose output energy exceeded their microphone energy by 6 dB in this cycle (R286). -/
  hotBands : List (Fin 64)
  /-- Detectors whose cycle was tone-on (R310). -/
  toneOn : BitVec 16
  /-- A howl is present, and notch n's bin met the level test, in this cycle (R293 to R295). -/
  howling : Bool
  notchLevel : BitVec 4
  /-- The limiter of an output reduced gain by more than 6 dB in this cycle (R246). -/
  limited : Bool
  /-- Input samples a running catch-up playback takes for this cycle: 20, and what it skips of a long silence (R251). -/
  playbackTook : Nat
  /-- RMS level of the emergency content over its last active cycles, −dBFS (R244). -/
  emergLevel : Nat
  /-- The random number from which an unaddressed node forms its first join backoff (Listing 3-1). -/
  joinDraw : Nat
  deriving DecidableEq, Repr

/-- How a descriptor fetch ended (R383, R413 code 2). -/
inductive FetchResult where
  | fetched (descs : List (List Byte))
  | failed
  deriving DecidableEq, Repr

/-- The P57's measured quantities (Table 5-11). -/
structure P57Telem where
  vin : Half
  iin : Half
  pin : Half
  vsys : Half
  temp : Byte
  deriving DecidableEq, Repr

/-- What a message that expects a reply was (R110). -/
inductive Awaited where
  | leaseReq (reqId : Half)
  | standingBell
  | rangePoll (p : Port) (addr : Fin 128)
  | join (draw : Nat)
  deriving DecidableEq, Repr

/-- A completion or event that a member of the stack returns for a client of the stack master (R189, Table 10-2): the manual gives a window's
message area no layout, so the command says what it carries. `status` is the place of the status in Table 10-3. -/
structure StackEntry where
  client : Fin 16
  event : Bool
  id : Half
  status : Fin 16
  result : Word
  cycle : Word
  info : Word
  deriving DecidableEq, Repr

/-- A command source: host clients H0 to H15 and, as 16, the standby client SB (Table 0-4). -/
abbrev Client := Fin 17

/-- The commands, in the order of spec/opcode_table.json. -/
inductive Instr where
  /-- CYCLE_BOUNDARY (R22): The symbol index wraps from 15,624 to 0 and the LPC cycle number increments, starting the per-cycle work. -/
  | cycleBoundary (o : CycleObs)
  /-- PLT_LPC_CYCLE_READ (R48): A read of PLT_LPC_CYCLE latches the symbol index into PLT_LPC_SYM and the upper cycle count into PLT_LPC_CYCLE_HI. -/
  | pltLpcCycleRead
  /-- BEACON_ACCEPTED (R67): A beacon whose sync matches and whose body CRC is valid is received whole and places the LPC. -/
  | beaconAccepted (b : BeaconBurst)
  /-- BEACON_MISSING (R678): The beacon search window closes without an accepted beacon. -/
  | beaconMissing (p : Port)
  /-- LINE_DOWN (R44): The holdover count reaches its limit and the node declares the line down and raises EV_LINE_STATE. -/
  | lineDown (p : Port)
  /-- FIRMWARE_COMPARE_FIRE (R33): A firmware compare unit CMP0 to CMP5 reaches its target position. -/
  | firmwareCompareFire (u : Fin 6)
  /-- SCHEDULED_DESCRIPTOR_START (R35): A scheduled descriptor starts at symbol 0 of its due cycle. -/
  | scheduledDescriptorStart (c : Client)
  /-- STROBE_PULSE_START (R34): CMP6 or CMP7 reaches the programmed symbol of a period cycle and drives its GPIO high. -/
  | strobePulseStart (u : Fin 2)
  /-- STROBE_PULSE_END (R34): A strobe pulse ends after 16 symbols. -/
  | strobePulseEnd (u : Fin 2)
  /-- SLOT_RECEIVED (R79): A talker slot burst is received and judged by CRC and format. -/
  | slotReceived (k : Fin 64) (b : SlotBurst)
  /-- BEACON_SEND (R156): The master sends the beacon at symbol 0 of the cycle. -/
  | beaconSend (p : Port) (differing : Nat) (draw : Fin 16)
  /-- BEACON_COMMIT (R161): At symbol 15,000 LS commits the next beacon's contents, or repeats the previous ones with ledger_owner[7] set. -/
  | beaconCommit (p : Port) (ccReady : Bool)
  /-- BELL_SEND (R101): A node sends a rung bell pair at its position minus its timing advance, or the master rings toward a node. -/
  | bellSend (p : Port)
  /-- BELL_RECEIVED (R71): A node judges a pair at its own position as rung by peak and RMS tests. -/
  | bellReceived (o : BellObs)
  /-- BELL_FIELD_READ (R99): At the end of the bell field the master acts on the rung pairs of all positions. -/
  | bellFieldRead (p : Port) (os : List BellObs)
  /-- LEDGER_FRAME_SEND (R106): The named owner sends at most one message in its ledger frame. -/
  | ledgerFrameSend (p : Port)
  /-- SLOT_SEND (R130): A holder transmits in its leased slot, with format 0 when it has no audio. -/
  | slotSend (p : Port) (k : Fin 64)
  /-- JOIN_REQUEST_SEND (R113): An unaddressed locked node sends a join request when its backoff count expires in an open join window. -/
  | joinRequestSend (nonce : BitVec 10)
  /-- JOIN_REQUEST_RECEIVED (R115): The master decodes a join request and answers with ADDRESS_ASSIGN. -/
  | joinRequestReceived (j : JoinBurst)
  /-- HORN_START (R141): The master starts the horn at h:0. -/
  | hornStart (p : Port)
  /-- HORN_END (R89): The horn ends after horn_periods periods. -/
  | hornEnd (p : Port)
  /-- HORN_DETECTED (R143): A node with its PHY on detects a horn period and treats the line as Active. -/
  | hornDetected
  /-- ADDRESS_ASSIGN (R116): A node receives an ADDRESS_ASSIGN and takes, updates or gives up its address by status. -/
  | addressAssign (f : LedgerFrame)
  /-- RANGE_POLL (R118): A polled node replies with RANGE_REPLY in the next frame. -/
  | rangePoll (f : LedgerFrame)
  /-- RANGE_REPLY (R83): A RANGE_REPLY is received; receivers train the source's equalizer and the master measures RTD. -/
  | rangeReply (f : LedgerFrame) (arrival : Nat)
  /-- LEASE_REQ (R121): The master receives a LEASE_REQ and grants, queues, refuses, cancels or sets the standing profile. -/
  | leaseReq (f : LedgerFrame)
  /-- LEASE_GRANT (R126): A node receives a LEASE_GRANT and updates its lease state per entry code. -/
  | leaseGrant (f : LedgerFrame)
  /-- LEASE_RELEASE (R128): The master receives a LEASE_RELEASE and frees the slots with code 4. -/
  | leaseRelease (f : LedgerFrame)
  /-- LEASE_AUDIT (R129): A node receives a LEASE_AUDIT and refreshes its lease table. -/
  | leaseAudit (f : LedgerFrame)
  /-- CALL (R136): A node receives a CALL and raises EV_CALL_IN when it concerns the node. -/
  | call (f : LedgerFrame)
  /-- CALL_ACK (R136): A node receives a CALL_ACK; the caller raises EV_CALL_ANSWERED on code 0. -/
  | callAck (f : LedgerFrame)
  /-- ROSTER (R178): A node receives a ROSTER part or delta and updates its roster. -/
  | roster (f : LedgerFrame)
  /-- CHECKPOINT (R170): The rearguard receives a CHECKPOINT part into its filling buffer. -/
  | checkpoint (f : LedgerFrame)
  /-- TIME (R553): A node receives a TIME message and sets its RTC when rtc_from_line is set. -/
  | time (f : LedgerFrame)
  /-- POWER_DIRECTIVE (R138): A node receives a POWER_DIRECTIVE to enter Quiet or to apply an admitted class. -/
  | powerDirective (f : LedgerFrame)
  /-- NODE_STATUS (R102): The master receives a NODE_STATUS and updates sleep, class, eligibility and stale reports. -/
  | nodeStatus (f : LedgerFrame)
  /-- MONITOR (R599): A node receives a MONITOR fragment and assembles an Etush packet or stores a reply. -/
  | monitor (f : LedgerFrame)
  /-- GROUP_PUSH (R262): A node receives a GROUP_PUSH and obeys it when accepted. -/
  | groupPush (f : LedgerFrame)
  /-- LEDGER_RESPONSE_TIMEOUT (R110): A message expecting a reply has had no answer for 16 cycles and is retried or given up. -/
  | ledgerResponseTimeout (w : Awaited)
  /-- LEASE_LAPSE (R128): A lease's missed count reaches 8 and the master reclaims it with code 5. -/
  | leaseLapse (p : Port) (k : Fin 64)
  /-- LEASE_LOST_NO_BEACON (R130): A holder with 8 cycles without an accepted beacon stops transmitting and raises EV_LEASE_LOST reason 2. -/
  | leaseLostNoBeacon
  /-- NODE_STATUS_PERIODIC (R111): A node's periodic NODE_STATUS falls due after 65,536 Active cycles. -/
  | nodeStatusPeriodic
  /-- ROSTER_FULL_PART (R112): The master's 64-cycle full roster part falls due. -/
  | rosterFullPart (p : Port)
  /-- TIME_PERIODIC (R112): The master's periodic TIME falls due. -/
  | timePeriodic (p : Port) (utc : Dword) (offset : Half) (valid : Bool)
  /-- LEASE_AUDIT_PERIODIC (R129): The master's 256-cycle LEASE_AUDIT falls due. -/
  | leaseAuditPeriodic (p : Port)
  /-- CHECKPOINT_SNAPSHOT (R168): The master takes a checkpoint at symbol 0 of its snapshot cycle. -/
  | checkpointSnapshot (p : Port)
  /-- QUIET_ENTRY (R138): quiet_after_s seconds pass without leases, requests or joins and the master sends POWER_DIRECTIVE kind 0. -/
  | quietEntry (p : Port)
  /-- QUIET_CYCLE (R138): quiet_cycle is reached and the master sends only the parts a Quiet line allows. -/
  | quietCycle (p : Port)
  /-- ELECTION_START (R154): A master-capable node hears no beacon for listen_cycles and starts an election. -/
  | electionStart
  /-- ELECTION_DELAY_EXPIRY (R156): The election start delay expires and the node begins sending beacons as master. -/
  | electionDelayExpiry
  /-- COLLISION_BACKOFF_EXPIRY (R158): A non-established priority-0 master's random collision backoff ends and it resumes. -/
  | collisionBackoffExpiry (p : Port)
  /-- ROSTER_ENTRY_EXPIRY (R162): A roster entry unheard for 196,608 Active cycles is removed. -/
  | rosterEntryExpiry (p : Port) (a : Fin 128)
  /-- TAKEOVER (R172): The rearguard misses 3 expected beacons and takes over from its promoted checkpoint and journal. -/
  | takeover
  /-- RANGING_BELL_SEND (R175): A re-ranging follower rings its ranging bell in its cycle of the window. -/
  | rangingBellSend
  /-- RANGING_BELL_RECEIVED (R176): The new master takes a ranging bell as RTD and answers ADDRESS_ASSIGN status 1. -/
  | rangingBellReceived (p : Port) (position : Fin 16) (arrival : Nat)
  /-- TAKEOVER_RECLAIM (R174): At t+17 or t+18 unheard audited holders are reclaimed with code 5. -/
  | takeoverReclaim (p : Port) (part : Fin 2)
  /-- RE_RANGING_END (R175): The 64-cycle re-ranging window closes. -/
  | reRangingEnd
  /-- WAYSTATION_STANDBY_EXPIRY (R181): A standing-by waystation finds the port-B beacon missing for 64 cycles. -/
  | waystationStandbyExpiry
  /-- STACK_HEADER (R188): A stack member receives the stack master's frame header. -/
  | stackHeader (bytes : List Byte)
  /-- STACK_WINDOW (R190): The stack master receives a member's window with its audio, completions and events. -/
  | stackWindow (n : Fin 4) (bytes : List Byte) (entries : List StackEntry)
  /-- P57_INPUT_RISE (R199): The P57 input rises through 20 V and inrush limiting starts. -/
  | p57InputRise
  /-- P57_INPUT_FALL (R199): The P57 input falls through 18 V and the P57 turns off. -/
  | p57InputFall
  /-- P57_RESTART_DELAY (R199): The 100 ms plus random restart delay ends and the P57 starts again. -/
  | p57RestartDelay (inputUp : Bool)
  /-- INRUSH_TIMEOUT (R200): Inrush has not ended within 50 ms and the start counts as an overload. -/
  | inrushTimeout
  /-- P57_OVERLOAD (R203): The current limit has been active for 10 ms; the buck turns off and PG drops. -/
  | p57Overload
  /-- P57_POWER_WARNING (R202): The 1 ms average input power crosses the warning threshold up or down. -/
  | p57PowerWarning (avgMw : Nat)
  /-- HOST5_SELECT (R208): HOST5 has stayed above 4.6 V for 1 ms and is selected. -/
  | host5Select
  /-- HOST5_DESELECT (R208): HOST5 falls below 4.5 V and is deselected. -/
  | host5Deselect
  /-- SURGE_START (R214): The P57 input rises above 65 V and energy integration starts. -/
  | surgeStart
  /-- SURGE_END (R215): The input has stayed below 60 V for 100 µs; the energy enters the FIFO. -/
  | surgeEnd (mj : Nat)
  /-- P57_HORN_DETECT (R211): The pattern detector sees 256 horn periods and asserts HORN_WAKE. -/
  | p57HornDetect (levelMv : Nat)
  /-- P57_ACTIVITY_DETECT (R212): The any-activity detector sees 8 µs of energy and asserts HORN_WAKE. -/
  | p57ActivityDetect (levelMv : Nat)
  /-- P57_CAUSE_WRITE (R213): A write of 1 to a P57_CAUSE bit clears it and releases HORN_WAKE or SURGE_N. -/
  | p57CauseWrite (v : Byte)
  /-- P57_SURGE_E_READ (R227): A read of the high byte of P57_SURGE_E pops the surge FIFO. -/
  | p57SurgeERead
  /-- INTAKE_ATTENTION (R218): SURGE_N falls and the AON intake master reads the causes and empties the surge FIFO. -/
  | intakeAttention (ack : Bool)
  /-- SHED_STEP (R220): The power warning is still set 2 ms after a shed step and the next step is taken. -/
  | shedStep
  /-- SHED_EXHAUSTED (R221): Step 6 has not cleared the warning within 2 ms and EV_BROWNOUT is raised. -/
  | shedExhausted
  /-- SHED_RESTORE (R222): The warning has stayed clear for 100 ms and one shed step is undone. -/
  | shedRestore
  /-- PG_FALL (R224): PG falls and AON disables the annunciator, caps PL3 and stops intake and tag starts. -/
  | pgFall
  /-- PG_RESTORED (R225): PG has stayed high for 10 ms; the P57 is rewritten when fresh and EV_BROWNOUT raised. -/
  | pgRestored (ack : Bool) (lowMs : Nat)
  /-- BROWNOUT_SUSTAINED (R226): PG stays low longer than bo_report_ms and EV_BROWNOUT cause sustained is raised. -/
  | brownoutSustained
  /-- INTAKE_BUS_RETRY (R228): A 1 ms retry of an unacknowledged intake transaction falls due. -/
  | intakeBusRetry (ack : Bool)
  /-- TELEMETRY_COPY (R219): Every 16 cycles in S0 and S1 the P57 telemetry is copied to PWR_INTAKE_TELEMn. -/
  | telemetryCopy (m : P57Telem)
  /-- TOP_PREC_HOLD_EXPIRY (R240): hold_cycles pass after the last active slot of top_prec and top_prec falls. -/
  | topPrecHoldExpiry
  /-- CATCH_UP_PLAYBACK_START (R250): Catch-up playback starts at symbol 0 of cycle m + 2. -/
  | catchUpPlaybackStart
  /-- TDM_SAFE_POINT (R266): A TDM format change applies at the first even cycle after the apply cycle. -/
  | tdmSafePoint
  /-- ASRC_LOCK (R264): The sample-rate converter locks to a steady HA_FS and sets asrc_locked. -/
  | asrcLock
  /-- ANNUNCIATOR_OVERCURRENT (R269): The annunciator output exceeds 3 A and turns off with spk_fault set. -/
  | annunciatorOvercurrent
  /-- ANNUNCIATOR_RETRY (R269): 1 s after a fault the annunciator retries, clearing the flag after 1 s clean. -/
  | annunciatorRetry
  /-- PVDD_SPK_LOW (R674): PVDD_SPK falls below 4.0 V and the annunciator stops driving. -/
  | pvddSpkLow
  /-- PVDD_SPK_RESTORED (R674): PVDD_SPK rises above 4.2 V and the annunciator resumes with a ramp. -/
  | pvddSpkRestored
  /-- CHIME_ENTRY_END (R270): A chime cadence entry's duration ends and the pattern moves on or stops. -/
  | chimeEntryEnd
  /-- RECONVERGENCE_END (R291): ERLE stays above release_db for 50 cycles or 2,000 cycles pass and reconvergence ends. -/
  | reconvergenceEnd
  /-- HOWL_FOUND (R293): A bin passes the howl test for hold_cycles and a notch or gain cut is applied. -/
  | howlFound (freq : BitVec 13)
  /-- NOTCH_RELEASE (R294): A notch is released after 10,000 cycles without the level test met. -/
  | notchRelease (n : Fin 4)
  /-- HOWL_GAIN_STEP (R295): The howl talk-gain cut deepens after 100 cycles of howl or returns after 1,000 without. -/
  | howlGainStep
  /-- RING_TIMEOUT (R299): A ringing call reaches timeout_s and counts as missed. -/
  | ringTimeout (r : Fin 8)
  /-- TALK_KEY_PRESS (R307): A debounced short press of TALK_KEY answers or ends a call record. -/
  | talkKeyPress
  /-- PUSH_TO_TALK_START (R307): TALK_KEY held for 600 ms requests a lease on the standing profile. -/
  | pushToTalkStart
  /-- PUSH_TO_TALK_RELEASE (R307): Release of a push-to-talk key releases the lease. -/
  | pushToTalkRelease
  /-- DECLINE_KEY (R304): A press of the decline GPIO ends a Ringing record. -/
  | declineKey
  /-- CALL_END_HOLD (R305): end_hold cycles of caller silence or lease absence end a call record. -/
  | callEndHold (r : Fin 8)
  /-- TONE_DETECTOR_START (R310): A tone detector starts after on_cycles tone-on cycles. -/
  | toneDetectorStart (n : Fin 16)
  /-- TONE_DETECTOR_END (R310): A tone detector ends after more than gap_cycles cycles not tone-on. -/
  | toneDetectorEnd (n : Fin 16)
  /-- MUTE_ON (R337): MUTE_SW rises and the AON gate cuts the microphones and empties the history. -/
  | muteOn
  /-- MUTE_OFF (R340): MUTE_SW has stayed low for 50 ms and the mute ends. -/
  | muteOff
  /-- MIC_MODE_CHANGE (R327): A microphone mode change takes effect at symbol 0 of the next cycle. -/
  | micModeChange
  /-- MIC_START_END (R328): start_cycles end and channels ramp in after power and clock start. -/
  | micStartEnd
  /-- MIC_BRIDGE_END (R329): settle_cycles end and real output replaces the bridge with a crossfade. -/
  | micBridgeEnd
  /-- STUCK_WINDOW (R342): A 4-cycle window ends and stuck channels are flagged. -/
  | stuckWindow (constant : BitVec 8)
  /-- PROBE_DECISION (R344): The wire probe ends and faults channels per Table 8-2. -/
  | probeDecision (w : Fin 4) (aFollows bFollows : Bool)
  /-- PROBE_RETRY (R346): retry_s seconds pass and a faulted wire is probed again. -/
  | probeRetry (w : Fin 4)
  /-- WAKE_EVENT (R349): The wake model's score reaches threshold and EV_WAKE is raised. -/
  | wakeEvent (start : Dword) (score : Byte)
  /-- HISTORY_FETCH_OVERRUN (R361): A host fetch's next sample has left the buffer and the fetch ends ST_ABORTED. -/
  | historyFetchOverrun (stream : Fin 32)
  /-- SQ_TAIL_DOORBELL (R379): A write of the SQ tail doorbell publishes descriptors. -/
  | sqTailDoorbell (c : Fin 16) (size : AccSize) (v : Word)
  /-- CQ_HEAD_DOORBELL (R381): A write of the CQ head doorbell frees completion entries. -/
  | cqHeadDoorbell (c : Fin 16) (size : AccSize) (v : Word)
  /-- EVENT_ACKNOWLEDGE (R400): A write with arm set re-arms the client's vector, firing at once if entries are pending. -/
  | eventAcknowledge (c : Fin 16) (size : AccSize) (v : Word)
  /-- RING_ENABLE (R378): HIF_Cn_RING_CTL.en changes from 0 to 1 and ring pointers and phase reset. -/
  | ringEnable (c : Fin 16)
  /-- RING_DISABLE (R410): HIF_Cn_RING_CTL.en is written 0 and the client is closed down. -/
  | ringDisable (c : Fin 16)
  /-- CLIENT_DRAINED (R410): A disabled client's in-flight count reaches 0 and enabled clears. -/
  | clientDrained (c : Fin 16)
  /-- DESCRIPTOR_FETCH (R385): The device starts fetching a descriptor or chain for a client with quota room. -/
  | descriptorFetch (c : Fin 16)
  /-- DESCRIPTOR_FETCH_COMPLETION (R383): A descriptor fetch completes and the descriptor is handed on or the fetch fails. -/
  | descriptorFetchCompletion (c : Fin 16) (r : FetchResult)
  /-- COMPLETION_WRITE (R380): A completion or event entry is written to a CQ with room. -/
  | completionWrite (c : Client)
  /-- VECTOR_FIRE (R398): The coalescing time of an armed vector expires and it fires. -/
  | vectorFire (c : Fin 16)
  /-- FUNCTION_LEVEL_RESET (R407): An FLR ends all host client state while leaving line and audio state. -/
  | functionLevelReset
  /-- PERST_N_ASSERT (R411): PERST_N is asserted, acting as an FLR and resetting the link. -/
  | perstNAssert
  /-- PERST_N_DEASSERT (R405): PERST_N is deasserted, releasing WAKE_N and req_wake_n. -/
  | perstNDeassert
  /-- LINK_DOWN (R411): The Data Link Layer reports the link down, treated as PERST_N. -/
  | linkDown
  /-- BUS_MASTER_ENABLE_CHANGE (R401): Bus Master Enable changes, stopping or resuming fetches and writes. -/
  | busMasterEnableChange (bme : Bool)
  /-- D_STATE_CHANGE (R402): The function enters or leaves D3hot. -/
  | dStateChange (d3hot : Bool)
  /-- LINK_POWER_STATE_CHANGE (R403): The link changes power state, changing the link limit on sleep depth. -/
  | linkPowerStateChange (l : LinkState)
  /-- SB_REGISTER_READ (R417): A standby Register read transaction returns BAR0 words. -/
  | sbRegisterRead (addr : Half) (words : Nat)
  /-- SB_REGISTER_WRITE (R642): A standby Register write writes BAR0 words as each is clocked. -/
  | sbRegisterWrite (addr : Half) (ws : List Word)
  /-- SB_MAILBOX_WRITE (R418): A standby Mailbox write submits one descriptor for SB. -/
  | sbMailboxWrite (bytes : List Byte)
  /-- SB_COMPLETION_READ (R419): A standby Completion read takes the entry from the completion slot. -/
  | sbCompletionRead (clocked : Nat)
  /-- SB_BUFFER_WRITE (R421): A standby Buffer write fills the 256-byte standby buffer. -/
  | sbBufferWrite (off : Byte) (data : List Byte)
  /-- SB_BUFFER_READ (R421): A standby Buffer read returns standby buffer bytes. -/
  | sbBufferRead (off : Byte) (n : Nat)
  /-- SBY_HOST_WAKE_ACTIVE (R422): Writing 1 to SBY_HOST_WAKE.active deasserts HOST_WAKE. -/
  | sbyHostWakeActive
  /-- SBY_HOST_WAKE_TEST (R422): Writing 1 to SBY_HOST_WAKE.test asserts HOST_WAKE. -/
  | sbyHostWakeTest
  /-- SBY_REQ_WAKE_N (R406): Writing 1 to req_wake_n requests a host wake through WAKE_N or PME. -/
  | sbyReqWakeN
  /-- NOP (R432): NOP completes ST_OK at start. -/
  | nop (c : Client)
  /-- FENCE (R390): FENCE completes once every earlier descriptor of its client has completed. -/
  | fence (c : Client)
  /-- LISTEN_SET (R436): LISTEN_SET changes the listen set and group gains at the next symbol 0. -/
  | listenSet (c : Client)
  /-- TALK_OPEN (R439): TALK_OPEN opens a talk session and requests a lease. -/
  | talkOpen (c : Client)
  /-- TALK_CLOSE (R442): TALK_CLOSE withdraws the request or releases the session's lease. -/
  | talkClose (c : Client)
  /-- PRECEDENCE_SET (R437): PRECEDENCE_SET sets group floors or a session's raised flag. -/
  | precedenceSet (c : Client)
  /-- ROOM_SET (R438): ROOM_SET writes MIX_ROOM and triggers NODE_STATUS. -/
  | roomSet (c : Client)
  /-- STREAM_OPEN (R443): STREAM_OPEN opens a capture, inject or program-reference stream. -/
  | streamOpen (c : Client)
  /-- STREAM_BUF (R444): STREAM_BUF queues a buffer on an open stream. -/
  | streamBuf (c : Client) (buf : List Byte)
  /-- STREAM_CLOSE (R447): STREAM_CLOSE stops the stream and completes its queued buffers. -/
  | streamClose (c : Client)
  /-- CALL_SEND (R449): CALL_SEND places a call and sends CALL after the first lease answer. -/
  | callSend (c : Client)
  /-- CALL_ANSWER (R450): CALL_ANSWER answers, declines or ends a call record. -/
  | callAnswer (c : Client)
  /-- EVENT_SUBSCRIBE (R451): EVENT_SUBSCRIBE sets the client's event mask. -/
  | eventSubscribe (c : Client)
  /-- LEDGER_SEND (R452): LEDGER_SEND sends one MONITOR or GROUP_PUSH message on the line. -/
  | ledgerSend (c : Client) (buf : List Byte)
  /-- LEDGER_SEND_WITHDRAW (R452): A LEDGER_SEND not sent within 256 cycles is withdrawn with ST_TIMEOUT. -/
  | ledgerSendWithdraw (c : Client)
  /-- TAG_READ (R453): TAG_READ reads tag bytes in one wired transaction. -/
  | tagRead (c : Client)
  /-- TAG_WRITE (R476): TAG_WRITE writes tag bytes row by row. -/
  | tagWrite (c : Client) (buf : List Byte)
  /-- TAG_LIFE_POST (R454): TAG_LIFE_POST appends or defers a host-kind life record. -/
  | tagLifePost (c : Client)
  /-- CHECK_JOB (R455): CHECK_JOB runs a Tollgate check over a buffer. -/
  | checkJob (c : Client) (buf : List Byte)
  /-- POWER_VOTE (R456): POWER_VOTE records the client's deepest allowed state. -/
  | powerVote (c : Client)
  /-- PERF_REQUEST (R533): PERF_REQUEST records a performance level request. -/
  | perfRequest (c : Client)
  /-- HISTORY_FETCH (R457): HISTORY_FETCH starts a history fetch into a tap-6 stream. -/
  | historyFetch (c : Client)
  /-- CONFIG_STAGE (R458): CONFIG_STAGE adds entries to or discards the staging set. -/
  | configStage (c : Client) (buf : List Byte)
  /-- CONFIG_APPLY (R459): CONFIG_APPLY applies the staged set from its apply cycle. -/
  | configApply (c : Client)
  /-- CONFIG_GROUP_APPLY (R579): A staged group reaches its application cycle and takes its entries whole. -/
  | configGroupApply (g : CfgGroup)
  /-- MONITOR_CMD (R460): MONITOR_CMD passes an Etush packet to the shell and writes its reply. -/
  | monitorCmd (c : Client) (buf : List Byte)
  /-- DIAG (R461): DIAG copies the buffer back or writes a block register snapshot. -/
  | diag (c : Client) (buf : List Byte)
  /-- CARTRIDGE_PRESENT (R470): CART_DET has stayed low for 50 ms and the cartridge is present. -/
  | cartridgePresent (image : List (Nat × Byte))
  /-- CARTRIDGE_ABSENT (R470): CART_DET has stayed high for 50 ms and the cartridge is absent. -/
  | cartridgeAbsent
  /-- LINE_OK_RISE (R486): P57 line_ok rises after at least 1 s low with a cartridge present, counting an insertion. -/
  | lineOkRise
  /-- TAG_TRANSACTION_RETRY (R493): A 5 ms retry of an unacknowledged wired tag transaction falls due. -/
  | tagTransactionRetry
  /-- TAG_BUDGET_EXPIRY (R493): The 400 ms wired retry budget is spent; host commands fail and life events defer. -/
  | tagBudgetExpiry
  /-- DEFERRED_RETRY (R496): The 50 ms retry of the deferred event queue falls due. -/
  | deferredRetry
  /-- TAG_ARBITRATION_LOSS (R501): The L64 loses I2C arbitration, records it and retries after the bus frees. -/
  | tagArbitrationLoss (byte : Byte) (bit : Fin 8)
  /-- TAG_WIRED_READ (R472): The tag serves a wired read from any address, wrapping. -/
  | tagWiredRead (addr : BitVec 11) (n : Nat)
  /-- TAG_WIRED_WRITE (R473): The tag stores a wired row write at STOP within 4 ms. -/
  | tagWiredWrite (addr : BitVec 11) (data : List Byte)
  /-- TAG_APPEND (R474): The tag stores a 16-byte append into slot next_record mod 32 and increments next_record. -/
  | tagAppend (data : List Byte)
  /-- CONTACTLESS_READ (R495): The tag answers an NFC READ with 16 bytes. -/
  | contactlessRead (page : Byte)
  /-- CONTACTLESS_WRITE (R495): The tag stores an NFC WRITE to a service page or answers NAK. -/
  | contactlessWrite (page : Byte) (data : List Byte)
  /-- TAG_LOCK_RELEASE (R490): The tag releases the lock 2 ms after a wired STOP or 50 ms after the last contactless command. -/
  | tagLockRelease
  /-- CONTACTLESS_SESSION_LIMIT (R492): A contactless session reaches 2 s and the tag releases the lock. -/
  | contactlessSessionLimit
  /-- TOLL_START (R512): A TOLLn_CMD write with start claims the unit and loads the initial value. -/
  | tollStart (p : Path) (n : Fin 4) (mode : BitVec 2)
  /-- TOLL_FINISH (R512): A TOLLn_CMD write with finish forms the value and releases the unit. -/
  | tollFinish (p : Path) (n : Fin 4)
  /-- TOLL_ABORT (R512): A TOLLn_CMD write with abort releases the unit and discards its state. -/
  | tollAbort (p : Path) (n : Fin 4)
  /-- TOLL_DATA8 (R512): A TOLLn_DATA8 write feeds one byte to the unit. -/
  | tollData8 (p : Path) (n : Fin 4) (v : Byte)
  /-- TOLL_DATA16 (R512): A TOLLn_DATA16 write feeds two bytes to the unit. -/
  | tollData16 (p : Path) (n : Fin 4) (v : Half)
  /-- TOLL_DATA32 (R512): A TOLLn_DATA32 write feeds four bytes to the unit. -/
  | tollData32 (p : Path) (n : Fin 4) (v : Word)
  /-- S1_ENTRY (R536): With depth allowing it and no work, the node enters S1. -/
  | s1Entry
  /-- S1_EXIT (R536): An interrupt, doorbell, slot or compare event takes the node out of S1. -/
  | s1Exit
  /-- SLEEP_HOLD_EXPIRY (R537): The allowed depth has held for hold_cycles and entry into S2 or deeper starts. -/
  | sleepHoldExpiry
  /-- SLEEP_ENTRY_ABORT (R539): NODE_STATUS was not sent within 64 cycles and the entry is aborted. -/
  | sleepEntryAbort
  /-- WAKE_SOURCE (R552): A wake source fires, setting PWR_WAKE_CAUSE and returning the node to S0. -/
  | wakeSource (bits : BitVec 13)
  /-- WATCH_CYCLE (R541): A Watch cycle powers the PHY for the beacon and bell field. -/
  | watchCycle
  /-- RTC_TICK (R553): The RTC counts one second. -/
  | rtcTick
  /-- RTC_ALARM (R553): PWR_RTC equals PWR_RTC_ALARM and the alarm fires and clears. -/
  | rtcAlarm
  /-- PERF_LEVEL_CHANGE_DONE (R531): A performance level change completes. -/
  | perfLevelChangeDone
  /-- REFUSAL_REPORT (R551): report_ms after a refused vote EV_POWER_REFUSED is raised. -/
  | refusalReport
  /-- WATCHDOG_EXPIRY (R585): The watchdog expires, causing a warm restart or, a second time, a full reset. -/
  | watchdogExpiry
  /-- FULL_RESET (R563): Power-on reset or RESET_N low resets the node fully. -/
  | fullReset (powerOn : Bool)
  /-- VIN33_LOSS (R675): VIN33 below 2.8 V for 10 µs makes a full reset. -/
  | vin33Loss
  /-- BOOT_STEP_DONE (R564): A boot step of Table 14-1 ends and the next starts. -/
  | bootStepDone
  /-- SETUP_LOCK (R576): A write of 1 to GLB_SETUP.lock sets the setup lock. -/
  | setupLock (p : Path)
  /-- WARM_RESTART_REQUEST (R584): A write of CFG_CTL.warm_restart before lock starts a CC warm restart. -/
  | warmRestartRequest
  /-- WARM_RESTART_END (R584): The warm restart completes; control commands complete ST_PEER_RESET and fetching resumes. -/
  | warmRestartEnd
  /-- WARM_RESTART_OVERRUN (R584): A warm restart not ended within 500 ms causes a full reset. -/
  | warmRestartOverrun
  /-- ELEMENT_INTERNAL_FAULT (R613): An element's internal fault resets it, or halts it with cause 3 when halt_on_fault is set. -/
  | elementInternalFault (e : Elem)
  /-- UART_PACKET (R597): A monitor packet is received whole on the UART and checked. -/
  | uartPacket (bytes : List Byte)
  /-- UART_BYTE_GAP (R597): A gap of more than 10 ms within a UART packet discards it. -/
  | uartByteGap
  /-- MONITOR_SESSION_IDLE (R601): A monitor session ends after idle_s seconds without a packet. -/
  | monitorSessionIdle (t : Transport)
  /-- MONITOR_FRAGMENT_TIMEOUT (R599): A partly received line packet is discarded after 256 cycles without a fragment. -/
  | monitorFragmentTimeout (addr : Fin 128) (session : Byte)
  /-- PING (R603): Monitor PING returns UID, ROM revision and status bits. -/
  | ping (r : MonReq)
  /-- STATUS (R603): Monitor STATUS returns halt status, power state and LPC position. -/
  | status (r : MonReq)
  /-- CLOSE (R601): Monitor CLOSE ends the session. -/
  | close (r : MonReq)
  /-- REPLY_FETCH (R600): Monitor REPLY_FETCH returns a stored line reply. -/
  | replyFetch (r : MonReq)
  /-- REG_READ (R608): Monitor REG_READ reads BAR0 words, clearing RC fields unless no_clear. -/
  | regRead (r : MonReq)
  /-- REG_WRITE (R608): Monitor REG_WRITE writes BAR0 words with RWL as RW. -/
  | regWrite (r : MonReq)
  /-- HALT (R614): Monitor HALT halts named elements and cross-triggers the mask. -/
  | halt (r : MonReq)
  /-- RESUME (R615): Monitor RESUME restarts named halted elements. -/
  | resume (r : MonReq)
  /-- STEP (R626): Monitor STEP runs an element for a count of instructions. -/
  | step (r : MonReq)
  /-- STEP_DONE (R613): A STEP completes and the element halts with cause 5. -/
  | stepDone (e : Elem)
  /-- ELEM_READ (R18): Monitor ELEM_READ returns a halted element's visible state. -/
  | elemRead (r : MonReq)
  /-- ELEM_WRITE (R610): Monitor ELEM_WRITE writes a general register and sets tampered. -/
  | elemWrite (r : MonReq)
  /-- MEM_READ (R609): Monitor MEM_READ reads bytes of a bank whose owner is halted. -/
  | memRead (r : MonReq)
  /-- MEM_WRITE (R610): Monitor MEM_WRITE writes bank bytes and sets tampered. -/
  | memWrite (r : MonReq)
  /-- OTP_READ (R604): Monitor OTP_READ returns OTP bytes. -/
  | otpRead (r : MonReq)
  /-- TRACE_READ (R625): Monitor TRACE_READ returns trace packets without removing them. -/
  | traceRead (r : MonReq)
  /-- STIM_WRITE (R621): Monitor STIM_WRITE writes an installer mark to a stimulus port. -/
  | stimWrite (r : MonReq)
  /-- FLASH_READ (R611): Monitor FLASH_READ reads QSPI flash bytes. -/
  | flashRead (r : MonReq)
  /-- FLASH_ERASE (R611): Monitor FLASH_ERASE erases 4 KB flash sectors. -/
  | flashErase (r : MonReq)
  /-- FLASH_WRITE (R611): Monitor FLASH_WRITE programs bytes within one flash page. -/
  | flashWrite (r : MonReq)
  /-- RESET (R612): Monitor RESET makes a full reset, a warm restart or an element reset. -/
  | reset (r : MonReq)
  /-- EXTERNAL_TRIGGER (R613): A rising edge on the trigger input halts the mask with cause 4. -/
  | externalTrigger (gpio : Fin 8)
  /-- TRACE_DATA (R623): Sink 2 drains trace packets to MON_TX in a TRACE_DATA packet. -/
  | traceData
  /-- TRACE_ENABLE (R624): A write of 1 to DBG_TRACE_CTL.en empties the buffer and restarts the sink. -/
  | traceEnable (p : Path)
  /-- WAKE_HIST_OLDEST_LO_READ (R354): A read of WAKE_HIST_OLDEST_LO latches index_hi. -/
  | wakeHistOldestLoRead
  /-- WAKE_LAST_START_LO_READ (R350): A read of WAKE_LAST_START_LO latches start_hi. -/
  | wakeLastStartLoRead
  /-- TAG_SERIAL_LO_READ (R487): A read of TAG_SERIAL_LO latches serial_hi. -/
  | tagSerialLoRead
  /-- REGISTER_WRITE (R11): A write to a register with no row of its own acts by its access codes. -/
  | registerWrite (off : Half) (size : AccSize) (v : Dword)
  /-- INRUSH_END (R199): The P57 input current falls below 50 mA, inrush ends and the buck soft-starts, after which VSYS5 rises and PG goes high. -/
  | inrushEnd
  /-- P57_THERMAL (R217): The P57 die temperature passes 125 °C, setting the thermal cause and halving the current limit. -/
  | p57Thermal
  /-- ASRC_LOCK_LOSS (R264): HA_FS from the host stops being steady in slave mode and asrc_locked clears, so TDM outputs send 0 and inputs read 0. -/
  | asrcLockLoss
  /-- RTC_CRYSTAL_LOSS (R676): The 32.768 kHz crystal stops, the RTC holds its value and the alarm cannot fire. -/
  | rtcCrystalLoss
  /-- RESET_RELEASE (R564): RESET_N is released with VDD_AON in range, the node leaves full reset and the boot of Table 14-1 starts. -/
  | resetRelease
  /-- READ_CLEAR_READ (R11): A completed BAR0 read of a register with RC fields returns them and clears them, with effects such as stopping the missed-call LED pattern. -/
  | readClearRead (off : Half) (size : AccSize)
  /-- BUFFER_TRANSFER_COMPLETION (R414): A host buffer read or write for a command or stream completes or fails, letting the command finish or completing it ST_ABORTED or faulting the client. -/
  | bufferTransferCompletion (c : Client) (id : Half) (ok : Bool) (moved : Nat)
  /-- HOST_WRITE_REFUSED (R413): The host refuses a completion entry write, reported through AER, and the client faults with cause 3. -/
  | hostWriteRefused (c : Fin 16)
  deriving DecidableEq, Repr

end Sys2Proof
end

