-- ==== Sys2Proof/Decode.lean ====
section
/-! DEFINITION. The command a word spells by the table's bits. No row of the command table has bits: the commands are events, not
encodings, so no word spells one. -/

namespace Sys2Proof

/-- The command that the word `w` of `nbits` bits spells: none (spec/opcode_table.json gives no row any bits). -/
def decodeTableWord (nbits w : Nat) : Option Instr :=
  let rows : List (Nat × Nat × Instr) := []
  (rows.find? (fun r => decide (r.1 = nbits) && decide (r.2.1 = w))).map (fun r => r.2.2)

end Sys2Proof
end

