-- ==== Sys2Proof/Machine/Bytes.lean ====
section
/-! DEFINITION. Byte strings: the little-endian fields of registers, descriptors, the manifest and the tag (R8) and the
big-endian fields of the line (R57). -/

namespace Sys2Proof.Machine

/-- The number a byte string spells, the byte at the lowest place being bits [7:0] (R8). -/
def leNat : List Byte → Nat
  | [] => 0
  | b :: bs => b.toNat + 256 * leNat bs

/-- The number a byte string spells in line order, most significant byte first (R57). -/
def beNat (bs : List Byte) : Nat := leNat bs.reverse

/-- The `n` little-endian bytes of `v` (R8). -/
def toLe : Nat → Nat → List Byte
  | 0, _ => []
  | n + 1, v => BitVec.ofNat 8 v :: toLe n (v / 256)

/-- The `n` bytes of `v` in line order (R57). -/
def toBe (n v : Nat) : List Byte := (toLe n v).reverse

/-- `n` bytes from place `o` on. -/
def bytesAt (l : List Byte) (o n : Nat) : List Byte := (l.drop o).take n

/-- The byte at place `o`. -/
def byteAt (l : List Byte) (o : Nat) : Nat := (l.getD o 0).toNat

/-- The little-endian number in `n` bytes from place `o` on. -/
def leAt (l : List Byte) (o n : Nat) : Nat := leNat (bytesAt l o n)

/-- The line-order number in `n` bytes from place `o` on. -/
def beAt (l : List Byte) (o n : Nat) : Nat := beNat (bytesAt l o n)

/-- Bits [lsb + w − 1 : lsb] of `v`. -/
def bitsOf (v lsb w : Nat) : Nat := v / 2 ^ lsb % 2 ^ w

/-- Bit `i` of `v`. -/
def bitOf (v i : Nat) : Bool := decide (v / 2 ^ i % 2 = 1)

/-- One for true, zero for false. -/
def bit (b : Bool) : Nat := if b then 1 else 0

/-- All bytes of a list are zero. -/
def allZero (l : List Byte) : Bool := l.all (fun b => decide (b = 0))

/-- Replace the bytes from place `o` on by `new`, as far as `l` reaches. -/
def overwrite (l : List Byte) (o : Nat) (new : List Byte) : List Byte :=
  (l.take o ++ new ++ l.drop (o + new.length)).take l.length

end Sys2Proof.Machine
end

