-- ==== Sys2Proof/Machine/Crc.lean ====
section
/-! DEFINITION. The check computation of Listing 12-1, and the dedicated checks of the line, the tag, the manifest and the monitor as
settings of it (Table 12-3). -/

namespace Sys2Proof.Machine

/-- The parameters of a check (R508). -/
structure CheckParams where
  width : Nat
  poly : Nat
  init : Nat
  xorout : Nat
  refin : Bool
  refout : Bool
  deriving DecidableEq, Repr

/-- The low `w` bits of `v` in reverse order. -/
def reflectBits : Nat → Nat → Nat
  | 0, _ => 0
  | w + 1, v => v % 2 * 2 ^ w + reflectBits w (v / 2)

/-- One bit of Listing 12-1: `d` is the data bit. -/
def crcBit (p : CheckParams) (reg : Nat) (d : Bool) : Nat :=
  let shifted := reg * 2 % 2 ^ p.width
  if xor d (bitOf reg (p.width - 1)) then Nat.xor shifted (p.poly % 2 ^ p.width) else shifted

/-- The bits of a byte as the listing takes them: bit 7 first, after the input reflection. -/
def crcBits (p : CheckParams) (b : Byte) : List Bool :=
  let v := if p.refin then reflectBits 8 b.toNat else b.toNat
  [bitOf v 7, bitOf v 6, bitOf v 5, bitOf v 4, bitOf v 3, bitOf v 2, bitOf v 1, bitOf v 0]

/-- feed_byte of Listing 12-1. -/
def crcByte (p : CheckParams) (reg : Nat) (b : Byte) : Nat := (crcBits p b).foldl (crcBit p) reg

/-- Feed bytes, first byte first. -/
def crcFeed (p : CheckParams) (reg : Nat) (bs : List Byte) : Nat := bs.foldl (crcByte p) reg

/-- The register at start (Listing 12-1). -/
def crcStart (p : CheckParams) : Nat := p.init % 2 ^ p.width

/-- value() of Listing 12-1. -/
def crcValue (p : CheckParams) (reg : Nat) : Nat :=
  Nat.xor (if p.refout then reflectBits p.width reg else reg) p.xorout % 2 ^ p.width

/-- The check value over a byte string. -/
def crcOf (p : CheckParams) (bs : List Byte) : Nat := crcValue p (crcFeed p (crcStart p) bs)

/-- Standard CRC-32 (Table 12-4). -/
def crc32 : CheckParams := { width := 32, poly := 0x04C11DB7, init := 0xFFFFFFFF, xorout := 0xFFFFFFFF, refin := true, refout := true }

/-- The slot CRC's parameters, CRC-16/CCITT-FALSE (R78). -/
def crc16 : CheckParams := { width := 16, poly := 0x1021, init := 0xFFFF, xorout := 0, refin := false, refout := false }

/-- Beacon CRC: bytes 0 to 27, no fold (R66). -/
def beaconCrc (body : List Byte) : Nat := crcOf crc32 (body.take 28)

/-- Ledger CRC: fold of the cycle, header, payload (R74). -/
def ledgerCrc (cycle : Word) (header payload : List Byte) : Nat := crcOf crc32 (toBe 4 cycle.toNat ++ header ++ payload)

/-- Slot CRC: fold of cycle[15:0] and the slot index, header, payload (R78). -/
def slotCrc (cycle : Word) (k : Nat) (header : Word) (payload : List Byte) : Nat :=
  crcOf crc16 (toBe 2 cycle.toNat ++ toBe 1 k ++ toBe 4 header.toNat ++ payload)

/-- Join CRC: fold of cycle[15:0] and 0xC0, bytes 0 to 7 (Table 2-11). -/
def joinCrc (cycle : Word) (body : List Byte) : Nat := crcOf crc16 (toBe 2 cycle.toNat ++ toBe 1 0xC0 ++ body.take 8)

end Sys2Proof.Machine
end

