-- ==== Sys2Proof/Config.lean ====
section
/-! DEFINITION. The free values: what the manual says exists but gives no value for. Each is an opaque constant
without a body, so that no proof can see a value of it; the step applies it to the plain counter `State.free` or to the operands it
depends on (notes/assumptions/4.md). -/

namespace Sys2Proof.Config

/-- The coefficients an equalizer entry takes from a training block or an adaptation (R83, R85): no arithmetic is given. -/
opaque eqCoeff : Nat → Nat
/-- A byte of an SRAM bank whose contents were lost (R546). -/
opaque lostByte : Nat → Byte
/-- A general register, program counter or status word of an element as its firmware left it when it halted (R18, R613). -/
opaque elemWord : Nat → Word
/-- The carry-on mix of one output sample: sums of samples with dB weights, whose rounding is not given (R236, R246). -/
opaque mixSample : Nat → Half
/-- A byte of the samples a capture buffer or a talk slot carries: the filters and the mix that form them have no given arithmetic
(R38, R246, R281). -/
opaque audioByte : Nat → Byte
/-- Pages 0 to 2 of the tag's contactless side: its UID and lock bytes, which the manual leaves to the Type 2 specification (Table 11-7). -/
opaque nfcByte : Nat → Byte
/-- The comfort-noise level a format-0 slot carries (Table 2-10, R289). -/
opaque comfortLevel : Nat → Half
/-- The ledger record number EV_TAG_LIFE gives for a threshold that life remaining had reached before the insertion (R488). -/
opaque reachedRecord : Nat → Word
/-- The bytes of the standby buffer while a descriptor of SB is in flight (R421). -/
opaque sbBufByte : Nat → Byte
/-- The rate at which the PCIe link trains, as HIF_LINK_STATUS.speed codes it (R370, Table 9-13). -/
opaque linkSpeed : Nat → Nat
/-- The number a completion status has in byte 2 of an entry, by its place in Table 10-3, which gives none. -/
opaque statusCode : Nat → Byte
/-- The bytes a Completion read returns while the completion slot holds no entry (R419). -/
opaque emptySlot : Nat → Byte
/-- What a flash byte that was not erased holds after it is programmed again (R611). -/
opaque programmedByte : Nat → Byte
/-- How many instructions a STEP had run when a cross-trigger stopped it (R626). -/
opaque steppedCount : Nat → Nat

/-- The measured difference of the local and the master's frequency, as PLT_CLK_ERR codes it (Table 1-15). -/
opaque freqErr : Nat → Nat

/-- The random number of a backoff drawn when a segment turned out to be full (Listing 3-1, R116). -/
opaque backoffDraw : Nat → Nat

end Sys2Proof.Config
end

