-- ==== Sys2Proof/Machine/Cells.lean ====
section
/-! DEFINITION. A store of like cells by number, in one canonical form: numbers strictly rising, and no entry equal to
what an unlisted number reads as. Registers, the tag's bytes, the SRAM banks, the flash and the standby buffer are all kept this way. -/

namespace Sys2Proof.Machine

/-- Cells by number. -/
abbrev Cells (α : Type) := List (Nat × α)

/-- What cell `k` holds: its entry, or `d k` when it has none. -/
def Cells.get {α : Type} (d : Nat → α) : Cells α → Nat → α
  | [], k => d k
  | (i, v) :: rest, k => if i = k then v else Cells.get d rest k

/-- Put `v` into cell `k`, keeping the order of numbers. -/
def Cells.insert {α : Type} (k : Nat) (v : α) : Cells α → Cells α
  | [] => [(k, v)]
  | (i, w) :: rest =>
    if k < i then (k, v) :: (i, w) :: rest
    else if k = i then (k, v) :: rest
    else (i, w) :: Cells.insert k v rest

/-- Take the entry of cell `k` away. -/
def Cells.erase {α : Type} (k : Nat) : Cells α → Cells α
  | [] => []
  | (i, w) :: rest => if i = k then Cells.erase k rest else (i, w) :: Cells.erase k rest

/-- Write `v` to cell `k`: an entry equal to what the unlisted cell reads as is removed. -/
def Cells.set {α : Type} [DecidableEq α] (d : Nat → α) (m : Cells α) (k : Nat) (v : α) : Cells α :=
  if v = d k then Cells.erase k m else Cells.insert k v m

/-- Write a run of values from cell `k` upward. -/
def Cells.setList {α : Type} [DecidableEq α] (d : Nat → α) (m : Cells α) (k : Nat) : List α → Cells α
  | [] => m
  | v :: vs => Cells.setList d (Cells.set d m k v) (k + 1) vs

/-- Read `n` cells from cell `k` upward. -/
def Cells.getList {α : Type} (d : Nat → α) (m : Cells α) (k : Nat) : Nat → List α
  | 0 => []
  | n + 1 => Cells.get d m k :: Cells.getList d m (k + 1) n

/-- The canonical form: numbers strictly rising, no entry that the unlisted cell would read as. -/
def Cells.wf {α : Type} [DecidableEq α] (d : Nat → α) : Cells α → Bool
  | [] => true
  | [(i, v)] => decide (v ≠ d i)
  | (i, v) :: (j, w) :: rest => decide (v ≠ d i) && decide (i < j) && Cells.wf d ((j, w) :: rest)

end Sys2Proof.Machine
end

