-- ==== Sys2Proof/Machine/RegTable.lean ====
section
/-! DEFINITION. The register map: every BAR0 register the manual lays down, as rows of its register tables
(bits, access code, reset value), and the named fields that the other files read and write. -/

namespace Sys2Proof.Machine

/-- Access codes (Table 0-5). -/
inductive Access where
  | rw | ro | wo | w1c | w1s | rc | rwl
  deriving DecidableEq, Repr

/-- A field of a register: where its register lies in BAR0 and which bits it takes. -/
structure Field where
  off : Nat
  lsb : Nat
  width : Nat
  deriving DecidableEq, Repr

/-- One row of a register table. -/
structure FieldRow where
  name : String
  lsb : Nat
  width : Nat
  access : Access
  reset : Nat
  /-- The field exists on the L64B only (R2). -/
  l64b : Bool
  deriving DecidableEq, Repr

/-- A register, or `count` registers of one layout `stride` bytes apart. -/
structure RegRow where
  name : String
  base : Nat
  stride : Nat
  count : Nat
  fields : List FieldRow
  deriving DecidableEq, Repr

/-- The registers of the GLB block, base 0x0000 (Table 16-3). -/
def rowsGLB : List RegRow := [
  -- Table 16-4
  ⟨"GLB_ID", 0x0000, 0x4, 1, [
    ⟨"vendor", 0, 16, .ro, 7996, false⟩,
    ⟨"part", 16, 8, .ro, 100, false⟩,
    ⟨"variant", 24, 8, .ro, 0, false⟩]⟩,
  -- Table 16-4
  ⟨"GLB_REV", 0x0004, 0x4, 1, [
    ⟨"silicon", 0, 8, .ro, 0, false⟩,
    ⟨"rom", 8, 16, .ro, 0, false⟩]⟩,
  -- Table 16-4
  ⟨"GLB_UID_LO", 0x0008, 0x4, 1, [
    ⟨"uid_lo", 0, 32, .ro, 0, false⟩]⟩,
  -- Table 16-4
  ⟨"GLB_UID_HI", 0x000C, 0x4, 1, [
    ⟨"uid_hi", 0, 16, .ro, 0, false⟩]⟩,
  -- Table 16-4
  ⟨"GLB_CAPS", 0x0010, 0x4, 1, [
    ⟨"port_b", 0, 1, .ro, 0, false⟩,
    ⟨"stack", 1, 1, .ro, 0, false⟩,
    ⟨"waystation", 2, 1, .ro, 0, false⟩,
    ⟨"toll_units", 4, 4, .ro, 4, false⟩,
    ⟨"max_in_flight", 8, 8, .ro, 128, false⟩,
    ⟨"talk_sessions", 16, 4, .ro, 8, false⟩,
    ⟨"streams", 20, 6, .ro, 32, false⟩,
    ⟨"mic_channels", 26, 4, .ro, 8, false⟩]⟩,
  -- Table 16-5
  ⟨"GLB_SETUP", 0x0020, 0x4, 1, [
    ⟨"lock", 0, 1, .w1s, 0, false⟩]⟩,
  -- Table 16-5
  ⟨"GLB_STATUS", 0x0024, 0x4, 1, [
    ⟨"manifest_defaulted", 0, 1, .ro, 0, false⟩,
    ⟨"patch_rejected", 1, 1, .ro, 0, false⟩,
    ⟨"epoch_mixed", 2, 1, .ro, 0, false⟩,
    ⟨"patch_running", 3, 1, .ro, 0, false⟩,
    ⟨"tampered", 4, 1, .ro, 0, false⟩,
    ⟨"locked", 5, 1, .ro, 0, false⟩]⟩,
  -- Table 16-5
  ⟨"GLB_ATTN", 0x0030, 0x4, 1, [
    ⟨"blocks", 0, 16, .ro, 0, false⟩]⟩,
  -- Table 16-5
  ⟨"GLB_BLOCK_RESET", 0x0034, 0x4, 1, [
    ⟨"gen_changed", 0, 8, .w1c, 0, false⟩,
    ⟨"p57", 8, 1, .w1c, 0, false⟩,
    ⟨"stack", 9, 1, .w1c, 0, false⟩]⟩,
  -- Table 16-5
  ⟨"GLB_ACCESS_ERR", 0x0040, 0x4, 1, [
    ⟨"bad_size", 0, 8, .rc, 0, false⟩,
    ⟨"locked_writes", 8, 8, .rc, 0, false⟩,
    ⟨"reserved_writes", 16, 8, .rc, 0, false⟩]⟩,
  -- Table 16-5
  ⟨"GLB_SCRATCH", 0x0044, 0x4, 1, [
    ⟨"value", 0, 32, .rw, 0, false⟩]⟩]

/-- The registers of the PWR block, base 0x0800 (Table 16-3). -/
def rowsPWR : List RegRow := [
  -- Table 5-12
  ⟨"PWR_INTAKE_CTL", 0x0A00, 0x4, 1, [
    ⟨"bo_report_ms", 0, 16, .rwl, 1000, false⟩]⟩,
  -- Table 5-13
  ⟨"PWR_INTAKE_STATUS", 0x0A04, 0x4, 1, [
    ⟨"pg", 0, 1, .ro, 0, false⟩,
    ⟨"telem_stale", 1, 1, .ro, 1, false⟩,
    ⟨"p57_gen", 8, 8, .ro, 0, false⟩,
    ⟨"bus_err", 16, 8, .rc, 0, false⟩,
    ⟨"surge_no_cart", 24, 8, .rc, 0, false⟩]⟩,
  -- Table 5-14
  ⟨"PWR_SHED_STATUS", 0x0A08, 0x4, 1, [
    ⟨"step", 0, 3, .ro, 0, false⟩,
    ⟨"emerg_capped", 3, 1, .ro, 0, false⟩,
    ⟨"warnings", 16, 16, .rc, 0, false⟩]⟩,
  -- Table 5-15
  ⟨"PWR_INTAKE_TELEM0", 0x0A0C, 0x4, 1, [
    ⟨"vin", 0, 16, .ro, 0, false⟩,
    ⟨"iin", 16, 16, .ro, 0, false⟩]⟩,
  -- Table 5-15
  ⟨"PWR_INTAKE_TELEM1", 0x0A10, 0x4, 1, [
    ⟨"pin", 0, 16, .ro, 0, false⟩,
    ⟨"vsys", 16, 16, .ro, 0, false⟩]⟩,
  -- Table 13-10
  ⟨"PWR_CTL", 0x0800, 0x4, 1, [
    ⟨"max_depth", 0, 3, .rwl, 5, false⟩,
    ⟨"hold_cycles", 8, 8, .rwl, 4, false⟩,
    ⟨"rtc_from_line", 16, 1, .rwl, 1, false⟩]⟩,
  -- Table 13-10
  ⟨"PWR_STATE", 0x0804, 0x4, 1, [
    ⟨"state", 0, 3, .ro, 0, false⟩,
    ⟨"allowed", 4, 3, .ro, 0, false⟩,
    ⟨"pl", 8, 2, .ro, 0, false⟩,
    ⟨"link_limit", 12, 1, .ro, 0, false⟩,
    ⟨"entering", 13, 1, .ro, 0, false⟩]⟩,
  -- Table 13-10
  ⟨"PWR_VOTE", 0x0810, 0x4, 4, [
    ⟨"vote", 0, 32, .ro, 0, false⟩]⟩,
  -- Table 13-10
  ⟨"PWR_REFUSERS", 0x0820, 0x4, 1, [
    ⟨"clients", 0, 26, .ro, 0, false⟩]⟩,
  -- Table 13-10
  ⟨"PWR_REFUSE_CTL", 0x0824, 0x4, 1, [
    ⟨"report_ms", 0, 16, .rwl, 100, false⟩]⟩,
  -- Table 13-10
  ⟨"PWR_REFUSE_CNT", 0x0830, 0x4, 7, [
    ⟨"count", 0, 32, .rc, 0, false⟩]⟩,
  -- Table 13-10
  ⟨"PWR_RET_CTL", 0x0850, 0x4, 1, [
    ⟨"keep_s23", 0, 12, .rwl, 4095, false⟩,
    ⟨"keep_s4", 16, 12, .rwl, 2055, false⟩]⟩,
  -- Table 13-10
  ⟨"PWR_WAKE_EN", 0x0860, 0x4, 1, [
    ⟨"rtc", 2, 1, .rwl, 1, false⟩,
    ⟨"talk_key", 5, 1, .rwl, 1, false⟩,
    ⟨"gpio", 6, 1, .rwl, 0, false⟩,
    ⟨"mute", 7, 1, .rwl, 0, false⟩,
    ⟨"cart_det", 9, 1, .rwl, 1, false⟩,
    ⟨"monitor", 11, 1, .rwl, 1, false⟩]⟩,
  -- Table 13-10
  ⟨"PWR_WAKE_CAUSE", 0x0864, 0x4, 1, [
    ⟨"cause", 0, 13, .w1c, 0, false⟩]⟩,
  -- Table 13-10
  ⟨"PWR_GPIO_WAKE", 0x0868, 0x4, 1, [
    ⟨"mask", 0, 8, .rwl, 0, false⟩,
    ⟨"level", 8, 8, .rwl, 0, false⟩]⟩,
  -- Table 13-10
  ⟨"PWR_RTC", 0x0870, 0x4, 1, [
    ⟨"seconds", 0, 32, .rw, 0, false⟩]⟩,
  -- Table 13-10
  ⟨"PWR_RTC_ALARM", 0x0874, 0x4, 1, [
    ⟨"seconds", 0, 32, .rw, 0, false⟩]⟩,
  -- Table 13-10
  ⟨"PWR_PERF", 0x0880, 0x4, 1, [
    ⟨"in_force", 0, 2, .ro, 0, false⟩,
    ⟨"cc_req", 2, 2, .ro, 0, false⟩,
    ⟨"ae0_req", 4, 2, .ro, 0, false⟩,
    ⟨"ae1_req", 6, 2, .ro, 0, false⟩,
    ⟨"host_req", 8, 2, .ro, 3, false⟩,
    ⟨"cap", 10, 2, .ro, 0, false⟩,
    ⟨"capped", 12, 1, .ro, 0, false⟩]⟩,
  -- Table 13-10
  ⟨"PWR_ENTRY_STAT", 0x0890, 0x4, 1, [
    ⟨"aborted", 0, 8, .rc, 0, false⟩,
    ⟨"last_abort", 8, 5, .ro, 0, false⟩,
    ⟨"sleeps", 16, 16, .rc, 0, false⟩]⟩,
  -- Table 13-10
  ⟨"PWR_PERF_ERR", 0x0894, 0x4, 1, [
    ⟨"degraded", 0, 16, .rc, 0, false⟩]⟩]

/-- The registers of the HIF block, base 0x1000 (Table 16-3). -/
def rowsHIF : List RegRow := [
  -- Table 9-8
  ⟨"HIF_SQ_BASE_LO", 0x1000, 0x40, 16, [
    ⟨"addr", 0, 32, .rw, 0, false⟩]⟩,
  -- Table 9-8
  ⟨"HIF_SQ_BASE_HI", 0x1004, 0x40, 16, [
    ⟨"addr", 0, 32, .rw, 0, false⟩]⟩,
  -- Table 9-8
  ⟨"HIF_CQ_BASE_LO", 0x1008, 0x40, 16, [
    ⟨"addr", 0, 32, .rw, 0, false⟩]⟩,
  -- Table 9-8
  ⟨"HIF_CQ_BASE_HI", 0x100C, 0x40, 16, [
    ⟨"addr", 0, 32, .rw, 0, false⟩]⟩,
  -- Table 9-9
  ⟨"HIF_RING_CTL", 0x1010, 0x40, 16, [
    ⟨"sq_log2", 0, 4, .rw, 4, false⟩,
    ⟨"cq_log2", 4, 4, .rw, 4, false⟩,
    ⟨"en", 8, 1, .rw, 0, false⟩]⟩,
  -- Table 9-10
  ⟨"HIF_QUOTA", 0x1014, 0x40, 16, [
    ⟨"quota", 0, 8, .rwl, 4, false⟩]⟩,
  -- Table 9-10
  ⟨"HIF_COAL", 0x1018, 0x40, 16, [
    ⟨"count", 0, 8, .rw, 1, false⟩,
    ⟨"time_us", 8, 16, .rw, 50, false⟩]⟩,
  -- Table 9-11
  ⟨"HIF_STATUS", 0x101C, 0x40, 16, [
    ⟨"sq_head", 0, 12, .ro, 0, false⟩,
    ⟨"in_flight", 12, 8, .ro, 0, false⟩,
    ⟨"eff_quota", 20, 8, .ro, 0, false⟩,
    ⟨"enabled", 28, 1, .ro, 0, false⟩,
    ⟨"armed", 29, 1, .ro, 0, false⟩,
    ⟨"faulted", 30, 1, .ro, 0, false⟩]⟩,
  -- Table 9-11
  ⟨"HIF_CQ_TAIL", 0x1020, 0x40, 16, [
    ⟨"tail", 0, 12, .ro, 0, false⟩,
    ⟨"phase", 12, 1, .ro, 1, false⟩]⟩,
  -- Table 9-12
  ⟨"HIF_FAULT", 0x1024, 0x40, 16, [
    ⟨"cause", 0, 4, .ro, 0, false⟩]⟩,
  -- Table 9-12
  ⟨"HIF_EVCNT", 0x1028, 0x40, 16, [
    ⟨"backlog", 0, 6, .ro, 0, false⟩,
    ⟨"overflow", 16, 16, .rc, 0, false⟩]⟩,
  -- Table 9-13
  ⟨"HIF_FAULT_STATUS", 0x1400, 0x4, 1, [
    ⟨"client", 0, 16, .w1c, 0, false⟩,
    ⟨"internal", 16, 1, .w1c, 0, false⟩]⟩,
  -- Table 9-13
  ⟨"HIF_IRQ_SUMMARY", 0x1404, 0x4, 1, [
    ⟨"src", 0, 17, .rc, 0, false⟩]⟩,
  -- Table 9-13
  ⟨"HIF_LINK_STATUS", 0x1408, 0x4, 1, [
    ⟨"speed", 0, 2, .ro, 0, false⟩,
    ⟨"lpm", 2, 3, .ro, 0, false⟩,
    ⟨"dstate", 5, 2, .ro, 0, false⟩]⟩,
  -- Table 9-13
  ⟨"HIF_WAKE_CTL", 0x140C, 0x4, 1, [
    ⟨"answer", 0, 1, .rwl, 1, false⟩,
    ⟨"sb_req", 1, 1, .rwl, 1, false⟩]⟩,
  -- Table 9-13
  ⟨"HIF_LTR", 0x1410, 0x4, 1, [
    ⟨"tol_us", 0, 16, .rwl, 1000, false⟩]⟩,
  -- Table 9-13
  ⟨"HIF_ERR", 0x1414, 0x4, 1, [
    ⟨"bad_access", 0, 8, .rc, 0, false⟩,
    ⟨"stale_reply", 8, 8, .rc, 0, false⟩,
    ⟨"buf_dma", 16, 8, .rc, 0, false⟩]⟩]

/-- The registers of the SBY block, base 0x1800 (Table 16-3). -/
def rowsSBY : List RegRow := [
  -- Table 9-14
  ⟨"SBY_CTL", 0x1800, 0x4, 1, [
    ⟨"irq_en", 0, 1, .rwl, 1, false⟩]⟩,
  -- Table 9-14
  ⟨"SBY_HOST_WAKE", 0x1804, 0x4, 1, [
    ⟨"active", 0, 1, .w1c, 0, false⟩,
    ⟨"test", 1, 1, .wo, 0, false⟩,
    ⟨"req_wake_n", 2, 1, .w1s, 0, false⟩]⟩,
  -- Table 9-14
  ⟨"SBY_STATUS", 0x1808, 0x4, 1, [
    ⟨"status", 0, 8, .ro, 0, false⟩,
    ⟨"overflow", 8, 8, .rc, 0, false⟩,
    ⟨"rejects", 16, 8, .rc, 0, false⟩]⟩]

/-- The registers of the LINE block, base 0x2000 (Table 16-3). -/
def rowsLINE : List RegRow := [
  -- Table 2-13
  ⟨"LINE_PORT_CTL", 0x2000, 0x4, 1, [
    ⟨"a_en", 0, 1, .rwl, 1, false⟩,
    ⟨"a_term", 1, 1, .rwl, 0, false⟩,
    ⟨"b_en", 2, 1, .rwl, 0, true⟩,
    ⟨"b_term", 3, 1, .rwl, 0, true⟩]⟩,
  -- Table 2-14
  ⟨"LINE_NOISE", 0x2008, 0x4, 1, [
    ⟨"a_noise", 0, 12, .ro, 0, false⟩,
    ⟨"b_noise", 16, 12, .ro, 0, true⟩]⟩,
  -- Table 2-15
  ⟨"LINE_BELL_CTL", 0x200C, 0x4, 1, [
    ⟨"min_level", 0, 10, .rwl, 100, false⟩,
    ⟨"margin", 12, 2, .rwl, 2, false⟩]⟩,
  -- Table 2-16
  ⟨"LINE_EQ_CTL", 0x2010, 0x4, 1, [
    ⟨"dd_adapt", 0, 1, .rwl, 1, false⟩,
    ⟨"stale_after", 4, 4, .rwl, 4, false⟩]⟩,
  -- Table 2-17
  ⟨"LINE_EQ_TRAINEDA", 0x2020, 0x4, 4, [
    ⟨"trained", 0, 32, .ro, 0, false⟩]⟩,
  -- Table 2-17
  ⟨"LINE_EQ_TRAINEDB", 0x2060, 0x4, 4, [
    ⟨"trained", 0, 32, .ro, 0, true⟩]⟩,
  -- Table 2-18
  ⟨"LINE_EQ_STALEA", 0x2030, 0x4, 4, [
    ⟨"stale", 0, 32, .ro, 0, false⟩]⟩,
  -- Table 2-18
  ⟨"LINE_EQ_STALEB", 0x2070, 0x4, 4, [
    ⟨"stale", 0, 32, .ro, 0, true⟩]⟩,
  -- Table 2-19
  ⟨"LINE_RX_ERR0", 0x2040, 0x4, 1, [
    ⟨"beacon_crc", 0, 16, .rc, 0, false⟩,
    ⟨"slot_crc", 16, 16, .rc, 0, false⟩]⟩,
  -- Table 2-19
  ⟨"LINE_RX_ERR0_B", 0x2050, 0x4, 1, [
    ⟨"beacon_crc", 0, 16, .rc, 0, true⟩,
    ⟨"slot_crc", 16, 16, .rc, 0, true⟩]⟩,
  -- Table 2-19
  ⟨"LINE_RX_ERR1", 0x2044, 0x4, 1, [
    ⟨"ledger_crc", 0, 16, .rc, 0, false⟩,
    ⟨"ledger_oversize", 16, 8, .rc, 0, false⟩,
    ⟨"format_reserved", 24, 8, .rc, 0, false⟩]⟩,
  -- Table 2-19
  ⟨"LINE_RX_ERR1_B", 0x2054, 0x4, 1, [
    ⟨"ledger_crc", 0, 16, .rc, 0, true⟩,
    ⟨"ledger_oversize", 16, 8, .rc, 0, true⟩,
    ⟨"format_reserved", 24, 8, .rc, 0, true⟩]⟩,
  -- Table 2-19
  ⟨"LINE_RX_ERR2", 0x2048, 0x4, 1, [
    ⟨"src_mismatch", 0, 12, .rc, 0, false⟩,
    ⟨"own_addr_seen", 12, 4, .rc, 0, false⟩,
    ⟨"join_crc", 16, 16, .rc, 0, false⟩]⟩,
  -- Table 2-19
  ⟨"LINE_RX_ERR2_B", 0x2058, 0x4, 1, [
    ⟨"src_mismatch", 0, 12, .rc, 0, true⟩,
    ⟨"own_addr_seen", 12, 4, .rc, 0, true⟩,
    ⟨"join_crc", 16, 16, .rc, 0, true⟩]⟩,
  -- Table 3-13
  ⟨"LINE_ADDR", 0x2080, 0x4, 1, [
    ⟨"addr", 0, 7, .ro, 0, false⟩,
    ⟨"assigned", 7, 1, .ro, 0, false⟩,
    ⟨"rtd", 8, 16, .ro, 0, false⟩]⟩,
  -- Table 3-13
  ⟨"LINE_ADDR_B", 0x20C0, 0x4, 1, [
    ⟨"addr", 0, 7, .ro, 0, true⟩,
    ⟨"assigned", 7, 1, .ro, 0, true⟩,
    ⟨"rtd", 8, 16, .ro, 0, true⟩]⟩,
  -- Table 3-14
  ⟨"LINE_LINK_STATUS", 0x2084, 0x4, 1, [
    ⟨"line_state", 0, 2, .ro, 0, false⟩,
    ⟨"sleeping_known", 2, 1, .ro, 0, false⟩,
    ⟨"leases_held", 8, 7, .ro, 0, false⟩,
    ⟨"queue_pos", 16, 6, .ro, 0, false⟩]⟩,
  -- Table 3-14
  ⟨"LINE_LINK_STATUS_B", 0x20C4, 0x4, 1, [
    ⟨"line_state", 0, 2, .ro, 0, true⟩,
    ⟨"sleeping_known", 2, 1, .ro, 0, true⟩,
    ⟨"leases_held", 8, 7, .ro, 0, true⟩,
    ⟨"queue_pos", 16, 6, .ro, 0, true⟩]⟩,
  -- Table 3-15
  ⟨"LINE_JOIN_CTL", 0x2088, 0x4, 1, [
    ⟨"join_first_log2", 0, 4, .rwl, 6, false⟩,
    ⟨"join_max_log2", 4, 4, .rwl, 10, false⟩]⟩,
  -- Table 3-15
  ⟨"LINE_JOIN_CTL_B", 0x20C8, 0x4, 1, [
    ⟨"join_first_log2", 0, 4, .rwl, 6, true⟩,
    ⟨"join_max_log2", 4, 4, .rwl, 10, true⟩]⟩,
  -- Table 3-16
  ⟨"LINE_QUIET_CTL", 0x208C, 0x4, 1, [
    ⟨"quiet_after_s", 0, 16, .rwl, 600, false⟩,
    ⟨"horn_periods", 16, 10, .rwl, 391, false⟩,
    ⟨"join_in_quiet", 26, 1, .rwl, 1, false⟩]⟩,
  -- Table 3-16
  ⟨"LINE_QUIET_CTL_B", 0x20CC, 0x4, 1, [
    ⟨"quiet_after_s", 0, 16, .rwl, 600, true⟩,
    ⟨"horn_periods", 16, 10, .rwl, 391, true⟩,
    ⟨"join_in_quiet", 26, 1, .rwl, 1, true⟩]⟩,
  -- Table 3-17
  ⟨"LINE_LINK_ERR", 0x2090, 0x4, 1, [
    ⟨"ledger_dup", 0, 8, .rc, 0, false⟩,
    ⟨"ledger_bad_type", 8, 8, .rc, 0, false⟩,
    ⟨"cycle_short", 16, 8, .rc, 0, false⟩,
    ⟨"cycle_long", 24, 8, .rc, 0, false⟩]⟩,
  -- Table 3-17
  ⟨"LINE_LINK_ERR_B", 0x20D0, 0x4, 1, [
    ⟨"ledger_dup", 0, 8, .rc, 0, true⟩,
    ⟨"ledger_bad_type", 8, 8, .rc, 0, true⟩,
    ⟨"cycle_short", 16, 8, .rc, 0, true⟩,
    ⟨"cycle_long", 24, 8, .rc, 0, true⟩]⟩,
  -- Table 3-18
  ⟨"LINE_LINK_ERR2", 0x2094, 0x4, 1, [
    ⟨"leases_lapsed", 0, 8, .rc, 0, false⟩,
    ⟨"join_retries", 8, 8, .rc, 0, false⟩,
    ⟨"ledger_timeouts", 16, 8, .rc, 0, false⟩,
    ⟨"mismatch_events", 24, 8, .rc, 0, false⟩]⟩,
  -- Table 3-18
  ⟨"LINE_LINK_ERR2_B", 0x20D4, 0x4, 1, [
    ⟨"leases_lapsed", 0, 8, .rc, 0, true⟩,
    ⟨"join_retries", 8, 8, .rc, 0, true⟩,
    ⟨"ledger_timeouts", 16, 8, .rc, 0, true⟩,
    ⟨"mismatch_events", 24, 8, .rc, 0, true⟩]⟩,
  -- Table 3-19
  ⟨"LINE_LEASE_HELD0", 0x2098, 0x4, 1, [
    ⟨"held", 0, 32, .ro, 0, false⟩]⟩,
  -- Table 3-19
  ⟨"LINE_LEASE_HELD0_B", 0x20D8, 0x4, 1, [
    ⟨"held", 0, 32, .ro, 0, true⟩]⟩,
  -- Table 3-19
  ⟨"LINE_LEASE_HELD1", 0x209C, 0x4, 1, [
    ⟨"held", 0, 32, .ro, 0, false⟩]⟩,
  -- Table 3-19
  ⟨"LINE_LEASE_HELD1_B", 0x20DC, 0x4, 1, [
    ⟨"held", 0, 32, .ro, 0, true⟩]⟩,
  -- Table 4-8
  ⟨"LINE_ROLE", 0x2100, 0x4, 1, [
    ⟨"master_en", 0, 1, .rwl, 0, false⟩,
    ⟨"rearguard_en", 1, 1, .rwl, 0, false⟩,
    ⟨"way_en", 2, 1, .rwl, 0, true⟩,
    ⟨"priority", 4, 4, .rwl, 8, false⟩]⟩,
  -- Table 4-9
  ⟨"LINE_ROOT_ID", 0x2104, 0x4, 1, [
    ⟨"line_id", 0, 32, .rwl, 0, false⟩]⟩,
  -- Table 4-10
  ⟨"LINE_ELECT_CTL", 0x2108, 0x4, 1, [
    ⟨"listen_cycles", 0, 16, .rwl, 2100, false⟩]⟩,
  -- Table 4-11
  ⟨"LINE_HEAD_BUDGET", 0x210C, 0x4, 1, [
    ⟨"budget_dw", 0, 16, .rwl, 0, false⟩,
    ⟨"admitted_dw", 16, 16, .ro, 0, false⟩]⟩,
  -- Table 4-12
  ⟨"LINE_MASTER_STATUS", 0x2110, 0x4, 1, [
    ⟨"role", 0, 2, .ro, 0, false⟩,
    ⟨"established", 2, 1, .ro, 0, false⟩,
    ⟨"re_ranging", 3, 1, .ro, 0, false⟩,
    ⟨"hop", 4, 4, .ro, 0, false⟩,
    ⟨"collisions", 8, 8, .rc, 0, false⟩,
    ⟨"takeovers", 16, 8, .rc, 0, false⟩]⟩,
  -- Table 4-13
  ⟨"LINE_CKPT_STATUS", 0x2114, 0x4, 1, [
    ⟨"promoted", 0, 32, .ro, 0, false⟩]⟩,
  -- Table 4-14
  ⟨"LINE_CKPT_ERR", 0x2118, 0x4, 1, [
    ⟨"abandoned", 0, 8, .rc, 0, false⟩,
    ⟨"cold_starts", 8, 8, .rc, 0, false⟩,
    ⟨"journal_gap", 16, 1, .w1c, 0, false⟩,
    ⟨"over_budget", 17, 1, .w1c, 0, false⟩]⟩,
  -- Table 4-15
  ⟨"LINE_WAY_DOWN", 0x2120, 0x4, 2, [
    ⟨"groups", 0, 32, .rwl, 0, true⟩]⟩,
  -- Table 4-15
  ⟨"LINE_WAY_UP", 0x2128, 0x4, 2, [
    ⟨"groups", 0, 32, .rwl, 0, true⟩]⟩,
  -- Table 4-16
  ⟨"LINE_WAY_STATUS", 0x2130, 0x4, 1, [
    ⟨"b_role", 0, 2, .ro, 0, true⟩,
    ⟨"island", 2, 1, .ro, 0, true⟩,
    ⟨"proxy_down", 3, 7, .ro, 0, true⟩,
    ⟨"proxy_up", 10, 7, .ro, 0, true⟩]⟩]

/-- The registers of the MIX block, base 0x2800 (Table 16-3). -/
def rowsMIX : List RegRow := [
  -- Table 6-6
  ⟨"MIX_CTL", 0x2800, 0x4, 1, [
    ⟨"en", 0, 1, .rwl, 1, false⟩,
    ⟨"comfort_en", 1, 1, .rwl, 1, false⟩,
    ⟨"spk_en", 2, 1, .rwl, 0, false⟩,
    ⟨"tdm_en", 3, 1, .rwl, 0, false⟩,
    ⟨"aec_ref_tdm", 4, 1, .rwl, 0, false⟩,
    ⟨"port_b", 5, 1, .rwl, 0, true⟩]⟩,
  -- Table 6-7
  ⟨"MIX_LISTEN0", 0x2810, 0x4, 1, [
    ⟨"groups", 0, 32, .rwl, 1, false⟩]⟩,
  -- Table 6-7
  ⟨"MIX_LISTEN1", 0x2814, 0x4, 1, [
    ⟨"groups", 0, 32, .rwl, 0, false⟩]⟩,
  -- Table 6-7
  ⟨"MIX_ROOM", 0x2818, 0x4, 1, [
    ⟨"room_id", 0, 16, .rwl, 0, false⟩]⟩,
  -- Table 6-7
  ⟨"MIX_LISTEN_LOCK0", 0x281C, 0x4, 1, [
    ⟨"groups", 0, 32, .rwl, 0, false⟩]⟩,
  -- Table 6-7
  ⟨"MIX_LISTEN_LOCK1", 0x2820, 0x4, 1, [
    ⟨"groups", 0, 32, .rwl, 0, false⟩]⟩,
  -- Table 6-7
  ⟨"MIX_GAIN", 0x2840, 0x4, 16, [
    ⟨"gain", 0, 32, .rwl, 0x18181818, false⟩]⟩,
  -- Table 6-7
  ⟨"MIX_GROUP_PREC", 0x2880, 0x4, 4, [
    ⟨"floor", 0, 32, .rwl, 0, false⟩]⟩,
  -- Table 6-8
  ⟨"MIX_DUCK0", 0x28A0, 0x4, 1, [
    ⟨"prio_db", 0, 6, .rwl, 6, false⟩,
    ⟨"page_db", 8, 6, .rwl, 12, false⟩,
    ⟨"emerg_db", 16, 6, .rwl, 63, false⟩,
    ⟨"act_level", 24, 8, .rwl, 50, false⟩]⟩,
  -- Table 6-8
  ⟨"MIX_DUCK1", 0x28A4, 0x4, 1, [
    ⟨"hold_cycles", 0, 16, .rwl, 500, false⟩]⟩,
  -- Table 6-9
  ⟨"MIX_SPK_VOL", 0x28A8, 0x4, 1, [
    ⟨"vol", 0, 7, .rwl, 24, false⟩,
    ⟨"mute", 7, 1, .rwl, 0, false⟩]⟩,
  -- Table 6-9
  ⟨"MIX_EMERG", 0x28AC, 0x4, 1, [
    ⟨"floor", 0, 6, .rwl, 20, false⟩,
    ⟨"max_makeup", 8, 6, .rwl, 40, false⟩]⟩,
  -- Table 6-9
  ⟨"MIX_PUSH_CTL", 0x28B0, 0x4, 1, [
    ⟨"accept", 0, 1, .rwl, 0, false⟩,
    ⟨"min_prec", 1, 2, .rwl, 2, false⟩]⟩,
  -- Table 6-9
  ⟨"MIX_CU_CTL", 0x28B4, 0x4, 1, [
    ⟨"sil_dbfs", 0, 6, .rwl, 45, false⟩,
    ⟨"sil_keep_ms", 8, 8, .rwl, 120, false⟩]⟩,
  -- Table 6-10
  ⟨"MIX_TDM_CTL", 0x28C0, 0x4, 1, [
    ⟨"format", 0, 2, .rwl, 0, false⟩,
    ⟨"slot32", 2, 1, .rwl, 0, false⟩,
    ⟨"width", 3, 2, .rwl, 0, false⟩,
    ⟨"master", 5, 1, .rwl, 1, false⟩]⟩,
  -- Table 6-10
  ⟨"MIX_TDM_MAP", 0x28C4, 0x4, 8, [
    ⟨"func", 0, 4, .rwl, 0, false⟩,
    ⟨"gain", 4, 8, .rwl, 24, false⟩]⟩,
  -- Table 6-11
  ⟨"MIX_CHIME_TONE", 0x2900, 0x4, 4, [
    ⟨"freq_hz", 0, 13, .rwl, 0, false⟩]⟩,
  -- Table 6-11
  ⟨"MIX_CHIME_CAD", 0x2920, 0x4, 16, [
    ⟨"tones", 0, 4, .rwl, 0, false⟩,
    ⟨"level", 4, 6, .rwl, 0, false⟩,
    ⟨"cycles", 10, 10, .rwl, 0, false⟩,
    ⟨"last", 20, 1, .rwl, 0, false⟩]⟩,
  -- Table 6-11
  ⟨"MIX_CHIME_PAT", 0x2960, 0x4, 8, [
    ⟨"first", 0, 4, .rwl, 0, false⟩,
    ⟨"repeat", 4, 8, .rwl, 1, false⟩]⟩,
  -- Table 6-12
  ⟨"MIX_STATUS", 0x29C0, 0x4, 1, [
    ⟨"top_prec", 0, 2, .ro, 0, false⟩,
    ⟨"cu_active", 2, 1, .ro, 0, false⟩,
    ⟨"asrc_locked", 3, 1, .ro, 0, false⟩,
    ⟨"spk_fault", 4, 1, .ro, 0, false⟩,
    ⟨"pushed", 5, 1, .w1c, 0, false⟩,
    ⟨"makeup_on", 6, 1, .ro, 0, false⟩]⟩,
  -- Table 6-12
  ⟨"MIX_ERR", 0x29C4, 0x4, 1, [
    ⟨"concealed", 0, 16, .rc, 0, false⟩,
    ⟨"cu_skipped", 16, 4, .rc, 0, false⟩,
    ⟨"cu_stall", 20, 4, .rc, 0, false⟩,
    ⟨"limit", 24, 8, .rc, 0, false⟩]⟩]

/-- The registers of the ECH block, base 0x3000 (Table 16-3). -/
def rowsECH : List RegRow := [
  -- Table 7-7
  ⟨"ECH_MICPOS", 0x3000, 0x4, 8, [
    ⟨"x", 0, 16, .rwl, 0, false⟩,
    ⟨"y", 16, 16, .rwl, 0, false⟩]⟩,
  -- Table 7-7
  ⟨"ECH_BEAM_CTL", 0x3020, 0x4, 2, [
    ⟨"mode", 0, 2, .rwl, 1, false⟩,
    ⟨"preset", 2, 3, .rwl, 0, false⟩]⟩,
  -- Table 7-7
  ⟨"ECH_PRESET", 0x3030, 0x4, 8, [
    ⟨"azimuth", 0, 7, .rwl, 0, false⟩,
    ⟨"half_width", 8, 7, .rwl, 18, false⟩]⟩,
  -- Table 7-8
  ⟨"ECH_AEC_CTL", 0x3050, 0x4, 1, [
    ⟨"en", 0, 1, .rwl, 1, false⟩,
    ⟨"tail", 1, 3, .rwl, 3, false⟩,
    ⟨"layout", 4, 1, .rwl, 0, false⟩,
    ⟨"beams", 5, 2, .rwl, 1, false⟩,
    ⟨"dt_margin", 8, 4, .rwl, 6, false⟩]⟩,
  -- Table 7-8
  ⟨"ECH_REF0_CTL", 0x3054, 0x4, 1, [
    ⟨"bulk", 0, 9, .rwl, 0, false⟩]⟩,
  -- Table 7-8
  ⟨"ECH_REF1_CTL", 0x3058, 0x4, 1, [
    ⟨"bulk", 0, 9, .rwl, 0, false⟩,
    ⟨"src", 9, 2, .rwl, 0, false⟩]⟩,
  -- Table 7-8
  ⟨"ECH_SUPP_CTL", 0x305C, 0x4, 1, [
    ⟨"strength", 0, 2, .rwl, 2, false⟩,
    ⟨"cn_en", 2, 1, .rwl, 1, false⟩,
    ⟨"release_cycles", 3, 10, .rwl, 50, false⟩,
    ⟨"release_db", 16, 6, .rwl, 25, false⟩]⟩,
  -- Table 7-8
  ⟨"ECH_HOWL_CTL", 0x3060, 0x4, 1, [
    ⟨"en", 0, 1, .rwl, 1, false⟩,
    ⟨"par_db", 2, 6, .rwl, 12, false⟩,
    ⟨"hold_cycles", 8, 8, .rwl, 50, false⟩]⟩,
  -- Table 7-9
  ⟨"ECH_STATUS", 0x3080, 0x4, 1, [
    ⟨"reconv", 0, 1, .ro, 0, false⟩,
    ⟨"dt", 1, 2, .ro, 0, false⟩,
    ⟨"erle", 8, 8, .ro, 0, false⟩,
    ⟨"notches", 16, 3, .ro, 0, false⟩,
    ⟨"howl_cut", 19, 3, .ro, 0, false⟩]⟩,
  -- Table 7-9
  ⟨"ECH_HOWL_FREQ", 0x3084, 0x4, 4, [
    ⟨"freq_hz", 0, 13, .ro, 0, false⟩]⟩,
  -- Table 7-9
  ⟨"ECH_ERR", 0x3094, 0x4, 1, [
    ⟨"diverged", 0, 16, .rc, 0, false⟩,
    ⟨"howls", 16, 16, .rc, 0, false⟩]⟩]

/-- The registers of the CALL block, base 0x3800 (Table 16-3). -/
def rowsCALL : List RegRow := [
  -- Table 7-10
  ⟨"CALL_CTL", 0x3800, 0x4, 1, [
    ⟨"voice_answer", 0, 1, .rwl, 0, false⟩,
    ⟨"voice_call", 1, 1, .rwl, 0, false⟩,
    ⟨"place_prec", 2, 2, .rwl, 0, false⟩,
    ⟨"end_hold", 4, 12, .rwl, 3000, false⟩]⟩,
  -- Table 7-10
  ⟨"CALL_RING_CTL", 0x3804, 0x4, 1, [
    ⟨"ring_en", 0, 1, .rwl, 1, false⟩,
    ⟨"min_prec", 1, 2, .rwl, 0, false⟩,
    ⟨"timeout_s", 4, 8, .rwl, 30, false⟩,
    ⟨"pat_routine", 12, 3, .rwl, 0, false⟩,
    ⟨"pat_priority", 16, 3, .rwl, 1, false⟩,
    ⟨"pat_page", 20, 3, .rwl, 2, false⟩,
    ⟨"pat_emerg", 24, 3, .rwl, 3, false⟩]⟩,
  -- Table 7-10
  ⟨"CALL_AUTO_CTL", 0x3808, 0x4, 1, [
    ⟨"en", 0, 1, .rwl, 0, false⟩,
    ⟨"min_prec", 1, 2, .rwl, 2, false⟩]⟩,
  -- Table 7-10
  ⟨"CALL_AUTO_GRP", 0x380C, 0x4, 2, [
    ⟨"groups", 0, 32, .rwl, 0, false⟩]⟩,
  -- Table 7-10
  ⟨"CALL_KEY_CTL", 0x3814, 0x4, 1, [
    ⟨"decline_gpio", 0, 3, .rwl, 0, false⟩,
    ⟨"decline_en", 3, 1, .rwl, 0, false⟩]⟩,
  -- Table 7-11
  ⟨"CALL_TONE_CTL0", 0x3840, 0x8, 16, [
    ⟨"freq_hz", 0, 13, .rwl, 0, false⟩,
    ⟨"bw", 13, 2, .rwl, 1, false⟩,
    ⟨"level", 15, 6, .rwl, 40, false⟩,
    ⟨"ratio", 21, 5, .rwl, 10, false⟩,
    ⟨"input", 26, 3, .rwl, 0, false⟩,
    ⟨"act_ev", 29, 1, .rwl, 1, false⟩,
    ⟨"act_flag", 30, 1, .rwl, 0, false⟩,
    ⟨"act_call", 31, 1, .rwl, 0, false⟩]⟩,
  -- Table 7-11
  ⟨"CALL_TONE_CTL1", 0x3844, 0x8, 16, [
    ⟨"on_cycles", 0, 8, .rwl, 40, false⟩,
    ⟨"gap_cycles", 8, 8, .rwl, 20, false⟩,
    ⟨"group", 16, 6, .rwl, 0, false⟩,
    ⟨"prec", 22, 2, .rwl, 2, false⟩,
    ⟨"partner", 24, 4, .rwl, 0, false⟩,
    ⟨"pair_en", 28, 1, .rwl, 0, false⟩]⟩,
  -- Table 7-12
  ⟨"CALL_ACT_GRP", 0x3900, 0x4, 2, [
    ⟨"groups", 0, 32, .ro, 0, false⟩]⟩,
  -- Table 7-12
  ⟨"CALL_ACT_SLOT", 0x3908, 0x4, 2, [
    ⟨"slots", 0, 32, .ro, 0, false⟩]⟩,
  -- Table 7-12
  ⟨"CALL_ACT_SEEN", 0x3910, 0x4, 2, [
    ⟨"groups", 0, 32, .rc, 0, false⟩]⟩,
  -- Table 7-12
  ⟨"CALL_STATUS", 0x3918, 0x4, 1, [
    ⟨"records", 0, 4, .ro, 0, false⟩,
    ⟨"ringing", 4, 3, .ro, 0, false⟩,
    ⟨"ring_on", 7, 1, .ro, 0, false⟩,
    ⟨"missed", 8, 8, .rc, 0, false⟩,
    ⟨"dropped", 16, 8, .rc, 0, false⟩,
    ⟨"tones_on", 24, 8, .ro, 0, false⟩]⟩,
  -- Table 7-12
  ⟨"CALL_TONE_STATUS", 0x391C, 0x4, 1, [
    ⟨"started", 0, 16, .ro, 0, false⟩]⟩]

/-- The registers of the MIC block, base 0x4000 (Table 16-3). -/
def rowsMIC : List RegRow := [
  -- Table 8-4
  ⟨"MIC_CHAN_CTL", 0x4000, 0x4, 1, [
    ⟨"chan_en", 0, 8, .rwl, 3, false⟩,
    ⟨"hpf_en", 8, 1, .rwl, 0, false⟩]⟩,
  -- Table 8-4
  ⟨"MIC_MODE_CTL", 0x4004, 0x4, 1, [
    ⟨"force", 0, 2, .rwl, 0, false⟩,
    ⟨"settle_cycles", 4, 4, .rwl, 2, false⟩,
    ⟨"start_cycles", 8, 8, .rwl, 20, false⟩,
    ⟨"idle_cycles", 16, 16, .rwl, 1000, false⟩]⟩,
  -- Table 8-4
  ⟨"MIC_TRIM", 0x4010, 0x4, 8, [
    ⟨"gain", 0, 8, .rwl, 0, false⟩]⟩,
  -- Table 8-4
  ⟨"MIC_MUTE_STATUS", 0x4040, 0x4, 1, [
    ⟨"muted", 0, 1, .ro, 1, false⟩,
    ⟨"sw_level", 1, 1, .ro, 1, false⟩,
    ⟨"mute_count", 8, 8, .rc, 0, false⟩]⟩,
  -- Table 8-4
  ⟨"MIC_FAULT_STATUS", 0x4050, 0x4, 1, [
    ⟨"faulted", 0, 8, .ro, 0, false⟩,
    ⟨"stuck", 8, 8, .ro, 0, false⟩]⟩,
  -- Table 8-4
  ⟨"MIC_FAULT_CAUSE", 0x4054, 0x4, 1, [
    ⟨"cause", 0, 16, .ro, 0, false⟩]⟩,
  -- Table 8-4
  ⟨"MIC_PROBE_CTL", 0x4058, 0x4, 1, [
    ⟨"en", 0, 1, .rwl, 1, false⟩,
    ⟨"retry_s", 8, 8, .rwl, 10, false⟩]⟩,
  -- Table 8-4
  ⟨"MIC_STATUS", 0x4060, 0x4, 1, [
    ⟨"mode", 0, 2, .ro, 0, false⟩,
    ⟨"settling", 2, 1, .ro, 0, false⟩,
    ⟨"healthy", 8, 8, .ro, 0, false⟩]⟩,
  -- Table 8-4
  ⟨"MIC_ERR", 0x4064, 0x4, 1, [
    ⟨"bridged", 0, 16, .rc, 0, false⟩,
    ⟨"probes", 16, 8, .rc, 0, false⟩]⟩]

/-- The registers of the WAKE block, base 0x4800 (Table 16-3). -/
def rowsWAKE : List RegRow := [
  -- Table 8-5
  ⟨"WAKE_CTL", 0x4800, 0x4, 1, [
    ⟨"en", 0, 1, .rwl, 0, false⟩,
    ⟨"beam", 1, 1, .rwl, 0, false⟩,
    ⟨"threshold", 8, 8, .rwl, 128, false⟩,
    ⟨"refractory_cycles", 16, 16, .rwl, 2000, false⟩]⟩,
  -- Table 8-5
  ⟨"WAKE_MODEL", 0x4804, 0x4, 1, [
    ⟨"loaded", 0, 1, .ro, 0, false⟩,
    ⟨"size_kb", 8, 8, .ro, 0, false⟩,
    ⟨"max_phrase", 16, 5, .ro, 0, false⟩]⟩,
  -- Table 8-5
  ⟨"WAKE_HIST_CTL", 0x4810, 0x4, 1, [
    ⟨"depth", 0, 3, .rwl, 5, false⟩,
    ⟨"two_ch", 3, 1, .rwl, 0, false⟩,
    ⟨"ch0_src", 4, 2, .rwl, 0, false⟩,
    ⟨"ch1_src", 6, 2, .rwl, 1, false⟩]⟩,
  -- Table 8-5
  ⟨"WAKE_HIST_OLDEST_LO", 0x4814, 0x4, 1, [
    ⟨"index_lo", 0, 32, .ro, 0, false⟩]⟩,
  -- Table 8-5
  ⟨"WAKE_HIST_OLDEST_HI", 0x4818, 0x4, 1, [
    ⟨"index_hi", 0, 32, .ro, 0, false⟩]⟩,
  -- Table 8-5
  ⟨"WAKE_LAST_START_LO", 0x4820, 0x4, 1, [
    ⟨"start_lo", 0, 32, .ro, 0, false⟩]⟩,
  -- Table 8-5
  ⟨"WAKE_LAST_START_HI", 0x4824, 0x4, 1, [
    ⟨"start_hi", 0, 32, .ro, 0, false⟩]⟩,
  -- Table 8-5
  ⟨"WAKE_LAST_CYCLE", 0x4828, 0x4, 1, [
    ⟨"cycle", 0, 32, .ro, 0, false⟩]⟩,
  -- Table 8-5
  ⟨"WAKE_ERR", 0x4830, 0x4, 1, [
    ⟨"refractory", 0, 8, .rc, 0, false⟩,
    ⟨"fetch_overrun", 8, 8, .rc, 0, false⟩,
    ⟨"mute_discard", 16, 8, .rc, 0, false⟩]⟩]

/-- The registers of the TAG block, base 0x5000 (Table 16-3). -/
def rowsTAG : List RegRow := [
  -- Table 11-8
  ⟨"TAG_CTL", 0x5000, 0x4, 1, [
    ⟨"speed", 0, 2, .rwl, 1, false⟩,
    ⟨"writer_id", 8, 8, .rwl, 0, false⟩]⟩,
  -- Table 11-8
  ⟨"TAG_STATUS", 0x5004, 0x4, 1, [
    ⟨"present", 0, 1, .ro, 0, false⟩,
    ⟨"identity_ok", 1, 1, .ro, 0, false⟩,
    ⟨"expired", 2, 1, .ro, 0, false⟩,
    ⟨"lock_seen", 3, 1, .ro, 0, false⟩,
    ⟨"life_pct", 8, 8, .ro, 255, false⟩,
    ⟨"deferred", 16, 7, .ro, 0, false⟩]⟩,
  -- Table 11-8
  ⟨"TAG_SERIAL_LO", 0x5008, 0x4, 1, [
    ⟨"serial_lo", 0, 32, .ro, 0, false⟩]⟩,
  -- Table 11-8
  ⟨"TAG_SERIAL_HI", 0x500C, 0x4, 1, [
    ⟨"serial_hi", 0, 32, .ro, 0, false⟩]⟩,
  -- Table 11-8
  ⟨"TAG_INSERTIONS", 0x5010, 0x4, 1, [
    ⟨"total", 0, 32, .ro, 0, false⟩]⟩,
  -- Table 11-8
  ⟨"TAG_ENERGY", 0x5014, 0x4, 1, [
    ⟨"total_mj", 0, 32, .ro, 0, false⟩]⟩,
  -- Table 11-8
  ⟨"TAG_ARB", 0x5018, 0x4, 1, [
    ⟨"byte", 0, 8, .ro, 0, false⟩,
    ⟨"bit", 8, 3, .ro, 0, false⟩,
    ⟨"losses", 16, 8, .rc, 0, false⟩]⟩,
  -- Table 11-8
  ⟨"TAG_ERR", 0x501C, 0x4, 1, [
    ⟨"contended", 0, 8, .rc, 0, false⟩,
    ⟨"torn", 8, 8, .rc, 0, false⟩,
    ⟨"defer_merged", 16, 8, .rc, 0, false⟩,
    ⟨"dropped_removed", 24, 8, .rc, 0, false⟩]⟩]

/-- The registers of the TOLL block, base 0x5800 (Table 16-3). -/
def rowsTOLL : List RegRow := [
  -- Table 12-5
  ⟨"TOLL_POLY", 0x5800, 0x100, 4, [
    ⟨"poly", 0, 32, .rwl, 0x4c11db7, false⟩]⟩,
  -- Table 12-5
  ⟨"TOLL_INIT", 0x5804, 0x100, 4, [
    ⟨"init", 0, 32, .rwl, 0xffffffff, false⟩]⟩,
  -- Table 12-5
  ⟨"TOLL_XOROUT", 0x5808, 0x100, 4, [
    ⟨"xorout", 0, 32, .rwl, 0xffffffff, false⟩]⟩,
  -- Table 12-5
  ⟨"TOLL_CFG", 0x580C, 0x100, 4, [
    ⟨"width", 0, 6, .rwl, 32, false⟩,
    ⟨"refin", 8, 1, .rwl, 1, false⟩,
    ⟨"refout", 9, 1, .rwl, 1, false⟩,
    ⟨"fold_after", 10, 1, .rwl, 0, false⟩,
    ⟨"fold_order", 11, 1, .rwl, 0, false⟩,
    ⟨"out_order", 12, 1, .rwl, 0, false⟩,
    ⟨"fold_len", 16, 4, .rwl, 0, false⟩]⟩,
  -- Table 12-5
  ⟨"TOLL_FOLD_LO", 0x5810, 0x100, 4, [
    ⟨"fold_lo", 0, 32, .rwl, 0, false⟩]⟩,
  -- Table 12-5
  ⟨"TOLL_FOLD_HI", 0x5814, 0x100, 4, [
    ⟨"fold_hi", 0, 32, .rwl, 0, false⟩]⟩,
  -- Table 12-5
  ⟨"TOLL_EXPECT", 0x5818, 0x100, 4, [
    ⟨"expect", 0, 32, .rw, 0, false⟩]⟩,
  -- Table 12-5
  ⟨"TOLL_CMD", 0x5820, 0x100, 4, [
    ⟨"mode", 0, 2, .wo, 0, false⟩,
    ⟨"start", 4, 1, .wo, 0, false⟩,
    ⟨"finish", 5, 1, .wo, 0, false⟩,
    ⟨"abort", 6, 1, .wo, 0, false⟩]⟩,
  -- Table 12-5
  ⟨"TOLL_DATA8", 0x5830, 0x100, 4, [
    ⟨"data", 0, 8, .wo, 0, false⟩]⟩,
  -- Table 12-5
  ⟨"TOLL_DATA16", 0x5834, 0x100, 4, [
    ⟨"data", 0, 16, .wo, 0, false⟩]⟩,
  -- Table 12-5
  ⟨"TOLL_DATA32", 0x5838, 0x100, 4, [
    ⟨"data", 0, 32, .wo, 0, false⟩]⟩,
  -- Table 12-5
  ⟨"TOLL_VALUE", 0x5840, 0x100, 4, [
    ⟨"value", 0, 32, .ro, 0, false⟩]⟩,
  -- Table 12-5
  ⟨"TOLL_RAW", 0x5844, 0x100, 4, [
    ⟨"raw", 0, 32, .ro, 0, false⟩]⟩,
  -- Table 12-5
  ⟨"TOLL_STATUS", 0x5848, 0x100, 4, [
    ⟨"holder", 0, 2, .ro, 0, false⟩,
    ⟨"job", 2, 1, .ro, 0, false⟩,
    ⟨"busy", 3, 1, .ro, 0, false⟩,
    ⟨"done", 4, 1, .ro, 0, false⟩,
    ⟨"match", 5, 1, .ro, 0, false⟩,
    ⟨"claim_refused", 6, 1, .w1c, 0, false⟩]⟩,
  -- Table 12-5
  ⟨"TOLL_COUNT", 0x584C, 0x100, 4, [
    ⟨"bytes", 0, 32, .ro, 0, false⟩]⟩,
  -- Table 12-5
  ⟨"TOLL_ERR", 0x5850, 0x100, 4, [
    ⟨"idle_writes", 0, 8, .rc, 0, false⟩,
    ⟨"foreign_writes", 8, 8, .rc, 0, false⟩,
    ⟨"mismatches", 16, 8, .rc, 0, false⟩]⟩]

/-- The registers of the DBG block, base 0x6000 (Table 16-3). -/
def rowsDBG : List RegRow := [
  -- Table 15-10
  ⟨"DBG_HALT_CTL", 0x6000, 0x4, 1, [
    ⟨"mask", 0, 4, .rwl, 7, false⟩,
    ⟨"halt_on_fault", 4, 1, .rwl, 0, false⟩,
    ⟨"xtrig_in_en", 8, 1, .rwl, 0, false⟩,
    ⟨"xtrig_in_gpio", 9, 3, .rwl, 0, false⟩,
    ⟨"xtrig_out_en", 12, 1, .rwl, 0, false⟩,
    ⟨"xtrig_out_gpio", 13, 3, .rwl, 0, false⟩]⟩,
  -- Table 15-10
  ⟨"DBG_HALT_STATUS", 0x6004, 0x4, 1, [
    ⟨"halted", 0, 4, .ro, 0, false⟩,
    ⟨"cc_cause", 4, 4, .ro, 0, false⟩,
    ⟨"ae0_cause", 8, 4, .ro, 0, false⟩,
    ⟨"ae1_cause", 12, 4, .ro, 0, false⟩,
    ⟨"ls_cause", 16, 4, .ro, 0, false⟩,
    ⟨"halts", 24, 8, .rc, 0, false⟩]⟩,
  -- Table 15-10
  ⟨"DBG_MON_CTL", 0x6010, 0x4, 1, [
    ⟨"baud", 0, 3, .rwl, 0, false⟩,
    ⟨"idle_s", 8, 8, .rwl, 30, false⟩]⟩,
  -- Table 15-10
  ⟨"DBG_MON_STATUS", 0x6014, 0x4, 1, [
    ⟨"resident_up", 0, 1, .ro, 0, false⟩,
    ⟨"tampered", 1, 1, .ro, 0, false⟩,
    ⟨"sessions", 4, 4, .ro, 0, false⟩,
    ⟨"crc_errors", 8, 8, .rc, 0, false⟩,
    ⟨"busy", 16, 8, .rc, 0, false⟩,
    ⟨"line_discards", 24, 8, .rc, 0, false⟩]⟩,
  -- Table 15-10
  ⟨"DBG_TRACE_CTL", 0x6020, 0x4, 1, [
    ⟨"en", 0, 1, .rwl, 0, false⟩,
    ⟨"sink", 1, 2, .rwl, 0, false⟩,
    ⟨"stop_on_halt", 3, 1, .rwl, 0, false⟩,
    ⟨"post_count", 4, 12, .rwl, 256, false⟩]⟩,
  -- Table 15-10
  ⟨"DBG_STIM_EN", 0x6024, 0x4, 1, [
    ⟨"ports", 0, 32, .rwl, 0, false⟩]⟩,
  -- Table 15-10
  ⟨"DBG_TRACE_STATUS", 0x6028, 0x4, 1, [
    ⟨"write_index", 0, 10, .ro, 0, false⟩,
    ⟨"wrapped", 11, 1, .ro, 0, false⟩,
    ⟨"stopped", 12, 1, .ro, 0, false⟩,
    ⟨"overflow", 16, 16, .rc, 0, false⟩]⟩]

/-- The registers of the CFG block, base 0x6800 (Table 16-3). -/
def rowsCFG : List RegRow := [
  -- Table 14-10
  ⟨"CFG_CTL", 0x6800, 0x4, 1, [
    ⟨"warm_restart", 0, 1, .wo, 0, false⟩]⟩,
  -- Table 14-10
  ⟨"CFG_NODE", 0x6804, 0x4, 1, [
    ⟨"declared_class", 0, 2, .rwl, 1, false⟩]⟩,
  -- Table 14-10
  ⟨"CFG_WDT", 0x6808, 0x4, 1, [
    ⟨"timeout_s", 0, 6, .rwl, 8, false⟩,
    ⟨"expiries", 8, 8, .rc, 0, false⟩]⟩,
  -- Table 14-10
  ⟨"CFG_EPOCH", 0x6810, 0x4, 1, [
    ⟨"current", 0, 16, .ro, 0, false⟩,
    ⟨"mixed", 16, 1, .ro, 0, false⟩]⟩,
  -- Table 14-10
  ⟨"CFG_EPOCH_VEC0", 0x6814, 0x4, 1, [
    ⟨"atomic", 0, 8, .ro, 0, false⟩,
    ⟨"ech", 8, 8, .ro, 0, false⟩,
    ⟨"mic_wake", 16, 8, .ro, 0, false⟩,
    ⟨"tdm", 24, 8, .ro, 0, false⟩]⟩,
  -- Table 14-10
  ⟨"CFG_EPOCH_VEC1", 0x6818, 0x4, 1, [
    ⟨"eq", 0, 8, .ro, 0, false⟩,
    ⟨"pclass", 8, 8, .ro, 0, false⟩]⟩,
  -- Table 14-10
  ⟨"CFG_STAGE", 0x681C, 0x4, 1, [
    ⟨"entries", 0, 9, .ro, 0, false⟩,
    ⟨"owner", 16, 5, .ro, 31, false⟩]⟩,
  -- Table 14-10
  ⟨"CFG_APPLY_CYCLE", 0x6820, 0x4, 1, [
    ⟨"cycle", 0, 32, .ro, 0, false⟩]⟩,
  -- Table 14-10
  ⟨"CFG_GEN0", 0x6830, 0x4, 1, [
    ⟨"cc", 0, 8, .ro, 0, false⟩,
    ⟨"ae0", 8, 8, .ro, 0, false⟩,
    ⟨"ae1", 16, 8, .ro, 0, false⟩,
    ⟨"ls", 24, 8, .ro, 0, false⟩]⟩,
  -- Table 14-10
  ⟨"CFG_GEN1", 0x6834, 0x4, 1, [
    ⟨"hif", 0, 8, .ro, 0, false⟩,
    ⟨"sby", 8, 8, .ro, 0, false⟩,
    ⟨"tag", 16, 8, .ro, 0, false⟩,
    ⟨"toll", 24, 8, .ro, 0, false⟩]⟩,
  -- Table 14-10
  ⟨"CFG_BOOT_STATUS", 0x6840, 0x4, 1, [
    ⟨"manifest_err", 0, 4, .ro, 0, false⟩,
    ⟨"patch_err", 4, 4, .ro, 0, false⟩,
    ⟨"reg_skipped", 8, 8, .ro, 0, false⟩,
    ⟨"rec_skipped", 16, 8, .ro, 0, false⟩,
    ⟨"wake_model_rejected", 24, 1, .ro, 0, false⟩]⟩,
  -- Table 14-10
  ⟨"CFG_RESET_CAUSE", 0x6844, 0x4, 1, [
    ⟨"power_on", 0, 1, .w1c, 0, false⟩,
    ⟨"reset_pin", 1, 1, .w1c, 0, false⟩,
    ⟨"watchdog", 2, 1, .w1c, 0, false⟩,
    ⟨"monitor", 3, 1, .w1c, 0, false⟩,
    ⟨"warm_overrun", 4, 1, .w1c, 0, false⟩,
    ⟨"s5_boot", 5, 1, .w1c, 0, false⟩,
    ⟨"warm_restarts", 16, 8, .rc, 0, false⟩]⟩,
  -- Table 14-10
  ⟨"CFG_ERR", 0x6848, 0x4, 1, [
    ⟨"stale_replies", 0, 8, .rc, 0, false⟩,
    ⟨"peer_resets", 8, 8, .rc, 0, false⟩]⟩]

/-- The registers of the PLT block, base 0x7000 (Table 16-3). -/
def rowsPLT : List RegRow := [
  -- Table 1-12
  ⟨"PLT_LPC_CYCLE", 0x7000, 0x4, 1, [
    ⟨"cycle", 0, 32, .ro, 0, false⟩]⟩,
  -- Table 1-13
  ⟨"PLT_LPC_SYM", 0x7004, 0x4, 1, [
    ⟨"symbol", 0, 14, .ro, 0, false⟩]⟩,
  -- Table 1-13
  ⟨"PLT_LPC_CYCLE_HI", 0x7014, 0x4, 1, [
    ⟨"cycle_hi", 0, 32, .ro, 0, false⟩]⟩,
  -- Table 1-14
  ⟨"PLT_LPC_STATUS", 0x7008, 0x4, 1, [
    ⟨"locked", 0, 1, .ro, 0, false⟩,
    ⟨"holdover", 1, 1, .ro, 0, false⟩,
    ⟨"ever_locked", 2, 1, .ro, 0, false⟩,
    ⟨"line_down", 3, 1, .ro, 0, false⟩,
    ⟨"missed_beacons", 8, 8, .ro, 0, false⟩,
    ⟨"rebase_count", 16, 16, .ro, 0, false⟩]⟩,
  -- Table 1-15
  ⟨"PLT_CLK_ERR", 0x700C, 0x4, 1, [
    ⟨"freq_err", 0, 16, .ro, 0, false⟩]⟩,
  -- Table 1-16
  ⟨"PLT_HOLD_CTL", 0x7010, 0x4, 1, [
    ⟨"active_down_cycles", 0, 8, .rwl, 64, false⟩,
    ⟨"quiet_down_beacons", 8, 4, .rwl, 4, false⟩]⟩,
  -- Table 1-17
  ⟨"PLT_STROBE_CTL", 0x7020, 0x4, 2, [
    ⟨"symbol", 0, 14, .rwl, 0, false⟩,
    ⟨"period", 16, 8, .rwl, 1, false⟩,
    ⟨"gpio", 24, 3, .rwl, 0, false⟩,
    ⟨"en", 31, 1, .rwl, 0, false⟩]⟩,
  -- Table 1-18
  ⟨"PLT_CMP_STATUS", 0x7040, 0x4, 1, [
    ⟨"armed", 0, 8, .ro, 0, false⟩,
    ⟨"late", 8, 8, .w1c, 0, false⟩,
    ⟨"rebased", 16, 8, .w1c, 0, false⟩]⟩]

/-- The registers of the STK block, base 0x7800 (Table 16-3). -/
def rowsSTK : List RegRow := [
  -- Table 4-17
  ⟨"STK_CTL", 0x7800, 0x4, 1, [
    ⟨"en", 0, 1, .rwl, 0, true⟩,
    ⟨"member_id", 1, 2, .rwl, 0, true⟩]⟩,
  -- Table 4-18
  ⟨"STK_STATUS", 0x7804, 0x4, 1, [
    ⟨"present", 0, 4, .ro, 0, true⟩,
    ⟨"tree_mismatch", 4, 4, .ro, 0, true⟩,
    ⟨"window_crc", 8, 8, .rc, 0, true⟩]⟩,
  -- Table 4-19
  ⟨"STK_GEN", 0x7808, 0x4, 1, [
    ⟨"gen", 0, 32, .ro, 0, true⟩]⟩,
  -- Table 4-20
  ⟨"STK_CLIENT_MAP", 0x780C, 0x4, 1, [
    ⟨"member", 0, 32, .rwl, 0, true⟩]⟩]

/-- The rows of block `b` (Table 16-3). -/
def blockRows : Nat → List RegRow
  | 0 => rowsGLB
  | 1 => rowsPWR
  | 2 => rowsHIF
  | 3 => rowsSBY
  | 4 => rowsLINE
  | 5 => rowsMIX
  | 6 => rowsECH
  | 7 => rowsCALL
  | 8 => rowsMIC
  | 9 => rowsWAKE
  | 10 => rowsTAG
  | 11 => rowsTOLL
  | 12 => rowsDBG
  | 13 => rowsCFG
  | 14 => rowsPLT
  | 15 => rowsSTK
  | _ => []

/-- Does row `r` describe the register at offset `o`? -/
def RegRow.covers (r : RegRow) (o : Nat) : Bool :=
  decide (r.base ≤ o) && decide ((o - r.base) % r.stride = 0) && decide ((o - r.base) / r.stride < r.count)

/-- The register at offset `o`, if the manual lays one down there (R633). -/
def rowAt (o : Nat) : Option RegRow := (blockRows (o / 0x800)).find? (fun r => r.covers o)

/-- Ones in `w` bits from `l` upward. -/
def bitMask (l w : Nat) : Word := BitVec.ofNat 32 ((2 ^ w - 1) * 2 ^ l)

/-- The bits of the fields of `r` that `p` selects. -/
def RegRow.mask (r : RegRow) (p : FieldRow → Bool) : Word :=
  r.fields.foldl (fun m f => if p f then m ||| bitMask f.lsb f.width else m) 0

/-- The bits of access code `a` in row `r`, with the L64B-only fields taken out where `b` is false (R2). -/
def RegRow.acc (r : RegRow) (b : Bool) (a : Access) : Word := r.mask (fun f => decide (f.access = a) && (b || !f.l64b))

/-- The reset column of row `r` (R643). -/
def RegRow.resetValue (r : RegRow) : Word :=
  r.fields.foldl (fun m f => m ||| BitVec.ofNat 32 (f.reset * 2 ^ f.lsb)) 0

/-- What the register at `o` holds after reset (R643). A reserved offset reads 0 (R633). -/
def regReset (o : Nat) : Word := match rowAt o with
  | some r => r.resetValue
  | none => 0

namespace F

def GLB_ID.vendor : Field := ⟨0x0000, 0, 16⟩
def GLB_ID.part : Field := ⟨0x0000, 16, 8⟩
def GLB_ID.variant : Field := ⟨0x0000, 24, 8⟩
def GLB_REV.silicon : Field := ⟨0x0004, 0, 8⟩
def GLB_REV.rom : Field := ⟨0x0004, 8, 16⟩
def GLB_UID_LO.uid_lo : Field := ⟨0x0008, 0, 32⟩
def GLB_UID_HI.uid_hi : Field := ⟨0x000C, 0, 16⟩
def GLB_CAPS.port_b : Field := ⟨0x0010, 0, 1⟩
def GLB_CAPS.stack : Field := ⟨0x0010, 1, 1⟩
def GLB_CAPS.waystation : Field := ⟨0x0010, 2, 1⟩
def GLB_CAPS.toll_units : Field := ⟨0x0010, 4, 4⟩
def GLB_CAPS.max_in_flight : Field := ⟨0x0010, 8, 8⟩
def GLB_CAPS.talk_sessions : Field := ⟨0x0010, 16, 4⟩
def GLB_CAPS.streams : Field := ⟨0x0010, 20, 6⟩
def GLB_CAPS.mic_channels : Field := ⟨0x0010, 26, 4⟩
def GLB_SETUP.lock : Field := ⟨0x0020, 0, 1⟩
def GLB_STATUS.manifest_defaulted : Field := ⟨0x0024, 0, 1⟩
def GLB_STATUS.patch_rejected : Field := ⟨0x0024, 1, 1⟩
def GLB_STATUS.epoch_mixed : Field := ⟨0x0024, 2, 1⟩
def GLB_STATUS.patch_running : Field := ⟨0x0024, 3, 1⟩
def GLB_STATUS.tampered : Field := ⟨0x0024, 4, 1⟩
def GLB_STATUS.locked : Field := ⟨0x0024, 5, 1⟩
def GLB_ATTN.blocks : Field := ⟨0x0030, 0, 16⟩
def GLB_BLOCK_RESET.gen_changed : Field := ⟨0x0034, 0, 8⟩
def GLB_BLOCK_RESET.p57 : Field := ⟨0x0034, 8, 1⟩
def GLB_BLOCK_RESET.stack : Field := ⟨0x0034, 9, 1⟩
def GLB_ACCESS_ERR.bad_size : Field := ⟨0x0040, 0, 8⟩
def GLB_ACCESS_ERR.locked_writes : Field := ⟨0x0040, 8, 8⟩
def GLB_ACCESS_ERR.reserved_writes : Field := ⟨0x0040, 16, 8⟩
def GLB_SCRATCH.value : Field := ⟨0x0044, 0, 32⟩
def PWR_INTAKE_CTL.bo_report_ms : Field := ⟨0x0A00, 0, 16⟩
def PWR_INTAKE_STATUS.pg : Field := ⟨0x0A04, 0, 1⟩
def PWR_INTAKE_STATUS.telem_stale : Field := ⟨0x0A04, 1, 1⟩
def PWR_INTAKE_STATUS.p57_gen : Field := ⟨0x0A04, 8, 8⟩
def PWR_INTAKE_STATUS.bus_err : Field := ⟨0x0A04, 16, 8⟩
def PWR_INTAKE_STATUS.surge_no_cart : Field := ⟨0x0A04, 24, 8⟩
def PWR_SHED_STATUS.step : Field := ⟨0x0A08, 0, 3⟩
def PWR_SHED_STATUS.emerg_capped : Field := ⟨0x0A08, 3, 1⟩
def PWR_SHED_STATUS.warnings : Field := ⟨0x0A08, 16, 16⟩
def PWR_INTAKE_TELEM0.vin : Field := ⟨0x0A0C, 0, 16⟩
def PWR_INTAKE_TELEM0.iin : Field := ⟨0x0A0C, 16, 16⟩
def PWR_INTAKE_TELEM1.pin : Field := ⟨0x0A10, 0, 16⟩
def PWR_INTAKE_TELEM1.vsys : Field := ⟨0x0A10, 16, 16⟩
def PWR_CTL.max_depth : Field := ⟨0x0800, 0, 3⟩
def PWR_CTL.hold_cycles : Field := ⟨0x0800, 8, 8⟩
def PWR_CTL.rtc_from_line : Field := ⟨0x0800, 16, 1⟩
def PWR_STATE.state : Field := ⟨0x0804, 0, 3⟩
def PWR_STATE.allowed : Field := ⟨0x0804, 4, 3⟩
def PWR_STATE.pl : Field := ⟨0x0804, 8, 2⟩
def PWR_STATE.link_limit : Field := ⟨0x0804, 12, 1⟩
def PWR_STATE.entering : Field := ⟨0x0804, 13, 1⟩
def PWR_VOTE.vote (n : Nat) : Field := ⟨0x0810 + 0x4 * n, 0, 32⟩
def PWR_REFUSERS.clients : Field := ⟨0x0820, 0, 26⟩
def PWR_REFUSE_CTL.report_ms : Field := ⟨0x0824, 0, 16⟩
def PWR_REFUSE_CNT.count (n : Nat) : Field := ⟨0x0830 + 0x4 * n, 0, 32⟩
def PWR_RET_CTL.keep_s23 : Field := ⟨0x0850, 0, 12⟩
def PWR_RET_CTL.keep_s4 : Field := ⟨0x0850, 16, 12⟩
def PWR_WAKE_EN.rtc : Field := ⟨0x0860, 2, 1⟩
def PWR_WAKE_EN.talk_key : Field := ⟨0x0860, 5, 1⟩
def PWR_WAKE_EN.gpio : Field := ⟨0x0860, 6, 1⟩
def PWR_WAKE_EN.mute : Field := ⟨0x0860, 7, 1⟩
def PWR_WAKE_EN.cart_det : Field := ⟨0x0860, 9, 1⟩
def PWR_WAKE_EN.monitor : Field := ⟨0x0860, 11, 1⟩
def PWR_WAKE_CAUSE.cause : Field := ⟨0x0864, 0, 13⟩
def PWR_GPIO_WAKE.mask : Field := ⟨0x0868, 0, 8⟩
def PWR_GPIO_WAKE.level : Field := ⟨0x0868, 8, 8⟩
def PWR_RTC.seconds : Field := ⟨0x0870, 0, 32⟩
def PWR_RTC_ALARM.seconds : Field := ⟨0x0874, 0, 32⟩
def PWR_PERF.in_force : Field := ⟨0x0880, 0, 2⟩
def PWR_PERF.cc_req : Field := ⟨0x0880, 2, 2⟩
def PWR_PERF.ae0_req : Field := ⟨0x0880, 4, 2⟩
def PWR_PERF.ae1_req : Field := ⟨0x0880, 6, 2⟩
def PWR_PERF.host_req : Field := ⟨0x0880, 8, 2⟩
def PWR_PERF.cap : Field := ⟨0x0880, 10, 2⟩
def PWR_PERF.capped : Field := ⟨0x0880, 12, 1⟩
def PWR_ENTRY_STAT.aborted : Field := ⟨0x0890, 0, 8⟩
def PWR_ENTRY_STAT.last_abort : Field := ⟨0x0890, 8, 5⟩
def PWR_ENTRY_STAT.sleeps : Field := ⟨0x0890, 16, 16⟩
def PWR_PERF_ERR.degraded : Field := ⟨0x0894, 0, 16⟩
def HIF_SQ_BASE_LO.addr (n : Nat) : Field := ⟨0x1000 + 0x40 * n, 0, 32⟩
def HIF_SQ_BASE_HI.addr (n : Nat) : Field := ⟨0x1004 + 0x40 * n, 0, 32⟩
def HIF_CQ_BASE_LO.addr (n : Nat) : Field := ⟨0x1008 + 0x40 * n, 0, 32⟩
def HIF_CQ_BASE_HI.addr (n : Nat) : Field := ⟨0x100C + 0x40 * n, 0, 32⟩
def HIF_RING_CTL.sq_log2 (n : Nat) : Field := ⟨0x1010 + 0x40 * n, 0, 4⟩
def HIF_RING_CTL.cq_log2 (n : Nat) : Field := ⟨0x1010 + 0x40 * n, 4, 4⟩
def HIF_RING_CTL.en (n : Nat) : Field := ⟨0x1010 + 0x40 * n, 8, 1⟩
def HIF_QUOTA.quota (n : Nat) : Field := ⟨0x1014 + 0x40 * n, 0, 8⟩
def HIF_COAL.count (n : Nat) : Field := ⟨0x1018 + 0x40 * n, 0, 8⟩
def HIF_COAL.time_us (n : Nat) : Field := ⟨0x1018 + 0x40 * n, 8, 16⟩
def HIF_STATUS.sq_head (n : Nat) : Field := ⟨0x101C + 0x40 * n, 0, 12⟩
def HIF_STATUS.in_flight (n : Nat) : Field := ⟨0x101C + 0x40 * n, 12, 8⟩
def HIF_STATUS.eff_quota (n : Nat) : Field := ⟨0x101C + 0x40 * n, 20, 8⟩
def HIF_STATUS.enabled (n : Nat) : Field := ⟨0x101C + 0x40 * n, 28, 1⟩
def HIF_STATUS.armed (n : Nat) : Field := ⟨0x101C + 0x40 * n, 29, 1⟩
def HIF_STATUS.faulted (n : Nat) : Field := ⟨0x101C + 0x40 * n, 30, 1⟩
def HIF_CQ_TAIL.tail (n : Nat) : Field := ⟨0x1020 + 0x40 * n, 0, 12⟩
def HIF_CQ_TAIL.phase (n : Nat) : Field := ⟨0x1020 + 0x40 * n, 12, 1⟩
def HIF_FAULT.cause (n : Nat) : Field := ⟨0x1024 + 0x40 * n, 0, 4⟩
def HIF_EVCNT.backlog (n : Nat) : Field := ⟨0x1028 + 0x40 * n, 0, 6⟩
def HIF_EVCNT.overflow (n : Nat) : Field := ⟨0x1028 + 0x40 * n, 16, 16⟩
def HIF_FAULT_STATUS.client : Field := ⟨0x1400, 0, 16⟩
def HIF_FAULT_STATUS.internal : Field := ⟨0x1400, 16, 1⟩
def HIF_IRQ_SUMMARY.src : Field := ⟨0x1404, 0, 17⟩
def HIF_LINK_STATUS.speed : Field := ⟨0x1408, 0, 2⟩
def HIF_LINK_STATUS.lpm : Field := ⟨0x1408, 2, 3⟩
def HIF_LINK_STATUS.dstate : Field := ⟨0x1408, 5, 2⟩
def HIF_WAKE_CTL.answer : Field := ⟨0x140C, 0, 1⟩
def HIF_WAKE_CTL.sb_req : Field := ⟨0x140C, 1, 1⟩
def HIF_LTR.tol_us : Field := ⟨0x1410, 0, 16⟩
def HIF_ERR.bad_access : Field := ⟨0x1414, 0, 8⟩
def HIF_ERR.stale_reply : Field := ⟨0x1414, 8, 8⟩
def HIF_ERR.buf_dma : Field := ⟨0x1414, 16, 8⟩
def SBY_CTL.irq_en : Field := ⟨0x1800, 0, 1⟩
def SBY_HOST_WAKE.active : Field := ⟨0x1804, 0, 1⟩
def SBY_HOST_WAKE.test : Field := ⟨0x1804, 1, 1⟩
def SBY_HOST_WAKE.req_wake_n : Field := ⟨0x1804, 2, 1⟩
def SBY_STATUS.status : Field := ⟨0x1808, 0, 8⟩
def SBY_STATUS.overflow : Field := ⟨0x1808, 8, 8⟩
def SBY_STATUS.rejects : Field := ⟨0x1808, 16, 8⟩
def LINE_PORT_CTL.a_en : Field := ⟨0x2000, 0, 1⟩
def LINE_PORT_CTL.a_term : Field := ⟨0x2000, 1, 1⟩
def LINE_PORT_CTL.b_en : Field := ⟨0x2000, 2, 1⟩
def LINE_PORT_CTL.b_term : Field := ⟨0x2000, 3, 1⟩
def LINE_NOISE.a_noise : Field := ⟨0x2008, 0, 12⟩
def LINE_NOISE.b_noise : Field := ⟨0x2008, 16, 12⟩
def LINE_BELL_CTL.min_level : Field := ⟨0x200C, 0, 10⟩
def LINE_BELL_CTL.margin : Field := ⟨0x200C, 12, 2⟩
def LINE_EQ_CTL.dd_adapt : Field := ⟨0x2010, 0, 1⟩
def LINE_EQ_CTL.stale_after : Field := ⟨0x2010, 4, 4⟩
def LINE_EQ_TRAINEDA.trained (n : Nat) : Field := ⟨0x2020 + 0x4 * n, 0, 32⟩
def LINE_EQ_TRAINEDB.trained (n : Nat) : Field := ⟨0x2060 + 0x4 * n, 0, 32⟩
def LINE_EQ_STALEA.stale (n : Nat) : Field := ⟨0x2030 + 0x4 * n, 0, 32⟩
def LINE_EQ_STALEB.stale (n : Nat) : Field := ⟨0x2070 + 0x4 * n, 0, 32⟩
def LINE_RX_ERR0.beacon_crc : Field := ⟨0x2040, 0, 16⟩
def LINE_RX_ERR0.slot_crc : Field := ⟨0x2040, 16, 16⟩
def LINE_RX_ERR0_B.beacon_crc : Field := ⟨0x2050, 0, 16⟩
def LINE_RX_ERR0_B.slot_crc : Field := ⟨0x2050, 16, 16⟩
def LINE_RX_ERR1.ledger_crc : Field := ⟨0x2044, 0, 16⟩
def LINE_RX_ERR1.ledger_oversize : Field := ⟨0x2044, 16, 8⟩
def LINE_RX_ERR1.format_reserved : Field := ⟨0x2044, 24, 8⟩
def LINE_RX_ERR1_B.ledger_crc : Field := ⟨0x2054, 0, 16⟩
def LINE_RX_ERR1_B.ledger_oversize : Field := ⟨0x2054, 16, 8⟩
def LINE_RX_ERR1_B.format_reserved : Field := ⟨0x2054, 24, 8⟩
def LINE_RX_ERR2.src_mismatch : Field := ⟨0x2048, 0, 12⟩
def LINE_RX_ERR2.own_addr_seen : Field := ⟨0x2048, 12, 4⟩
def LINE_RX_ERR2.join_crc : Field := ⟨0x2048, 16, 16⟩
def LINE_RX_ERR2_B.src_mismatch : Field := ⟨0x2058, 0, 12⟩
def LINE_RX_ERR2_B.own_addr_seen : Field := ⟨0x2058, 12, 4⟩
def LINE_RX_ERR2_B.join_crc : Field := ⟨0x2058, 16, 16⟩
def LINE_ADDR.addr : Field := ⟨0x2080, 0, 7⟩
def LINE_ADDR.assigned : Field := ⟨0x2080, 7, 1⟩
def LINE_ADDR.rtd : Field := ⟨0x2080, 8, 16⟩
def LINE_ADDR_B.addr : Field := ⟨0x20C0, 0, 7⟩
def LINE_ADDR_B.assigned : Field := ⟨0x20C0, 7, 1⟩
def LINE_ADDR_B.rtd : Field := ⟨0x20C0, 8, 16⟩
def LINE_LINK_STATUS.line_state : Field := ⟨0x2084, 0, 2⟩
def LINE_LINK_STATUS.sleeping_known : Field := ⟨0x2084, 2, 1⟩
def LINE_LINK_STATUS.leases_held : Field := ⟨0x2084, 8, 7⟩
def LINE_LINK_STATUS.queue_pos : Field := ⟨0x2084, 16, 6⟩
def LINE_LINK_STATUS_B.line_state : Field := ⟨0x20C4, 0, 2⟩
def LINE_LINK_STATUS_B.sleeping_known : Field := ⟨0x20C4, 2, 1⟩
def LINE_LINK_STATUS_B.leases_held : Field := ⟨0x20C4, 8, 7⟩
def LINE_LINK_STATUS_B.queue_pos : Field := ⟨0x20C4, 16, 6⟩
def LINE_JOIN_CTL.join_first_log2 : Field := ⟨0x2088, 0, 4⟩
def LINE_JOIN_CTL.join_max_log2 : Field := ⟨0x2088, 4, 4⟩
def LINE_JOIN_CTL_B.join_first_log2 : Field := ⟨0x20C8, 0, 4⟩
def LINE_JOIN_CTL_B.join_max_log2 : Field := ⟨0x20C8, 4, 4⟩
def LINE_QUIET_CTL.quiet_after_s : Field := ⟨0x208C, 0, 16⟩
def LINE_QUIET_CTL.horn_periods : Field := ⟨0x208C, 16, 10⟩
def LINE_QUIET_CTL.join_in_quiet : Field := ⟨0x208C, 26, 1⟩
def LINE_QUIET_CTL_B.quiet_after_s : Field := ⟨0x20CC, 0, 16⟩
def LINE_QUIET_CTL_B.horn_periods : Field := ⟨0x20CC, 16, 10⟩
def LINE_QUIET_CTL_B.join_in_quiet : Field := ⟨0x20CC, 26, 1⟩
def LINE_LINK_ERR.ledger_dup : Field := ⟨0x2090, 0, 8⟩
def LINE_LINK_ERR.ledger_bad_type : Field := ⟨0x2090, 8, 8⟩
def LINE_LINK_ERR.cycle_short : Field := ⟨0x2090, 16, 8⟩
def LINE_LINK_ERR.cycle_long : Field := ⟨0x2090, 24, 8⟩
def LINE_LINK_ERR_B.ledger_dup : Field := ⟨0x20D0, 0, 8⟩
def LINE_LINK_ERR_B.ledger_bad_type : Field := ⟨0x20D0, 8, 8⟩
def LINE_LINK_ERR_B.cycle_short : Field := ⟨0x20D0, 16, 8⟩
def LINE_LINK_ERR_B.cycle_long : Field := ⟨0x20D0, 24, 8⟩
def LINE_LINK_ERR2.leases_lapsed : Field := ⟨0x2094, 0, 8⟩
def LINE_LINK_ERR2.join_retries : Field := ⟨0x2094, 8, 8⟩
def LINE_LINK_ERR2.ledger_timeouts : Field := ⟨0x2094, 16, 8⟩
def LINE_LINK_ERR2.mismatch_events : Field := ⟨0x2094, 24, 8⟩
def LINE_LINK_ERR2_B.leases_lapsed : Field := ⟨0x20D4, 0, 8⟩
def LINE_LINK_ERR2_B.join_retries : Field := ⟨0x20D4, 8, 8⟩
def LINE_LINK_ERR2_B.ledger_timeouts : Field := ⟨0x20D4, 16, 8⟩
def LINE_LINK_ERR2_B.mismatch_events : Field := ⟨0x20D4, 24, 8⟩
def LINE_LEASE_HELD0.held : Field := ⟨0x2098, 0, 32⟩
def LINE_LEASE_HELD0_B.held : Field := ⟨0x20D8, 0, 32⟩
def LINE_LEASE_HELD1.held : Field := ⟨0x209C, 0, 32⟩
def LINE_LEASE_HELD1_B.held : Field := ⟨0x20DC, 0, 32⟩
def LINE_ROLE.master_en : Field := ⟨0x2100, 0, 1⟩
def LINE_ROLE.rearguard_en : Field := ⟨0x2100, 1, 1⟩
def LINE_ROLE.way_en : Field := ⟨0x2100, 2, 1⟩
def LINE_ROLE.priority : Field := ⟨0x2100, 4, 4⟩
def LINE_ROOT_ID.line_id : Field := ⟨0x2104, 0, 32⟩
def LINE_ELECT_CTL.listen_cycles : Field := ⟨0x2108, 0, 16⟩
def LINE_HEAD_BUDGET.budget_dw : Field := ⟨0x210C, 0, 16⟩
def LINE_HEAD_BUDGET.admitted_dw : Field := ⟨0x210C, 16, 16⟩
def LINE_MASTER_STATUS.role : Field := ⟨0x2110, 0, 2⟩
def LINE_MASTER_STATUS.established : Field := ⟨0x2110, 2, 1⟩
def LINE_MASTER_STATUS.re_ranging : Field := ⟨0x2110, 3, 1⟩
def LINE_MASTER_STATUS.hop : Field := ⟨0x2110, 4, 4⟩
def LINE_MASTER_STATUS.collisions : Field := ⟨0x2110, 8, 8⟩
def LINE_MASTER_STATUS.takeovers : Field := ⟨0x2110, 16, 8⟩
def LINE_CKPT_STATUS.promoted : Field := ⟨0x2114, 0, 32⟩
def LINE_CKPT_ERR.abandoned : Field := ⟨0x2118, 0, 8⟩
def LINE_CKPT_ERR.cold_starts : Field := ⟨0x2118, 8, 8⟩
def LINE_CKPT_ERR.journal_gap : Field := ⟨0x2118, 16, 1⟩
def LINE_CKPT_ERR.over_budget : Field := ⟨0x2118, 17, 1⟩
def LINE_WAY_DOWN.groups (n : Nat) : Field := ⟨0x2120 + 0x4 * n, 0, 32⟩
def LINE_WAY_UP.groups (n : Nat) : Field := ⟨0x2128 + 0x4 * n, 0, 32⟩
def LINE_WAY_STATUS.b_role : Field := ⟨0x2130, 0, 2⟩
def LINE_WAY_STATUS.island : Field := ⟨0x2130, 2, 1⟩
def LINE_WAY_STATUS.proxy_down : Field := ⟨0x2130, 3, 7⟩
def LINE_WAY_STATUS.proxy_up : Field := ⟨0x2130, 10, 7⟩
def MIX_CTL.en : Field := ⟨0x2800, 0, 1⟩
def MIX_CTL.comfort_en : Field := ⟨0x2800, 1, 1⟩
def MIX_CTL.spk_en : Field := ⟨0x2800, 2, 1⟩
def MIX_CTL.tdm_en : Field := ⟨0x2800, 3, 1⟩
def MIX_CTL.aec_ref_tdm : Field := ⟨0x2800, 4, 1⟩
def MIX_CTL.port_b : Field := ⟨0x2800, 5, 1⟩
def MIX_LISTEN0.groups : Field := ⟨0x2810, 0, 32⟩
def MIX_LISTEN1.groups : Field := ⟨0x2814, 0, 32⟩
def MIX_ROOM.room_id : Field := ⟨0x2818, 0, 16⟩
def MIX_LISTEN_LOCK0.groups : Field := ⟨0x281C, 0, 32⟩
def MIX_LISTEN_LOCK1.groups : Field := ⟨0x2820, 0, 32⟩
def MIX_GAIN.gain (n : Nat) : Field := ⟨0x2840 + 0x4 * n, 0, 32⟩
def MIX_GROUP_PREC.floor (n : Nat) : Field := ⟨0x2880 + 0x4 * n, 0, 32⟩
def MIX_DUCK0.prio_db : Field := ⟨0x28A0, 0, 6⟩
def MIX_DUCK0.page_db : Field := ⟨0x28A0, 8, 6⟩
def MIX_DUCK0.emerg_db : Field := ⟨0x28A0, 16, 6⟩
def MIX_DUCK0.act_level : Field := ⟨0x28A0, 24, 8⟩
def MIX_DUCK1.hold_cycles : Field := ⟨0x28A4, 0, 16⟩
def MIX_SPK_VOL.vol : Field := ⟨0x28A8, 0, 7⟩
def MIX_SPK_VOL.mute : Field := ⟨0x28A8, 7, 1⟩
def MIX_EMERG.floor : Field := ⟨0x28AC, 0, 6⟩
def MIX_EMERG.max_makeup : Field := ⟨0x28AC, 8, 6⟩
def MIX_PUSH_CTL.accept : Field := ⟨0x28B0, 0, 1⟩
def MIX_PUSH_CTL.min_prec : Field := ⟨0x28B0, 1, 2⟩
def MIX_CU_CTL.sil_dbfs : Field := ⟨0x28B4, 0, 6⟩
def MIX_CU_CTL.sil_keep_ms : Field := ⟨0x28B4, 8, 8⟩
def MIX_TDM_CTL.format : Field := ⟨0x28C0, 0, 2⟩
def MIX_TDM_CTL.slot32 : Field := ⟨0x28C0, 2, 1⟩
def MIX_TDM_CTL.width : Field := ⟨0x28C0, 3, 2⟩
def MIX_TDM_CTL.master : Field := ⟨0x28C0, 5, 1⟩
def MIX_TDM_MAP.func (n : Nat) : Field := ⟨0x28C4 + 0x4 * n, 0, 4⟩
def MIX_TDM_MAP.gain (n : Nat) : Field := ⟨0x28C4 + 0x4 * n, 4, 8⟩
def MIX_CHIME_TONE.freq_hz (n : Nat) : Field := ⟨0x2900 + 0x4 * n, 0, 13⟩
def MIX_CHIME_CAD.tones (n : Nat) : Field := ⟨0x2920 + 0x4 * n, 0, 4⟩
def MIX_CHIME_CAD.level (n : Nat) : Field := ⟨0x2920 + 0x4 * n, 4, 6⟩
def MIX_CHIME_CAD.cycles (n : Nat) : Field := ⟨0x2920 + 0x4 * n, 10, 10⟩
def MIX_CHIME_CAD.last (n : Nat) : Field := ⟨0x2920 + 0x4 * n, 20, 1⟩
def MIX_CHIME_PAT.first (n : Nat) : Field := ⟨0x2960 + 0x4 * n, 0, 4⟩
def MIX_CHIME_PAT.repeat (n : Nat) : Field := ⟨0x2960 + 0x4 * n, 4, 8⟩
def MIX_STATUS.top_prec : Field := ⟨0x29C0, 0, 2⟩
def MIX_STATUS.cu_active : Field := ⟨0x29C0, 2, 1⟩
def MIX_STATUS.asrc_locked : Field := ⟨0x29C0, 3, 1⟩
def MIX_STATUS.spk_fault : Field := ⟨0x29C0, 4, 1⟩
def MIX_STATUS.pushed : Field := ⟨0x29C0, 5, 1⟩
def MIX_STATUS.makeup_on : Field := ⟨0x29C0, 6, 1⟩
def MIX_ERR.concealed : Field := ⟨0x29C4, 0, 16⟩
def MIX_ERR.cu_skipped : Field := ⟨0x29C4, 16, 4⟩
def MIX_ERR.cu_stall : Field := ⟨0x29C4, 20, 4⟩
def MIX_ERR.limit : Field := ⟨0x29C4, 24, 8⟩
def ECH_MICPOS.x (n : Nat) : Field := ⟨0x3000 + 0x4 * n, 0, 16⟩
def ECH_MICPOS.y (n : Nat) : Field := ⟨0x3000 + 0x4 * n, 16, 16⟩
def ECH_BEAM_CTL.mode (n : Nat) : Field := ⟨0x3020 + 0x4 * n, 0, 2⟩
def ECH_BEAM_CTL.preset (n : Nat) : Field := ⟨0x3020 + 0x4 * n, 2, 3⟩
def ECH_PRESET.azimuth (n : Nat) : Field := ⟨0x3030 + 0x4 * n, 0, 7⟩
def ECH_PRESET.half_width (n : Nat) : Field := ⟨0x3030 + 0x4 * n, 8, 7⟩
def ECH_AEC_CTL.en : Field := ⟨0x3050, 0, 1⟩
def ECH_AEC_CTL.tail : Field := ⟨0x3050, 1, 3⟩
def ECH_AEC_CTL.layout : Field := ⟨0x3050, 4, 1⟩
def ECH_AEC_CTL.beams : Field := ⟨0x3050, 5, 2⟩
def ECH_AEC_CTL.dt_margin : Field := ⟨0x3050, 8, 4⟩
def ECH_REF0_CTL.bulk : Field := ⟨0x3054, 0, 9⟩
def ECH_REF1_CTL.bulk : Field := ⟨0x3058, 0, 9⟩
def ECH_REF1_CTL.src : Field := ⟨0x3058, 9, 2⟩
def ECH_SUPP_CTL.strength : Field := ⟨0x305C, 0, 2⟩
def ECH_SUPP_CTL.cn_en : Field := ⟨0x305C, 2, 1⟩
def ECH_SUPP_CTL.release_cycles : Field := ⟨0x305C, 3, 10⟩
def ECH_SUPP_CTL.release_db : Field := ⟨0x305C, 16, 6⟩
def ECH_HOWL_CTL.en : Field := ⟨0x3060, 0, 1⟩
def ECH_HOWL_CTL.par_db : Field := ⟨0x3060, 2, 6⟩
def ECH_HOWL_CTL.hold_cycles : Field := ⟨0x3060, 8, 8⟩
def ECH_STATUS.reconv : Field := ⟨0x3080, 0, 1⟩
def ECH_STATUS.dt : Field := ⟨0x3080, 1, 2⟩
def ECH_STATUS.erle : Field := ⟨0x3080, 8, 8⟩
def ECH_STATUS.notches : Field := ⟨0x3080, 16, 3⟩
def ECH_STATUS.howl_cut : Field := ⟨0x3080, 19, 3⟩
def ECH_HOWL_FREQ.freq_hz (n : Nat) : Field := ⟨0x3084 + 0x4 * n, 0, 13⟩
def ECH_ERR.diverged : Field := ⟨0x3094, 0, 16⟩
def ECH_ERR.howls : Field := ⟨0x3094, 16, 16⟩
def CALL_CTL.voice_answer : Field := ⟨0x3800, 0, 1⟩
def CALL_CTL.voice_call : Field := ⟨0x3800, 1, 1⟩
def CALL_CTL.place_prec : Field := ⟨0x3800, 2, 2⟩
def CALL_CTL.end_hold : Field := ⟨0x3800, 4, 12⟩
def CALL_RING_CTL.ring_en : Field := ⟨0x3804, 0, 1⟩
def CALL_RING_CTL.min_prec : Field := ⟨0x3804, 1, 2⟩
def CALL_RING_CTL.timeout_s : Field := ⟨0x3804, 4, 8⟩
def CALL_RING_CTL.pat_routine : Field := ⟨0x3804, 12, 3⟩
def CALL_RING_CTL.pat_priority : Field := ⟨0x3804, 16, 3⟩
def CALL_RING_CTL.pat_page : Field := ⟨0x3804, 20, 3⟩
def CALL_RING_CTL.pat_emerg : Field := ⟨0x3804, 24, 3⟩
def CALL_AUTO_CTL.en : Field := ⟨0x3808, 0, 1⟩
def CALL_AUTO_CTL.min_prec : Field := ⟨0x3808, 1, 2⟩
def CALL_AUTO_GRP.groups (n : Nat) : Field := ⟨0x380C + 0x4 * n, 0, 32⟩
def CALL_KEY_CTL.decline_gpio : Field := ⟨0x3814, 0, 3⟩
def CALL_KEY_CTL.decline_en : Field := ⟨0x3814, 3, 1⟩
def CALL_TONE_CTL0.freq_hz (n : Nat) : Field := ⟨0x3840 + 0x8 * n, 0, 13⟩
def CALL_TONE_CTL0.bw (n : Nat) : Field := ⟨0x3840 + 0x8 * n, 13, 2⟩
def CALL_TONE_CTL0.level (n : Nat) : Field := ⟨0x3840 + 0x8 * n, 15, 6⟩
def CALL_TONE_CTL0.ratio (n : Nat) : Field := ⟨0x3840 + 0x8 * n, 21, 5⟩
def CALL_TONE_CTL0.input (n : Nat) : Field := ⟨0x3840 + 0x8 * n, 26, 3⟩
def CALL_TONE_CTL0.act_ev (n : Nat) : Field := ⟨0x3840 + 0x8 * n, 29, 1⟩
def CALL_TONE_CTL0.act_flag (n : Nat) : Field := ⟨0x3840 + 0x8 * n, 30, 1⟩
def CALL_TONE_CTL0.act_call (n : Nat) : Field := ⟨0x3840 + 0x8 * n, 31, 1⟩
def CALL_TONE_CTL1.on_cycles (n : Nat) : Field := ⟨0x3844 + 0x8 * n, 0, 8⟩
def CALL_TONE_CTL1.gap_cycles (n : Nat) : Field := ⟨0x3844 + 0x8 * n, 8, 8⟩
def CALL_TONE_CTL1.group (n : Nat) : Field := ⟨0x3844 + 0x8 * n, 16, 6⟩
def CALL_TONE_CTL1.prec (n : Nat) : Field := ⟨0x3844 + 0x8 * n, 22, 2⟩
def CALL_TONE_CTL1.partner (n : Nat) : Field := ⟨0x3844 + 0x8 * n, 24, 4⟩
def CALL_TONE_CTL1.pair_en (n : Nat) : Field := ⟨0x3844 + 0x8 * n, 28, 1⟩
def CALL_ACT_GRP.groups (n : Nat) : Field := ⟨0x3900 + 0x4 * n, 0, 32⟩
def CALL_ACT_SLOT.slots (n : Nat) : Field := ⟨0x3908 + 0x4 * n, 0, 32⟩
def CALL_ACT_SEEN.groups (n : Nat) : Field := ⟨0x3910 + 0x4 * n, 0, 32⟩
def CALL_STATUS.records : Field := ⟨0x3918, 0, 4⟩
def CALL_STATUS.ringing : Field := ⟨0x3918, 4, 3⟩
def CALL_STATUS.ring_on : Field := ⟨0x3918, 7, 1⟩
def CALL_STATUS.missed : Field := ⟨0x3918, 8, 8⟩
def CALL_STATUS.dropped : Field := ⟨0x3918, 16, 8⟩
def CALL_STATUS.tones_on : Field := ⟨0x3918, 24, 8⟩
def CALL_TONE_STATUS.started : Field := ⟨0x391C, 0, 16⟩
def MIC_CHAN_CTL.chan_en : Field := ⟨0x4000, 0, 8⟩
def MIC_CHAN_CTL.hpf_en : Field := ⟨0x4000, 8, 1⟩
def MIC_MODE_CTL.force : Field := ⟨0x4004, 0, 2⟩
def MIC_MODE_CTL.settle_cycles : Field := ⟨0x4004, 4, 4⟩
def MIC_MODE_CTL.start_cycles : Field := ⟨0x4004, 8, 8⟩
def MIC_MODE_CTL.idle_cycles : Field := ⟨0x4004, 16, 16⟩
def MIC_TRIM.gain (n : Nat) : Field := ⟨0x4010 + 0x4 * n, 0, 8⟩
def MIC_MUTE_STATUS.muted : Field := ⟨0x4040, 0, 1⟩
def MIC_MUTE_STATUS.sw_level : Field := ⟨0x4040, 1, 1⟩
def MIC_MUTE_STATUS.mute_count : Field := ⟨0x4040, 8, 8⟩
def MIC_FAULT_STATUS.faulted : Field := ⟨0x4050, 0, 8⟩
def MIC_FAULT_STATUS.stuck : Field := ⟨0x4050, 8, 8⟩
def MIC_FAULT_CAUSE.cause : Field := ⟨0x4054, 0, 16⟩
def MIC_PROBE_CTL.en : Field := ⟨0x4058, 0, 1⟩
def MIC_PROBE_CTL.retry_s : Field := ⟨0x4058, 8, 8⟩
def MIC_STATUS.mode : Field := ⟨0x4060, 0, 2⟩
def MIC_STATUS.settling : Field := ⟨0x4060, 2, 1⟩
def MIC_STATUS.healthy : Field := ⟨0x4060, 8, 8⟩
def MIC_ERR.bridged : Field := ⟨0x4064, 0, 16⟩
def MIC_ERR.probes : Field := ⟨0x4064, 16, 8⟩
def WAKE_CTL.en : Field := ⟨0x4800, 0, 1⟩
def WAKE_CTL.beam : Field := ⟨0x4800, 1, 1⟩
def WAKE_CTL.threshold : Field := ⟨0x4800, 8, 8⟩
def WAKE_CTL.refractory_cycles : Field := ⟨0x4800, 16, 16⟩
def WAKE_MODEL.loaded : Field := ⟨0x4804, 0, 1⟩
def WAKE_MODEL.size_kb : Field := ⟨0x4804, 8, 8⟩
def WAKE_MODEL.max_phrase : Field := ⟨0x4804, 16, 5⟩
def WAKE_HIST_CTL.depth : Field := ⟨0x4810, 0, 3⟩
def WAKE_HIST_CTL.two_ch : Field := ⟨0x4810, 3, 1⟩
def WAKE_HIST_CTL.ch0_src : Field := ⟨0x4810, 4, 2⟩
def WAKE_HIST_CTL.ch1_src : Field := ⟨0x4810, 6, 2⟩
def WAKE_HIST_OLDEST_LO.index_lo : Field := ⟨0x4814, 0, 32⟩
def WAKE_HIST_OLDEST_HI.index_hi : Field := ⟨0x4818, 0, 32⟩
def WAKE_LAST_START_LO.start_lo : Field := ⟨0x4820, 0, 32⟩
def WAKE_LAST_START_HI.start_hi : Field := ⟨0x4824, 0, 32⟩
def WAKE_LAST_CYCLE.cycle : Field := ⟨0x4828, 0, 32⟩
def WAKE_ERR.refractory : Field := ⟨0x4830, 0, 8⟩
def WAKE_ERR.fetch_overrun : Field := ⟨0x4830, 8, 8⟩
def WAKE_ERR.mute_discard : Field := ⟨0x4830, 16, 8⟩
def TAG_CTL.speed : Field := ⟨0x5000, 0, 2⟩
def TAG_CTL.writer_id : Field := ⟨0x5000, 8, 8⟩
def TAG_STATUS.present : Field := ⟨0x5004, 0, 1⟩
def TAG_STATUS.identity_ok : Field := ⟨0x5004, 1, 1⟩
def TAG_STATUS.expired : Field := ⟨0x5004, 2, 1⟩
def TAG_STATUS.lock_seen : Field := ⟨0x5004, 3, 1⟩
def TAG_STATUS.life_pct : Field := ⟨0x5004, 8, 8⟩
def TAG_STATUS.deferred : Field := ⟨0x5004, 16, 7⟩
def TAG_SERIAL_LO.serial_lo : Field := ⟨0x5008, 0, 32⟩
def TAG_SERIAL_HI.serial_hi : Field := ⟨0x500C, 0, 32⟩
def TAG_INSERTIONS.total : Field := ⟨0x5010, 0, 32⟩
def TAG_ENERGY.total_mj : Field := ⟨0x5014, 0, 32⟩
def TAG_ARB.byte : Field := ⟨0x5018, 0, 8⟩
def TAG_ARB.bit : Field := ⟨0x5018, 8, 3⟩
def TAG_ARB.losses : Field := ⟨0x5018, 16, 8⟩
def TAG_ERR.contended : Field := ⟨0x501C, 0, 8⟩
def TAG_ERR.torn : Field := ⟨0x501C, 8, 8⟩
def TAG_ERR.defer_merged : Field := ⟨0x501C, 16, 8⟩
def TAG_ERR.dropped_removed : Field := ⟨0x501C, 24, 8⟩
def TOLL_POLY.poly (n : Nat) : Field := ⟨0x5800 + 0x100 * n, 0, 32⟩
def TOLL_INIT.init (n : Nat) : Field := ⟨0x5804 + 0x100 * n, 0, 32⟩
def TOLL_XOROUT.xorout (n : Nat) : Field := ⟨0x5808 + 0x100 * n, 0, 32⟩
def TOLL_CFG.width (n : Nat) : Field := ⟨0x580C + 0x100 * n, 0, 6⟩
def TOLL_CFG.refin (n : Nat) : Field := ⟨0x580C + 0x100 * n, 8, 1⟩
def TOLL_CFG.refout (n : Nat) : Field := ⟨0x580C + 0x100 * n, 9, 1⟩
def TOLL_CFG.fold_after (n : Nat) : Field := ⟨0x580C + 0x100 * n, 10, 1⟩
def TOLL_CFG.fold_order (n : Nat) : Field := ⟨0x580C + 0x100 * n, 11, 1⟩
def TOLL_CFG.out_order (n : Nat) : Field := ⟨0x580C + 0x100 * n, 12, 1⟩
def TOLL_CFG.fold_len (n : Nat) : Field := ⟨0x580C + 0x100 * n, 16, 4⟩
def TOLL_FOLD_LO.fold_lo (n : Nat) : Field := ⟨0x5810 + 0x100 * n, 0, 32⟩
def TOLL_FOLD_HI.fold_hi (n : Nat) : Field := ⟨0x5814 + 0x100 * n, 0, 32⟩
def TOLL_EXPECT.expect (n : Nat) : Field := ⟨0x5818 + 0x100 * n, 0, 32⟩
def TOLL_CMD.mode (n : Nat) : Field := ⟨0x5820 + 0x100 * n, 0, 2⟩
def TOLL_CMD.start (n : Nat) : Field := ⟨0x5820 + 0x100 * n, 4, 1⟩
def TOLL_CMD.finish (n : Nat) : Field := ⟨0x5820 + 0x100 * n, 5, 1⟩
def TOLL_CMD.abort (n : Nat) : Field := ⟨0x5820 + 0x100 * n, 6, 1⟩
def TOLL_DATA8.data (n : Nat) : Field := ⟨0x5830 + 0x100 * n, 0, 8⟩
def TOLL_DATA16.data (n : Nat) : Field := ⟨0x5834 + 0x100 * n, 0, 16⟩
def TOLL_DATA32.data (n : Nat) : Field := ⟨0x5838 + 0x100 * n, 0, 32⟩
def TOLL_VALUE.value (n : Nat) : Field := ⟨0x5840 + 0x100 * n, 0, 32⟩
def TOLL_RAW.raw (n : Nat) : Field := ⟨0x5844 + 0x100 * n, 0, 32⟩
def TOLL_STATUS.holder (n : Nat) : Field := ⟨0x5848 + 0x100 * n, 0, 2⟩
def TOLL_STATUS.job (n : Nat) : Field := ⟨0x5848 + 0x100 * n, 2, 1⟩
def TOLL_STATUS.busy (n : Nat) : Field := ⟨0x5848 + 0x100 * n, 3, 1⟩
def TOLL_STATUS.done (n : Nat) : Field := ⟨0x5848 + 0x100 * n, 4, 1⟩
def TOLL_STATUS.match (n : Nat) : Field := ⟨0x5848 + 0x100 * n, 5, 1⟩
def TOLL_STATUS.claim_refused (n : Nat) : Field := ⟨0x5848 + 0x100 * n, 6, 1⟩
def TOLL_COUNT.bytes (n : Nat) : Field := ⟨0x584C + 0x100 * n, 0, 32⟩
def TOLL_ERR.idle_writes (n : Nat) : Field := ⟨0x5850 + 0x100 * n, 0, 8⟩
def TOLL_ERR.foreign_writes (n : Nat) : Field := ⟨0x5850 + 0x100 * n, 8, 8⟩
def TOLL_ERR.mismatches (n : Nat) : Field := ⟨0x5850 + 0x100 * n, 16, 8⟩
def DBG_HALT_CTL.mask : Field := ⟨0x6000, 0, 4⟩
def DBG_HALT_CTL.halt_on_fault : Field := ⟨0x6000, 4, 1⟩
def DBG_HALT_CTL.xtrig_in_en : Field := ⟨0x6000, 8, 1⟩
def DBG_HALT_CTL.xtrig_in_gpio : Field := ⟨0x6000, 9, 3⟩
def DBG_HALT_CTL.xtrig_out_en : Field := ⟨0x6000, 12, 1⟩
def DBG_HALT_CTL.xtrig_out_gpio : Field := ⟨0x6000, 13, 3⟩
def DBG_HALT_STATUS.halted : Field := ⟨0x6004, 0, 4⟩
def DBG_HALT_STATUS.cc_cause : Field := ⟨0x6004, 4, 4⟩
def DBG_HALT_STATUS.ae0_cause : Field := ⟨0x6004, 8, 4⟩
def DBG_HALT_STATUS.ae1_cause : Field := ⟨0x6004, 12, 4⟩
def DBG_HALT_STATUS.ls_cause : Field := ⟨0x6004, 16, 4⟩
def DBG_HALT_STATUS.halts : Field := ⟨0x6004, 24, 8⟩
def DBG_MON_CTL.baud : Field := ⟨0x6010, 0, 3⟩
def DBG_MON_CTL.idle_s : Field := ⟨0x6010, 8, 8⟩
def DBG_MON_STATUS.resident_up : Field := ⟨0x6014, 0, 1⟩
def DBG_MON_STATUS.tampered : Field := ⟨0x6014, 1, 1⟩
def DBG_MON_STATUS.sessions : Field := ⟨0x6014, 4, 4⟩
def DBG_MON_STATUS.crc_errors : Field := ⟨0x6014, 8, 8⟩
def DBG_MON_STATUS.busy : Field := ⟨0x6014, 16, 8⟩
def DBG_MON_STATUS.line_discards : Field := ⟨0x6014, 24, 8⟩
def DBG_TRACE_CTL.en : Field := ⟨0x6020, 0, 1⟩
def DBG_TRACE_CTL.sink : Field := ⟨0x6020, 1, 2⟩
def DBG_TRACE_CTL.stop_on_halt : Field := ⟨0x6020, 3, 1⟩
def DBG_TRACE_CTL.post_count : Field := ⟨0x6020, 4, 12⟩
def DBG_STIM_EN.ports : Field := ⟨0x6024, 0, 32⟩
def DBG_TRACE_STATUS.write_index : Field := ⟨0x6028, 0, 10⟩
def DBG_TRACE_STATUS.wrapped : Field := ⟨0x6028, 11, 1⟩
def DBG_TRACE_STATUS.stopped : Field := ⟨0x6028, 12, 1⟩
def DBG_TRACE_STATUS.overflow : Field := ⟨0x6028, 16, 16⟩
def CFG_CTL.warm_restart : Field := ⟨0x6800, 0, 1⟩
def CFG_NODE.declared_class : Field := ⟨0x6804, 0, 2⟩
def CFG_WDT.timeout_s : Field := ⟨0x6808, 0, 6⟩
def CFG_WDT.expiries : Field := ⟨0x6808, 8, 8⟩
def CFG_EPOCH.current : Field := ⟨0x6810, 0, 16⟩
def CFG_EPOCH.mixed : Field := ⟨0x6810, 16, 1⟩
def CFG_EPOCH_VEC0.atomic : Field := ⟨0x6814, 0, 8⟩
def CFG_EPOCH_VEC0.ech : Field := ⟨0x6814, 8, 8⟩
def CFG_EPOCH_VEC0.mic_wake : Field := ⟨0x6814, 16, 8⟩
def CFG_EPOCH_VEC0.tdm : Field := ⟨0x6814, 24, 8⟩
def CFG_EPOCH_VEC1.eq : Field := ⟨0x6818, 0, 8⟩
def CFG_EPOCH_VEC1.pclass : Field := ⟨0x6818, 8, 8⟩
def CFG_STAGE.entries : Field := ⟨0x681C, 0, 9⟩
def CFG_STAGE.owner : Field := ⟨0x681C, 16, 5⟩
def CFG_APPLY_CYCLE.cycle : Field := ⟨0x6820, 0, 32⟩
def CFG_GEN0.cc : Field := ⟨0x6830, 0, 8⟩
def CFG_GEN0.ae0 : Field := ⟨0x6830, 8, 8⟩
def CFG_GEN0.ae1 : Field := ⟨0x6830, 16, 8⟩
def CFG_GEN0.ls : Field := ⟨0x6830, 24, 8⟩
def CFG_GEN1.hif : Field := ⟨0x6834, 0, 8⟩
def CFG_GEN1.sby : Field := ⟨0x6834, 8, 8⟩
def CFG_GEN1.tag : Field := ⟨0x6834, 16, 8⟩
def CFG_GEN1.toll : Field := ⟨0x6834, 24, 8⟩
def CFG_BOOT_STATUS.manifest_err : Field := ⟨0x6840, 0, 4⟩
def CFG_BOOT_STATUS.patch_err : Field := ⟨0x6840, 4, 4⟩
def CFG_BOOT_STATUS.reg_skipped : Field := ⟨0x6840, 8, 8⟩
def CFG_BOOT_STATUS.rec_skipped : Field := ⟨0x6840, 16, 8⟩
def CFG_BOOT_STATUS.wake_model_rejected : Field := ⟨0x6840, 24, 1⟩
def CFG_RESET_CAUSE.power_on : Field := ⟨0x6844, 0, 1⟩
def CFG_RESET_CAUSE.reset_pin : Field := ⟨0x6844, 1, 1⟩
def CFG_RESET_CAUSE.watchdog : Field := ⟨0x6844, 2, 1⟩
def CFG_RESET_CAUSE.monitor : Field := ⟨0x6844, 3, 1⟩
def CFG_RESET_CAUSE.warm_overrun : Field := ⟨0x6844, 4, 1⟩
def CFG_RESET_CAUSE.s5_boot : Field := ⟨0x6844, 5, 1⟩
def CFG_RESET_CAUSE.warm_restarts : Field := ⟨0x6844, 16, 8⟩
def CFG_ERR.stale_replies : Field := ⟨0x6848, 0, 8⟩
def CFG_ERR.peer_resets : Field := ⟨0x6848, 8, 8⟩
def PLT_LPC_CYCLE.cycle : Field := ⟨0x7000, 0, 32⟩
def PLT_LPC_SYM.symbol : Field := ⟨0x7004, 0, 14⟩
def PLT_LPC_CYCLE_HI.cycle_hi : Field := ⟨0x7014, 0, 32⟩
def PLT_LPC_STATUS.locked : Field := ⟨0x7008, 0, 1⟩
def PLT_LPC_STATUS.holdover : Field := ⟨0x7008, 1, 1⟩
def PLT_LPC_STATUS.ever_locked : Field := ⟨0x7008, 2, 1⟩
def PLT_LPC_STATUS.line_down : Field := ⟨0x7008, 3, 1⟩
def PLT_LPC_STATUS.missed_beacons : Field := ⟨0x7008, 8, 8⟩
def PLT_LPC_STATUS.rebase_count : Field := ⟨0x7008, 16, 16⟩
def PLT_CLK_ERR.freq_err : Field := ⟨0x700C, 0, 16⟩
def PLT_HOLD_CTL.active_down_cycles : Field := ⟨0x7010, 0, 8⟩
def PLT_HOLD_CTL.quiet_down_beacons : Field := ⟨0x7010, 8, 4⟩
def PLT_STROBE_CTL.symbol (n : Nat) : Field := ⟨0x7020 + 0x4 * n, 0, 14⟩
def PLT_STROBE_CTL.period (n : Nat) : Field := ⟨0x7020 + 0x4 * n, 16, 8⟩
def PLT_STROBE_CTL.gpio (n : Nat) : Field := ⟨0x7020 + 0x4 * n, 24, 3⟩
def PLT_STROBE_CTL.en (n : Nat) : Field := ⟨0x7020 + 0x4 * n, 31, 1⟩
def PLT_CMP_STATUS.armed : Field := ⟨0x7040, 0, 8⟩
def PLT_CMP_STATUS.late : Field := ⟨0x7040, 8, 8⟩
def PLT_CMP_STATUS.rebased : Field := ⟨0x7040, 16, 8⟩
def STK_CTL.en : Field := ⟨0x7800, 0, 1⟩
def STK_CTL.member_id : Field := ⟨0x7800, 1, 2⟩
def STK_STATUS.present : Field := ⟨0x7804, 0, 4⟩
def STK_STATUS.tree_mismatch : Field := ⟨0x7804, 4, 4⟩
def STK_STATUS.window_crc : Field := ⟨0x7804, 8, 8⟩
def STK_GEN.gen : Field := ⟨0x7808, 0, 32⟩
def STK_CLIENT_MAP.member : Field := ⟨0x780C, 0, 32⟩

/-- Gain code of group `g` (Table 6-7). -/
def groupGain (g : Nat) : Field := ⟨0x2840 + 4 * (g / 4), 8 * (g % 4), 8⟩
/-- Precedence floor of group `g` (Table 6-7). -/
def groupFloor (g : Nat) : Field := ⟨0x2880 + 4 * (g / 16), 2 * (g % 16), 2⟩
/-- Refusal count of vote client `c` (Table 13-10). -/
def refuseCnt (c : Nat) : Field := ⟨0x0830 + 4 * (c / 4), 8 * (c % 4), 8⟩
/-- Fault cause of microphone channel `n` (Table 8-4). -/
def micCause (n : Nat) : Field := ⟨0x4054, 2 * n, 2⟩
/-- Member serving client Hn (Table 4-20). -/
def clientMember (n : Nat) : Field := ⟨0x780C, 2 * n, 2⟩
/-- Generation of stack member n (Table 4-19). -/
def stackGen (n : Nat) : Field := ⟨0x7808, 8 * n, 8⟩

end F

end Sys2Proof.Machine
end

