-- ==== Sys2Proof/Machine/State.lean ====
section
/-! DEFINITION. The state of the block: every register, queue, buffer, counter, mode and pin the manual gives it, as plain data, with its
value after reset. Each field's comment names the rule and its reset value; `INVENTORY.md` lists the same. -/

namespace Sys2Proof.Machine

/-- Faults. The manual gives every command of the table an effect, so no command raises one: the type has no constructor. -/
inductive Fault where
  deriving DecidableEq, Repr

/-- Refusals. -/
inductive Refusal where
  /-- Raised by an arm of `exec` for a command that has no meaning yet; safe: nothing is claimed of it. No arm raises it now. -/
  | notModelled (mnemonic : String)
  deriving DecidableEq, Repr

/-! ### Identity, memories and pins -/

/-- The two variants of the line node (Table 0-2). -/
inductive Variant where | l64t | l64b
  deriving DecidableEq, Repr

/-- What is fixed at Obtivor's test for one part (R20). -/
structure Device where
  /-- Variant. Table 0-1; reset DESIGN CHOICE l64b (log 2). -/
  variant : Variant
  /-- UID, 48 bits, in OTP. R20; reset DESIGN CHOICE 0x3B07C14E92D6, the UID of Example 16-1 (log 2). -/
  uid : Uid
  /-- Silicon revision, 8 bits. Table 16-4; reset DESIGN CHOICE 0 (log 2). -/
  silicon : Byte
  /-- ROM revision, 16 bits. Table 16-4; reset DESIGN CHOICE 0 (log 2). -/
  rom : Half
  /-- P57_REV, 8 bits. Table 5-11; reset DESIGN CHOICE 0 (log 2). -/
  p57Rev : Byte
  /-- The 4 KB of OTP. R20; reset DESIGN CHOICE all bytes 0 (log 2). -/
  otp : Cells Byte
  deriving DecidableEq, Repr

/-- Memories outside the registers. -/
structure Mem where
  /-- SRAM, 12 banks of 128 KB, byte o of bank b at 0x20000 b + o. Table 1-4, R609; reset DESIGN CHOICE all 0 (log 3). -/
  sram : Cells Byte
  /-- For each bank, the free value counter at its last loss of contents, 0 for none (R546); 12 numbers. The model's own; reset 0. -/
  lostAt : List Nat
  /-- QSPI flash, erased bytes read 0xFF. R568, R611; reset DESIGN CHOICE erased (log 3). -/
  flash : Cells Byte
  /-- Bytes of flash fitted. R574; reset DESIGN CHOICE 16 MB (log 3). -/
  flashSize : Nat
  deriving DecidableEq, Repr

/-- Levels on the pins (Table 17-13). -/
structure Pins where
  /-- TALK_KEY pressed. R307; reset DESIGN CHOICE false (log 2). -/
  talkKey : Bool
  /-- CART_DET low: a cartridge is in the socket. R470; reset DESIGN CHOICE false (log 2). -/
  cartDet : Bool
  /-- RESET_N low or power-on reset holds the node. R563; reset false: `State.reset` is the node at reset release. -/
  resetHeld : Bool
  /-- PERST_N asserted. R411; reset DESIGN CHOICE true: the host may deassert it later (R565, log 2). -/
  perst : Bool
  /-- PVDD_SPK has fallen below 4.0 V and not risen above 4.2 V since. R674; reset DESIGN CHOICE false (log 2). -/
  pvddLow : Bool
  /-- WAKE_N asserted. R405; reset false (released, Table 17-13). -/
  wakeN : Bool
  /-- GPIO outputs driven high. R34, R616; reset 0 (inputs, Table 17-13). -/
  gpioHigh : BitVec 8
  /-- MUTE_LED. R337; reset true, the mute being on at reset (Table 8-4). -/
  muteLed : Bool
  /-- CALL_LED: rank of the pattern shown, 7 for off. Table 7-5; reset 7. -/
  callLed : Nat
  /-- Cycle in which the shown pattern restarted. R309; reset 0. -/
  callLedSince : Word
  /-- The 32.768 kHz crystal runs. R676; reset true. -/
  rtcCrystal : Bool
  deriving DecidableEq, Repr

/-! ### Line time -/

/-- Something a firmware compare unit waits for (R33). -/
structure Deadline where
  cycle : Word
  sym : Nat
  client : Nat
  id : Half
  deriving DecidableEq, Repr

/-- Line time beside the PLT registers. -/
structure Plt where
  /-- The 64-bit cycle count; its low half is the LPC cycle number. R22, R23; reset 0. -/
  lpc : Dword
  /-- Symbol index, 0 to 15,624. R22; reset 0. -/
  sym : Nat
  /-- Consecutive accepted beacons toward lock, 0 to 3. R26; reset 0. -/
  lockRun : Nat
  /-- Consecutive mismatched beacons. R145; reset 0. -/
  mismatchRun : Nat
  /-- The next accepted beacon rebases. R45, R47; reset true: the first beacon after reset. -/
  firstBeacon : Bool
  /-- The node has left S4 or S5 and its LPC is invalid. R47; reset false. -/
  lpcInvalid : Bool
  /-- The beacon of this cycle was accepted. R43; reset false. -/
  beaconOk : Bool
  /-- The sync of this cycle's beacon matched. R43; reset false. -/
  syncOk : Bool
  /-- Cycles, since reset or the last accepted beacon, without an accepted beacon. R130, R154; reset 0. -/
  silent : Nat
  /-- Cycles of holdover counted toward line down on an Active line, missed Quiet beacons on a Quiet one. R44, R541; reset 0. -/
  holdCount : Nat
  /-- Firmware compare units CMP0 to CMP5 and what each is armed for. R33; reset all free. -/
  units : List (Option Deadline)
  /-- Deadlines waiting for a unit, by due position. R33; reset empty. -/
  waiting : List Deadline
  /-- Strobe pulses running on CMP6 and CMP7. R34; reset none. -/
  strobes : List Bool
  deriving DecidableEq, Repr

/-! ### Line physical layer -/

/-- Equalizer entry states (Table 2-12). -/
inductive EqState where | untrained | trained | stale
  deriving DecidableEq, Repr

/-- An equalizer entry: its state, failed CRCs toward Stale, and the coefficient set (taps, gain, phase) it holds (R83 to R88). -/
structure EqEntry where
  state : EqState
  fails : Nat
  coeff : Nat
  deriving DecidableEq, Repr

/-- What the node drives onto a line port. -/
inductive Burst where
  | beacon (p : Port) (body : List Byte)
  | bell (p : Port) (position pair : Nat) (advance : Nat)
  | ranging (position : Nat)
  | ledger (p : Port) (header payload : List Byte) (crc : Word)
  | slot (p : Port) (k : Nat) (header : Word) (payload : List Byte) (crc : Half)
  | join (body : List Byte)
  | horn (periods : Nat)
  deriving DecidableEq, Repr

/-- Line physical layer beside the LINE registers. -/
structure Phy where
  /-- Equalizer bank of port A, 128 entries. R83; reset all Untrained (Table 2-12). -/
  eqA : Cells EqEntry
  /-- Equalizer bank of port B, 128 entries (L64B only). R83; reset all Untrained. -/
  eqB : Cells EqEntry
  /-- BANK11 holds a copy of the bank, as taken at the last entry to S4 or S5. R21; reset none. -/
  eqCopy : Option (Cells EqEntry)
  /-- Bursts driven in this cycle, oldest last. R58; reset none. -/
  tx : List Burst
  /-- The horn is being driven. R89; reset false. -/
  hornOn : Bool
  /-- Cycles in which own_addr_seen was counted, newest first. R148; reset none. -/
  ownSeen : List Word
  /-- The PHY is powered and enabled. R564, Table 1-5; reset false until the boot enables it. -/
  on : Bool
  /-- The Watch cycle in which a node in S3 powers its PHY. R541; reset none. -/
  watch : Option Word
  deriving DecidableEq, Repr

/-- A beacon's fields (Table 2-5). -/
structure Beacon where
  cycle : Word
  rootLineId : Word
  masterAddr : Nat
  hop : Nat
  lineState : Nat
  joinOpen : Bool
  rearguardPresent : Bool
  emergency : Bool
  ledgerOwner : Nat
  noOwner : Bool
  rearguardAddr : Nat
  priority : Nat
  masterUid : Uid
  leaseEpoch : Half
  rosterEpoch : Half
  freeSlots : Nat
  topPrecedence : Nat
  deriving DecidableEq, Repr

/-! ### Link layer, every node -/

/-- Who a lease or a request for one serves. -/
inductive LeaseOwner where
  | session (n : Nat)
  | call (r : Nat)
  | ptt
  /-- A waystation's proxy lease, by the req_id under which it was asked for (R185). -/
  | proxy (id : Half)
  | unasked
  deriving DecidableEq, Repr

/-- What completes or changes when a queued message is sent. -/
inductive MsgOwner where
  | none
  | leaseReq (reqId : Half)
  | cancel (client : Nat) (id : Half)
  | release (client : Nat) (id : Half) (session : Nat)
  | host (client : Nat) (id : Half)
  | call (r : Nat)
  | status
  | checkpointEnd
  | audit (part : Nat) (demand empty : Bool)
  | quiet
  /-- A CALL of node `caller` on port `src` that the waystation forwards; its payload is formed when it is sent (R187). -/
  | forward (src : Port) (caller : Nat)
  deriving DecidableEq, Repr

/-- A ledger message waiting in a node's queue (R95). -/
structure Msg where
  destination : Byte
  typ : Byte
  payload : List Byte
  /-- Sequence of a repeat or relay, which keeps it; a new message takes the next one (Table 3-2). -/
  sequence : Option Half
  /-- Source of a relayed message (Table 3-2). -/
  source : Option Byte
  flags : Half
  owner : MsgOwner
  queued : Word
  deriving DecidableEq, Repr

/-- A lease the node holds (Table 3-11, Holding). -/
structure HeldLease where
  slot : Nat
  group : Nat
  prec : Nat
  format : Nat
  owner : LeaseOwner
  start : Word
  /-- Its LEASE_RELEASE has been sent: this cycle is its last (R131). -/
  last : Bool
  deriving DecidableEq, Repr

/-- Progress of a lease request at the holder (Table 3-11). -/
inductive ReqPhase where
  | unsent
  | sent
  | queued (pos : Nat)
  deriving DecidableEq, Repr

/-- A lease request of the node (Table 3-11). -/
structure TalkReq where
  owner : LeaseOwner
  reqId : Half
  standing : Bool
  group : Nat
  format : Nat
  prec : Nat
  catchup : Nat
  phase : ReqPhase
  attempts : Nat
  sentAt : Word
  deriving DecidableEq, Repr

/-- One row of the node's copy of the lease table. -/
structure LeaseRow where
  holder : Nat
  group : Nat
  prec : Nat
  format : Nat
  deriving DecidableEq, Repr

/-- One row of a roster (Table 3-8). -/
structure RosterRow where
  addr : Nat
  uid : Uid
  room : Half
  flags : Byte
  deriving DecidableEq, Repr

/-- A standing talk profile (R120). -/
structure Profile where
  group : Nat
  format : Nat
  prec : Nat
  catchup : Nat
  deriving DecidableEq, Repr

/-- The link layer of a node. -/
structure Link where
  /-- Urgent messages waiting, first in first out. R95, R96; reset empty. -/
  urgent : List Msg
  /-- Routine messages waiting, first in first out. R95; reset empty. -/
  routine : List Msg
  /-- Sequence of the next new message, 16 bits. Table 3-2; reset DESIGN CHOICE 0 (log 2). -/
  seq : Half
  /-- Source, sequence and cycle of frames processed in the last 64 cycles. R109; reset empty. -/
  recent : List (Nat × Half × Word)
  /-- Backoff window, in open cycles; 0 before the first draw. Listing 3-1; reset 0. -/
  joinWindow : Nat
  /-- Open cycles still to skip. Listing 3-1; reset 0. -/
  joinWait : Nat
  /-- Cycle in which the outstanding join request was sent. R110, Listing 3-1; reset none. -/
  joinSent : Option Word
  /-- nonce_word of the latest join request. R116; reset none. -/
  nonce : Option Half
  /-- Leases held. Table 3-11; reset none. -/
  held : List HeldLease
  /-- Requests outstanding, oldest first. Table 3-11, R440; reset none. -/
  reqs : List TalkReq
  /-- req_id of the next request; never 0. Table 3-6; reset DESIGN CHOICE 1 (log 2). -/
  nextReq : Half
  /-- The node's copy of the lease table, 64 slots. R129, R150; reset all free. -/
  table : Cells (Option LeaseRow)
  /-- The node's copy of the roster. R112, R238; reset empty. -/
  roster : List RosterRow
  /-- Epoch of the full roster being collected, the parts received of it, and the rows they gave. R178; reset none. -/
  parts : Option (Half × List Nat × List RosterRow)
  /-- Standing profile of this node. R120; reset group 0, format 1, routine, no catch-up. -/
  standing : Profile
  /-- The last beacon accepted. R144, R159; reset none. -/
  beacon : Option Beacon
  /-- Pair 1 is to be rung in the next bell field. R97; reset false. -/
  ring1 : Bool
  /-- Pair 2 is to be rung with it, asking for the profile's catch-up slots. R98; reset false. -/
  ring12 : Bool
  /-- Reason of a RANGE_POLL to be answered in the next frame. R118; reset none. -/
  rangeReply : Option Byte
  /-- First cycle of the re-ranging window the node is in. R175; reset none. -/
  reRange : Option Word
  /-- A ranging bell has been rung in this window. R175; reset false. -/
  reRangeRung : Bool
  /-- Caller and call_id of CALLs already raised. R136; reset none. -/
  callsSeen : List (Nat × Half)
  /-- Active cycles since the last NODE_STATUS. R111; reset 0. -/
  statusAge : Nat
  /-- The next NODE_STATUS sets the address-conflict flag. R148; reset false. -/
  conflict : Bool
  /-- slot_crc failures since the last report, saturating. Table 3-8; reset 0. -/
  crcSince : Nat
  /-- Power state last reported. R538; reset 0. -/
  reported : Nat
  /-- quiet_cycle of a directive received. R138; reset none. -/
  quietAt : Option Word
  deriving DecidableEq, Repr

/-! ### Line master -/

/-- The master's record of one node (R112, R120, R162 to R166). -/
structure MasterRow where
  row : RosterRow
  rtd : Nat
  profile : Profile
  declared : Nat
  admitted : Nat
  prio : Option Nat
  sleeping : Bool
  listen : Dword
  /-- Active cycles since the node was last heard. R162. -/
  unheard : Nat
  /-- Unanswered polls; 4 when the master has stopped polling the node. R118. -/
  polls : Nat
  pollReason : Option Nat
  pollSent : Option Word
  /-- Cycle of the last poll made for a stale report. R119. -/
  stalePoll : Option Word
  deriving DecidableEq, Repr

/-- The master's record of one leased slot (Table 3-10). -/
structure MLease where
  holder : Nat
  group : Nat
  prec : Nat
  format : Nat
  missed : Nat
  /-- A valid transmission has been heard in this lease (Held) or not yet (Granted). -/
  held : Bool
  /-- A valid transmission was heard in this cycle. -/
  heard : Bool
  /-- Order of grant, for R125. -/
  stamp : Nat
  /-- Cycle in which the LEASE_GRANT that carries the grant was sent (Table 3-10); until then the slot is only set aside. -/
  sentAt : Option Word
  deriving DecidableEq, Repr

/-- A queued request at the master (R124). -/
structure MReq where
  addr : Nat
  group : Nat
  format : Nat
  prec : Nat
  catchup : Nat
  reqId : Half
  deriving DecidableEq, Repr

/-- A message being repeated toward sleeping nodes (R103). -/
structure Repeat where
  msg : Msg
  first : Word
  pair : Nat
  targets : List Nat
  deriving DecidableEq, Repr

/-- The sleeping addressees of a relayed CALL (R137). -/
structure Relay where
  caller : Nat
  callId : Half
  targets : List Nat
  cycle : Word
  deriving DecidableEq, Repr

/-- The master's state. Kept at its reset values while the node is not master. -/
structure Master where
  /-- Contents CC has supplied for the next beacon. R161; reset none. -/
  next : Option Beacon
  /-- Contents of the beacon last sent. R161; reset none. -/
  last : Option Beacon
  /-- Consecutive cycles in which a beacon was sent. R156; reset 0. -/
  sentRun : Nat
  /-- The contents committed last were LS's repeat of the previous ones, so the lease counters stand still. R161; reset false. -/
  stalled : Bool
  /-- Cycles left of the election's start delay. R155; reset none. -/
  delay : Option Nat
  /-- Cycles left of a collision backoff. Table 4-2; reset none. -/
  backoff : Option Nat
  /-- Cycles of recent collisions, newest first. Table 4-2; reset none. -/
  collisions : List Word
  /-- lease_epoch, 16 bits. Table 2-5; reset DESIGN CHOICE 0 (log 2). -/
  leaseEpoch : Half
  /-- roster_epoch, 16 bits. Table 2-5; reset DESIGN CHOICE 0 (log 2). -/
  rosterEpoch : Half
  /-- Roster. R112, R156; reset empty. -/
  roster : List MasterRow
  /-- Lease table, 64 slots. Table 3-10; reset all free. -/
  leases : Cells (Option MLease)
  /-- Queue of at most 32 requests, in queue order. R124; reset empty. -/
  queue : List MReq
  /-- Order of the next grant. R125; reset 0. -/
  stamp : Nat
  /-- Last node served by ownership rule 3. Table 3-1; reset DESIGN CHOICE 127, so that the search starts at 0 (log 2). -/
  served3 : Nat
  /-- Last node served by ownership rule 5. Table 3-1; reset DESIGN CHOICE 127 (log 2). -/
  served5 : Nat
  /-- Cycles since the master last owned a frame. Table 3-1 rule 4; reset 8. -/
  sinceOwned : Nat
  /-- Owner chosen for the next ledger frame. R105; reset none. -/
  owner : Option Nat
  /-- Active cycles since a lease, a queued request or a join request last existed. R138; reset 0. -/
  idle : Nat
  /-- quiet_cycle of the directive sent. R138; reset none. -/
  quietAt : Option Word
  /-- Horn cycle of a return to Active under way. Table 3-12; reset none. -/
  horn : Option Word
  /-- Rearguard named. R166; reset none. -/
  rearguard : Option Nat
  /-- Nodes passed over when a rearguard is named. R191; reset none. -/
  passOver : List Nat
  /-- Number of the latest checkpoint. R168; reset DESIGN CHOICE 0 (log 2). -/
  ckptNumber : Word
  /-- Cycle of the latest snapshot. R168; reset none. -/
  snapshot : Option Word
  /-- Parts of the latest checkpoint are still queued. R168; reset false. -/
  ckptSending : Bool
  /-- Next full roster part to send. R112; reset 0. -/
  rosterPart : Nat
  /-- Messages being repeated toward sleeping nodes. R103; reset none. -/
  repeats : List Repeat
  /-- Sleeping addressees of relayed CALLs. R137; reset none. -/
  relays : List Relay
  /-- First cycle of a takeover. R173; reset none. -/
  takeover : Option Word
  /-- Nodes heard since the takeover, in a valid transmission or a ranging bell. Table 4-5; reset none. -/
  heard : List Nat
  /-- Nodes ranged since the takeover. Table 4-5; reset none. -/
  ranged : List Nat
  /-- Holders listed by the audit parts of the takeover: slot and holder. Table 4-5; reset none. -/
  audited : List (Nat × Nat)
  /-- Nodes whose ranging bell has been heard in this cycle, which counts as pair 0. R176; reset none. -/
  rangedNow : List Nat
  deriving DecidableEq, Repr

/-- A complete checkpoint (R170). -/
structure Ckpt where
  number : Word
  snapshot : Word
  data : List Byte
  deriving DecidableEq, Repr

/-- A checkpoint being received (R170). -/
structure Fill where
  number : Word
  next : Nat
  count : Nat
  data : List Byte
  deriving DecidableEq, Repr

/-- The rearguard's state. -/
structure Rearguard where
  /-- Promoted buffer. R170; reset none. -/
  promoted : Option Ckpt
  /-- Filling buffer. R170; reset none. -/
  fill : Option Fill
  /-- Journal: cycle of receipt, type and payload, oldest first, at most 256 entries. R171; reset empty. -/
  journal : List (Word × Byte × List Byte)
  /-- Cycle of a gap that makes the promoted checkpoint unusable. R171; reset none. -/
  gap : Option Word
  /-- lease_epoch and roster_epoch as the journal explains them. R171; reset none. -/
  epochs : Option (Half × Half)
  /-- Last beacon of the master followed before a takeover, to which a takeover abandoned returns. R192; reset none. -/
  followed : Option Beacon
  deriving DecidableEq, Repr

/-- The proxy of one talker at a waystation: the leases of node `holder` on port `src` that it stands for, and the req_id of its request on
the other port, whose leases it holds as `LeaseOwner.proxy id` (R185). -/
structure Proxy where
  src : Port
  holder : Nat
  group : Nat
  prec : Nat
  id : Half
  /-- Source slots of formats 1 to 3, and of format 4, in rising order. -/
  live : List Nat
  cus : List Nat
  /-- Its source leases have ended, and its own are ending (R185). -/
  ended : Bool
  deriving DecidableEq, Repr

/-- A slot received, kept for forwarding in the next cycle and for the mixer (R186, R37). -/
structure RxSlot where
  port : Port
  source : Nat
  group : Nat
  seq : Nat
  format : Nat
  raised : Bool
  tone : Bool
  endOfTalk : Bool
  muted : Bool
  payload : List Byte
  deriving DecidableEq, Repr

/-- The catch-up plan of a CALL that a waystation has received, from which it names the history it forwards (R134, R186). -/
structure CuPlan where
  port : Port
  caller : Nat
  histStart : Word
  liveFirst : Word
  cuFirst : Word
  count : Nat
  deriving DecidableEq, Repr

/-- The waystation's state (L64B only). -/
structure Way where
  /-- Cycles for which the port-B beacon it stands by for has been missing. R181; reset 0. -/
  bMissing : Nat
  /-- Last port-B beacon accepted. R181; reset none. -/
  bBeacon : Option Beacon
  /-- Root line ID and hop used on port B. R180, R183; reset none. -/
  bTree : Option (Word × Nat)
  /-- Proxy leases. R185; reset none. -/
  proxies : List Proxy
  /-- Port, caller and call_id of a CALL forwarded, and the call_id used on the other port. R187; reset none. -/
  callMap : List (Port × Nat × Half × Half)
  /-- Link layer of port B. R180; reset as port A's. -/
  linkB : Link
  /-- State of the master of port B. R180; reset values of a node that is not master. -/
  masterB : Master
  /-- Slots received on port A and port B in the previous cycle. R186; reset none. -/
  prevA : Cells (Option RxSlot)
  prevB : Cells (Option RxSlot)
  /-- Slots received on port A and port B in this cycle. R186; reset none. -/
  curA : Cells (Option RxSlot)
  curB : Cells (Option RxSlot)
  /-- Catch-up plans of the CALLs received. R186; reset none. -/
  plans : List CuPlan
  deriving DecidableEq, Repr

/-- The stack link's state (L64B only). -/
structure Stack where
  /-- Consecutive frames in which member n's window CRC failed. R190; reset 0. -/
  crcRun : List Nat
  /-- The last valid header, as a member. R188; reset none. -/
  header : Option (List Byte)
  /-- Audio area of each member's last valid window: 256 bytes. Table 4-6; reset none. -/
  audio : List (Option (List Byte))
  deriving DecidableEq, Repr

/-! ### Power input -/

/-- Phases of the P57's front end (Table 5-2, R199, R203). -/
inductive P57Phase where | off | inrush | softStart | on | restartWait | overloadWait
  deriving DecidableEq, Repr

/-- The DXQ-P57. -/
structure P57 where
  /-- Front end. Table 5-2; reset DESIGN CHOICE on: the node has power at reset release (log 2). -/
  phase : P57Phase
  /-- PG. R210; reset true, as Table 5-2 has it before the L64 starts. -/
  pg : Bool
  /-- HOST5 selected. R208; reset false. -/
  srcHost : Bool
  /-- Input above UVLO and buck available. Table 5-8; reset DESIGN CHOICE true (log 2). -/
  lineOk : Bool
  /-- Power warning. R202; reset 0. -/
  pwarn : Bool
  /-- Current limit active. Table 5-8; reset 0. -/
  ilim : Bool
  /-- Set at every P57 reset. Table 5-8; reset 1. -/
  fresh : Bool
  /-- P57_CAUSE, 8 bits. Table 5-9; reset 0. -/
  cause : Byte
  /-- P57_CAUSE_EN, 8 bits. Table 5-9; reset 0x7F. -/
  causeEn : Byte
  /-- P57_CLASS.class, 2 bits. Table 5-10; reset 1. -/
  cls : BitVec 2
  /-- P57_PWARN_CTL.percent, 7 bits. Table 5-10; reset 90. -/
  percent : BitVec 7
  /-- P57_HORN_CTL, 8 bits: mode [1:0], level [7:4]. Table 5-10; reset 0x41. -/
  hornCtl : Byte
  /-- P57_SRC_CTL, 8 bits: host_pref [0], force_line [1]. Table 5-10; reset 0x01. -/
  srcCtl : Byte
  /-- Telemetry. Table 5-11; reset 0. -/
  telem : P57Telem
  /-- Surge FIFO, oldest first, at most 4 entries, mJ. R215; reset empty. -/
  fifo : List Nat
  /-- P57_SURGE_CNT.overflow. R215; reset 0. -/
  overflow : Bool
  /-- A surge is being integrated. R214; reset false. -/
  surging : Bool
  /-- HORN_WAKE. R213; reset false. -/
  hornWake : Bool
  /-- The die is above 125 °C: the current limit is halved. R217; reset false. -/
  hot : Bool
  deriving DecidableEq, Repr

/-- The L64's intake logic (AON). -/
structure Intake where
  /-- The actions of R224 are in force; reset false. -/
  brownout : Bool
  /-- EV_BROWNOUT sustained has been raised for this PG fall. R226; reset false. -/
  sustained : Bool
  /-- EV_BROWNOUT shed exhausted has been raised for this warning. R221; reset false. -/
  exhausted : Bool
  /-- The transaction not acknowledged: the PG-low time of a PG restore, or none for an attention, and its retries so far. R228; reset none. -/
  retry : Option (Option Nat × Nat)
  /-- The intake bus has failed and waits until PG is restored. R228; reset false. -/
  waiting : Bool
  /-- The warning is being worked off: shedding (true) or restoring. R220, R222; reset false. -/
  shedding : Bool
  /-- Admitted class the node applies: 1 to 3. R201, R204; reset 1. -/
  admitted : Nat
  /-- Class whose loads are enabled. R204, R205; reset 1. -/
  loads : Nat
  deriving DecidableEq, Repr

/-! ### Audio -/

/-- One source of a mix: slot, source, precedence, gain in half dB (none for muted), concealed or not (Listing 6-1). -/
structure MixTerm where
  slot : Nat
  source : Nat
  group : Nat
  prec : Nat
  gain : Option Int
  concealed : Bool
  deriving DecidableEq, Repr

/-- Catch-up playback (R250 to R255). -/
structure Playback where
  caller : Nat
  group : Nat
  prec : Nat
  histStart : Word
  liveFirst : Word
  cuFirst : Word
  count : Nat
  /-- Cycle m + 2 at whose symbol 0 playback starts. -/
  startAt : Word
  running : Bool
  /-- Input samples played so far, from history_start (R251). -/
  pos : Nat
  deriving DecidableEq, Repr

/-- A buffered catch-up slot: source, position among the source's catch-up slots, cycle received, sequence, group (R249, R134). -/
structure CuSlot where
  source : Nat
  pos : Nat
  cycle : Word
  seq : Nat
  group : Nat
  deriving DecidableEq, Repr

/-- A chime pattern sounding (R270). -/
structure Chime where
  pattern : Nat
  entry : Nat
  left : Nat
  forever : Bool
  prec : Nat
  deriving DecidableEq, Repr

/-- A mixer or room change waiting for the next symbol 0 (R260, R433). -/
inductive SettingChange where
  | listen (op : Nat) (setGain : Bool) (gain : Nat) (mask : Dword)
  | floors (floor : Nat) (mask : Dword)
  | room (id : Half)
  | push (op : Nat) (mask : Dword)
  deriving DecidableEq, Repr

/-- The mixer beside the MIX registers. -/
structure Mix where
  /-- Slots LS has delivered in the current cycle, by slot number, of the mixed port. R37; reset none. -/
  rx : Cells (Option RxSlot)
  /-- The mix formed last. R236; reset empty. -/
  terms : List MixTerm
  /-- Its 32 output samples. R246; reset none. -/
  out : List Half
  /-- Makeup applied to the emergency content, dB. R244; reset 0. -/
  makeup : Nat
  /-- Cycles for which precedence level 1, 2 and 3 are still held. R240; reset 0. -/
  hold : List Nat
  /-- Run of missing cycles by slot. R247; reset 0. -/
  runs : Cells Nat
  /-- Slots whose last contribution was format 0. R247; reset none. -/
  comfort : List Nat
  /-- Cycles since a slot last contributed. Table 13-4; reset DESIGN CHOICE 65,535, longer than any hold (log 2). -/
  idle : Nat
  /-- Catch-up playback. R250; reset none. -/
  playback : Option Playback
  /-- Catch-up slots buffered, oldest first. R249; reset none. -/
  buffered : List CuSlot
  /-- Cycles for which the TDM port still sends 0 after a format change. R266; reset 0. -/
  tdmHold : Nat
  /-- TDM format in force: format, slot width, sample width, master. R266; reset 0, 0, 0, 1. -/
  tdmFormat : BitVec 6
  /-- The annunciator is off because of a fault, and whether it has retried. R269; reset none. -/
  spkRetry : Option Bool
  /-- Chime sounding. R270; reset none. -/
  chime : Option Chime
  /-- Chimes requested while another sounds, oldest first: pattern and precedence. R271; reset none. -/
  chimeWait : List (Nat × Nat)
  /-- Changes waiting for the next symbol 0, pushes first: client (17 for none), command id, due cycle, change. R260, R262; reset none. -/
  changes : List (Nat × Half × Word × SettingChange)
  deriving DecidableEq, Repr

/-- A notch of the howl sentinel: frequency and cycles without the level test met (R294). -/
structure Notch where
  freq : Nat
  idle : Nat
  deriving DecidableEq, Repr

/-- The echo path beside the ECH registers. -/
structure Ech where
  /-- Consecutive cycles in which band b's output exceeded its microphone energy. R286; reset 0. -/
  hot : Cells Nat
  /-- Bands whose filter was cleared in the last cycle. R286; reset none. -/
  cleared : List Nat
  /-- Cycles since reconvergence began. R291; reset 0. -/
  age : Nat
  /-- Consecutive cycles with ERLE at or above release_db. R291; reset 0. -/
  good : Nat
  /-- Notches 0 to 3. R294; reset free. -/
  notches : List (Option Notch)
  /-- Cycles of howl since the last gain step, with 4 notches held. R295; reset 0. -/
  howlRun : Nat
  /-- Cycles without a howl since the last gain return. R295; reset 0. -/
  howlIdle : Nat
  /-- Channels that leave or rejoin the beams at the next cycle boundary: the healthy set in force. R280; reset 0. -/
  inBeam : BitVec 8
  /-- The talk signal is muted for this cycle. R316; reset false. -/
  mutedCycle : Bool
  deriving DecidableEq, Repr

/-- Call record states (Table 7-3). -/
inductive CallState where | ringing | listening | answered | ended
  deriving DecidableEq, Repr

/-- Who answered a call (R450). -/
inductive Answerer where | talkKey | voice | host
  deriving DecidableEq, Repr

/-- A call record (R297). -/
structure CallRec where
  callId : Half
  caller : Nat
  /-- Port on which the call came, or was placed. -/
  port : Port
  node : Bool
  prec : Nat
  group : Nat
  target : Nat
  state : CallState
  /-- Order of arrival, for R297 and R300. -/
  stamp : Nat
  /-- Placed by this node (R308). -/
  own : Bool
  /-- Raised by a tone detector (Table 7-6). -/
  tone : Option Nat
  answeredBy : Option Answerer
  /-- end_of_talk has been seen from the caller (R305). -/
  eot : Bool
  /-- Cycles of caller silence after end_of_talk (R305). -/
  quiet : Nat
  /-- Cycles without a lease of the caller in the group (R305). -/
  unleased : Nat
  /-- Ringing is enabled for it (R299). -/
  rings : Bool
  /-- A wake event starts its history plan (R356). -/
  phrase : Option Dword
  /-- CALL has been sent (R449). -/
  callSent : Bool
  /-- The command that placed it: client and id (R449). -/
  cmd : Option (Nat × Half)
  /-- EV_CALL_ANSWERED has been raised for it (R136). -/
  acked : Bool
  deriving DecidableEq, Repr

/-- A tone detector's counts (R310). -/
structure Tone where
  onRun : Nat
  offRun : Nat
  started : Bool
  deriving DecidableEq, Repr

/-- The call block beside the CALL registers. -/
structure CallBlk where
  /-- Call records 0 to 7. R297; reset none. -/
  recs : List (Option CallRec)
  /-- Order of the next record; reset 0. -/
  stamp : Nat
  /-- call_id of the next call placed. Table 3-7; reset DESIGN CHOICE 0 (log 2). -/
  nextId : Half
  /-- Tone detectors 0 to 15. R310; reset not started. -/
  tones : List Tone
  /-- Push-to-talk is held. R307; reset false. -/
  ptt : Bool
  /-- Records whose speaker admission is in force in this cycle. R298; reset none. -/
  admitted : List Nat
  /-- A key pressed during a warm restart, to act when it ends. R319; reset false. -/
  keyLatched : Bool
  /-- As keyLatched, of the decline key. R319; reset false. -/
  declineLatched : Bool
  deriving DecidableEq, Repr

/-- The microphones beside the MIC registers. -/
structure Mic where
  /-- Cycles left of a start or a bridge. R328, R329; reset 0. -/
  settleLeft : Nat
  /-- The settling is a bridge and not a start. R329; reset false. -/
  bridging : Bool
  /-- Cycles for which the need of the active mode has been absent. R327; reset 0. -/
  needAbsent : Nat
  /-- Wire probes running: wire, cycles left, channels that were flagged. R344; reset none. -/
  probes : List (Nat × Nat × Nat)
  /-- Cycles for which channel n's detector has flagged nothing. R346; reset 0. -/
  clean : Cells Nat
  /-- Channels the latest probe found driven. R346; reset none. -/
  driven : BitVec 8
  /-- The current 4-cycle window overlaps muted, starting or bridged cycles. R342; reset true. -/
  windowBad : Bool
  /-- First line sample index with real output after the last start. R328; reset 0. -/
  validFrom : Dword
  /-- The mute has ended, and the talk slots have not yet reached samples after the ramp. R340; reset false. -/
  unmuting : Bool
  /-- EV_MUTE_CHANGED events that wait for the exit to S0: state and cycle, oldest first. R561; reset none. -/
  muteEvents : List (Bool × Word)
  deriving DecidableEq, Repr

/-- The wake engine and the history beside the WAKE registers. -/
structure Wake where
  /-- Valid range of the history: oldest and newest index. R354; reset none. -/
  range : Option (Dword × Dword)
  /-- Phrase start of the last wake event, 64 bits. R350; reset 0. -/
  lastStart : Dword
  /-- 64-bit cycle count of the last wake event. R351; reset none. -/
  lastAt : Option Dword
  /-- Manifest record of the wake model: flash offset, length, max_phrase. R348, R575; reset none. -/
  model : Option (Nat × Nat × Nat)
  /-- A wake event held over a warm restart: phrase start, score, cycle. R367; reset none. -/
  held : Option (Dword × Byte × Word)
  /-- A wake event of this cycle, which a mute beginning in it discards. R362; reset none. -/
  thisCycle : Option (Dword × Byte)
  /-- Catch-up sending: next history cycle, last one, slot count. R133, R357; reset none. -/
  sending : Option (Word × Word × Nat)
  /-- History fetches: stream, channel, next index. R359; reset none. -/
  fetches : List (Nat × Nat × Dword)
  deriving DecidableEq, Repr

/-! ### Host side -/

/-- Completion statuses, in the order of Table 10-3, which gives them no numbers. -/
inductive Status where
  | ok | partialDone | busy | aborted | peerReset | noLease | badDesc | quota | tagContended | mismatch | epochMixed | muted
  | lineDown | timeout | refused | unsupported
  deriving DecidableEq, Repr

/-- A completion or event entry, before its phase bit is set (Table 10-2). -/
structure Entry where
  id : Half
  status : Status
  event : Bool
  notify : Bool
  result : Word
  cycle : Word
  info : Word
  deriving DecidableEq, Repr

/-- How far a fetched descriptor has come. -/
inductive Phase where
  /-- Fetched, not started (R388). -/
  | fetched
  /-- Refused at its fetch: it completes with this status when its turn comes (R386, R430). -/
  | doomed (st : Status)
  /-- Waits for its due cycle, with the buffer bytes it carries (R35). -/
  | scheduled (due : Word) (buf : List Byte)
  /-- Started; its change applies at the next symbol 0 (R433). -/
  | applying
  /-- A PRECEDENCE_SET on a session waits for the session's next slot; the flag's previous value (R437). -/
  | raising (session : Nat) (previous : Bool)
  /-- A TALK_OPEN waits for its first lease answer (R440). -/
  | talkOpen (session : Nat)
  /-- A TALK_CLOSE waits for its frame (R442). -/
  | talkClose (session : Nat)
  /-- A CALL_SEND waits for its CALL (R449). -/
  | callSend (r : Nat)
  /-- A LEDGER_SEND waits for its frame, since a cycle (R452). -/
  | ledgerSend (since : Word)
  /-- A stream buffer is queued (R389). -/
  | streamBuf (stream : Nat)
  /-- A STREAM_CLOSE stops its stream at the end of the cycle (R447). -/
  | streamClose (stream : Nat)
  /-- A MONITOR_CMD waits for its reply (R460, R626). -/
  | monitor
  /-- Bytes are being written to the buffer; then this completion (R414). -/
  | writing (bytes : List Byte) (status : Status) (result info : Word)
  /-- A tag access waits for the tag: the bytes a write carries (R493). -/
  | tag (data : List Byte)
  /-- A CONFIG_APPLY waits for its last group (R459). -/
  | configApply
  /-- Forwarded to a member of the stack, whose completion it waits for (R189). -/
  | forwarded (member : Nat)
  /-- A PERF_REQUEST waits for the level change (R456). -/
  | perf
  /-- A check job holds its unit while its buffer is transferred: the bytes it appends, its outcome and whether it mismatched (R520 to R522). -/
  | job (unit : Nat) (bytes : List Byte) (status : Status) (result info : Word)
  deriving DecidableEq, Repr

/-- A descriptor (Table 10-1). -/
structure Desc where
  opcode : Nat
  flags : Byte
  id : Half
  due : Word
  bufAddr : Dword
  bufLen : Nat
  params : List Byte
  deriving DecidableEq, Repr

/-- A descriptor in flight (R383). -/
structure InFlight where
  desc : Desc
  phase : Phase
  /-- Members of its chain still to come after it (R386). -/
  chainLeft : Nat
  /-- Place in the order in which all clients' descriptors were fetched (R522). -/
  order : Nat
  /-- Its client has been closed since it started: its reply is dropped (R407, R409). -/
  stale : Bool
  deriving DecidableEq, Repr

/-- A client's ring and command state. -/
structure ClientSt where
  /-- SQ head. R378; reset 0. -/
  sqHead : Nat
  /-- SQ tail published. R379; reset 0. -/
  sqTail : Nat
  /-- CQ head published. R380; reset 0. -/
  cqHead : Nat
  /-- CQ tail. R380; reset 0. -/
  cqTail : Nat
  /-- Write phase. R378, Table 9-11; reset 1. -/
  phase : Bool
  /-- Client running: fetching and writing. R378; reset false. -/
  running : Bool
  /-- Client running or draining. Table 9-11; reset false. -/
  enabled : Bool
  /-- Client faulted. Table 9-11; reset false. -/
  faulted : Bool
  /-- Vector armed. R398; reset false. -/
  armed : Bool
  /-- Entries written since the client was last armed. R398; reset 0. -/
  written : Nat
  /-- Descriptors fetched together by the fetch under way; 0 for none. R383; reset 0. -/
  fetching : Nat
  /-- The members still to come belong to a chain refused for its length. R386; reset false. -/
  badChain : Bool
  /-- Doorbell words latched during a warm restart: SQ tail, CQ head, event acknowledge. R412; reset none. -/
  latched : List (Option Word)
  /-- Effective quota. R384; reset DESIGN CHOICE none: the register's value until the lock fixes it (log 10). -/
  effQuota : Option Nat
  /-- Descriptors in flight, oldest first. R383; reset none. -/
  flight : List InFlight
  /-- Completions and events waiting to be written, in the order in which they arose. R392; reset none. -/
  waiting : List Entry
  /-- Entries in the completion ring, by index, as last written: phase and entry. R380; reset none. -/
  ring : Cells (Option (Bool × Entry))
  /-- Event mask, bit e for event code e. R394, R451; reset 0. -/
  mask : Dword
  /-- Vote of POWER_VOTE. R549; reset none. -/
  vote : Option Nat
  /-- Level of PERF_REQUEST. R533; reset none. -/
  perf : Option Nat
  deriving DecidableEq, Repr

/-- A talk session (R439). -/
structure Session where
  client : Nat
  group : Nat
  format : Nat
  prec : Nat
  source : Nat
  feed : Nat
  raised : Bool
  lastTx : Word
  deriving DecidableEq, Repr

/-- A queued stream buffer (R444 to R446). -/
structure StreamBufSt where
  id : Half
  len : Nat
  /-- Bytes of samples written to a capture buffer so far. -/
  got : Nat
  /-- Inject: first index, samples supplied, consumed, dropped. -/
  first : Dword
  count : Nat
  consumed : Nat
  dropped : Nat
  /-- Any sample lay outside muted time (R448). -/
  live : Bool
  /-- Some sample lay in muted time; some was concealed (Table 10-9). -/
  muted : Bool
  concealed : Bool
  /-- The gap flag of its header (R445). -/
  gap : Bool
  deriving DecidableEq, Repr

/-- An open stream (R443). -/
structure Stream where
  client : Nat
  kind : Nat
  tap : Nat
  group : Nat
  wide : Bool
  frame : Nat
  route : Nat
  gain : Nat
  bufs : List StreamBufSt
  gap : Bool
  /-- Cycle from whose first sample a capture stream delivers. R445. -/
  since : Word
  /-- Highest index an inject stream has consumed. R446. -/
  last : Option Dword
  closing : Bool
  ended : Bool
  deriving DecidableEq, Repr

/-- The host link beside the HIF registers. -/
structure Hif where
  /-- Clients H0 to H15 and, at 16, SB. R377 to R394; reset values above; SB enabled. -/
  clients : List ClientSt
  /-- Round-robin position of descriptor fetch. R385; reset 0. -/
  turn : Nat
  /-- Bus Master Enable. R401; reset 0. -/
  bme : Bool
  /-- PME_En. R405; reset 0. -/
  pmeEn : Bool
  /-- PME_Status. R405; reset 0. -/
  pmeStatus : Bool
  /-- MSI-X enabled; MSI enabled. R396; reset 0. -/
  msix : Bool
  msi : Bool
  /-- The link is answered and trained: set at the manifest step. R565; reset false. -/
  linkUp : Bool
  /-- State of the link. R403; reset DESIGN CHOICE l2 while PERST_N is asserted (log 2). -/
  link : LinkState
  /-- The function is in D3hot. R402; reset false. -/
  d3hot : Bool
  /-- The HOST domain is in D3cold. R404; reset true while PERST_N is asserted (log 2). -/
  d3cold : Bool
  /-- MSI-X table of 17 entries of 16 bytes. Table 16-2; reset 0 except vector control 1, as PCIe defines. -/
  msixTable : Cells Byte
  /-- Pending bits of vectors 0 to 16. Table 16-2; reset 0. -/
  pba : BitVec 17
  /-- Vectors whose messages were sent in this cycle, newest first. R395, R396; reset none. -/
  fired : List Nat
  /-- Vendor, device, subsystem vendor and subsystem IDs. R371; reset 0x1F3C, by variant, 0x1F3C, 0x0000. -/
  ids : List Half
  /-- Talk sessions 0 to 7. R439; reset none. -/
  sessions : List (Option Session)
  /-- Streams 0 to 31. R443; reset none. -/
  streams : List (Option Stream)
  /-- Descriptors fetched so far, which orders them (R522); the model's own; reset 0. -/
  fetched : Nat
  deriving DecidableEq, Repr

/-- The standby port beside the SBY registers. -/
structure Sby where
  /-- Completion slot: phase and entry. R419; reset empty. -/
  slot : Option (Bool × Entry)
  /-- Phase of the next entry placed. R419; reset DESIGN CHOICE 1 (log 11). -/
  phase : Bool
  /-- The last mailbox write was refused. Table 9-7; reset 0. -/
  reject : Bool
  /-- The 256-byte standby buffer. R421; reset DESIGN CHOICE 0 (log 3). -/
  buf : Cells Byte
  /-- What the last transaction put on SB_MISO after the status byte. R416; reset none. -/
  miso : List Byte
  deriving DecidableEq, Repr

/-! ### Cartridge -/

/-- What the L64 has read of an accepted identity block (R487). -/
structure Identity where
  serial : Dword
  eRated : Nat
  nRated : Nat
  deriving DecidableEq, Repr

/-- A deferred life event (R496). -/
structure Deferred where
  serial : Dword
  kind : Nat
  amount : Nat
  stamp : Word
  rtc : Bool
  deriving DecidableEq, Repr

/-- A wired transaction of the L64 that the tag has not acknowledged (R493). -/
inductive TagOp where
  /-- The identity read of R487, and whether the insertion record follows it. -/
  | identity (insertion : Bool)
  /-- A TAG_READ or TAG_WRITE of a client. -/
  | host (client : Nat) (id : Half)
  /-- An append: the TAG_LIFE_POST that asked for it, and whether the P57's FIFO had overflowed (R489). -/
  | life (d : Deferred) (post : Option (Nat × Half)) (overflow : Bool)
  deriving DecidableEq, Repr

/-- The tag master beside the TAG registers. -/
structure Tag where
  /-- Identity accepted. R487; reset none. -/
  identity : Option Identity
  /-- Serial last read, for TAG_SERIAL. R487; reset 0. -/
  serial : Dword
  /-- Transactions waiting for the tag, oldest first. R493; reset none. -/
  ops : List TagOp
  /-- Deferred queue, at most 64, oldest first. R496; reset empty. -/
  deferred : List Deferred
  /-- Events merged or dropped since the last flush. R497; reset 0. -/
  lost : Nat
  /-- Cycle count of the last insertion counted. R486; reset none. -/
  insertAt : Option Dword
  deriving DecidableEq, Repr

/-- Holder of the tag's lock (Table 11-4). -/
inductive TagLock where | none | wired | contactless
  deriving DecidableEq, Repr

/-- The DXQ-C2 cartridge's tag. -/
structure Cart where
  /-- The 2,048 bytes, by address; an unlisted byte reads its factory contents. Table 11-2; reset factory contents. -/
  mem : Cells Byte
  /-- Lock. R490; reset none. -/
  lock : TagLock
  /-- Contactless commands are ignored after a session that reached 2 s. R492; reset false. -/
  ignoring : Bool
  /-- What the tag answered last on either side: bytes, and whether it acknowledged. R472, R495; reset none. -/
  answer : List Byte
  acked : Bool
  deriving DecidableEq, Repr

/-! ### Check units -/

/-- A Tollgate unit beside the TOLL registers. -/
structure Toll where
  /-- Mode claimed, 0 to 3. Table 12-1; reset 0. -/
  mode : Nat
  /-- Bytes held back in STRIP mode. R514; reset none. -/
  tail : List Byte
  deriving DecidableEq, Repr

/-! ### Power, configuration, debug -/

/-- A refused vote not yet reported (R551). -/
structure RefusedVote where
  client : Nat
  asked : Nat
  refusers : List Nat
  reported : Bool
  deriving DecidableEq, Repr

/-- The power block beside the PWR registers. -/
structure Pwr where
  /-- Power state, 0 to 5 for S0 to S5. Table 13-2; reset 0. -/
  state : Nat
  /-- Cycles for which the allowed depth has stayed at or beyond S2, S3, S4 and S5. R537; reset 0. -/
  holds : List Nat
  /-- State an entry under way leads to. R537; reset none. -/
  entering : Option Nat
  /-- Cycle at which that entry's hold ended. R539; reset none. -/
  entrySince : Option Word
  /-- Vote of SB. R549; reset none. -/
  sbVote : Option Nat
  /-- Refused votes standing. R551; reset none. -/
  refused : List RefusedVote
  /-- Refusals counted since the last EV_POWER_REFUSED. R551; reset 0. -/
  refusals : Nat
  /-- Banks that lost their contents at the last entry. R546; reset none. -/
  lost : BitVec 12
  /-- A level change is under way. R531; reset false. -/
  changing : Bool
  /-- A bell has woken the node from Watch: it stays awake until its message has come or this cycle has passed. R104; reset none. -/
  bellUntil : Option Word
  /-- Cycles since the last exit to S0 from S3 or deeper. R538; reset 0. -/
  awake : Nat
  deriving DecidableEq, Repr

/-- A staged entry (R578). -/
structure StageEntry where
  off : Nat
  mask : Word
  value : Word
  deriving DecidableEq, Repr

/-- A group waiting for its application cycle (R579). -/
structure PendingGroup where
  group : CfgGroup
  entries : List StageEntry
  at_ : Word
  deriving DecidableEq, Repr

/-- The configuration block beside the CFG registers. -/
structure Cfg where
  /-- The staging set, at most 256 entries, in staging order. R458; reset empty. -/
  staging : List StageEntry
  /-- Its owner. Table 14-10; reset none. -/
  owner : Option Nat
  /-- A CONFIG_APPLY has taken the set: its client, command and apply cycle. R435; reset none. -/
  apply : Option (Nat × Half × Word)
  /-- Groups pending. R579; reset none. -/
  groups : List PendingGroup
  /-- The info word the CONFIG_APPLY will complete with. R459; reset 0x00FFFFFF. -/
  nibbles : Word
  /-- Groups a monitor REG_WRITE changes at their application point. R608; reset none. -/
  direct : List PendingGroup
  /-- Rows of Table 14-1 after reset release that have ended: 7 up to the link, 8 with the wake model, the lock and the join being the line's own commands. R564; reset 0. -/
  boot : Nat
  /-- The boot follows S5 and not a full reset. R577; reset false. -/
  s5 : Bool
  /-- A CC warm restart runs. R584; reset false. -/
  restarting : Bool
  /-- The watchdog has expired once and the firmware has not yet run 10 s since. R585; reset false. -/
  wdtOnce : Bool
  /-- Cycle count at the end of the last warm restart. R585; reset none. -/
  restartEnd : Option Dword
  /-- FLASH record in force: read mode, address bytes, MHz, dummy cycles. R568; reset 0, 3, 12, 0. -/
  flashMode : List Nat
  /-- WAKE_MODEL and PATCH records found at the last boot. R574, R575; reset none. -/
  patch : Option (List Byte)
  wakeRec : Option (List Byte)
  deriving DecidableEq, Repr

/-- A processing element's debug-visible state (R18). -/
structure ElemSt where
  pc : Word
  status : Word
  g : List Word
  /-- Halt cause, 0 while running. Table 15-6. -/
  cause : Nat
  /-- Instructions a STEP has still to run. R626. -/
  steps : Nat
  deriving DecidableEq, Repr

/-- A trace packet (Table 15-9). -/
structure TracePkt where
  kind : Nat
  port : Nat
  lost : Nat
  sym : Nat
  cycle : Word
  data : Word
  seq : Half
  deriving DecidableEq, Repr

/-- Reply statuses of the monitor (Table 15-3). -/
inductive MonStatus where | ok | unknown | badArg | notHalted | noResident | busy | domainOff | refused | flashErr
  deriving DecidableEq, Repr

/-- A reply of the monitor (Table 15-2). -/
structure MonReply where
  via : Transport
  cmd : Nat
  tag : Byte
  status : MonStatus
  payload : List Byte
  deriving DecidableEq, Repr

/-- A partly received line packet (R599). -/
structure Frag where
  addr : Nat
  session : Nat
  reply : Bool
  next : Nat
  bytes : List Byte
  cycle : Word
  deriving DecidableEq, Repr

/-- The debug block beside the DBG registers. -/
structure Dbg where
  /-- CC, AE0, AE1 and LS. R18; reset DESIGN CHOICE all words 0, running (log 2). -/
  elems : List ElemSt
  /-- Monitor sessions open. R601, R606; reset none. -/
  sessions : List Transport
  /-- Line packets being assembled. R599; reset none. -/
  frags : List Frag
  /-- The last complete line reply of each of at most 4 sessions, oldest session first. R600; reset none. -/
  stored : List (Nat × List Byte)
  /-- STEP commands under way: element, count and the request to be answered. R626; reset none. -/
  stepping : List (Nat × Nat × MonReq)
  /-- The last reply sent. R603; reset none. -/
  reply : Option MonReply
  /-- Replies and TRACE_DATA packets sent on MON_TX, newest first, cleared when the next packet arrives. R597; reset none. -/
  tx : List (List Byte)
  /-- Bytes of a UART packet received so far. R597; reset none. -/
  rx : List Byte
  /-- Trace buffer, oldest first, at most 1,024 packets. R623; reset empty. -/
  trace : List TracePkt
  /-- Sequence of the next packet. R622; reset 0. -/
  seq : Half
  /-- Packets lost since the last one stored. R623; reset 0. -/
  lost : Nat
  /-- Packets still to store after the first halt packet. R624; reset none. -/
  post : Option Nat
  deriving DecidableEq, Repr

/-- The state of the block. -/
structure State where
  dev : Device
  mem : Mem
  pins : Pins
  /-- BAR0 registers that hold a value of their own, by offset; unlisted ones hold their reset value. R643; reset none listed. -/
  regs : Cells Word
  plt : Plt
  phy : Phy
  link : Link
  master : Master
  rear : Rearguard
  way : Way
  stack : Stack
  p57 : P57
  intake : Intake
  mix : Mix
  ech : Ech
  call : CallBlk
  mic : Mic
  wake : Wake
  hif : Hif
  sby : Sby
  tag : Tag
  cart : Cart
  toll : List Toll
  pwr : Pwr
  cfg : Cfg
  dbg : Dbg
  /-- The model's own: how many free values have been taken (log 4); reset DESIGN CHOICE 0. -/
  free : Nat
  /-- Commands waiting, first in first out. The block's queue; reset empty. -/
  pending : List Instr
  deriving DecidableEq, Repr

/-! ### The state after reset -/

/-- A client's state after reset. -/
def ClientSt.reset : ClientSt :=
  { sqHead := 0, sqTail := 0, cqHead := 0, cqTail := 0, phase := true, running := false, enabled := false, faulted := false,
    armed := false, written := 0, fetching := 0, badChain := false,
    latched := [none, none, none], effQuota := none, flight := [], waiting := [], ring := [], mask := 0,
    vote := none, perf := none }

/-- The node's link layer after reset. -/
def Link.reset : Link :=
  { urgent := [], routine := [], seq := 0, recent := [], joinWindow := 0, joinWait := 0, joinSent := none, nonce := none,
    held := [], reqs := [], nextReq := 1, table := [], roster := [], parts := none, standing := ⟨0, 1, 0, 0⟩, beacon := none,
    ring1 := false, ring12 := false, rangeReply := none, reRange := none, reRangeRung := false, callsSeen := [], statusAge := 0,
    conflict := false, crcSince := 0, reported := 0, quietAt := none }

/-- The master's state after reset, and of a node that is not master. -/
def Master.reset : Master :=
  { next := none, last := none, sentRun := 0, stalled := false, delay := none, backoff := none, collisions := [], leaseEpoch := 0, rosterEpoch := 0,
    roster := [], leases := [], queue := [], stamp := 0, served3 := 127, served5 := 127, sinceOwned := 8,
    owner := none, idle := 0, quietAt := none, horn := none, rearguard := none, passOver := [],
    ckptNumber := 0, snapshot := none, ckptSending := false, rosterPart := 0, repeats := [], relays := [], takeover := none,
    heard := [], ranged := [], audited := [], rangedNow := [] }

/-- An element after reset. -/
def ElemSt.reset : ElemSt := { pc := 0, status := 0, g := List.replicate 16 0, cause := 0, steps := 0 }

/-- Line time after reset. -/
def Plt.reset : Plt :=
  { lpc := 0, sym := 0, lockRun := 0, mismatchRun := 0, firstBeacon := true, lpcInvalid := false, beaconOk := false, syncOk := false,
    silent := 0, holdCount := 0, units := List.replicate 6 none, waiting := [], strobes := [false, false] }

/-- The line's physical layer after reset. -/
def Phy.reset : Phy := { eqA := [], eqB := [], eqCopy := none, tx := [], hornOn := false, ownSeen := [], on := false, watch := none }

/-- The waystation's state after reset. -/
def Way.reset : Way :=
  { bMissing := 0, bBeacon := none, bTree := none, proxies := [], callMap := [], linkB := .reset, masterB := .reset, prevA := [], prevB := [],
    curA := [], curB := [], plans := [] }

/-- The P57 after its own reset (Tables 5-8 to 5-11), with power present. -/
def P57.reset : P57 :=
  { phase := .on, pg := true, srcHost := false, lineOk := true, pwarn := false, ilim := false, fresh := true, cause := 0, causeEn := 0x7F,
    cls := 1, percent := 90, hornCtl := 0x41, srcCtl := 0x01, telem := ⟨0, 0, 0, 0, 0⟩, fifo := [], overflow := false, surging := false,
    hornWake := false, hot := false }

/-- The mixer after reset. -/
def Mix.reset : Mix :=
  { rx := [], terms := [], out := [], makeup := 0, hold := [0, 0, 0], runs := [], comfort := [], idle := 65535,
    playback := none, buffered := [], tdmHold := 0, tdmFormat := 0x20, spkRetry := none, chime := none, chimeWait := [], changes := [] }

/-- The echo path after reset. -/
def Ech.reset : Ech :=
  { hot := [], cleared := [], age := 0, good := 0, notches := [none, none, none, none], howlRun := 0, howlIdle := 0, inBeam := 0,
    mutedCycle := false }

/-- The call block after reset. -/
def CallBlk.reset : CallBlk :=
  { recs := List.replicate 8 none, stamp := 0, nextId := 0, tones := List.replicate 16 ⟨0, 0, false⟩, ptt := false, admitted := [],
    keyLatched := false, declineLatched := false }

/-- The microphones after reset. -/
def Mic.reset : Mic :=
  { settleLeft := 0, bridging := false, needAbsent := 0, probes := [], clean := [], driven := 0, windowBad := true,
    validFrom := 0, unmuting := false, muteEvents := [] }

/-- The wake engine and history after reset. -/
def Wake.reset : Wake :=
  { range := none, lastStart := 0, lastAt := none, model := none, held := none, thisCycle := none, sending := none, fetches := [] }

/-- The host link after reset, for a device of variant `v` (R371). -/
def Hif.reset (v : Variant) : Hif :=
  { clients := List.replicate 16 ClientSt.reset ++ [{ ClientSt.reset with running := true, enabled := true }], turn := 0, bme := false,
    pmeEn := false, pmeStatus := false, msix := false, msi := false, linkUp := false, link := .l2, d3hot := false, d3cold := true,
    msixTable := [], pba := 0, fired := [], ids := [0x1F3C, (match v with | .l64t => 0xD064 | .l64b => 0xD065), 0x1F3C, 0],
    sessions := List.replicate 8 none, streams := List.replicate 32 none, fetched := 0 }

/-- The tag master after reset. -/
def Tag.reset : Tag := { identity := none, serial := 0, ops := [], deferred := [], lost := 0, insertAt := none }

/-- The power block after reset. -/
def Pwr.reset : Pwr :=
  { state := 0, holds := [0, 0, 0, 0], entering := none, entrySince := none, sbVote := none, refused := [], refusals := 0, lost := 0, changing := false,
    bellUntil := none, awake := 0 }

/-- The configuration block after reset. -/
def Cfg.reset : Cfg :=
  { staging := [], owner := none, apply := none, groups := [], nibbles := 0x00FFFFFF, direct := [], boot := 0, s5 := false,
    restarting := false, wdtOnce := false, restartEnd := none, flashMode := [0, 3, 12, 0], patch := none, wakeRec := none }

/-- The debug block after reset. -/
def Dbg.reset : Dbg :=
  { elems := List.replicate 4 ElemSt.reset, sessions := [], frags := [], stored := [], stepping := [], reply := none, tx := [], rx := [], trace := [],
    seq := 0, lost := 0, post := none }

/-- The intake logic after reset. -/
def Intake.reset : Intake :=
  { brownout := false, sustained := false, exhausted := false, retry := none, waiting := false, shedding := false, admitted := 1, loads := 1 }

/-- The standby port after reset. -/
def Sby.reset : Sby := { slot := none, phase := true, reject := false, buf := [], miso := [] }

/-- The cartridge's tag as it leaves the factory, with nothing written (Table 11-2). -/
def Cart.reset : Cart := { mem := [], lock := .none, ignoring := false, answer := [], acked := false }

/-- The pins at reset release (Table 17-13). -/
def Pins.reset : Pins :=
  { talkKey := false, cartDet := false, resetHeld := false, perst := true, pvddLow := false, wakeN := false, gpioHigh := 0, muteLed := true,
    callLed := 7, callLedSince := 0, rtcCrystal := true }

/-- The part the model resets to (log 2). -/
def Device.reset : Device := { variant := .l64b, uid := 0x3B07C14E92D6, silicon := 0, rom := 0, p57Rev := 0, otp := [] }

/-- The memories at reset (log 3). -/
def Mem.reset : Mem := { sram := [], lostAt := List.replicate 12 0, flash := [], flashSize := 0x1000000 }

/-- The stack link after reset. -/
def Stack.reset : Stack := { crcRun := [0, 0, 0, 0], header := none, audio := [none, none, none, none] }

/-- The rearguard's buffers after reset. -/
def Rearguard.reset : Rearguard := { promoted := none, fill := none, journal := [], gap := none, epochs := none, followed := none }

/-- The machine at reset release, before the first boot step (R564). -/
def State.reset : State :=
  { dev := .reset, mem := .reset, pins := .reset, regs := [], plt := .reset, phy := .reset, link := .reset, master := .reset,
    rear := .reset, way := .reset, stack := .reset, p57 := .reset, intake := .reset, mix := .reset, ech := .reset, call := .reset,
    mic := .reset, wake := .reset, hif := .reset .l64b, sby := .reset, tag := .reset, cart := .reset,
    toll := List.replicate 4 { mode := 0, tail := [] }, pwr := .reset, cfg := .reset, dbg := .reset, free := 0, pending := [] }

end Sys2Proof.Machine
end

