-- ==== Sys2Proof/Machine/Ops.lean ====
section
/-! DEFINITION. The named operations every family shares: register fields, line time, generations, trace packets, clients,
events and completions. -/

namespace Sys2Proof.Machine

/-! ### Register fields -/

/-- The word the register at `o` holds of its own (R643). -/
def State.reg (s : State) (o : Nat) : Word := Cells.get regReset s.regs o

/-- Make the register at `o` hold `v`. -/
def State.setReg (s : State) (o : Nat) (v : Word) : State := { s with regs := Cells.set regReset s.regs o v }

/-- The bits of field `f` in `w`. -/
def Field.get (f : Field) (w : Word) : Nat := w.toNat / 2 ^ f.lsb % 2 ^ f.width

/-- `w` with the bits of field `f` set to `v`, taken modulo the field's width. -/
def Field.set (f : Field) (w : Word) (v : Nat) : Word :=
  (w &&& ~~~(bitMask f.lsb f.width)) ||| BitVec.ofNat 32 (v % 2 ^ f.width * 2 ^ f.lsb)

/-- Read field `f`. -/
def State.rf (s : State) (f : Field) : Nat := f.get (s.reg f.off)

/-- Write field `f`. -/
def State.wr (s : State) (f : Field) (v : Nat) : State := s.setReg f.off (f.set (s.reg f.off) v)

/-- Field `f` is not 0. -/
def State.on (s : State) (f : Field) : Bool := decide (s.rf f ≠ 0)

/-- Write a one-bit field. -/
def State.put (s : State) (f : Field) (b : Bool) : State := s.wr f (bit b)

/-- Add `n` to a counter that saturates at its maximum (Table 2-19 and every RC counter; notes/assumptions/97.md). -/
def State.bumpBy (s : State) (f : Field) (n : Nat) : State := s.wr f (min (s.rf f + n) (2 ^ f.width - 1))

/-- Count one. -/
def State.bump (s : State) (f : Field) : State := s.bumpBy f 1

/-- Count one in a counter that wraps. -/
def State.wrapInc (s : State) (f : Field) : State := s.wr f (s.rf f + 1)

/-- Set bit `i` of field `f`. -/
def State.setBit (s : State) (f : Field) (i : Nat) : State := s.wr f (Nat.lor (s.rf f) (2 ^ i))

/-- Clear bit `i` of field `f`. -/
def State.clrBit (s : State) (f : Field) (i : Nat) : State :=
  if bitOf (s.rf f) i then s.wr f (s.rf f - 2 ^ i) else s

/-- Two 32-bit registers as one 64-bit value, the lower one first. -/
def State.reg64 (s : State) (lo hi : Nat) : Dword := (s.reg hi) ++ (s.reg lo)

/-- Write a 64-bit value to two registers. -/
def State.setReg64 (s : State) (lo hi : Nat) (v : Dword) : State :=
  (s.setReg lo (v.setWidth 32)).setReg hi ((v >>> 32).setWidth 32)

/-! ### Line time -/

/-- The LPC cycle number (R22). -/
def State.lpc (s : State) : Word := s.plt.lpc.setWidth 32

/-- Cycle `a` is later than cycle `b` (R9). -/
def later (a b : Word) : Bool := decide (0 < (a - b).toNat) && decide ((a - b).toNat < 2 ^ 31)

/-- `a − b` as a signed 32-bit difference (R9). -/
def cycleDiff (a b : Word) : Int := (a - b).toInt

/-- The part is an L64B (Table 0-2). -/
def State.isB (s : State) : Bool := decide (s.dev.variant = .l64b)

/-- The node's LPC is locked (R26, R93). -/
def State.locked (s : State) : Bool := s.on F.PLT_LPC_STATUS.locked

/-- The line is declared down (R44). -/
def State.lineDown (s : State) : Bool := s.on F.PLT_LPC_STATUS.line_down

/-- Sample index of sample 0 of cycle count `c` (R10). -/
def sampleIndex (c : Dword) : Dword := c * 16

/-- Take `n` free values: the counter they are drawn at moves on (notes/assumptions/4.md). -/
def State.takeFree (s : State) (n : Nat) : State := { s with free := s.free + n }

/-! ### Elements and power domains -/

/-- Element `e` (0 CC, 1 AE0, 2 AE1, 3 LS) as the debugger sees it (R18). -/
def State.elem (s : State) (e : Nat) : ElemSt := s.dbg.elems.getD e ElemSt.reset

/-- Element `e` is halted (R613). -/
def State.halted (s : State) (e : Nat) : Bool := decide ((s.elem e).cause ≠ 0)

/-- CORE is powered: S0 and S1 (Table 1-5). -/
def State.coreOn (s : State) : Bool := decide (s.pwr.state ≤ 1)

/-- PHY is powered: S0 to S3 (Table 1-5). -/
def State.phyOn (s : State) : Bool := decide (s.pwr.state ≤ 3)

/-- HOST is powered: S0 and S1, and S2 with the link in L1.2; off in D3cold (Table 1-5, R404). -/
def State.hostOn (s : State) : Bool :=
  !s.hif.d3cold && (decide (s.pwr.state ≤ 1) || (decide (s.pwr.state = 2) && decide (s.hif.link = .l12)))

/-- CC is running firmware: neither halted nor in a warm restart nor powered down (R605, R617). -/
def State.ccUp (s : State) : Bool := !s.halted 0 && !s.cfg.restarting && s.coreOn && !s.pins.resetHeld

/-- The boot has reached the end of step `n` of Table 14-1. -/
def State.booted (s : State) (n : Nat) : Bool := decide (n ≤ s.cfg.boot)

/-! ### Generations -/

/-- A block's generation increments and its bit of GLB_BLOCK_RESET is set (R588, R638). -/
def State.bumpGen (s : State) (f : Field) (i : Nat) : State := (s.wrapInc f).setBit F.GLB_BLOCK_RESET.gen_changed i

/-! ### Trace (R621 to R624) -/

/-- Packets the buffer holds (R623). -/
def traceCap : Nat := 1024

/-- The sink in force; 3 acts as 0 (Table 15-10). -/
def State.sink (s : State) : Nat := if s.rf F.DBG_TRACE_CTL.sink = 3 then 0 else s.rf F.DBG_TRACE_CTL.sink

/-- A sink is enabled and has not stopped. -/
def State.tracing (s : State) : Bool := s.on F.DBG_TRACE_CTL.en && !s.on F.DBG_TRACE_STATUS.stopped

/-- Store a packet, or lose it when the buffer is full (R622, R623). -/
def State.store (s : State) (kind port : Nat) (data : Word) : State :=
  let full := decide (traceCap ≤ s.dbg.trace.length)
  if full && decide (s.sink ≠ 0) then
    (({ s with dbg := { s.dbg with lost := min 255 (s.dbg.lost + 1) } }).bump F.DBG_TRACE_STATUS.overflow)
  else
    let p : TracePkt := { kind := kind, port := port, lost := s.dbg.lost, sym := s.plt.sym, cycle := s.lpc, data := data, seq := s.dbg.seq }
    let kept := if full then s.dbg.trace.drop 1 else s.dbg.trace
    let post := match s.dbg.post with
      | some n => some (n - 1)
      | none => if kind = 1 && s.on F.DBG_TRACE_CTL.stop_on_halt then some (min 1023 (s.rf F.DBG_TRACE_CTL.post_count)) else none
    let s := { s with dbg := { s.dbg with trace := kept ++ [p], seq := s.dbg.seq + 1, lost := 0, post := post } }
    let s := s.wr F.DBG_TRACE_STATUS.write_index (s.rf F.DBG_TRACE_STATUS.write_index + 1)
    let s := if full then s.put F.DBG_TRACE_STATUS.wrapped true else s
    let stop := decide (post = some 0) || (decide (s.sink = 1) && decide (traceCap ≤ s.dbg.trace.length))
    if stop then s.put F.DBG_TRACE_STATUS.stopped true else s

/-- A packet of any kind arrives at the sink, whose store is in CORE. A full sink 1 has stopped and goes on losing packets (R623). -/
def State.traceAny (s : State) (kind port : Nat) (data : Word) : State :=
  if s.on F.DBG_TRACE_CTL.en && s.coreOn && (!s.on F.DBG_TRACE_STATUS.stopped || (decide (s.sink = 1) && decide (s.dbg.post ≠ some 0)))
  then s.store kind port data else s

/-- Stimulus port `p` is written: a packet only while its bit is set; ports 16 to 23 produce nothing (R621). -/
def State.stim (s : State) (p : Nat) (data : Nat) : State :=
  if bitOf (s.rf F.DBG_STIM_EN.ports) p && (decide (p < 16) || decide (24 ≤ p)) then s.traceAny 0 p (BitVec.ofNat 32 data) else s

/-! ### Clients -/

/-- The number of the standby client (Table 0-4). -/
def clientSB : Nat := 16

/-- Client `i`. -/
def State.client (s : State) (i : Nat) : ClientSt := s.hif.clients.getD i ClientSt.reset

/-- Replace client `i`. -/
def State.setClient (s : State) (i : Nat) (c : ClientSt) : State :=
  { s with hif := { s.hif with clients := s.hif.clients.set i c } }

/-- Change client `i`. -/
def State.modClient (s : State) (i : Nat) (f : ClientSt → ClientSt) : State := s.setClient i (f (s.client i))

/-- Events waiting in a client's backlog (R392). -/
def ClientSt.backlog (c : ClientSt) : Nat := (c.waiting.filter (fun e => e.event)).length

/-- Descriptors in flight: fetched and not completed, and completions not yet written (R383). -/
def ClientSt.inFlight (c : ClientSt) : Nat := c.flight.length + (c.waiting.filter (fun e => !e.event)).length

/-- The overflow counter of client `i` (R393). -/
def overflowField (i : Nat) : Field := if i < 16 then F.HIF_EVCNT.overflow i else F.SBY_STATUS.overflow

/-- An event entry reaches client `i`: into the backlog, or dropped and counted when 32 wait (R392, R393). -/
def State.eventTo (s : State) (e : Entry) (i : Nat) : State :=
  if (s.client i).backlog < 32 then s.modClient i (fun c => { c with waiting := c.waiting ++ [e] }) else s.bump (overflowField i)

/-- The entry of an event (Table 10-2). -/
def eventEntry (cycle : Word) (code a b c : Nat) (arg : Word) : Entry :=
  { id := 0xFFFF, status := .ok, event := true, notify := false, result := arg, cycle := cycle,
    info := BitVec.ofNat 32 (code % 256 + 256 * (a % 256) + 65536 * (b % 256) + 16777216 * (c % 256)) }

/-- An event reaches every enabled client that `p` selects, in order of their numbers. -/
def State.eventAll (s : State) (p : Nat → ClientSt → Bool) (e : Entry) : State :=
  (List.range 17).foldl (fun s i => if (s.client i).running && p i (s.client i) then s.eventTo e i else s) s

/-- Raise event `code` with its cycle field given: every enabled client whose mask holds the code receives it (R462). -/
def State.raiseAt (s : State) (cycle : Word) (code a b c : Nat) (arg : Word) : State :=
  s.eventAll (fun _ cl => cl.mask.getLsbD code) (eventEntry cycle code a b c arg)

/-- Raise event `code` in the current cycle (R462). -/
def State.raise (s : State) (code a b c : Nat) (arg : Word) : State := s.raiseAt s.lpc code a b c arg

/-! ### Completions -/

/-- A status that lets the later members of a chain run (R386). -/
def Status.good : Status → Bool
  | .ok | .partialDone => true
  | _ => false

/-- Take descriptor `j` out of flight; the counts of members still to come stay right (R386). -/
def dropFlight : Nat → List InFlight → List InFlight
  | _, [] => []
  | 0, _ :: r => r
  | j + 1, x :: r => (if j + 1 ≤ x.chainLeft then { x with chainLeft := x.chainLeft - 1 } else x) :: dropFlight j r

/-- The stream a descriptor's buffer is queued on. -/
def Phase.stream : Phase → Option Nat
  | .streamBuf n => some n
  | _ => none

/-- Take buffer `id` out of the queue of stream `n`. -/
def State.dropBuf (s : State) (n : Nat) (id : Half) : State :=
  { s with hif := { s.hif with streams := s.hif.streams.mapIdx (fun i st =>
      if i = n then st.map (fun x => { x with bufs := x.bufs.eraseP (fun b => decide (b.id = id)) }) else st) } }

/-- Complete descriptor `j` in flight for client `c` with one entry, in the current cycle (Table 10-2). A reply to a client closed since is
dropped and counted (R407, R409). -/
def State.finishOne (s : State) (c j : Nat) (st : Status) (result info : Word) : State :=
  match (s.client c).flight[j]? with
  | none => s
  | some x =>
    let e : Entry :=
      { id := x.desc.id, status := st, event := false, notify := x.desc.flags.getLsbD 1, result := result, cycle := s.lpc, info := info }
    let s := match x.phase.stream with
      | some n => s.dropBuf n x.desc.id
      | none => s
    let s := s.modClient c (fun cl => { cl with flight := dropFlight j cl.flight, waiting := if x.stale then cl.waiting else cl.waiting ++ [e] })
    let s := s.stim 5 (x.desc.id.toNat + 65536 * c + 2 ^ 31)
    if x.stale then s.bump F.HIF_ERR.stale_reply
    else if st = .peerReset then s.bump F.CFG_ERR.peer_resets
    else s

/-- Complete the `n` descriptors from place `j` on with ST_ABORTED (R386). -/
def State.abortRun (s : State) (c j : Nat) : Nat → State
  | 0 => s
  | n + 1 => (s.finishOne c j .aborted 0 0).abortRun c j n

/-- Complete descriptor `j` of client `c`; after a status other than ST_OK and ST_PARTIAL the later members of its chain complete
ST_ABORTED (R386). -/
def State.finish (s : State) (c j : Nat) (st : Status) (result info : Word) : State :=
  match (s.client c).flight[j]? with
  | none => s
  | some x =>
    let s := s.finishOne c j st result info
    if st.good then s else s.abortRun c j x.chainLeft

/-- The place of the first descriptor of client `c` in flight that `p` selects. -/
def State.findFlight (s : State) (c : Nat) (p : InFlight → Bool) : Option Nat := (s.client c).flight.findIdx? p

/-- Complete the first descriptor of client `c` that `p` selects. -/
def State.finishWhere (s : State) (c : Nat) (p : InFlight → Bool) (st : Status) (result info : Word) : State :=
  match s.findFlight c p with
  | some j => s.finish c j st result info
  | none => s

/-- Put descriptor `j` of client `c` into phase `ph`. -/
def State.setPhase (s : State) (c j : Nat) (ph : Phase) : State :=
  s.modClient c (fun cl => { cl with flight := cl.flight.mapIdx (fun i x => if i = j then { x with phase := ph } else x) })

/-- Complete every descriptor of client `c` that `p` selects, oldest first; `n` bounds how many there are. -/
def State.finishAll (s : State) (c : Nat) (p : InFlight → Bool) (st : Status) : Nat → State
  | 0 => s
  | n + 1 => match s.findFlight c p with
    | some j => (s.finish c j st 0 0).finishAll c p st n
    | none => s

/-- Complete, for every client, each descriptor that `p` selects (R426, R45). -/
def State.finishEvery (s : State) (p : Nat → InFlight → Bool) (st : Status) : State :=
  (List.range 17).foldl (fun s c => s.finishAll c (p c) st (s.client c).flight.length) s

end Sys2Proof.Machine
end

