-- ==== Sys2Proof/Machine/Sleep.lean ====
section
/-! DEFINITION. Entering and leaving the power states of Table 13-2: what each domain's loss takes with it, and what an exit to S0
rebuilds. -/

namespace Sys2Proof.Machine

/-! ### What the audio blocks lose -/

/-- The valid range of the history is emptied (R354). -/
def State.emptyHistory (s : State) : State := { s with wake := { s.wake with range := none } }

/-- The echo canceller reconverges from cleared filters (R290, R291). -/
def State.startReconv (s : State) : State :=
  ({ s with ech := { s.ech with age := 0, good := 0 } }).put F.ECH_STATUS.reconv true

/-- The equalizer entry of address `a` on port `p`. -/
def State.eq (s : State) (p : Port) (a : Nat) : EqEntry :=
  Cells.get (fun _ => ⟨.untrained, 0, 0⟩) (match p with | .a => s.phy.eqA | .b => s.phy.eqB) a

/-- Replace the equalizer entry of address `a` on port `p`. -/
def State.setEq (s : State) (p : Port) (a : Nat) (e : EqEntry) : State :=
  match p with
  | .a => { s with phy := { s.phy with eqA := Cells.set (fun _ => ⟨.untrained, 0, 0⟩) s.phy.eqA a e } }
  | .b => { s with phy := { s.phy with eqB := Cells.set (fun _ => ⟨.untrained, 0, 0⟩) s.phy.eqB a e } }

/-! ### Banks (R546, R547) -/

/-- What an unlisted byte of SRAM reads as: 0 from reset, and any value once its bank has lost its contents (R546). -/
def sramByte (lostAt : List Nat) (o : Nat) : Byte :=
  match lostAt.getD (o / 0x20000) 0 with
  | 0 => 0
  | n + 1 => Config.lostByte (n * 0x180000 + o)

/-- The node is the rearguard its master names (R166). -/
def State.isRearguard (s : State) : Bool := decide (s.rf F.LINE_MASTER_STATUS.role = 2)

/-- Bank `b` keeps its contents in power state `n` (R546). -/
def State.bankKept (s : State) (n b : Nat) : Bool :=
  match n with
  | 2 | 3 => decide (b ≤ 2) || bitOf (s.rf F.PWR_RET_CTL.keep_s23) b || (decide (b = 10) && s.isRearguard)
      || (decide (b = 11) && !s.tag.deferred.isEmpty)
  | 4 => decide (b ≤ 2) || bitOf (s.rf F.PWR_RET_CTL.keep_s4) b || (decide (b = 11) && !s.tag.deferred.isEmpty)
  | 5 => false
  | _ => true

/-- Bank `b` loses its contents. -/
def State.loseBank (s : State) (b : Nat) : State :=
  { s with
    mem := { s.mem with sram := s.mem.sram.filter (fun c => decide (c.1 / 0x20000 ≠ b)), lostAt := s.mem.lostAt.set b (s.free + 1) }
    pwr := { s.pwr with lost := s.pwr.lost ||| (1 <<< b) }
    free := s.free + 1 }

/-- Every bank that state `n` does not keep loses its contents. -/
def State.loseBanks (s : State) (n : Nat) : State :=
  (List.range 12).foldl (fun t b => if s.bankKept n b then t else t.loseBank b) { s with pwr := { s.pwr with lost := 0 } }

/-- What exit to S0 does for a lost bank (Table 13-3). -/
def State.rebuildBank (s : State) (b : Nat) : State :=
  match b with
  | 3 => s.put F.WAKE_MODEL.loaded false
  | 4 | 5 => s.emptyHistory
  | 6 | 7 => s.startReconv
  | 8 | 9 => { s with mix := { s.mix with rx := [], buffered := [], playback := none } }
  | 10 => { s with rear := Rearguard.reset }
  | 11 => { s with phy := { s.phy with eqA := [], eqB := [] }, link := { s.link with table := [], roster := [] } }
  | _ => s

/-- The wake model reload of Table 13-3 ends: it reads the record of the last boot (R575). -/
def State.reloadModel (s : State) : State := if s.wake.model.isSome then s.put F.WAKE_MODEL.loaded true else s

/-! ### Register domains (Table 16-3, R644) -/

/-- Register domains. -/
inductive Domain where | aon | phy | core | host
  deriving DecidableEq, Repr

/-- Registers that Table 16-3 takes out of their block's domain: AON ones of MIC and CFG. -/
def aonInCore (o : Nat) : Bool :=
  decide (o = F.MIC_MUTE_STATUS.muted.off) || decide (o = F.CFG_EPOCH.current.off) || decide (o = F.CFG_EPOCH_VEC0.atomic.off)
    || decide (o = F.CFG_EPOCH_VEC1.eq.off) || decide (o = F.CFG_GEN0.cc.off) || decide (o = F.CFG_GEN1.hif.off)
    || decide (o = F.CFG_RESET_CAUSE.power_on.off)

/-- The domain of the register at offset `o` (Table 16-3). -/
def domainOf (o : Nat) : Domain :=
  if o / 0x800 = 2 then .host
  else if o / 0x800 = 4 then .phy
  else if o = F.DBG_TRACE_STATUS.overflow.off then .core
  else if o / 0x800 = 0 ∨ o / 0x800 = 1 ∨ o / 0x800 = 3 ∨ o / 0x800 = 12 ∨ o / 0x800 = 14 then .aon
  else if aonInCore o then .aon
  else .core

/-- Domain `d` is powered. -/
def State.domainOn (s : State) : Domain → Bool
  | .aon => true
  | .phy => s.phyOn
  | .core => s.coreOn
  | .host => s.hostOn

/-- The RC counters and W1C flags of the register at `o` return to their reset values (R644). -/
def State.clearCounters (s : State) (o : Nat) : State :=
  match rowAt o with
  | none => s
  | some r =>
    let m := r.acc true .rc ||| r.acc true .w1c
    s.setReg o ((s.reg o &&& ~~~m) ||| (r.resetValue &&& m))

/-- The RC counters and W1C flags of every listed register whose domain `p` selects return to their reset values (R644). -/
def State.clearDomain (s : State) (p : Domain → Bool) : State :=
  s.regs.foldl (fun t c => if p (domainOf c.1) then t.clearCounters c.1 else t) s

/-! ### Entry -/

/-- The state changes; the change is traced (Table 15-8, port 2). -/
def State.setPower (s : State) (n : Nat) : State :=
  ({ s with pwr := { s.pwr with state := n, holds := [0, 0, 0, 0], entering := none, entrySince := none } }).stim 2
    (n + 16 * s.rf F.PWR_PERF.in_force)

/-- Enter state `n` of S2 to S5: unkept banks drop, the domains of Table 1-5 power off, the equalizer bank is copied on entry to S4 and S5
(R539, R546, R21, R47). -/
def State.enterSleep (s : State) (n : Nat) : State :=
  let s := (s.bump F.PWR_ENTRY_STAT.sleeps).put F.PWR_INTAKE_STATUS.telem_stale true
  let s := if 4 ≤ n then
      { s with phy := { s.phy with eqCopy := some s.phy.eqA }, plt := { s.plt with lpcInvalid := true, firstBeacon := true } } else s
  let s := s.loseBanks n
  let s := if n = 5 then { s with pins := { s.pins with callLed := 7 } } else s
  let s := { s with phy := { s.phy with tx := [] }, plt := { s.plt with beaconOk := false, syncOk := false } }
  s.setPower n

/-! ### Exit -/

/-- The events of mute changes that waited for this exit (R561). -/
def State.exitEvents (s : State) : State :=
  s.mic.muteEvents.foldl (fun t (e : Bool × Word) => t.raiseAt e.2 8 (bit e.1) 0 0 (BitVec.ofNat 32 (s.rf F.MIC_MUTE_STATUS.mute_count)))
    { s with mic := { s.mic with muteEvents := [] } }

/-- Exit from S4: the equalizer bank is restored when BANK11 was kept, and is Untrained otherwise (R21). -/
def State.restoreEq (s : State) : State :=
  match s.phy.eqCopy with
  | some b =>
    { s with phy := { s.phy with eqA := if s.pwr.lost.getLsbD 11 then [] else b, eqB := if s.pwr.lost.getLsbD 11 then [] else s.phy.eqB,
                                 eqCopy := none } }
  | none => s

/-- The domains a state switches off. -/
def State.wasOff (s : State) (d : Domain) : Bool := !s.domainOn d

/-- Registers that an S5 boot keeps: the RTC pair and the wake cause (Table 16-7, R645). -/
def keptInS5 (o : Nat) : Bool :=
  decide (o = F.PWR_RTC.seconds.off) || decide (o = F.PWR_RTC_ALARM.seconds.off) || decide (o = F.PWR_WAKE_CAUSE.cause.off)

/-- Exit from S5: every register returns to its reset value but those of `keptInS5`, and the boot of Table 14-1 starts (R577, R643, R645,
Table 14-7). SB keeps its vote and backlog; tampered stays (R610), and so does the mute gate, which AON keeps running (R561, Table 13-2). -/
def State.s5Boot (s : State) : State :=
  let sb := s.client clientSB
  let fresh := State.reset
  let kept : State :=
    { fresh with
      dev := s.dev, mem := s.mem, pins := s.pins, regs := s.regs.filter (fun c => keptInS5 c.1), p57 := s.p57, sby := s.sby, tag := { Tag.reset with deferred := [] },
      cart := s.cart, free := s.free, pending := s.pending,
      pwr := { Pwr.reset with sbVote := s.pwr.sbVote },
      cfg := { Cfg.reset with s5 := true },
      hif := { Hif.reset s.dev.variant with clients := (Hif.reset s.dev.variant).clients.set clientSB sb, d3cold := s.hif.d3cold },
      mic := { Mic.reset with muteEvents := s.mic.muteEvents },
      plt := { Plt.reset with lpcInvalid := true } }
  let kept := (kept.put F.CFG_RESET_CAUSE.s5_boot true).put F.DBG_MON_STATUS.tampered (s.on F.DBG_MON_STATUS.tampered)
  let kept := (kept.put F.MIC_MUTE_STATUS.muted (s.on F.MIC_MUTE_STATUS.muted)).put F.MIC_MUTE_STATUS.sw_level (s.on F.MIC_MUTE_STATUS.sw_level)
  kept.exitEvents

/-- Exit to S0 (R535, R544, R547, R644). -/
def State.exitToRun (s : State) : State :=
  if s.pwr.state = 0 then s
  else if s.pwr.state = 1 then ({ s with pwr := { s.pwr with state := 0 } }).stim 2 (16 * s.rf F.PWR_PERF.in_force)
  else if s.pwr.state = 5 then s.s5Boot
  else
    let lost := s.pwr.lost
    let off := s.wasOff
    let deep := decide (3 ≤ s.pwr.state)
    let s := s.clearDomain off
    let s := s.restoreEq
    let s := (List.range 12).foldl (fun t b => if lost.getLsbD b then t.rebuildBank b else t) s
    let s := if off .core then { s with dbg := { s.dbg with trace := [], seq := 0, lost := 0 } } else s
    let s := s.setPower 0
    let s := if deep then { s with pwr := { s.pwr with awake := 0 } } else s
    (s.reloadModel).exitEvents

/-- The lowest set bit of `n` below `w`. -/
def lowestBit (n w : Nat) : Nat := ((List.range w).find? (fun i => bitOf n i)).getD 0

/-- An entry under way is abandoned: the node stays in S0 (R557, R558). `why` is the source's bit, 31 for a vote. -/
def State.abortEntry (s : State) (why : Nat) : State :=
  if s.pwr.entering.isNone then s else
  let s := { s with pwr := { s.pwr with entering := none, entrySince := none, holds := [0, 0, 0, 0] } }
  (s.bump F.PWR_ENTRY_STAT.aborted).wr F.PWR_ENTRY_STAT.last_abort why

/-- The states a source wakes from (Table 13-5): the shallowest and the deepest. -/
def wakeRange : Nat → Nat × Nat
  | 0 => (2, 3)
  | 1 => (4, 5)
  | 6 => (1, 4)
  | 8 | 9 | 10 => (2, 5)
  | 11 => (2, 4)
  | 12 => (1, 3)
  | _ => (1, 5)

/-- An optional source acts only while its bit of PWR_WAKE_EN is 1 (R552). -/
def State.wakeEnabled (s : State) (i : Nat) : Bool :=
  if i = 2 ∨ i = 5 ∨ i = 6 ∨ i = 7 ∨ i = 9 ∨ i = 11 then bitOf (s.reg F.PWR_WAKE_EN.rtc.off).toNat i else true

/-- The sources of `bits` that are enabled. -/
def State.firing (s : State) (bits : Nat) : Nat :=
  ((List.range 13).filter (fun i => bitOf bits i && s.wakeEnabled i)).foldl (fun n i => n + 2 ^ i) 0

/-- Wake sources fire together: each sets its bit of PWR_WAKE_CAUSE; an entry is aborted; a sleeping node that one of them wakes makes
one exit to S0 (R552, R557, R559). -/
def State.wakeBy (s : State) (bits : Nat) : State :=
  let fired := s.firing bits
  if fired = 0 then s else
  let s := s.wr F.PWR_WAKE_CAUSE.cause (Nat.lor (s.rf F.PWR_WAKE_CAUSE.cause) fired)
  let s := s.stim 13 fired
  let s := s.abortEntry (lowestBit fired 13)
  let at_ := s.pwr.state
  if (List.range 13).any (fun i => bitOf fired i && decide ((wakeRange i).1 ≤ at_) && decide (at_ ≤ (wakeRange i).2)) then s.exitToRun else s

end Sys2Proof.Machine
end

