-- ==== Sys2Proof/Machine/Line.lean ====
section
/-! DEFINITION. What every node does on a line port: its address and queues, the equalizer bank, the message formats of Tables 3-2 to 3-9,
and the checks a received ledger frame passes (R75, R108, R109). -/

namespace Sys2Proof.Machine

/-! ### Ports -/

/-- Field `f` of port A, or its copy `d` bytes higher for port B (Table 2-19, R2). -/
def atPort (p : Port) (d : Nat) (f : Field) : Field := match p with | .a => f | .b => { f with off := f.off + d }

/-- A receive-error field of a port (Table 2-19). -/
def rxF (p : Port) (f : Field) : Field := atPort p 0x10 f

/-- A link register field of a port (Tables 3-13 to 3-19). -/
def lkF (p : Port) (f : Field) : Field := atPort p 0x40 f

/-- The number events give a port (Table 10-11). -/
def portNum : Port → Nat | .a => 0 | .b => 1

/-- Link layer of a port. -/
def State.lnk (s : State) : Port → Link | .a => s.link | .b => s.way.linkB

/-- Replace the link layer of a port. -/
def State.setLnk (s : State) (p : Port) (l : Link) : State :=
  match p with | .a => { s with link := l } | .b => { s with way := { s.way with linkB := l } }

/-- Change the link layer of a port. -/
def State.modLnk (s : State) (p : Port) (f : Link → Link) : State := s.setLnk p (f (s.lnk p))

/-- Master state of a port. -/
def State.mst (s : State) : Port → Master | .a => s.master | .b => s.way.masterB

/-- Replace the master state of a port. -/
def State.setMst (s : State) (p : Port) (m : Master) : State :=
  match p with | .a => { s with master := m } | .b => { s with way := { s.way with masterB := m } }

/-- Change the master state of a port. -/
def State.modMst (s : State) (p : Port) (f : Master → Master) : State := s.setMst p (f (s.mst p))

/-- The node is master on port `p` (Table 4-12, Table 4-16). -/
def State.mastering (s : State) (p : Port) : Bool :=
  match p with | .a => decide (s.rf F.LINE_MASTER_STATUS.role = 1) | .b => decide (s.rf F.LINE_WAY_STATUS.b_role = 1)

/-- Port `p` is enabled and, for port B, present (Table 2-13, R2). -/
def State.portOn (s : State) (p : Port) : Bool :=
  match p with | .a => s.on F.LINE_PORT_CTL.a_en | .b => s.isB && s.on F.LINE_PORT_CTL.b_en

/-- The receiver of port `p` runs: PHY powered and enabled, in S3 only in a Watch cycle (R541), LS not halted. -/
def State.hears (s : State) (p : Port) : Bool :=
  s.phy.on && s.phyOn && (decide (s.pwr.state ≠ 3) || decide (s.phy.watch = some s.lpc)) && !s.halted 3 && !s.pins.resetHeld && s.portOn p

/-- A beacon has been driven on port `p` in this cycle. -/
def State.sentBeacon (s : State) (p : Port) : Bool :=
  s.phy.tx.any (fun b => match b with | .beacon q _ => decide (q = p) | _ => false)

/-- The node may drive port `p` in this cycle: its master after the cycle's beacon, or on port A a locked node that accepted it (R43, R93). -/
def State.mayTx (s : State) (p : Port) : Bool :=
  s.hears p && (if s.mastering p then s.sentBeacon p else decide (p = .a) && s.locked && s.plt.beaconOk)

/-- CC can create bells, ledger messages and join requests: it is neither halted nor in a warm restart (R617, Table 14-8). -/
def State.ccLink (s : State) : Bool := !s.halted 0 && !s.cfg.restarting

/-- The address held on port `p` (Table 3-13). -/
def State.addr (s : State) (p : Port) : Option Nat :=
  if s.on (lkF p F.LINE_ADDR.assigned) then some (s.rf (lkF p F.LINE_ADDR.addr)) else none

/-- The line state of port `p`: 0 Active, 1 Quiet, 2 Quiet with horn pending (Table 3-14). -/
def State.lineState (s : State) (p : Port) : Nat := s.rf (lkF p F.LINE_LINK_STATUS.line_state)

/-- Cycle `c` carries a beacon on a Quiet line (R65). -/
def quietBeaconCycle (c : Word) : Bool := decide (c.toNat % 1024 = 0)

/-- Master-capable (R151). -/
def State.masterCapable (s : State) : Bool := s.on F.LINE_ROLE.master_en

/-- Election priority (R152): 0 on port B; a configured 0 acts as 1 on port A. -/
def State.priority (s : State) (p : Port) : Nat :=
  match p with | .a => max 1 (s.rf F.LINE_ROLE.priority) | .b => 0

/-- Drive a burst (R58). -/
def State.drive (s : State) (b : Burst) : State := { s with phy := { s.phy with tx := s.phy.tx ++ [b] } }

/-! ### Message types (Table 3-3) -/

/-- Type codes. -/
def tyAddressAssign : Nat := 0x01
def tyRangePoll : Nat := 0x02
def tyRangeReply : Nat := 0x03
def tyLeaseReq : Nat := 0x10
def tyLeaseGrant : Nat := 0x11
def tyLeaseRelease : Nat := 0x12
def tyLeaseAudit : Nat := 0x13
def tyCall : Nat := 0x20
def tyCallAck : Nat := 0x21
def tyRoster : Nat := 0x30
def tyCheckpoint : Nat := 0x31
def tyTime : Nat := 0x32
def tyPowerDirective : Nat := 0x33
def tyNodeStatus : Nat := 0x34
def tyMonitor : Nat := 0x40
def tyGroupPush : Nat := 0x41

/-- The lengths Table 3-3 allows for a type, the count byte being read for LEASE_GRANT and ROSTER (R108). -/
def lengthOk (typ : Nat) (payload : List Byte) : Bool :=
  let n := payload.length
  if typ = tyAddressAssign then decide (n = 14)
  else if typ = tyRangePoll ∨ typ = tyLeaseReq ∨ typ = tyLeaseRelease ∨ typ = tyCallAck ∨ typ = tyPowerDirective then decide (n = 8)
  else if typ = tyRangeReply then decide (n = 160)
  else if typ = tyLeaseGrant then
    let k := byteAt payload 0
    decide (1 ≤ k) && decide (k ≤ 19) && decide (n = 4 + 8 * k)
  else if typ = tyLeaseAudit then decide (n = 132)
  else if typ = tyCall then decide (n = 28)
  else if typ = tyRoster then
    let k := byteAt payload 3
    decide (4 ≤ n) && decide (k ≤ 15) && decide (n = 8 + 10 * k)
  else if typ = tyCheckpoint then decide (8 ≤ n) && decide (n ≤ 160)
  else if typ = tyTime then decide (n = 16)
  else if typ = tyNodeStatus then decide (n = 32)
  else if typ = tyMonitor then decide (4 ≤ n) && decide (n ≤ 160)
  else if typ = tyGroupPush then decide (n = 12)
  else false

/-- The header bytes of a frame in line order (Table 2-7). -/
def ledgerHeader (source destination typ length : Byte) (sequence flags : Half) : List Byte :=
  [source, destination, typ, length] ++ toBe 2 sequence.toNat ++ toBe 2 flags.toNat

/-- Flag bits of Table 3-2: repeat, relayed, urgent. -/
def flagRepeat : Half := 1
def flagRelayed : Half := 2
def flagUrgent : Half := 4

/-- A new message (R95). -/
def newMsg (cycle : Word) (destination typ : Nat) (payload : List Byte) (owner : MsgOwner) : Msg :=
  { destination := BitVec.ofNat 8 destination, typ := BitVec.ofNat 8 typ, payload := payload, sequence := none, source := none,
    flags := 0, owner := owner, queued := cycle }

/-- The message ranks as urgent: by R96 on any node; by rule 2 of Table 3-1, and by R174 after a takeover, on a master. -/
def State.isUrgent (s : State) (p : Port) (m : Msg) : Bool :=
  let t := m.typ.toNat
  decide (t = tyCall) || decide (t = tyCallAck)
    || (decide (t = tyLeaseReq) && decide (byteAt m.payload 0 = 0) && decide (byteAt m.payload 3 = 3))
    || (s.mastering p && (decide (t = tyAddressAssign) || decide (t = tyLeaseGrant) || decide (t = tyPowerDirective)
      || m.flags.getLsbD 0 || (decide (t = tyLeaseAudit) && (s.mst p).takeover.isSome)))

/-- A trigger for the return to Active: the horn cycle is chosen and the Quiet beacons that follow show state 2 (R141). -/
def State.triggerActive (s : State) (p : Port) : State :=
  let m := s.mst p
  if s.mastering p ∧ s.lineState p ≠ 0 ∧ m.horn.isNone then
    let h := if s.plt.sym < 15000 ∧ !quietBeaconCycle (s.lpc + 1) then s.lpc + 1 else s.lpc + 2
    (s.setMst p { m with horn := some h }).wr (lkF p F.LINE_LINK_STATUS.line_state) 2
  else s

/-- A message of a master's own that must reach a node, and so ends a Quiet line (R141): none of those it sends only to keep tables. -/
def mustReach (typ : Nat) : Bool :=
  !(decide (typ = tyRoster) || decide (typ = tyLeaseAudit) || decide (typ = tyCheckpoint) || decide (typ = tyTime))

/-- Queue a message: an urgent one behind the urgent ones, a routine one behind every routine one (R95). On a Quiet line a master's message
may be a trigger (R141). -/
def State.post (s : State) (p : Port) (m : Msg) : State :=
  let s := if mustReach m.typ.toNat then s.triggerActive p else s
  if s.isUrgent p m then s.modLnk p (fun l => { l with urgent := l.urgent ++ [{ m with flags := m.flags ||| flagUrgent }] })
  else s.modLnk p (fun l => { l with routine := l.routine ++ [m] })

/-- The head of a node's queue (R95). -/
def Link.head (l : Link) : Option Msg := match l.urgent with
  | m :: _ => some m
  | [] => l.routine.head?

/-- Take the head off the queue. -/
def Link.popHead (l : Link) : Link := match l.urgent with
  | _ :: r => { l with urgent := r }
  | [] => { l with routine := l.routine.drop 1 }

/-- Something is queued. -/
def Link.busy (l : Link) : Bool := !(l.urgent.isEmpty && l.routine.isEmpty)

/-- Remove the queued messages that `f` selects. -/
def Link.purge (l : Link) (f : Msg → Bool) : Link :=
  { l with urgent := l.urgent.filter (fun m => !f m), routine := l.routine.filter (fun m => !f m) }

/-- A NODE_STATUS is due on a node with an address: one is queued unless one waits already; its payload is formed when it is sent (R111). -/
def State.statusDue (s : State) (p : Port) : State :=
  if (s.lnk p).routine.any (fun m => decide (m.owner = .status)) then s
  else if s.mastering p || (s.addr p).isNone then s
  else match (s.lnk p).beacon with
    | some b => s.post p (newMsg s.lpc b.masterAddr tyNodeStatus [] .status)
    | none => s.post p (newMsg s.lpc 0 tyNodeStatus [] .status)

/-! ### Equalizer bank (R83 to R88, R679) -/

/-- Failed CRCs that make an entry Stale; 0 acts as 1 (Table 2-16). -/
def State.staleAfter (s : State) : Nat := max 1 (s.rf F.LINE_EQ_CTL.stale_after)

/-- A failed CRC is charged to source `a` (R679). -/
def State.chargeCrc (s : State) (p : Port) (a : Nat) : State :=
  let e := s.eq p a
  if e.state = .trained then
    if s.staleAfter ≤ e.fails + 1 then (s.setEq p a { e with state := .stale, fails := 0 }).statusDue p
    else s.setEq p a { e with fails := e.fails + 1 }
  else s

/-- A burst of source `a` had a valid CRC: a Stale entry is Trained again, the run of failures ends (R88, R679). -/
def State.creditCrc (s : State) (p : Port) (a : Nat) : State :=
  let e := s.eq p a
  match e.state with
  | .stale => (s.setEq p a { e with state := .trained, fails := 0 }).statusDue p
  | .trained => s.setEq p a { e with fails := 0 }
  | .untrained => s

/-- Decision-directed adaptation commits new taps to a Trained entry (R85). -/
def State.adaptTaps (s : State) (p : Port) (a : Nat) : State :=
  if s.on F.LINE_EQ_CTL.dd_adapt ∧ (s.eq p a).state = .trained then
    (s.setEq p a { s.eq p a with coeff := Config.eqCoeff s.free }).takeFree 1
  else s

/-- A long training block trains entry `a` fully (R83). -/
def State.trainEq (s : State) (p : Port) (a : Nat) : State :=
  let s' := if (s.eq p a).state = .stale then s.statusDue p else s
  (s'.setEq p a { state := .trained, fails := 0, coeff := Config.eqCoeff s.free }).takeFree 1

/-- Entry `a` returns to Untrained (R87). -/
def State.untrain (s : State) (p : Port) (a : Nat) : State := s.setEq p a ⟨.untrained, 0, 0⟩

/-! ### Beacon (Table 2-5) -/

/-- The fields of a beacon body. -/
def parseBeacon (b : List Byte) : Beacon :=
  { cycle := BitVec.ofNat 32 (beAt b 0 4), rootLineId := BitVec.ofNat 32 (beAt b 4 4), masterAddr := byteAt b 8 % 128,
    hop := byteAt b 9 % 16, lineState := byteAt b 10 % 4, joinOpen := bitOf (byteAt b 10) 2, rearguardPresent := bitOf (byteAt b 10) 3,
    emergency := bitOf (byteAt b 10) 4, ledgerOwner := byteAt b 11 % 128, noOwner := bitOf (byteAt b 11) 7,
    rearguardAddr := byteAt b 12 % 128, priority := byteAt b 13 % 16, masterUid := BitVec.ofNat 48 (beAt b 14 6),
    leaseEpoch := BitVec.ofNat 16 (beAt b 20 2), rosterEpoch := BitVec.ofNat 16 (beAt b 22 2), freeSlots := byteAt b 24,
    topPrecedence := byteAt b 25 % 4 }

/-- The first 28 bytes of a beacon body; reserved bits are sent as 0 (R68). -/
def beaconFields (b : Beacon) : List Byte :=
  toBe 4 b.cycle.toNat ++ toBe 4 b.rootLineId.toNat ++ [BitVec.ofNat 8 (b.masterAddr % 128), BitVec.ofNat 8 (b.hop % 16),
    BitVec.ofNat 8 (b.lineState % 4 + 4 * bit b.joinOpen + 8 * bit b.rearguardPresent + 16 * bit b.emergency),
    BitVec.ofNat 8 (b.ledgerOwner % 128 + 128 * bit b.noOwner), BitVec.ofNat 8 (b.rearguardAddr % 128), BitVec.ofNat 8 (b.priority % 16)]
    ++ toBe 6 b.masterUid.toNat ++ toBe 2 b.leaseEpoch.toNat ++ toBe 2 b.rosterEpoch.toNat
    ++ [BitVec.ofNat 8 b.freeSlots, BitVec.ofNat 8 (b.topPrecedence % 4), 0, 0]

/-- The beacon body of 32 bytes with its CRC (R66). -/
def beaconBody (b : Beacon) : List Byte := beaconFields b ++ toBe 4 (beaconCrc (beaconFields b))

/-- A beacon burst meets R67. -/
def beaconGood (b : BeaconBurst) : Bool := decide (60 ≤ b.syncMatches) && decide (beAt b.body 28 4 = beaconCrc b.body)

/-- Beacon `x` is better than beacon `y` (R153). -/
def betterBeacon (x y : Beacon) : Bool :=
  decide (x.priority < y.priority) || (decide (x.priority = y.priority)
    && (decide (x.hop < y.hop) || (decide (x.hop = y.hop) && decide (x.masterUid.toNat < y.masterUid.toNat))))

/-! ### Talker slots (Table 2-9) -/

/-- The header word of a slot. -/
def slotHeader (source group seq format : Nat) (raised tone endOfTalk muted : Bool) : Word :=
  BitVec.ofNat 32 (0x2000000 * (source % 128) + 0x80000 * (group % 64) + 0x800 * (seq % 256) + 0x100 * (format % 8)
    + 0x80 * bit raised + 0x40 * bit tone + 0x20 * bit endOfTalk + 0x10 * bit muted)

/-- A slot as its header and payload give it. -/
def parseSlot (p : Port) (h : Word) (payload : List Byte) : RxSlot :=
  let w := h.toNat
  { port := p, source := bitsOf w 25 7, group := bitsOf w 19 6, seq := bitsOf w 11 8, format := bitsOf w 8 3, raised := bitOf w 7, tone := bitOf w 6,
    endOfTalk := bitOf w 5, muted := bitOf w 4, payload := payload }

/-! ### Leases a node holds -/

/-- The session number events give a lease's owner: 0xFF when it is no talk session (Table 10-11). -/
def LeaseOwner.num : LeaseOwner → Nat | .session n => n | _ => 0xFF

/-- The node holds slot `k` on port `p`. -/
def State.holds (s : State) (p : Port) (k : Nat) : Bool := (s.lnk p).held.any (fun h => decide (h.slot = k))

/-- The holder of slot `k` as the link layer knows it. -/
def State.holderOf (s : State) (p : Port) (k : Nat) : Option Nat :=
  if s.mastering p then (Cells.get (fun _ => none) (s.mst p).leases k).map (fun (l : MLease) => l.holder)
  else (Cells.get (fun _ => none) (s.lnk p).table k).map (fun (l : LeaseRow) => l.holder)

/-- An entry of the node's copy of the lease table changes (Table 15-8, port 1). -/
def State.setRow (s : State) (p : Port) (k : Nat) (r : Option LeaseRow) (code : Nat) : State :=
  let h := match r with | some x => x.holder | none => 0xFF
  (s.modLnk p (fun l => { l with table := Cells.set (fun _ => none) l.table k r })).stim 1 (k % 256 + 256 * h + 65536 * code)

/-- The req_id after `n`; 0 is never used (Table 3-6). -/
def nextReqId (n : Half) : Half := if n = 0xFFFF then 1 else n + 1

/-- LEASE_REQ payload (Table 3-6). -/
def leaseReqPayload (op group format prec catchup : Nat) (reqId : Half) : List Byte :=
  [BitVec.ofNat 8 op, BitVec.ofNat 8 group, BitVec.ofNat 8 format, BitVec.ofNat 8 prec, BitVec.ofNat 8 catchup, 0] ++ toBe 2 reqId.toNat

/-- The master's address as the node last heard it. -/
def State.masterAddr (s : State) (p : Port) : Nat :=
  if s.mastering p then (s.addr p).getD 0 else match (s.lnk p).beacon with | some b => b.masterAddr | none => 0

/-- Ask for a lease: a LEASE_REQ is queued, or pair 1 is to be rung (with pair 2 when the profile has catch-up slots and they are
wanted) (R97, R98, Table 3-11 Idle). -/
def State.requestLease (s : State) (p : Port) (owner : LeaseOwner) (standing : Bool) (group format prec catchup : Nat) : State :=
  let id := (s.lnk p).nextReq
  let req : TalkReq :=
    { owner := owner, reqId := id, standing := standing, group := group, format := format, prec := prec, catchup := catchup,
      phase := .unsent, attempts := 0, sentAt := s.lpc }
  let s := s.modLnk p (fun l => { l with nextReq := nextReqId id, reqs := l.reqs ++ [req] })
  if standing then (s.triggerActive p).modLnk p (fun l => if catchup = 0 then { l with ring1 := true } else { l with ring12 := true })
  else s.post p (newMsg s.lpc (s.masterAddr p) tyLeaseReq (leaseReqPayload 0 group format prec catchup id) (.leaseReq id))

/-- The standing profile's lease request for a call, on the call's port: format of the profile (R303, R318). -/
def State.requestForCall (s : State) (r : Nat) : State :=
  match s.call.recs.getD r none with
  | some c => s.requestLease c.port (.call r) false c.group s.link.standing.format c.prec 0
  | none => s

/-- A client's talk session may be told of its lease: the session is open. -/
def State.tellLost (s : State) (o : LeaseOwner) (slot reason : Nat) : State :=
  match o with
  | .unasked => s
  | .proxy _ => s
  | _ => s.raise 6 o.num slot reason 0

/-- The lease of an Answered record is lost: the node asks again (R318). -/
def State.callAgain (s : State) (o : LeaseOwner) : State :=
  match o with
  | .call r =>
    match s.call.recs.getD r none with
    | some c => if c.state = .answered then
        (if (s.lnk c.port).reqs.any (fun q => decide (q.owner = o)) then s else s.requestForCall r) else s
    | none => s
  | _ => s

/-- One held lease ends without the holder's asking: EV_LEASE_LOST (Table 3-11 Holding). -/
def State.loseLease (s : State) (p : Port) (h : HeldLease) (reason : Nat) : State :=
  let s := s.modLnk p (fun l => { l with held := l.held.filter (fun x => decide (x.slot ≠ h.slot)) })
  (s.tellLost h.owner h.slot reason).callAgain h.owner

/-- Every held lease ends, with one event each (Table 3-11 Holding, R145, R148, R159). -/
def State.loseAll (s : State) (p : Port) (reason : Nat) : State :=
  (s.lnk p).held.foldl (fun t h => t.loseLease p h reason) s

/-- The node gives up its address and leases and rejoins under Listing 3-1 (R116, R148, R159, R178). -/
def State.giveUpAddress (s : State) (p : Port) (reason : Nat) : State :=
  let s := s.loseAll p reason
  let s := (s.put (lkF p F.LINE_ADDR.assigned) false).wr (lkF p F.LINE_ADDR.rtd) 0
  let s := s.wr (lkF p F.LINE_ADDR.addr) 0
  s.modLnk p (fun l => { l with joinWindow := 0, joinWait := 0, joinSent := none, ring1 := false, ring12 := false, rangeReply := none })

/-- own_addr_seen is counted; in 2 cycles within 64 a node that is not master gives up its address and leases (R92, R148). -/
def State.ownAddrSeen (s : State) (p : Port) : State :=
  let s := s.bump (rxF p F.LINE_RX_ERR2.own_addr_seen)
  if s.mastering p then s else
  let earlier := s.phy.ownSeen.filter (fun c => decide ((s.lpc - c).toNat < 64))
  let again := earlier.any (fun c => decide (c ≠ s.lpc))
  let s := { s with phy := { s.phy with ownSeen := if again then [] else s.lpc :: earlier.filter (fun c => decide (c ≠ s.lpc)) } }
  if again then (s.giveUpAddress p 3).modLnk p (fun l => { l with conflict := true }) else s

/-! ### A received ledger frame -/

/-- The receiver's destinations (R108). -/
def State.forMe (s : State) (p : Port) (dest : Byte) : Bool :=
  decide (dest = 0xFF) || (decide (dest = 0xFE) && s.masterCapable) || decide (s.addr p = some dest.toNat)

/-- The master hears node `a`: its unheard count restarts (R162). -/
def State.hearNode (s : State) (p : Port) (a : Nat) : State :=
  if s.mastering p then
    s.modMst p (fun m => { m with roster := m.roster.map (fun r => if r.row.addr = a then { r with unheard := 0 } else r) })
  else s

/-- The frame's source and sequence were processed in the previous 64 cycles (R109). -/
def State.isDup (s : State) (p : Port) (source : Nat) (seq : Half) : Bool :=
  (s.lnk p).recent.any (fun x => decide (x.1 = source) && decide (x.2.1 = seq) && decide ((s.lpc - x.2.2).toNat ≤ 64))

/-- The frame's CRC was computed over the frame (R74). -/
def State.frameCrcOk (s : State) (f : LedgerFrame) : Bool :=
  decide (f.crc.toNat = ledgerCrc s.lpc (ledgerHeader f.source f.destination f.typ f.length f.sequence f.flags) f.payload)

/-- The source named in the beacon's ledger_owner byte, when it names one (R679). -/
def State.frameOwner (s : State) (p : Port) : Option Nat :=
  match (s.lnk p).beacon with
  | some b => if b.noOwner then none else some b.ledgerOwner
  | none => none

/-- The beacon of this cycle names the node as owner of the ledger frame (R105). -/
def State.namedOwner (s : State) (p : Port) : Bool :=
  match (s.lnk p).beacon with
  | some b => !b.noOwner && decide (b.cycle = s.lpc) && decide (s.addr p = some b.ledgerOwner)
  | none => false

/-- Checks of R75 and what a valid CRC does whoever the frame is for: the equalizer (R85, R88), a conflict (R92), the hearing of R162. -/
def State.frameReceived (s : State) (f : LedgerFrame) : State × Bool :=
  let p := f.port
  if 160 < f.length.toNat then (s.bump (rxF p F.LINE_RX_ERR1.ledger_oversize), false)
  else if !s.frameCrcOk f then
    let s := s.bump (rxF p F.LINE_RX_ERR1.ledger_crc)
    (match s.frameOwner p with | some a => s.chargeCrc p a | none => s, false)
  else
    let a := f.source.toNat % 128
    let copy := f.flags.getLsbD 0 || f.flags.getLsbD 1
    let s := if copy then s else (s.creditCrc p a).adaptTaps p a
    let s := if !copy && decide (s.addr p = some a) && !s.namedOwner p then s.ownAddrSeen p else s
    (if copy then s else s.hearNode p a, true)

/-- Messages the rearguard journals: LEASE_GRANT, ADDRESS_ASSIGN, ROSTER deltas and POWER_DIRECTIVE (R171). -/
def journaled (typ : Nat) (payload : List Byte) : Bool :=
  decide (typ = tyLeaseGrant) || decide (typ = tyAddressAssign) || decide (typ = tyPowerDirective) || (decide (typ = tyRoster) && decide (byteAt payload 0 = 1))

/-- The rearguard journals a message of its master, whoever it is for; the 257th entry drops the oldest one and is a gap (R171). -/
def State.journalFrame (s : State) (f : LedgerFrame) : State :=
  let copy := f.flags.getLsbD 0 || f.flags.getLsbD 1
  let fromMaster := match s.link.beacon with | some b => decide (b.masterAddr = f.source.toNat % 128) | none => false
  if !(s.isRearguard && decide (f.port = .a) && fromMaster && !copy && journaled f.typ.toNat f.payload && lengthOk f.typ.toNat f.payload)
      || s.isDup f.port (f.source.toNat % 128) f.sequence then s
  else
    let j := s.rear.journal ++ [(s.lpc, f.typ, f.payload)]
    if j.length ≤ 256 then { s with rear := { s.rear with journal := j } }
    else ({ s with rear := { s.rear with journal := j.drop 1, gap := some s.lpc } }).put F.LINE_CKPT_ERR.journal_gap true

/-- A ledger frame of the type `expect` arrives: R75, R92, R108, R109 and R171, then `act`. In S2 LS drops every frame but those addressed to
the node and those that `wakes` selects, which wake it (R540) and end the wait of R104; in S3 and deeper the node hears no frame; a CC that is
halted or restarting misses it (R586). -/
def State.frame (s : State) (f : LedgerFrame) (expect : Nat) (wakes : State → Bool) (act : State → State) : State :=
  let p := f.port
  if !s.hears p || decide (3 ≤ s.pwr.state) then s else
  let (s, ok) := s.frameReceived f
  if !ok || !s.ccLink then s else
  let s := s.journalFrame f
  if !s.forMe p f.destination then s
  else if !lengthOk f.typ.toNat f.payload || decide (f.length.toNat ≠ f.payload.length) then s.bump (lkF p F.LINE_LINK_ERR.ledger_bad_type)
  else if f.typ.toNat ≠ expect then s
  else if s.isDup p (f.source.toNat % 128) f.sequence then s.bump (lkF p F.LINE_LINK_ERR.ledger_dup)
  else
    let mine := wakes s || decide (s.addr p = some f.destination.toNat)
    if 2 ≤ s.pwr.state && !mine then s
    else
    let s := if 2 ≤ s.pwr.state then s.wakeBy 1 else s
    let s := if mine then { s with pwr := { s.pwr with bellUntil := none } } else s
    let s := s.modLnk p (fun l => { l with recent := (f.source.toNat % 128, f.sequence, s.lpc) :: l.recent.filter (fun x => decide ((s.lpc - x.2.2).toNat ≤ 64)) })
    act (s.stim 0 (f.typ.toNat + 256 * f.source.toNat + 65536 * f.destination.toNat))

end Sys2Proof.Machine
end

