-- ==== Sys2Proof/Machine/Mastering.lean ====
section
/-! DEFINITION. What a line master does with requests, leases, joins, power classes, its rearguard and a Quiet line: the shared operations
behind the master's commands (R112 to R129, R138, R141, R156 to R170). -/

namespace Sys2Proof.Machine

/-! ### Leases at the master (Table 3-10, R121 to R125) -/

/-- One entry of a LEASE_GRANT (Table 3-6). -/
structure GrantEntry where
  code : Nat
  holder : Nat
  slot : Nat
  group : Nat
  prec : Nat
  format : Nat
  pos : Nat
  reqId : Half
  deriving DecidableEq, Repr

/-- The 8 bytes of an entry. -/
def GrantEntry.bytes (e : GrantEntry) : List Byte :=
  [BitVec.ofNat 8 e.code, BitVec.ofNat 8 e.holder, BitVec.ofNat 8 e.slot, BitVec.ofNat 8 (e.group % 64 + 64 * (e.prec % 4)),
   BitVec.ofNat 8 (e.format % 8), BitVec.ofNat 8 e.pos] ++ toBe 2 e.reqId.toNat

/-- Entry `i` of a LEASE_GRANT payload. -/
def grantEntryAt (p : List Byte) (i : Nat) : GrantEntry :=
  let o := 4 + 8 * i
  { code := byteAt p o, holder := byteAt p (o + 1), slot := byteAt p (o + 2), group := byteAt p (o + 3) % 64, prec := byteAt p (o + 3) / 64,
    format := byteAt p (o + 4) % 8, pos := byteAt p (o + 5), reqId := BitVec.ofNat 16 (beAt p (o + 6) 2) }

/-- The entries of a LEASE_GRANT payload. -/
def grantEntries (p : List Byte) : List GrantEntry := (List.range (byteAt p 0)).map (grantEntryAt p)

/-- A LEASE_GRANT of at most 19 entries (Table 3-6). -/
def grantPayload (es : List GrantEntry) : List Byte := [BitVec.ofNat 8 es.length, 0, 0, 0] ++ es.flatMap GrantEntry.bytes

/-- The entries leave in LEASE_GRANT messages of at most 19. -/
def State.postGrants (s : State) (p : Port) (es : List GrantEntry) : Nat → State
  | 0 => s
  | n + 1 =>
    if es.isEmpty then s
    else (s.post p (newMsg s.lpc 0xFF tyLeaseGrant (grantPayload (es.take 19)) .none)).postGrants p (es.drop 19) n

/-- Queue the LEASE_GRANT for `es`. -/
def State.grantOut (s : State) (p : Port) (es : List GrantEntry) : State := s.postGrants p es (es.length + 1)

/-- Lease of slot `k` at the master. -/
def Master.lease (m : Master) (k : Nat) : Option MLease := Cells.get (fun _ => none) m.leases k

/-- Lease of slot `k` that a LEASE_GRANT sent has put into the lease table (Table 3-10). -/
def Master.inForce (m : Master) (k : Nat) : Option MLease := (m.lease k).filter (fun l => l.sentAt.isSome)

/-- Put a lease into slot `k`, or free it. -/
def Master.setLease (m : Master) (k : Nat) (l : Option MLease) : Master := { m with leases := Cells.set (fun _ => none) m.leases k l }

/-- Free slots, lowest first. -/
def Master.freeList (m : Master) : List Nat := (List.range 64).filter (fun k => (m.lease k).isNone)

/-- The lowest free pair k, k + 1 with k even (R122). -/
def Master.freePair (m : Master) : Option Nat := (m.freeList.filter (fun k => decide (k % 2 = 0))).find? (fun k => (m.lease (k + 1)).isNone)

/-- The slots and formats a request for a live slot gets from the free ones (R122). -/
def Master.liveSlots (m : Master) (format : Nat) : List (Nat × Nat) :=
  let single := match m.freeList with | k :: _ => [(k, 1)] | [] => []
  if format = 2 then match m.freePair with | some k => [(k, 2), (k + 1, 3)] | none => single else single

/-- Grant slot `k` with format `f` to node `a`: it is set aside until the LEASE_GRANT is sent. -/
def Master.grantSlot (m : Master) (k f a group prec : Nat) : Master :=
  { m.setLease k (some { holder := a, group := group, prec := prec, format := f, missed := 0, held := false, heard := false, stamp := m.stamp,
                         sentAt := none }) with stamp := m.stamp + 1 }

/-- Grant from the free slots: the live ones of R122 and as many catch-up slots as are free, up to `cu` (R123). -/
def Master.grantFree (m : Master) (a group format prec cu : Nat) (id : Half) : Master × List GrantEntry :=
  let live := m.liveSlots format
  let m := live.foldl (fun m x => m.grantSlot x.1 x.2 a group prec) m
  let extra := if live.isEmpty then [] else (m.freeList.take cu).map (fun k => (k, 4))
  let m := extra.foldl (fun m x => m.grantSlot x.1 x.2 a group prec) m
  (m, (live ++ extra).map (fun x => { code := 0, holder := a, slot := x.1, group := group, prec := prec, format := x.2, pos := 0, reqId := id }))

/-- The routine lease most recently granted (R125). -/
def Master.victim (m : Master) : Option (Nat × MLease) :=
  (List.range 64).foldl (fun best k => match m.lease k with
    | some l => if l.prec = 0 then (match best with
        | some (_, b) => if b.stamp < l.stamp then some (k, l) else best
        | none => some (k, l)) else best
    | none => best) none

/-- Insert by precedence, then by arrival (R124). -/
def insertReq (q : MReq) : List MReq → List MReq
  | [] => [q]
  | x :: xs => if x.prec < q.prec then q :: x :: xs else x :: insertReq q xs

/-- Place of a request in the queue, from 1. -/
def queuePos (q : List MReq) (a : Nat) (id : Half) : Nat := q.findIdx (fun x => decide (x.addr = a) && decide (x.reqId = id)) + 1

/-- Queue a request, or refuse it or the last one (R124). -/
def Master.enqueueReq (m : Master) (q : MReq) : Master × List GrantEntry :=
  let refuse (x : MReq) : GrantEntry := { code := 3, holder := x.addr, slot := 0xFF, group := x.group, prec := x.prec, format := x.format, pos := 0, reqId := x.reqId }
  let waits (l : List MReq) : GrantEntry :=
    { code := 1, holder := q.addr, slot := 0xFF, group := q.group, prec := q.prec, format := q.format, pos := queuePos l q.addr q.reqId, reqId := q.reqId }
  if m.queue.length < 32 then
    let l := insertReq q m.queue
    ({ m with queue := l }, [waits l])
  else match m.queue.getLast? with
    | some last =>
      if last.prec < q.prec then
        let l := insertReq q m.queue.dropLast
        ({ m with queue := l }, [refuse last, waits l])
      else (m, [refuse q])
    | none => (m, [refuse q])

/-- Answer a request for a lease (R121 to R125). -/
def Master.answer (m : Master) (q : MReq) : Master × List GrantEntry :=
  let (m', es) := m.grantFree q.addr q.group q.format q.prec q.catchup q.reqId
  if !es.isEmpty then (m', es)
  else if q.prec = 3 then
    match m.victim with
    | some (k, l) =>
      let m := (m.setLease k none).grantSlot k 1 q.addr q.group q.prec
      (m, [{ code := 2, holder := l.holder, slot := k, group := l.group, prec := l.prec, format := l.format, pos := 0, reqId := 0 },
           { code := 0, holder := q.addr, slot := k, group := q.group, prec := q.prec, format := 1, pos := 0, reqId := q.reqId }])
    | none => m.enqueueReq q
  else m.enqueueReq q

/-- Freed slots go to the head of the queue, again and again (R124). -/
def Master.serveQueue (m : Master) : Nat → Master × List GrantEntry
  | 0 => (m, [])
  | n + 1 =>
    match m.queue with
    | [] => (m, [])
    | q :: rest =>
      if m.freeList.isEmpty then (m, [])
      else
        let (m, es) := ({ m with queue := rest }).grantFree q.addr q.group q.format q.prec q.catchup q.reqId
        let (m, more) := m.serveQueue n
        (m, es ++ more)

/-- Free the slots of `ks` that are leased, with LEASE_GRANT `code` for each, and serve the queue (R128). -/
def Master.freeSlots (m : Master) (ks : List Nat) (code : Nat) : Master × List GrantEntry :=
  let gone := ks.filterMap (fun k => (m.lease k).map (fun l => (k, l)))
  let m := gone.foldl (fun m x => m.setLease x.1 none) m
  let es := gone.map (fun x => ({ code := code, holder := x.2.holder, slot := x.1, group := x.2.group, prec := x.2.prec, format := x.2.format, pos := 0, reqId := 0 } : GrantEntry))
  let (m, more) := m.serveQueue 33
  (m, es ++ more)

/-- Change the master's tables and send the entries that tell of it. -/
def State.leaseChange (s : State) (p : Port) (f : Master → Master × List GrantEntry) : State :=
  let (m, es) := f (s.mst p)
  (s.setMst p m).grantOut p es

/-- A request for a lease reaches the master: it is answered, and no Quiet entry falls due (R121, R138). -/
def State.takeRequest (s : State) (p : Port) (q : MReq) : State :=
  (s.leaseChange p (fun m => { m with idle := 0 }.answer q))

/-! ### Roster -/

/-- The master's row of address `a`. -/
def Master.rowOf (m : Master) (a : Nat) : Option MasterRow := m.roster.find? (fun r => decide (r.row.addr = a))

/-- The address is taken in the roster (R99). -/
def Master.knows (m : Master) (a : Nat) : Bool := (m.rowOf a).isSome

/-- Change the row of address `a`. -/
def Master.modRow (m : Master) (a : Nat) (f : MasterRow → MasterRow) : Master :=
  { m with roster := m.roster.map (fun r => if r.row.addr = a then f r else r) }

/-- Insert a row in the order of addresses. -/
def insertRow (r : MasterRow) : List MasterRow → List MasterRow
  | [] => [r]
  | x :: xs => if r.row.addr < x.row.addr then r :: x :: xs else if r.row.addr = x.row.addr then r :: xs else x :: insertRow r xs

/-- The 10 bytes of a roster entry (Table 3-8). -/
def rosterEntry (r : RosterRow) : List Byte :=
  [BitVec.ofNat 8 r.addr] ++ toBe 6 r.uid.toNat ++ toBe 2 r.room.toNat ++ [r.flags]

/-- A ROSTER payload (Table 3-8). -/
def rosterPayload (kind part count : Nat) (epoch : Half) (rows : List RosterRow) : List Byte :=
  [BitVec.ofNat 8 kind, BitVec.ofNat 8 part, BitVec.ofNat 8 count, BitVec.ofNat 8 rows.length] ++ toBe 2 epoch.toNat ++ [0, 0]
    ++ rows.flatMap rosterEntry

/-- Roster flag bits (Table 3-8). -/
def rosterFlags (cls : Nat) (mcap sleeping b defaulted removed eligible : Bool) : Byte :=
  BitVec.ofNat 8 (cls % 4 + 4 * bit mcap + 8 * bit sleeping + 16 * bit b + 32 * bit defaulted + 64 * bit removed + 128 * bit eligible)

/-- A queued message is a ROSTER delta. -/
def Msg.isDelta (m : Msg) : Bool := decide (m.typ.toNat = tyRoster) && decide (byteAt m.payload 0 = 1)

/-- A roster change: the epoch increments, and a delta waits for the next routine frame, behind the deltas that wait already (R112). -/
def State.rosterDelta (s : State) (p : Port) (rows : List RosterRow) : State :=
  let s := s.modMst p (fun m => { m with rosterEpoch := m.rosterEpoch + 1 })
  let m := newMsg s.lpc 0xFF tyRoster (rosterPayload 1 0 1 (s.mst p).rosterEpoch rows) .none
  s.modLnk p (fun l => { l with routine := l.routine.takeWhile Msg.isDelta ++ [m] ++ l.routine.dropWhile Msg.isDelta })

/-- Parts a full roster takes: 15 entries each, and one part for none (R112, R177). -/
def rosterParts (m : Master) : Nat := max 1 ((m.roster.length + 14) / 15)

/-- Full roster part `i` is queued (R112). -/
def State.rosterPart (s : State) (p : Port) (i : Nat) : State :=
  let m := s.mst p
  s.post p (newMsg s.lpc 0xFF tyRoster
    (rosterPayload 0 i (rosterParts m) m.rosterEpoch (((m.roster.drop (15 * i)).take 15).map (fun r => r.row))) .none)

/-! ### Line power admission (R163 to R165) -/

/-- Class limit in 0.1 W (R163). -/
def classLimit : Nat → Nat | 3 => 50 | 2 => 25 | _ => 10

/-- A declared class of 0 counts as C1 (R164). -/
def classOf (n : Nat) : Nat := max 1 (n % 4)

/-- Admitted total, 0.1 W (R163): every roster entry, the master's among them. -/
def Master.admittedTotal (m : Master) : Nat := (m.roster.map (fun r => classLimit r.admitted)).foldl (· + ·) 0

/-- Class admitted beside the others (R164): the declared one when it fits the budget, C1 otherwise. -/
def State.grantClass (s : State) (others declared : Nat) : Nat :=
  let budget := s.rf F.LINE_HEAD_BUDGET.budget_dw
  if budget = 0 ∨ others + classLimit declared ≤ budget then declared else 1

/-- The admitted total is shown, and a total above the budget flagged (R164, Table 4-11). -/
def State.showAdmitted (s : State) (p : Port) : State :=
  let t := (s.mst p).admittedTotal
  let s := s.wr F.LINE_HEAD_BUDGET.admitted_dw (min t 65535)
  let budget := s.rf F.LINE_HEAD_BUDGET.budget_dw
  if budget ≠ 0 ∧ budget < t then s.put F.LINE_CKPT_ERR.over_budget true else s

/-- The node's admitted class changes: P57_CLASS and the loads of the class follow it, in the order of R204, which one step does not show.
While the intake bus may not start a transaction the P57 keeps its class (R224). -/
def State.ownClass (s : State) (c : Nat) : State :=
  { s with
    intake := { s.intake with admitted := c, loads := c }
    p57 := if s.intake.brownout || s.intake.waiting then s.p57 else { s.p57 with cls := BitVec.ofNat 2 c } }

/-- Highest class above `now` and up to `declared` that fits the budget beside the others. -/
def State.offer (s : State) (others now declared : Nat) : Option Nat :=
  let budget := s.rf F.LINE_HEAD_BUDGET.budget_dw
  ([3, 2].filter (fun c => decide (now < c) && decide (c ≤ declared))).find? (fun c => decide (budget = 0) || decide (others + classLimit c ≤ budget))

/-- Freed budget is offered, lowest address first; the master raises its own class without a directive (R165). -/
def State.offerClasses (s : State) (p : Port) : State :=
  (s.mst p).roster.foldl (fun t r =>
    let m := t.mst p
    match t.offer (m.admittedTotal - classLimit r.admitted) r.admitted r.declared with
    | some c =>
      let row := { r.row with flags := (r.row.flags &&& 0xFC) ||| BitVec.ofNat 8 c }
      let t := (t.setMst p (m.modRow r.row.addr (fun r => { r with admitted := c, row := row }))).rosterDelta p [row]
      if t.addr p = some r.row.addr then t.ownClass c
      else t.post p (newMsg t.lpc r.row.addr tyPowerDirective [1, BitVec.ofNat 8 r.row.addr, BitVec.ofNat 8 c, 0, 0, 0, 0, 0] .none)
    | none => t) s |>.showAdmitted p

/-! ### Rearguard naming (R166, R191) -/

/-- A candidate for rearguard: master-capable, eligible, awake, not the master, not passed over. -/
def rearCandidate (own : Option Nat) (pass : List Nat) (r : MasterRow) : Bool :=
  r.row.flags.getLsbD 2 && r.row.flags.getLsbD 7 && !r.sleeping && decide (own ≠ some r.row.addr) && !pass.contains r.row.addr

/-- The best candidate: lowest priority as last reported, 15 without a report, then lowest address. -/
def bestRear (rs : List MasterRow) : Option Nat :=
  (rs.foldl (fun (best : Option (Nat × Nat)) r =>
    let key := r.prio.getD 15
    match best with
    | some (k, a) => if key < k ∨ (key = k ∧ r.row.addr < a) then some (key, r.row.addr) else some (k, a)
    | none => some (key, r.row.addr)) none).map (fun x => x.2)

/-- Name or rename the rearguard; a new checkpoint starts at once (R166). -/
def State.nameRear (s : State) (p : Port) : State :=
  let m := s.mst p
  if !s.mastering p ∨ m.takeover.isSome then s else
  let best := bestRear (m.roster.filter (rearCandidate (s.addr p) m.passOver))
  if best = m.rearguard then s
  else (s.setMst p { m with rearguard := best, snapshot := none, ckptSending := false }).modLnk p (fun l => l.purge (fun x => decide (x.typ.toNat = tyCheckpoint)))

/-! ### Checkpoints (R168, R169) -/

/-- The checkpoint data of Table 4-4. -/
def State.ckptData (s : State) (p : Port) : List Byte :=
  let m := s.mst p
  let root := match m.last with | some b => b.rootLineId | none => 0
  let hop := match m.last with | some b => b.hop | none => 0
  let head := toBe 2 1 ++ toBe 4 s.lpc.toNat ++ toBe 4 root.toNat ++ [BitVec.ofNat 8 (hop % 16), BitVec.ofNat 8 (s.lineState p % 4)]
    ++ toBe 2 m.leaseEpoch.toNat ++ toBe 2 m.rosterEpoch.toNat ++ [BitVec.ofNat 8 m.served3, BitVec.ofNat 8 m.served5]
    ++ toBe 2 m.admittedTotal ++ toBe 4 (m.idle / 1000) ++ [BitVec.ofNat 8 m.roster.length, BitVec.ofNat 8 m.queue.length] ++ toBe 6 0
  let slots := (List.range 64).flatMap (fun k => match m.inForce k with
    | some l => [BitVec.ofNat 8 l.holder, BitVec.ofNat 8 (l.group % 64 + 64 * (l.prec % 4)), BitVec.ofNat 8 l.format, BitVec.ofNat 8 l.missed]
    | none => [0xFF, 0, 0, 0])
  let rows := m.roster.flatMap (fun r => rosterEntry r.row ++ toBe 2 r.rtd
    ++ [BitVec.ofNat 8 (r.profile.group % 64 + 64 * (r.profile.prec % 4)), BitVec.ofNat 8 (r.profile.format % 8 + 8 * (r.profile.catchup % 4))])
  let queue := m.queue.flatMap (fun q => [BitVec.ofNat 8 q.addr, BitVec.ofNat 8 q.group, BitVec.ofNat 8 q.format, BitVec.ofNat 8 q.prec,
    BitVec.ofNat 8 q.catchup, 0] ++ toBe 2 q.reqId.toNat)
  head ++ slots ++ rows ++ queue

/-- The closing CRC of checkpoint `n` (R169). -/
def ckptCrc (n : Word) (data : List Byte) : Nat := crcOf crc32 (toBe 4 n.toNat ++ data)

/-- The parts of checkpoint `n`: 152 bytes of the stream each, the last what remains (R168). -/
def State.postParts (s : State) (p : Port) (dest : Nat) (n : Word) (count : Nat) (stream : List Byte) : Nat → Nat → State
  | _, 0 => s
  | i, left + 1 =>
    let payload := toBe 4 n.toNat ++ [BitVec.ofNat 8 i, BitVec.ofNat 8 count, 0, 0] ++ stream.take 152
    (s.post p (newMsg s.lpc dest tyCheckpoint payload (if left = 0 then .checkpointEnd else .none))).postParts p dest n count (stream.drop 152) (i + 1) left

/-! ### Quiet line (R138, R139) -/

/-- The line state of a port becomes `n`, with EV_LINE_STATE (Table 10-11). -/
def State.setLineState (s : State) (p : Port) (n : Nat) : State :=
  if s.lineState p = n then s else (s.wr (lkF p F.LINE_LINK_STATUS.line_state) n).raise 10 n (portNum p) 0 0

/-! ### Sleeping nodes (R103) -/

/-- A node of the master's roster sleeps (R102). -/
def Master.sleeps (m : Master) (a : Nat) : Bool := match m.rowOf a with | some r => r.sleeping | none => false

/-- The sleeping nodes that must hear a message (R103, R137, R543): those addressed, those a CALL concerns, those whose leases a LEASE_GRANT
changes, all for a Quiet directive. -/
def State.mustHear (s : State) (p : Port) (typ dest : Nat) (payload : List Byte) : List Nat :=
  let m := s.mst p
  let sleepers := (m.roster.filter (fun r => r.sleeping)).map (fun r => r.row.addr)
  if typ = tyCall then
    sleepers.filter (fun a => match m.rowOf a with
      | some r => r.listen.getLsbD (byteAt payload 4 % 64) || (bitOf (byteAt payload 3) 0 && decide (byteAt payload 5 = a))
      | none => false)
  else if typ = tyCallAck then
    match m.relays.find? (fun r => decide (r.caller = byteAt payload 2) && decide (r.callId.toNat = beAt payload 0 2) && decide ((s.lpc - r.cycle).toNat < 262144)) with
    | some r => sleepers.filter (fun a => r.targets.contains a || decide (a = byteAt payload 2))
    | none => sleepers.filter (fun a => decide (a = byteAt payload 2))
  else if typ = tyLeaseGrant then
    sleepers.filter (fun a => (grantEntries payload).any (fun e => decide (e.holder = a) && (decide (e.code = 0) || decide (e.code = 2) || decide (e.code = 4) || decide (e.code = 5))))
  else if typ = tyPowerDirective ∧ byteAt payload 0 = 0 then sleepers
  else sleepers.filter (fun a => decide (a = dest))

/-- The bell pair of a message (Table 2-6). -/
def pairOf (typ : Nat) : Nat := if typ = tyCall ∨ typ = tyCallAck then 2 else if typ = tyLeaseGrant then 1 else 0

/-- The master rings toward the sleeping nodes that must hear a message, from the next cycle's bell field on, and repeats it at b + 8 and
b + 16; the targets of a relayed CALL are kept (R103, R137). -/
def State.wakeSleepers (s : State) (p : Port) (m : Msg) : State :=
  let typ := m.typ.toNat
  let targets := s.mustHear p typ m.destination.toNat m.payload
  if targets.isEmpty then s else
  let r : Repeat := { msg := { m with flags := m.flags ||| flagRepeat, owner := .none }, first := s.lpc + 1, pair := pairOf typ, targets := targets }
  let s := s.modMst p (fun x => { x with repeats := x.repeats ++ [r] })
  if typ = tyCall then
    s.modMst p (fun x => { x with relays := { caller := byteAt m.payload 2, callId := BitVec.ofNat 16 (beAt m.payload 0 2), targets := targets, cycle := s.lpc }
                                    :: x.relays.filter (fun r => decide ((s.lpc - r.cycle).toNat < 262144)) })
  else s

/-! ### Leaving the mastership -/

/-- The node is no longer master or rearguard on port `p`: it is a follower with nothing of a master's state (R157, R618). -/
def State.stepDown (s : State) (p : Port) : State :=
  let s := match p with
    | .a => (s.wr F.LINE_MASTER_STATUS.role 0).put F.LINE_MASTER_STATUS.established false
    | .b => s.wr F.LINE_WAY_STATUS.b_role 0
  s.setMst p Master.reset

end Sys2Proof.Machine
end

