-- ==== Sys2Proof/Machine/Holder.lean ====
section
/-! DEFINITION. Leases at the holder (Table 3-11): requests, answers, releases and withdrawals, with the talk sessions, calls and proxies
they serve (R121, R126, R128 to R132, R440 to R442). -/

namespace Sys2Proof.Machine

/-! ### Talk sessions (R439) -/

/-- Session `n`. -/
def State.session (s : State) (n : Nat) : Option Session := s.hif.sessions.getD n none

/-- Replace session `n`. -/
def State.setSession (s : State) (n : Nat) (x : Option Session) : State :=
  { s with hif := { s.hif with sessions := s.hif.sessions.set n x } }

/-- The privacy mute is on (R336). -/
def State.muted (s : State) : Bool := s.on F.MIC_MUTE_STATUS.muted

/-- A descriptor waits in TALK_OPEN for session `n`. -/
def opensSession (n : Nat) (x : InFlight) : Bool := decide (x.phase = .talkOpen n)

/-- Complete the TALK_OPEN of session `n` (Table 10-7): slot 0xFF and no second slot when queued. -/
def State.answerTalkOpen (s : State) (n : Nat) (st : Status) (slot pos eff second : Nat) : State :=
  match s.session n with
  | some x => s.finishWhere x.client (opensSession n) st (BitVec.ofNat 32 (n + 256 * slot + 65536 * pos + 16777216 * eff))
      (BitVec.ofNat 32 (second + 256 * bit s.muted))
  | none => s

/-- TALK_OPEN of session `n` has not been answered yet. -/
def State.opening (s : State) (n : Nat) : Bool :=
  match s.session n with
  | some x => (s.client x.client).flight.any (opensSession n)
  | none => false

/-! ### The call a lease was asked for (R449) -/

/-- Call record `r`. -/
def State.callRec (s : State) (r : Nat) : Option CallRec := s.call.recs.getD r none

/-- Code of a record's state in its trace packet, in the order of Table 7-3. -/
def CallState.code : CallState → Nat | .ringing => 0 | .listening => 1 | .answered => 2 | .ended => 3

/-- Replace call record `r`, with its trace record (Table 15-8, port 7). -/
def State.setCall (s : State) (r : Nat) (c : Option CallRec) : State :=
  let s := { s with call := { s.call with recs := s.call.recs.set r c } }
  match c with
  | some x => s.stim 7 (x.callId.toNat + 65536 * r + 0x80000 * x.state.code)
  | none => s

/-- The first lease answer for a call being placed: CALL is queued; its contents are formed when it is sent (R449). -/
def State.callAnswered (s : State) (r : Nat) : State :=
  match s.callRec r with
  | some c => if c.own ∧ !c.callSent ∧ !s.link.urgent.any (fun m => decide (m.owner = .call r)) then
      s.post .a (newMsg s.lpc 0xFF tyCall (toBe 28 0) (.call r)) else s
  | none => s

/-! ### Requests -/

/-- The request an entry answers: its own req_id, or, with req_id 0, the oldest pair-1 bell (R440). -/
def Link.answered (l : Link) (id : Half) : Option TalkReq :=
  if id ≠ 0 then l.reqs.find? (fun q => decide (q.reqId = id) && !q.standing) else l.reqs.find? (fun q => q.standing)

/-- Remove a request. -/
def Link.dropReq (l : Link) (id : Half) : Link := { l with reqs := l.reqs.filter (fun q => decide (q.reqId ≠ id)) }

/-- Change a request. -/
def Link.modReq (l : Link) (id : Half) (f : TalkReq → TalkReq) : Link :=
  { l with reqs := l.reqs.map (fun q => if q.reqId = id then f q else q) }

/-- LEASE_RELEASE payload for a set of slots: bit k of the 64-bit field (Table 3-6). -/
def releasePayload (ks : List Nat) : List Byte := toBe 8 (ks.foldl (fun n k => Nat.lor n (2 ^ k)) 0)

/-- The slots a LEASE_RELEASE names. -/
def releasedSlots (p : List Byte) : List Nat := (List.range 64).filter (fun k => bitOf (beAt p 0 8) k)

/-- A LEASE_RELEASE is queued; the holder stops when it is sent (R131). A master frees its own slots in the same way, on sending. -/
def State.queueRelease (s : State) (p : Port) (ks : List Nat) (owner : MsgOwner) : State :=
  s.post p (newMsg s.lpc (s.masterAddr p) tyLeaseRelease (releasePayload ks) owner)

/-- An unasked grant: the node sends format 0 and releases the slots in its next ledger frame (R121). -/
def State.takeUnasked (s : State) (p : Port) (es : List GrantEntry) : State :=
  let s := s.modLnk p (fun l => { l with held := l.held ++ es.map (fun e =>
    { slot := e.slot, group := e.group, prec := e.prec, format := e.format, owner := .unasked, start := s.lpc + 1, last := false }) })
  s.queueRelease p (es.map (fun e => e.slot)) .none

/-- A grant on a standing profile serves the request when group, precedence and format agree (R441). -/
def profileMatches (q : TalkReq) (es : List GrantEntry) : Bool :=
  es.all (fun e => decide (e.group = q.group) && decide (e.prec = q.prec)
    && (decide (e.format = 4) || decide (e.format = 1) || decide (q.format = 2)))

/-- The two lowest of the slots granted with format `f`. -/
def slotsOf (es : List GrantEntry) (f : Nat) : List Nat := (es.filter (fun e => decide (e.format = f))).map (fun e => e.slot)

/-- The slot events give, 0xFF when there is none. -/
def slotOr (l : List Nat) : Nat := l.headD 0xFF

/-- The request is granted: the leases are held from the next cycle, EV_TALK_GRANTED is raised, and what asked is told (Table 3-11, R440). -/
def State.takeGrant (s : State) (p : Port) (q : TalkReq) (es : List GrantEntry) : State :=
  let live := (es.filter (fun e => decide (e.format ≠ 4) && decide (e.format ≠ 3)))
  let slot := slotOr (live.map (fun e => e.slot))
  let fmt := match live with | e :: _ => e.format | [] => 1
  let second := slotOr (slotsOf es 3)
  let cus := slotsOf es 4
  let cu0 := slotOr cus
  let cu1 := slotOr (cus.drop 1)
  let s := s.modLnk p (fun l =>
    { l.dropReq q.reqId with held := l.held ++ es.map (fun e =>
        { slot := e.slot, group := e.group, prec := e.prec, format := e.format, owner := q.owner, start := s.lpc + 1, last := false }) })
  match q.owner with
  | .session n =>
    let s := s.answerTalkOpen n .ok slot 0 1 second
    s.raiseAt (s.lpc + 1) 4 n slot fmt (BitVec.ofNat 32 (second + 256 * cu0 + 65536 * cu1))
  | .call r =>
    let s := s.raiseAt (s.lpc + 1) 4 0xFF slot fmt (BitVec.ofNat 32 (second + 256 * cu0 + 65536 * cu1))
    s.callAnswered r
  | .ptt => s.raiseAt (s.lpc + 1) 4 0xFF slot fmt (BitVec.ofNat 32 (second + 256 * cu0 + 65536 * cu1))
  | .proxy _ => s
  | .unasked => s

/-- A grant on the profile differs from the session's: it is released, and the session's LEASE_REQ follows (R441). -/
def State.takeMismatch (s : State) (p : Port) (q : TalkReq) (es : List GrantEntry) : State :=
  let s := s.takeUnasked p es
  let s := s.modLnk p (fun l => l.modReq q.reqId (fun q => { q with standing := false, phase := .unsent, sentAt := s.lpc }))
  s.post p (newMsg s.lpc (s.masterAddr p) tyLeaseReq (leaseReqPayload 0 q.group q.format q.prec q.catchup q.reqId) (.leaseReq q.reqId))

/-- The node's own code 0 entries that answer one req_id (Table 3-11, R121, R441). -/
def State.takeGranted (s : State) (p : Port) (id : Half) (es : List GrantEntry) : State :=
  match (s.lnk p).answered id with
  | none => s.takeUnasked p es
  | some q => if q.standing ∧ !profileMatches q es then s.takeMismatch p q es else s.takeGrant p q es

/-- Code 1: the request is queued (Table 3-11). -/
def State.takeQueued (s : State) (p : Port) (e : GrantEntry) : State :=
  match (s.lnk p).answered e.reqId with
  | none => s
  | some q =>
    let s := s.modLnk p (fun l => l.modReq q.reqId (fun q => { q with phase := .queued e.pos }))
    match q.owner with
    | .session n => s.answerTalkOpen n .ok 0xFF e.pos 0 0xFF
    | .call r => s.callAnswered r
    | _ => s

/-- A request ends unanswered or refused: the TALK_OPEN completes and its session ends, a call not yet sent is not placed, or a request
already answered raises EV_LEASE_LOST (R440, R132, R449). -/
def State.endRequest (s : State) (p : Port) (q : TalkReq) (st : Status) (reason : Nat) : State :=
  let s := s.modLnk p (fun l => l.dropReq q.reqId)
  match q.owner with
  | .session n =>
    if s.opening n then
      match s.session n with
      | some x => (s.finishWhere x.client (opensSession n) st 0 0).setSession n none
      | none => s
    else s.raise 6 n 0xFF reason 0
  | .call r =>
    match s.callRec r with
    | some c =>
      if c.own ∧ !c.callSent then
        let s := s.modLnk p (fun l => l.purge (fun m => decide (m.owner = .call r)))
        (match c.cmd with
          | some (k, _) => s.finishWhere k (fun (x : InFlight) => decide (x.phase = Phase.callSend r)) st 0 0
          | none => s.raise 6 0xFF 0xFF reason 0).setCall r none
      else s.raise 6 0xFF 0xFF reason 0
    | none => s
  | .ptt => s.raise 6 0xFF 0xFF reason 0
  | _ => s

/-- Code 3: the request ends (Table 3-11). A refusal is a first lease answer for a call being placed as well. -/
def State.takeRefused (s : State) (p : Port) (e : GrantEntry) : State :=
  match (s.lnk p).answered e.reqId with
  | none => s
  | some q => match q.owner with
    | .call r => match s.callRec r with
      | some c => if c.own ∧ !c.callSent then (s.modLnk p (fun l => l.dropReq q.reqId)).callAnswered r else s.endRequest p q .refused 6
      | none => s.endRequest p q .refused 6
    | _ => s.endRequest p q .refused 6

/-- Code 2: the slot is preempted, this cycle being its holder's last in it (R126). `es` names its new holder. -/
def State.takePreempted (s : State) (p : Port) (e : GrantEntry) (es : List GrantEntry) : State :=
  match (s.lnk p).held.find? (fun h => decide (h.slot = e.slot)) with
  | none => s
  | some h =>
    let next := match es.find? (fun x => decide (x.code = 0) && decide (x.slot = e.slot)) with | some x => x.holder | none => 0xFF
    let s := s.modLnk p (fun l => { l with held := l.held.map (fun x => if x.slot = h.slot then { x with last := true } else x) })
    let s := match h.owner with | .unasked | .proxy _ => s | o => s.raise 5 o.num h.slot next 0
    s.callAgain h.owner

/-- EV_ROUTE_LOST (Table 10-11). -/
def State.routeLost (s : State) (p : Port) (cause group : Nat) : State := s.raise 13 (portNum p) cause group 0

/-- The listen set holds group `g`. -/
def State.listens (s : State) (g : Nat) : Bool := (s.reg64 F.MIX_LISTEN0.groups.off F.MIX_LISTEN1.groups.off).getLsbD g

/-- The master followed on port A is a waystation's port B, whose priority is 0 (R152). -/
def State.behindWay (s : State) : Bool := match s.link.beacon with | some b => decide (b.priority = 0) && !s.mastering .a | none => false

/-- A lease of the waystation that masters this segment has ended by lapse or release: the route of its group is lost (R183). -/
def State.routeEnds (s : State) (p : Port) (holder group code : Nat) : State :=
  if p = .a ∧ s.behindWay ∧ holder = s.masterAddr .a ∧ (code = 4 ∨ code = 5) ∧ s.listens group then s.routeLost .a 0 group else s

/-- One entry of a LEASE_GRANT other than the node's own code 0 entries: the node's copy of the lease table and, for the holder,
Table 3-11. -/
def State.takeEntry (s : State) (p : Port) (es : List GrantEntry) (e : GrantEntry) : State :=
  let mine := decide (s.addr p = some e.holder)
  let s := if e.slot < 64 then
      (if e.code = 0 then s.setRow p e.slot (some { holder := e.holder, group := e.group, prec := e.prec, format := e.format }) 0
       else if e.code = 2 ∨ e.code = 4 ∨ e.code = 5 then (s.setRow p e.slot none e.code).routeEnds p e.holder e.group e.code else s) else s
  if !mine then s
  else match e.code with
    | 1 => s.takeQueued p e
    | 2 => s.takePreempted p e es
    | 3 => s.takeRefused p e
    | 4 | 5 => match (s.lnk p).held.find? (fun h => decide (h.slot = e.slot)) with
      | some h => s.loseLease p h 0
      | none => s
    | _ => s

/-- The req_ids of a list, each once, in order. -/
def distinctIds (es : List GrantEntry) : List Half := es.foldl (fun l e => if l.contains e.reqId then l else l ++ [e.reqId]) []

/-- A whole LEASE_GRANT at a node (R126, Table 3-11). -/
def State.takeGrants (s : State) (p : Port) (payload : List Byte) : State :=
  let es := grantEntries payload
  let s := es.foldl (fun t e => t.takeEntry p es e) s
  let mine := es.filter (fun e => decide (e.code = 0) && decide (s.addr p = some e.holder) && decide (e.slot < 64))
  (distinctIds mine).foldl (fun t id => t.takeGranted p id (mine.filter (fun e => decide (e.reqId = id)))) s

/-! ### LEASE_AUDIT (R129, Table 3-11) -/

/-- A whole LEASE_AUDIT part at a node: the table is refreshed, and a held lease it does not list is lost. -/
def State.takeAudit (s : State) (p : Port) (payload : List Byte) : State :=
  let part := byteAt payload 0 % 2
  (List.range 32).foldl (fun t j =>
    let k := 32 * part + j
    let h := byteAt payload (4 + 4 * j)
    let row : Option LeaseRow := if h = 0xFF then none
      else some { holder := h, group := byteAt payload (5 + 4 * j) % 64, prec := byteAt payload (5 + 4 * j) / 64, format := byteAt payload (6 + 4 * j) % 8 }
    let t := if Cells.get (fun _ => none) (t.lnk p).table k = row then t else t.setRow p k row 0xFF
    match (t.lnk p).held.find? (fun x => decide (x.slot = k)) with
    | some x => if t.addr p = some h then t else t.loseLease p x 1
    | none => t) s

/-- The LEASE_AUDIT payload of a master (Table 3-6). -/
def auditPayload (m : Master) (part : Nat) (demand empty : Bool) : List Byte :=
  [BitVec.ofNat 8 part, BitVec.ofNat 8 (bit demand)] ++ toBe 2 m.leaseEpoch.toNat ++ (List.range 32).flatMap (fun j =>
    match m.inForce (32 * part + j) with
    | some l => if empty then [0xFF, 0, 0, 0] else [BitVec.ofNat 8 l.holder, BitVec.ofNat 8 (l.group % 64 + 64 * (l.prec % 4)), BitVec.ofNat 8 l.format, 0]
    | none => [0xFF, 0, 0, 0])

/-! ### ROSTER (R112, R178, R87) -/

/-- Entry `i` of a ROSTER payload. -/
def rosterRowAt (p : List Byte) (i : Nat) : RosterRow :=
  let o := 8 + 10 * i
  { addr := byteAt p o % 128, uid := BitVec.ofNat 48 (beAt p (o + 1) 6), room := BitVec.ofNat 16 (beAt p (o + 7) 2), flags := BitVec.ofNat 8 (byteAt p (o + 9)) }

/-- Insert a row in the order of addresses. -/
def insertRosterRow (r : RosterRow) : List RosterRow → List RosterRow
  | [] => [r]
  | x :: xs => if r.addr < x.addr then r :: x :: xs else if r.addr = x.addr then r :: xs else x :: insertRosterRow r xs

/-- The node's roster takes one row: an address that now belongs to another UID, or is released, is untrained (R87). -/
def State.takeRow (s : State) (p : Port) (r : RosterRow) : State :=
  let old := (s.lnk p).roster.find? (fun x => decide (x.addr = r.addr))
  let removed := r.flags.getLsbD 6
  let moved := match old with | some x => decide (x.uid ≠ r.uid) | none => false
  let s := if removed || moved then s.untrain p r.addr else s
  let s := s.modLnk p (fun l => { l with roster := if removed then l.roster.filter (fun x => decide (x.addr ≠ r.addr)) else insertRosterRow r l.roster })
  if r.uid = s.dev.uid then s.put (lkF p F.LINE_LINK_STATUS.sleeping_known) (r.flags.getLsbD 3) else s

/-- A whole ROSTER at a follower: a delta changes rows; a full set of parts of one epoch replaces the roster, and a follower whose UID it
lacks gives up its address and leases (R178). -/
def State.takeRoster (s : State) (p : Port) (payload : List Byte) : State :=
  let n := byteAt payload 3
  let rows := (List.range n).map (rosterRowAt payload)
  let epoch := BitVec.ofNat 16 (beAt payload 4 2)
  let s := rows.foldl (fun t r => t.takeRow p r) s
  if byteAt payload 0 ≠ 0 then s
  else
    let part := byteAt payload 1
    let count := byteAt payload 2
    let (got, seen) := match (s.lnk p).parts with
      | some (e, got, seen) => if e = epoch then (got, seen) else ([], [])
      | none => ([], [])
    let got := if got.contains part then got else part :: got
    let seen := seen ++ rows
    if (List.range count).all (fun i => got.contains i) then
      let listed (x : RosterRow) : Bool := seen.any (fun y => decide (y.addr = x.addr))
      let s := ((s.lnk p).roster.filter (fun x => !listed x)).foldl (fun t x => t.untrain p x.addr) s
      let s := s.modLnk p (fun l => { l with parts := none, roster := l.roster.filter listed })
      if (s.addr p).isSome ∧ !seen.any (fun y => decide (y.uid = s.dev.uid)) then s.giveUpAddress p 4 else s
    else s.modLnk p (fun l => { l with parts := some (epoch, got, seen) })

/-! ### Ending talk (R131, R442) -/

/-- Slots held for an owner. -/
def State.slotsFor (s : State) (p : Port) (o : LeaseOwner) : List Nat :=
  ((s.lnk p).held.filter (fun h => decide (h.owner = o))).map (fun h => h.slot)

/-- The owner's requests are withdrawn: removed unsent, cancelled when sent (R132, R442). -/
def State.cancelReqs (s : State) (p : Port) (o : LeaseOwner) : State :=
  ((s.lnk p).reqs.filter (fun q => decide (q.owner = o))).foldl (fun t q =>
    let t := t.modLnk p (fun l => l.dropReq q.reqId)
    match q.phase with
    | .unsent => t.modLnk p (fun l =>
        let l := l.purge (fun m => decide (m.owner = .leaseReq q.reqId))
        if q.standing then (if l.reqs.any (fun x => x.standing && decide (x.phase = .unsent)) then l else { l with ring1 := false, ring12 := false }) else l)
    | _ => t.post p (newMsg t.lpc (t.masterAddr p) tyLeaseReq (leaseReqPayload 2 0 0 0 0 (if q.standing then 0 else q.reqId)) .none)) s

/-- The owner's leases become leases nobody waits for, to be released in the next frame; its requests are withdrawn (R407 step 5, R305). -/
def State.dropTalk (s : State) (p : Port) (o : LeaseOwner) : State :=
  let ks := s.slotsFor p o
  let s := s.modLnk p (fun l => { l with held := l.held.map (fun h => if h.owner = o then { h with owner := .unasked } else h) })
  (if ks.isEmpty then s else s.queueRelease p ks .none).cancelReqs p o

end Sys2Proof.Machine
end

