-- ==== Sys2Proof/Machine/Flags.lean ====
section
/-! DEFINITION. Status values formed from the state when they are read: the votes and the allowed depth, the standby status byte, the
attention summary, and the read-only registers that show state held elsewhere. -/

namespace Sys2Proof.Machine

/-! ### Votes (Table 13-4, R548 to R550) -/

/-- The smallest of a list of votes, 5 when it is empty (R550). -/
def shallowest (vs : List Nat) : Nat := vs.foldl min 5

/-- A condition of Table 13-4 and the vote it requires. -/
def voteIf (c : Bool) (v : Nat) : List Nat := if c then [v] else []

/-- The node is joining on port `p`: it is locked without an address (R113). -/
def State.joining (s : State) (p : Port) : Bool := s.portOn p && s.locked && (s.addr p).isNone && !s.mastering p

/-- LINK's vote. -/
def State.voteLink (s : State) : Nat :=
  let leases (l : Link) : Bool := !l.held.isEmpty || !l.reqs.isEmpty
  shallowest (voteIf (s.mastering .a || s.mastering .b) 1
    ++ voteIf (leases s.link || leases s.way.linkB || s.joining .a || s.on F.LINE_MASTER_STATUS.re_ranging) 1
    ++ voteIf s.isRearguard 2 ++ voteIf (decide (s.lineState .a = 0) || s.lineDown || !s.locked) 3)

/-- A talk session's source includes a beam (Table 10-6). -/
def beamSource (src : Nat) : Bool := decide (src = 0) || decide (src = 1) || decide (4 ≤ src)

/-- A slot contributed to the mix within the last hold_cycles (Table 13-4). -/
def State.mixRecent (s : State) : Bool := decide (s.mix.idle < s.rf F.MIX_DUCK1.hold_cycles)

/-- MIX's vote. -/
def State.voteMix (s : State) : Nat :=
  shallowest (voteIf (s.mix.chime.isSome || (match s.mix.playback with | some p => p.running | none => false)
    || s.hif.streams.any (fun x => x.isSome) || s.on F.MIX_CTL.tdm_en) 0 ++ voteIf s.mixRecent 0)

/-- ECH's vote. -/
def State.voteEch (s : State) : Nat :=
  shallowest (voteIf (s.hif.sessions.any (fun x => match x with | some y => beamSource y.source | none => false) || s.on F.ECH_STATUS.reconv) 0)

/-- MIC's vote: the mode is listening or active (R331, Table 8-4). -/
def State.voteMic (s : State) : Nat := shallowest (voteIf (decide (s.rf F.MIC_STATUS.mode = 1) || decide (s.rf F.MIC_STATUS.mode = 2)) 0)

/-- WAKE's vote. -/
def State.voteWake (s : State) : Nat := shallowest (voteIf (s.wake.sending.isSome || !s.wake.fetches.isEmpty) 0)

/-- TAG's vote. -/
def State.voteTag (s : State) : Nat := shallowest (voteIf (!s.tag.ops.isEmpty) 0 ++ voteIf (!s.tag.deferred.isEmpty) 4)

/-- TOLL's vote (R528). -/
def State.voteToll (s : State) : Nat :=
  shallowest (voteIf ((List.range 4).any (fun n => s.on (F.TOLL_STATUS.job n))) 0
    ++ voteIf ((List.range 4).any (fun n => s.on (F.TOLL_STATUS.holder n))) 1)

/-- DBG's vote. -/
def State.voteDbg (s : State) : Nat :=
  shallowest (voteIf ((List.range 4).any s.halted || s.on F.DBG_TRACE_CTL.en || !s.dbg.sessions.isEmpty) 1)

/-- The descriptor is a stream command (R388). -/
def InFlight.isStream (x : InFlight) : Bool := decide (x.desc.opcode = 0x21)

/-- The descriptor waits for its due cycle (R35). -/
def Phase.isScheduled : Phase → Bool
  | .scheduled _ _ => true
  | _ => false

/-- An unscheduled control command of a client is in flight and not completed. -/
def ClientSt.busyControl (c : ClientSt) : Bool := c.flight.any (fun x => !x.isStream && !x.desc.flags.getLsbD 2)

/-- CTRL's vote. -/
def State.voteCtrl (s : State) : Nat :=
  let live (c : Option CallRec) : Bool := match c with | some r => decide (r.state ≠ .ended) | none => false
  shallowest (voteIf (s.call.recs.any live || s.on F.GLB_STATUS.epoch_mixed || s.on F.STK_CTL.en || s.hif.clients.any ClientSt.busyControl) 1
    ++ voteIf (s.hif.clients.any (fun c => c.flight.any (fun x => x.phase.isScheduled))) 3)

/-- A host client's vote (R549). -/
def State.voteHost (s : State) (n : Nat) : Nat :=
  let c := s.client n
  if c.running ∧ !c.faulted then c.vote.getD 0 else 5

/-- Vote of client code `n` of Table 13-4; a code that names no client votes 5. -/
def State.voteOf (s : State) (n : Nat) : Nat :=
  if n < 16 then s.voteHost n
  else match n with
    | 16 => s.pwr.sbVote.getD 5
    | 17 => s.voteLink
    | 18 => s.voteMix
    | 19 => s.voteEch
    | 20 => s.voteMic
    | 21 => s.voteWake
    | 22 => s.voteTag
    | 23 => s.voteToll
    | 24 => s.voteDbg
    | 25 => s.voteCtrl
    | _ => 5

/-- The link limit on depth (R403). -/
def State.linkLimit (s : State) : Nat :=
  if s.pins.perst then 5
  else match s.hif.link with
    | .l0 | .l0s | .l1 | .l11 => 1
    | .l12 => 2
    | .l2 | .l3 => 5

/-- The smallest of the votes. -/
def State.votesMin (s : State) : Nat := shallowest ((List.range 26).map s.voteOf)

/-- PWR_CTL.max_depth in force: 6 and 7 act as 5 (Table 13-10). -/
def State.maxDepth (s : State) : Nat := min 5 (s.rf F.PWR_CTL.max_depth)

/-- The allowed depth (R548); 0 until the boot has ended. -/
def State.allowedDepth (s : State) : Nat :=
  if s.booted 7 then min (min s.votesMin s.maxDepth) s.linkLimit else 0

/-- Client `n` refuses a vote for `asked` (R551). -/
def State.refuses (s : State) (n asked : Nat) : Bool := decide (s.voteOf n < asked) && decide (s.voteOf n = s.allowedDepth)

/-- The link limit is the smallest of the limits on depth (R548). -/
def State.linkLimits (s : State) : Bool := decide (s.linkLimit < s.votesMin) && decide (s.linkLimit < s.maxDepth)

/-! ### Standby port (Table 9-7) -/

/-- The mailbox holds a descriptor in flight. -/
def State.mbBusy (s : State) : Bool := decide (0 < (s.client clientSB).inFlight)

/-- The status byte. -/
def State.sbyStatus (s : State) : Nat :=
  bit s.mbBusy + 2 * bit s.sby.slot.isSome + 4 * bit (decide (0 < (s.client clientSB).backlog)) + 8 * bit s.sby.reject
    + 16 * bit (s.on F.SBY_HOST_WAKE.active) + 32 * bit s.coreOn

/-! ### Line registers that show link state -/

/-- Bits of the addresses from `32 w` whose equalizer entry on port `p` is in state `e` (Tables 2-17 and 2-18). -/
def State.eqBits (s : State) (p : Port) (w : Nat) (e : EqState) : Nat :=
  ((List.range 32).filter (fun i => decide ((s.eq p (32 * w + i)).state = e))).foldl (fun n i => n + 2 ^ i) 0

/-- Proxy leases held on port `p` (Table 4-16). -/
def State.proxyCount (s : State) (p : Port) : Nat :=
  ((s.lnk p).held.filter (fun h => match h.owner with | .proxy _ => true | _ => false)).length

/-- Bits of the slots from `32 w` that the node holds on port `p` (Table 3-19). -/
def State.heldBits (s : State) (p : Port) (w : Nat) : Nat :=
  ((List.range 32).filter (fun i => s.holds p (32 * w + i))).foldl (fun n i => n + 2 ^ i) 0

/-- Queue position of the first queued request, 0 for none (Table 3-14). -/
def Link.queuePos (l : Link) : Nat :=
  (l.reqs.filterMap (fun q => match q.phase with | .queued n => some n | _ => none)).headD 0

/-- LINE_LINK_STATUS of port `p` with its leases_held and queue_pos. -/
def State.linkStatus (s : State) (p : Port) (w : Word) : Word :=
  F.LINE_LINK_STATUS.queue_pos.set (F.LINE_LINK_STATUS.leases_held.set w (s.lnk p).held.length) (s.lnk p).queuePos

/-! ### Call registers -/

/-- A record is in state `st`. -/
def isCall (st : CallState) : Option CallRec → Bool
  | some r => decide (r.state = st)
  | none => false

/-- The records not Ended (Table 7-10). -/
def State.liveCalls (s : State) : List CallRec := s.call.recs.filterMap (fun c => c.filter (fun r => decide (r.state ≠ .ended)))

/-- The highest-ranking record that `p` selects: highest precedence, and among equals the newest (R300). -/
def State.bestCall (s : State) (p : CallRec → Bool) : Option Nat :=
  (List.range 8).foldl (fun (best : Option Nat) i =>
    match s.callRec i with
    | none => best
    | some c =>
      if !p c then best
      else match best.bind s.callRec with
        | some b => if b.prec < c.prec ∨ (b.prec = c.prec ∧ b.stamp < c.stamp) then some i else best
        | none => some i) none

/-- The record that rings: a Ringing one with ringing enabled (R299, R300). -/
def State.ringingRec (s : State) : Option Nat := s.bestCall (fun c => decide (c.state = .ringing) && c.rings)

/-- Detectors that have started (Table 7-10). -/
def State.startedTones (s : State) : Nat :=
  ((List.range 16).filter (fun n => (s.call.tones.getD n ⟨0, 0, false⟩).started)).foldl (fun m n => m + 2 ^ n) 0

/-- The healthy set: enabled channels that are not faulted (R323). -/
def State.healthy (s : State) : Nat :=
  ((List.range 8).filter (fun n => bitOf (s.rf F.MIC_CHAN_CTL.chan_en) n && !bitOf (s.rf F.MIC_FAULT_STATUS.faulted) n)).foldl (fun m n => m + 2 ^ n) 0

/-! ### The attention summary (R637) -/

/-- The register at `o` has a W1C flag set or an RC counter that is not 0. -/
def State.attends (s : State) (o : Nat) : Bool :=
  match rowAt o with
  | some r => decide (s.reg o &&& (r.acc true .rc ||| r.acc true .w1c) ≠ 0)
  | none => false

/-- GLB_ATTN. -/
def State.attn (s : State) : Nat :=
  ((List.range 16).filter (fun b =>
    s.regs.any (fun c => decide (c.1 / 0x800 = b) && s.domainOn (domainOf c.1) && s.attends c.1))).foldl (fun m b => m + 2 ^ b) 0

/-! ### Reading a register -/

/-- Effective quota of Hn: what the lock fixed, or the quota register (R384, notes/assumptions/10.md). -/
def State.effQuota (s : State) (n : Nat) : Nat := (s.client n).effQuota.getD (s.rf (F.HIF_QUOTA.quota n))

/-- HIF_Cn_STATUS (Table 9-11). -/
def State.hifStatus (s : State) (n : Nat) : Nat :=
  let c := s.client n
  c.sqHead % 4096 + 0x1000 * (c.inFlight % 256) + 0x100000 * (s.effQuota n % 256) + 0x10000000 * bit c.enabled
    + 0x20000000 * bit c.armed + 0x40000000 * bit c.faulted

/-- The per-client HIF registers that show ring state (Table 9-11, Table 9-12). -/
def State.readClientReg (s : State) (o : Nat) : Option Nat :=
  let n := (o - 0x1000) / 0x40
  let c := s.client n
  match (o - 0x1000) % 0x40 with
  | 0x1C => some (s.hifStatus n)
  | 0x20 => some (c.cqTail % 4096 + 4096 * bit c.phase)
  | 0x28 => some (c.backlog % 64 + 65536 * (s.rf (F.HIF_EVCNT.overflow n)))
  | _ => none

/-- Code of a link state in HIF_LINK_STATUS.lpm (Table 9-13). -/
def lpmCode : LinkState → Nat
  | .l0 => 0 | .l0s => 1 | .l1 => 2 | .l11 => 3 | .l12 => 4 | .l2 => 5 | .l3 => 5

/-- The owner code of the staging set, 31 for none (Table 14-10). -/
def State.stageOwner (s : State) : Nat := s.cfg.owner.getD 31

/-- The resident monitor runs: CC runs, past its boot (R605). -/
def State.residentUp (s : State) : Bool := s.ccUp && s.booted 7

/-- DBG_HALT_STATUS without its counter (Table 15-12). -/
def State.haltBits (s : State) : Nat :=
  ((List.range 4).map (fun e => 2 ^ e * bit (s.halted e) + 2 ^ (4 + 4 * e) * ((s.elem e).cause % 16))).foldl (· + ·) 0

/-- The oldest valid sample index of history channel 0 (R354). -/
def State.histOldest (s : State) : Dword := match s.wake.range with | some (lo, _) => lo | none => 0

/-- CMP6 or CMP7 is armed: its strobe is enabled with a symbol of the cycle and a period (R34, Table 1-17). -/
def State.strobeArmed (s : State) (u : Nat) : Bool :=
  s.on (F.PLT_STROBE_CTL.en u) && decide (s.rf (F.PLT_STROBE_CTL.symbol u) ≤ 15624) && s.on (F.PLT_STROBE_CTL.period u)

/-- Registers whose value shows state held elsewhere; none for a register that holds its own. -/
def State.derived (s : State) (o : Nat) : Option Nat :=
  let own (n : Nat) : Option Nat := some n
  let w := (s.reg o).toNat
  match o with
  | 0x0000 => own (0x1F3C + 0x640000 + 0x1000000 * (match s.dev.variant with | .l64t => 0x54 | .l64b => 0x42))
  | 0x0004 => own (s.dev.silicon.toNat + 256 * s.dev.rom.toNat)
  | 0x0008 => own (s.dev.uid.toNat % 2 ^ 32)
  | 0x000C => own (s.dev.uid.toNat / 2 ^ 32)
  | 0x0010 => own (0x22088040 + (if s.isB then 7 else 0))
  | 0x0024 => own (w % 16 + 16 * bit (s.on F.DBG_MON_STATUS.tampered) + 32 * bit (s.on F.GLB_SETUP.lock))
  | 0x0030 => own s.attn
  | 0x0804 => own (s.pwr.state + 16 * s.allowedDepth + 256 * s.rf F.PWR_PERF.in_force + 4096 * bit s.linkLimits + 8192 * bit s.pwr.entering.isSome)
  | 0x0810 | 0x0814 | 0x0818 | 0x081C => own (if s.booted 7 then
      ((List.range 8).map (fun j => 2 ^ (4 * j) * (if (o - 0x0810) / 4 * 8 + j < 26 then s.voteOf ((o - 0x0810) / 4 * 8 + j) else 0))).foldl (· + ·) 0 else 0)
  | 0x0820 => own (s.pwr.refused.foldl (fun m r => r.refusers.foldl (fun m c => Nat.lor m (2 ^ c)) m) 0)
  | 0x0850 => own (Nat.lor w 0x70007)
  | 0x1808 => own (w / 256 * 256 + s.sbyStatus)
  | 0x2020 | 0x2024 | 0x2028 | 0x202C => own (s.eqBits .a ((o - 0x2020) / 4) .trained)
  | 0x2030 | 0x2034 | 0x2038 | 0x203C => own (s.eqBits .a ((o - 0x2030) / 4) .stale)
  | 0x2060 | 0x2064 | 0x2068 | 0x206C => own (s.eqBits .b ((o - 0x2060) / 4) .trained)
  | 0x2070 | 0x2074 | 0x2078 | 0x207C => own (s.eqBits .b ((o - 0x2070) / 4) .stale)
  | 0x2084 => own (s.linkStatus .a (s.reg o)).toNat
  | 0x20C4 => own (s.linkStatus .b (s.reg o)).toNat
  | 0x2130 => own (w % 8 + 8 * (s.proxyCount .b % 128) + 1024 * (s.proxyCount .a % 128))
  | 0x2098 | 0x209C => own (s.heldBits .a ((o - 0x2098) / 4))
  | 0x20D8 | 0x20DC => own (s.heldBits .b ((o - 0x20D8) / 4))
  | 0x3918 => own (w / 256 % 65536 * 256 + s.liveCalls.length % 16 + 16 * (s.ringingRec.getD 0 % 8) + 128 * bit s.ringingRec.isSome
      + 0x1000000 * (s.startedTones % 256))
  | 0x391C => own s.startedTones
  | 0x4060 => own (w % 256 + 256 * s.healthy)
  | 0x4814 => own (s.histOldest.toNat % 2 ^ 32)
  | 0x5004 => own ((F.TAG_STATUS.deferred.set (s.reg o) s.tag.deferred.length).toNat)
  | 0x6004 => own (w / 2 ^ 24 * 2 ^ 24 + s.haltBits)
  | 0x6014 => own ((F.DBG_MON_STATUS.sessions.set (F.DBG_MON_STATUS.resident_up.set (s.reg o) (bit s.residentUp)) (min 15 s.dbg.sessions.length)).toNat)
  | 0x6810 => own (w % 65536 + 65536 * bit (s.on F.GLB_STATUS.epoch_mixed))
  | 0x681C => own (s.cfg.staging.length % 512 + 65536 * s.stageOwner)
  | 0x7000 => own s.lpc.toNat
  | 0x7040 => own (w / 256 * 256 + w % 64 + 64 * bit (s.strobeArmed 0) + 128 * bit (s.strobeArmed 1))
  | _ => if 0x1000 ≤ o ∧ o < 0x1400 then s.readClientReg o else none

/-- TAG_CTL.writer_id resets to UID bits [7:0] (Table 11-8): the register file holds the field as its difference from there. -/
def State.writerMask (s : State) (o : Nat) (v : Word) : Word :=
  if o = F.TAG_CTL.writer_id.off then v ^^^ BitVec.ofNat 32 (s.dev.uid.toNat % 256 * 256) else v

/-- Bits of the register at `o` that are L64B-only on this part and so read 0 (R2). -/
def State.absent (s : State) (o : Nat) : Word :=
  if s.isB then 0 else if o / 0x800 = 15 then 0xFFFFFFFF
  else match rowAt o with | some r => r.mask (fun f => f.l64b) | none => 0

/-- The value of the register at `o`, nothing being cleared (R643). WO fields read 0 (Table 0-5); so do reserved offsets (R633). -/
def State.value (s : State) (o : Nat) : Word :=
  match rowAt o with
  | none => 0
  | some r =>
    let v := match s.derived o with | some n => BitVec.ofNat 32 n | none => s.writerMask o (s.reg o)
    v &&& ~~~(s.absent o) &&& ~~~(r.acc true .wo)

end Sys2Proof.Machine
end

