-- ==== Sys2Proof/Machine/Access.lean ====
section
/-! DEFINITION. How a register access reaches its register by each path: the link, the power domains, the setup lock (R515, R517, R632 to
R635, R641). -/

namespace Sys2Proof.Machine

/-- The setup lock is set (R576). -/
def State.setupLocked (s : State) : Bool := s.on F.GLB_SETUP.lock

/-- Memory requests of the host reach the device: the link is up, PERST_N is high and the function is in D0 (R401 to R404). -/
def State.barOpen (s : State) : Bool := s.hif.linkUp && !s.pins.perst && !s.hif.d3hot && !s.pins.resetHeld

/-- Offsets the standby port reaches in S5 (Table 16-6). -/
def sbInS5 (o : Nat) : Bool :=
  decide (o / 0x800 = 3) || decide (o = 0x0000) || decide (o = 0x0004) || decide (o = F.PWR_STATE.state.off)
    || decide (o = F.PWR_RTC.seconds.off) || decide (o = F.PWR_RTC_ALARM.seconds.off) || decide (o = F.PWR_WAKE_CAUSE.cause.off)

/-- The state in which an access by path `p` acts on the register at `o`: a BAR0 access wakes a domain that is off (R635); a standby
access is turned away there, at the per-client HIF registers, and in S5 outside Table 16-6 (R641); the monitor needs the domain on
(R608). None when the access does not reach the register. -/
def State.reach (s : State) (p : Path) (o : Nat) : Option State :=
  if s.pins.resetHeld then none
  else match p with
    | .bar0 =>
      if !s.barOpen then none
      else if s.domainOn (domainOf o) then some s
      else
        let t := s.wakeBy 16
        if t.domainOn (domainOf o) then some t else none
    | .sb =>
      if 0x1000 ≤ o ∧ o < 0x1400 then none
      else if s.domainOn (domainOf o) && (decide (s.pwr.state ≠ 5) || sbInS5 o) then some s else none
    | .mon => if s.domainOn (domainOf o) then some s else none

/-- The lock binds path `p`: every path but the monitor (R608, R634). -/
def State.lockBinds (s : State) (p : Path) : Bool := s.setupLocked && decide (p ≠ .mon)

/-- A write that the lock turns away is counted (R634). -/
def State.countLocked (s : State) : State := s.bump F.GLB_ACCESS_ERR.locked_writes

end Sys2Proof.Machine
end

