-- ==== Sys2Proof/Machine/Tag.lean ====
section
/-! DEFINITION. The cartridge's tag, its two sides and the life ledger the L64 keeps on it (R470 to R507). -/

namespace Sys2Proof.Machine

/-! ### The tag's memory (Tables 11-2 to 11-5) -/

/-- The summary bytes for totals, life remaining and flags, with their CRC (Table 11-4, R484). -/
def summaryBytes (insertions energy life flags : Nat) : List Byte :=
  let head := toLe 4 insertions ++ toLe 4 energy ++ [BitVec.ofNat 8 life, BitVec.ofNat 8 flags] ++ toLe 20 0
  head ++ toLe 2 (crcOf crc16 head)

/-- What a byte that nothing has written holds: the factory contents (Tables 11-2 and 11-4), and 0 where the manual gives none
(notes/assumptions/94.md). -/
def tagFactory (a : Nat) : Byte :=
  if 0x040 ≤ a ∧ a < 0x240 then 0xFF
  else if 0x680 ≤ a then 0xFF
  else if 0x660 ≤ a ∧ a < 0x680 then (summaryBytes 0 0 100 0).getD (a - 0x660) 0
  else 0

/-- The byte stored at `a`. -/
def Cart.get (c : Cart) (a : Nat) : Byte := Cells.get tagFactory c.mem a

/-- Store bytes from `a` on. -/
def Cart.put (c : Cart) (a : Nat) (bs : List Byte) : Cart := { c with mem := Cells.setList tagFactory c.mem a bs }

/-- Code of the lock's holder (Table 11-4). -/
def TagLock.code : TagLock → Nat | .none => 0 | .wired => 1 | .contactless => 2

/-- The byte a reader finds at `a`: the append port reads 0, the reserved area 0xFF, the lock byte its holder (Tables 11-2 and 11-4). -/
def Cart.read (c : Cart) (a : Nat) : Byte :=
  let a := a % 2048
  if 0x650 ≤ a ∧ a < 0x660 then 0 else if 0x680 ≤ a then 0xFF else if a = 0x642 then BitVec.ofNat 8 c.lock.code else c.get a

/-- `n` bytes from `a` on, wrapping from 0x7FF to 0x000 (R472). -/
def Cart.bytes (c : Cart) (a n : Nat) : List Byte := (List.range n).map (fun i => c.read (a + i))

/-- The little-endian number in `n` bytes at `a`. -/
def Cart.num (c : Cart) (a n : Nat) : Nat := leNat (c.bytes a n)

/-- next_record (Table 11-4). -/
def Cart.next (c : Cart) : Nat := c.num 0x644 4

/-- The 16 bytes of slot `i`. -/
def Cart.slot (c : Cart) (i : Nat) : List Byte := c.bytes (0x040 + 16 * i) 16

/-- The CRC of a ledger record: a fold of its number, low byte first, then bytes 0 to 13 (Table 11-5). -/
def recordCrc (r : List Byte) : Nat := crcOf crc16 (bytesAt r 2 4 ++ r.take 14)

/-- Slot `i` holds a valid record (R479). -/
def Cart.valid (c : Cart) (i : Nat) : Bool :=
  let r := c.slot i
  let n := leAt r 2 4
  let age := (c.next + 2 ^ 32 - n) % 2 ^ 32
  decide (leAt r 14 2 = recordCrc r) && decide (n % 32 = i) && decide (1 ≤ age) && decide (age ≤ 32)

/-- Kind code of the record in slot `i`. -/
def Cart.kind (c : Cart) (i : Nat) : Nat := byteAt (c.slot i) 1 % 128

/-- The slot of the valid record of kind `k` with the highest number, that is the least age (R480). -/
def Cart.newest (c : Cart) (k : Nat) : Option Nat :=
  let found := (List.range 32).filter (fun i => c.valid i && decide (c.kind i = k))
  found.foldl (fun best i =>
    let age (j : Nat) : Nat := (c.next + 2 ^ 32 - leAt (c.slot j) 2 4) % 2 ^ 32
    match best with
    | some b => if age i < age b then some i else some b
    | none => some i) none

/-- The total the newest record of kind `k` gives, 0 when there is none (R480). -/
def Cart.total (c : Cart) (k : Nat) : Nat := match c.newest k with | some i => leAt (c.slot i) 6 4 | none => 0

/-- Append 16 bytes: accepted only when they carry next_record (R474). A STOP before the 16th byte discards the bytes, which are
acknowledged unless they hold another record number. -/
def Cart.append (c : Cart) (r : List Byte) : Cart × Bool :=
  if r.length = 16 ∧ leAt r 2 4 = c.next then
    (((c.put (0x040 + 16 * (c.next % 32)) r).put 0x644 (toLe 4 (c.next + 1))), true)
  else (c, decide (r.length < 16) && (decide (r.length < 6) || decide (leAt r 2 4 = c.next)))

/-! ### Access to the tag -/

/-- A wired write may start at `a` (R473). -/
def wiredStart (a : Nat) : Bool := (decide (0x240 ≤ a) && decide (a < 0x640)) || (decide (0x650 ≤ a) && decide (a < 0x680))

/-- A wired write of `data` at `a` (R473, R474): the tag, and whether it acknowledged every byte. -/
def Cart.wiredWrite (c : Cart) (a : Nat) (data : List Byte) : Cart × Bool :=
  if !wiredStart a || data.isEmpty || decide (16 < a % 16 + data.length) then (c, false)
  else if 0x650 ≤ a ∧ a < 0x660 then (if a = 0x650 then c.append data else (c, true))
  else (c.put a data, true)

/-- The tag a wired START finds free takes the wired lock (R490, R491). -/
def State.wired (s : State) : Bool := s.pins.cartDet && decide (s.cart.lock ≠ .contactless)

/-! ### Ledger records (R477 to R485) -/

/-- The writer ID in force (Table 11-8). -/
def State.writerId (s : State) : Nat :=
  let v := F.TAG_CTL.writer_id.get (s.value F.TAG_CTL.writer_id.off)
  if v = 0 then 1 else if v = 0xFF then 0xFE else v

/-- A record with its CRC (Table 11-5). -/
def recordBytes (writer kind number value : Nat) (stamp : Word) : List Byte :=
  let head := [BitVec.ofNat 8 writer, BitVec.ofNat 8 kind] ++ toLe 4 number ++ toLe 4 value ++ toLe 4 stamp.toNat
  head ++ toLe 2 (crcOf crc16 (toLe 4 number ++ head))

/-- Copy the newest insertion or surge record out of the slot the next append would overwrite, into that same slot (R481); each of the two
kinds forces at most one copy. -/
def Cart.makeRoom (c : Cart) (writer : Nat) : Nat → Cart
  | 0 => c
  | n + 1 =>
    let i := c.next % 32
    if c.valid i && (decide (c.newest 1 = some i) || decide (c.newest 2 = some i)) then
      let r := c.slot i
      ((c.append (recordBytes writer (byteAt r 1) c.next (leAt r 6 4) (BitVec.ofNat 32 (leAt r 10 4)))).1).makeRoom writer n
    else c

/-- Append a record of `kind`, making room first; the answer gives its number (R474, R481). -/
def Cart.post (c : Cart) (writer kind value : Nat) (stamp : Word) : Cart × Nat :=
  let c := c.makeRoom writer 2
  ((c.append (recordBytes writer kind c.next value stamp)).1, c.next)

/-- Life remaining in percent (R482). -/
def lifeLeft (i : Identity) (energy insertions : Nat) : Nat :=
  min (100 * (i.eRated - energy) / i.eRated) (100 * (i.nRated - insertions) / i.nRated)

/-- The summary's CRC is valid (R484). -/
def Cart.summaryOk (c : Cart) : Bool := decide (c.num 0x67E 2 = crcOf crc16 (c.bytes 0x660 30))

/-- The summary's flags: as stored, or, with a failed CRC, as the warning and expiry records of the ledger give them (R484). -/
def Cart.flags (c : Cart) : Nat :=
  if c.summaryOk then byteAt (c.bytes 0x669 1) 0 % 8
  else
    let has (k v : Nat) : Bool := (List.range 32).any (fun i => c.valid i && decide (c.kind i = k) && decide (leAt (c.slot i) 6 4 = v))
    bit (has 5 25) + 2 * bit (has 5 10) + 4 * bit (has 4 0)

/-- Life remaining of the cartridge in the socket. -/
def State.life (s : State) : Nat :=
  match s.tag.identity with
  | some i => lifeLeft i (s.cart.total 2) (s.cart.total 1)
  | none => 0xFF

/-- TAG_STATUS and the totals show the ledger (Table 11-8). -/
def State.showLife (s : State) : State :=
  let s := (s.wr F.TAG_INSERTIONS.total (s.cart.total 1)).wr F.TAG_ENERGY.total_mj (s.cart.total 2)
  (s.wr F.TAG_STATUS.life_pct s.life).put F.TAG_STATUS.expired (s.tag.identity.isSome && decide (s.life = 0))

/-- Rewrite the whole summary (R484). -/
def State.writeSummary (s : State) (flags : Nat) : State :=
  { s with cart := s.cart.put 0x660 (summaryBytes (s.cart.total 1) (s.cart.total 2) s.life flags) }

/-- Append one record for the L64 with the present stamp's rule left to the caller. -/
def State.append (s : State) (kind value : Nat) (stamp : Word) (rtc : Bool) : State × Nat :=
  let (c, n) := s.cart.post s.writerId (kind + 128 * bit rtc) value stamp
  ({ s with cart := c }, n)

/-- The stamp of an event of now: the LPC cycle, or RTC seconds before the LPC is valid (R477). -/
def State.stampNow (s : State) : Word × Bool :=
  if s.on F.PLT_LPC_STATUS.ever_locked ∧ ¬ s.plt.lpcInvalid then (s.lpc, false)
  else (BitVec.ofNat 32 (s.rf F.PWR_RTC.seconds), true)

/-- A value saturating at 32 bits. -/
def sat32 (n : Nat) : Nat := min n (2 ^ 32 - 1)

/-- The value a deferred or present event appends: a running total for insertions and surges (Table 11-6, R498). -/
def State.lifeValue (s : State) (d : Deferred) : Nat :=
  if d.kind = 1 then sat32 (s.cart.total 1 + d.amount) else if d.kind = 2 then sat32 (s.cart.total 2 + d.amount) else d.amount

/-- The number `l` reaches threshold `t` for the first time: flag bit `f` is clear and no record has crossed it yet. -/
def crosses (l t f flags : Nat) (seen : Option Nat) : Bool := decide (l ≤ t) && !bitOf flags f && seen.isNone

/-- Record numbers at which 25 %, 10 % and 0 were first reached during a run of appends (R483). -/
abbrev Crossed := Option Nat × Option Nat × Option Nat

/-- Append one event and note the thresholds it crosses. -/
def State.appendEvent (s : State) (x : Crossed) (d : Deferred) : State × Crossed × Nat :=
  let flags := s.cart.flags
  let (s, n) := s.append d.kind (s.lifeValue d) d.stamp d.rtc
  if d.kind = 1 ∨ d.kind = 2 then
    let l := s.life
    let (a, b, c) := x
    (s, (if crosses l 25 0 flags a then some n else a, if crosses l 10 1 flags b then some n else b,
         if crosses l 0 2 flags c then some n else c), n)
  else (s, x, n)

/-- A warning record, its flag and EV_TAG_LIFE for threshold `t` crossed by record `n` (R483). -/
def State.warn (s : State) (t : Nat) (n : Option Nat) : State :=
  match n with
  | none => s
  | some n =>
    let (stamp, rtc) := s.stampNow
    ((s.append 5 t stamp rtc).1).raise 14 s.life t 0 (BitVec.ofNat 32 n)

/-- The closing work of a run of appends: the loss record, the records of R483, the summary (R483, R484, R498). -/
def State.closeAppends (s : State) (x : Crossed) : State :=
  let flags := s.cart.flags
  let (stamp, rtc) := s.stampNow
  let s := (s.warn 25 x.1).warn 10 x.2.1
  let s := match x.2.2 with
    | some _ => ((s.append 4 0 stamp rtc).1).raise 15 2 0 0 (s.tag.serial.setWidth 32)
    | none => s
  let flags := Nat.lor flags (bit x.1.isSome + 2 * bit x.2.1.isSome + 4 * bit x.2.2.isSome)
  (s.writeSummary flags).showLife

/-- EV_SURGE for an energy (R489). -/
def State.evSurge (s : State) (disposition : Nat) (mj : Nat) : State := s.raise 18 disposition 0 0 (BitVec.ofNat 32 mj)

/-- Flush the deferred queue in order to the cartridge whose serial it carries, with the loss record (R498, R499). -/
def State.flushDeferred (s : State) : State :=
  if s.tag.deferred.isEmpty ∨ s.tag.identity.isNone then s
  else
    let (s, x) := s.tag.deferred.foldl (fun (acc : State × Crossed) d =>
      let r := acc.1.appendEvent acc.2 d
      (r.1, r.2.1)) (s, (none, none, none))
    let (stamp, rtc) := s.stampNow
    let s := if s.tag.lost = 0 then s else (s.append 6 s.tag.lost stamp rtc).1
    let s := { s with tag := { s.tag with deferred := [], lost := 0 } }
    (s.closeAppends x).raise 15 4 0 0 (s.tag.serial.setWidth 32)

/-- Merge an addition into the newest queued entry of its kind, with saturation (R497). -/
def mergeInto (d : Deferred) : List Deferred → List Deferred
  | [] => []
  | x :: xs => if x.kind = d.kind ∧ !(xs.any (fun y => decide (y.kind = d.kind))) then { x with amount := sat32 (x.amount + d.amount) } :: xs
               else x :: mergeInto d xs

/-- Defer a device event: queued, merged into a full queue, or dropped and counted (R496, R497). -/
def State.defer (s : State) (d : Deferred) : State :=
  if s.tag.deferred.length < 64 then { s with tag := { s.tag with deferred := s.tag.deferred ++ [d] } }
  else
    let s := { s with tag := { s.tag with lost := s.tag.lost + 1 } }
    if (d.kind = 1 ∨ d.kind = 2) ∧ s.tag.deferred.any (fun x => decide (x.kind = d.kind)) then
      ({ s with tag := { s.tag with deferred := mergeInto d s.tag.deferred } }).bump F.TAG_ERR.defer_merged
    else s

/-- The event is deferred: EV_SURGE tells it for a surge, and a TAG_LIFE_POST completes (R454, R489). -/
def State.deferOp (s : State) (d : Deferred) (post : Option (Nat × Half)) (overflow : Bool) : State :=
  match post with
  | some (c, id) =>
    if s.tag.deferred.length < 64 then
      (s.defer d).finishWhere c (fun x => decide (x.desc.id = id) && decide (x.desc.opcode = 0x52)) .ok 0 1
    else s.finishWhere c (fun x => decide (x.desc.id = id) && decide (x.desc.opcode = 0x52)) .busy 0 0
  | none =>
    let s := s.defer d
    if d.kind = 2 then s.evSurge (if overflow then 3 else 1) d.amount else s

/-- The append of one event, with the closing work (R483, R484, R489, R454). -/
def State.serveLife (s : State) (d : Deferred) (post : Option (Nat × Half)) (overflow : Bool) : State :=
  if s.tag.identity.isNone then s
  else
    let (s, x, n) := s.appendEvent (none, none, none) d
    let s := s.closeAppends x
    match post with
    | some (c, id) => s.finishWhere c (fun y => decide (y.desc.id = id) && decide (y.desc.opcode = 0x52)) .ok (BitVec.ofNat 32 n) 0
    | none => if d.kind = 2 then s.evSurge (if overflow then 3 else 0) d.amount else s

/-! ### Identity (R486 to R488, R499) -/

/-- The identity the block spells, when it passes R487. -/
def Cart.identity (c : Cart) : Option Identity :=
  let b := c.bytes 0 64
  let i : Identity := { serial := BitVec.ofNat 64 (leAt b 4 8), eRated := leAt b 12 4, nRated := leAt b 16 2 }
  if leAt b 60 4 = crcOf crc32 (b.take 60) ∧ byteAt b 2 = 2 ∧ i.eRated ≠ 0 ∧ i.nRated ≠ 0 then some i else none

/-- An insertion is counted, unless another was within 2 s (R486). -/
def State.insertionDue (s : State) : Bool :=
  match s.tag.insertAt with
  | some c => decide (2000 ≤ (s.plt.lpc - c).toNat)
  | none => true

/-- An insertion event of now. -/
def State.insertion (s : State) : Deferred :=
  let (stamp, rtc) := s.stampNow
  { serial := s.tag.serial, kind := 1, amount := 1, stamp := stamp, rtc := rtc }

/-- The lowest threshold that life remaining has reached, told once at an insertion (R488). -/
def State.tellReached (s : State) : State :=
  if s.life ≤ 10 then (s.raise 14 s.life 10 0 (Config.reachedRecord s.free)).takeFree 1
  else if s.life ≤ 25 then (s.raise 14 s.life 25 0 (Config.reachedRecord s.free)).takeFree 1
  else s

/-- The identity read: the block is judged, the deferred entries of another cartridge are discarded, the summary is mended, and the
insertion record follows (R479, R484, R487, R488, R499). -/
def State.readIdentity (s : State) (insertion : Bool) : State :=
  let torn := ((List.range 32).filter (fun i => !s.cart.valid i)).length
  let s := (s.wr F.TAG_ERR.torn torn).put F.TAG_STATUS.identity_ok s.cart.identity.isSome
  let s := { s with tag := { s.tag with identity := s.cart.identity, serial := BitVec.ofNat 64 (s.cart.num 4 8) } }
  match s.tag.identity with
  | none => (s.showLife).raise 15 3 0 0 (s.tag.serial.setWidth 32)
  | some i =>
    let other := s.tag.deferred.filter (fun d => decide (d.serial ≠ i.serial))
    let s := { s with tag := { s.tag with deferred := s.tag.deferred.filter (fun d => decide (d.serial = i.serial)) } }
    let s := s.bumpBy F.TAG_ERR.dropped_removed other.length
    let s := if s.cart.summaryOk then s else s.writeSummary s.cart.flags
    let s := s.flushDeferred
    let s := if insertion && s.insertionDue then
        let s := s.serveLife s.insertion none false
        { s with tag := { s.tag with insertAt := some s.plt.lpc } }
      else s
    ((s.showLife).raise 15 0 0 0 (s.tag.serial.setWidth 32)).tellReached

/-! ### The L64's transactions (R493) -/

/-- The L64 may start a tag transaction: TAG is powered and not held back by PG (R224) or a warm restart (R506). -/
def State.tagMaster (s : State) : Bool := s.coreOn && !s.intake.brownout && !s.pins.resetHeld

/-- A host's buffer receives bytes: host memory after a transfer, the standby buffer at once (R421). -/
def State.deliver (s : State) (c j : Nat) (bytes : List Byte) (st : Status) (result info : Word) : State :=
  if c = clientSB then
    ({ s with sby := { s.sby with buf := Cells.setList (fun _ => 0) s.sby.buf 0 bytes } }).finish c j st result info
  else s.setPhase c j (.writing bytes st result info)

/-- Rows of a write: the bytes up to the next 16-byte boundary, then 16 at a time (R476). -/
def rowsOf (a : Nat) (data : List Byte) : Nat → List (Nat × List Byte)
  | 0 => []
  | n + 1 =>
    if data.isEmpty then []
    else
      let k := 16 - a % 16
      (a, data.take k) :: rowsOf (a + k) (data.drop k) n

/-- Carry out the rows of a write in ascending order (R476). -/
def Cart.writeRows (c : Cart) (a : Nat) (data : List Byte) : Cart :=
  (rowsOf a data (data.length + 1)).foldl (fun c r => (c.wiredWrite r.1 r.2).1) c

/-- A TAG_READ or TAG_WRITE that the tag serves (R453, R476). -/
def State.serveHostTag (s : State) (c : Nat) (id : Half) : State :=
  match s.findFlight c (fun x => decide (x.desc.id = id) && (decide (x.desc.opcode = 0x50) || decide (x.desc.opcode = 0x51))) with
  | none => s
  | some j => match (s.client c).flight[j]? with
    | none => s
    | some x =>
      let a := leAt x.desc.params 0 2
      if x.desc.opcode = 0x50 then
        s.deliver c j (s.cart.bytes a x.desc.bufLen) .ok (BitVec.ofNat 32 x.desc.bufLen) 0
      else match x.phase with
        | .tag data => ({ s with cart := s.cart.writeRows a data }).finish c j .ok (BitVec.ofNat 32 data.length) 0
        | _ => s

/-- One waiting transaction that the tag serves. -/
def State.serveOp (s : State) (o : TagOp) : State :=
  match o with
  | .identity ins => s.readIdentity ins
  | .host c id => s.serveHostTag c id
  | .life d post ov => s.serveLife d post ov

/-- The start address, bytes and direction of a waiting transaction, for its trace record (Table 15-8, port 4). -/
def State.opSpan (s : State) (o : TagOp) : Nat × Nat × Bool :=
  match o with
  | .identity _ => (0, 64, false)
  | .life _ _ _ => (0x650, 16, true)
  | .host c id => match (s.client c).flight.find? (fun x => decide (x.desc.id = id) && (decide (x.desc.opcode = 0x50) || decide (x.desc.opcode = 0x51))) with
    | some x => (leAt x.desc.params 0 2, x.desc.bufLen, decide (x.desc.opcode = 0x51))
    | none => (0, 0, false)

/-- The trace record of a transaction. -/
def State.traceTag (s : State) (o : TagOp) (acked : Bool) : State :=
  let (a, n, w) := s.opSpan o
  s.stim 4 (a % 65536 + 65536 * (n % 256) + 16777216 * bit w + 33554432 * bit acked)

/-- Attempt the waiting transactions: with the tag free every one is served, the deferred queue first (R493, R498); with the contactless
lock none is. -/
def State.tryTag (s : State) : State :=
  if !s.tagMaster || !s.pins.cartDet then s
  else if !s.wired then
    (match s.tag.ops with | o :: _ => s.traceTag o false | [] => s).put F.TAG_STATUS.lock_seen true
  else
    let ops := s.tag.ops
    let s := (s.put F.TAG_STATUS.lock_seen false).flushDeferred
    let s := { s with tag := { s.tag with ops := [] } }
    let s := ops.foldl (fun t o => (t.traceTag o true).serveOp o) s
    { s with cart := { s.cart with lock := .wired } }

/-- A transaction of the L64 is queued and attempted (R493). -/
def State.queueTag (s : State) (o : TagOp) : State :=
  ({ s with tag := { s.tag with ops := s.tag.ops ++ [o] } }).tryTag

/-- A life event of the device arises: it is appended, or deferred while the tag cannot be reached; it is a wake source, in the running node
as well (R489, R493, R496, R500, R506, R552). -/
def State.lifeEvent (s : State) (kind amount : Nat) (overflow : Bool) : State :=
  if s.tag.identity.isNone then s
  else
    let s := s.wakeBy 256
    let (stamp, rtc) := s.stampNow
    let d : Deferred := { serial := s.tag.serial, kind := kind, amount := amount, stamp := stamp, rtc := rtc }
    if !s.tagMaster || s.cfg.restarting || !s.pins.cartDet then s.deferOp d none overflow
    else s.queueTag (.life d none overflow)

/-- An insertion cause of R486 other than the identity read. -/
def State.countInsertion (s : State) : State :=
  if s.pins.cartDet ∧ s.insertionDue then
    let s := s.lifeEvent 1 1 false
    { s with tag := { s.tag with insertAt := some s.plt.lpc } }
  else s

/-! ### Commands of the cartridge and the wired side -/

/-- CARTRIDGE_PRESENT (R470, R486 to R488): the cartridge's contents come with it. Before the boot has ended the identity read waits. -/
def execCartridgePresent (image : List (Nat × Byte)) (s : State) : Host.Outcome State Fault Refusal :=
  let mem := image.foldl (fun m x => if x.1 < 2048 then Cells.set tagFactory m x.1 x.2 else m) []
  let s := { s with pins := { s.pins with cartDet := true }, cart := { Cart.reset with mem := mem } }
  let s := s.wakeBy (512 + 256)
  let s := s.put F.TAG_STATUS.present true
  .next (if s.booted 7 then s.queueTag (.identity true) else { s with tag := { s.tag with ops := s.tag.ops ++ [.identity true] } })

/-- A transaction the cartridge's removal cuts short (R504). -/
def State.cutShort (s : State) (o : TagOp) : State :=
  match o with
  | .identity _ => s
  | .host c id => s.finishWhere c (fun x => decide (x.desc.id = id) && (decide (x.desc.opcode = 0x50) || decide (x.desc.opcode = 0x51))) .refused 0 2
  | .life d post ov => s.deferOp d post ov

/-- CARTRIDGE_ABSENT (R470, R488, R504). -/
def execCartridgeAbsent (s : State) : Host.Outcome State Fault Refusal :=
  let ops := s.tag.ops
  let s := s.wakeBy 512
  let s := { s with pins := { s.pins with cartDet := false }, cart := .reset, tag := { s.tag with ops := [], identity := none } }
  let s := ((s.put F.TAG_STATUS.present false).put F.TAG_STATUS.identity_ok false).put F.TAG_STATUS.expired false
  let s := s.wr F.TAG_STATUS.life_pct 0xFF
  let s := ops.foldl (fun t o => t.cutShort o) s
  .next (s.raise 15 1 0 0 (s.tag.serial.setWidth 32))

/-- LINE_OK_RISE (R486). -/
def execLineOkRise (s : State) : Host.Outcome State Fault Refusal :=
  .next (({ s with p57 := { s.p57 with lineOk := true } }).countInsertion)

/-- TAG_TRANSACTION_RETRY (R493). -/
def execTagTransactionRetry (s : State) : Host.Outcome State Fault Refusal :=
  .next (if s.tag.ops.isEmpty then s else s.tryTag)

/-- TAG_BUDGET_EXPIRY: the oldest waiting transaction fails or is deferred (R493, R496). An identity read goes on being tried by the 50 ms
retry (notes/assumptions/95.md). -/
def execTagBudgetExpiry (s : State) : Host.Outcome State Fault Refusal :=
  match s.tag.ops with
  | [] => .next s
  | o :: rest =>
    let s := s.bump F.TAG_ERR.contended
    match o with
    | .identity ins => .next { s with tag := { s.tag with ops := rest ++ [.identity ins] } }
    | .host c id =>
      .next (({ s with tag := { s.tag with ops := rest } }).finishWhere c
        (fun x => decide (x.desc.id = id) && (decide (x.desc.opcode = 0x50) || decide (x.desc.opcode = 0x51))) .tagContended 0 0)
    | .life d post ov => .next (({ s with tag := { s.tag with ops := rest } }).deferOp d post ov)

/-- DEFERRED_RETRY (R496, R498, R499). -/
def execDeferredRetry (s : State) : Host.Outcome State Fault Refusal :=
  .next (if s.tag.deferred.isEmpty && s.tag.ops.isEmpty then s else s.tryTag)

/-- TAG_ARBITRATION_LOSS (R501): the transaction stays queued for its retry from START. -/
def execTagArbitrationLoss (byte : Byte) (b : Fin 8) (s : State) : Host.Outcome State Fault Refusal :=
  .next (((s.wr F.TAG_ARB.byte byte.toNat).wr F.TAG_ARB.bit b).bump F.TAG_ARB.losses)

/-- A wired transaction reaches the tag: it acts while the contactless side does not hold the lock, and takes the wired lock
(R490, R491). -/
def State.wiredDo (s : State) (f : Cart → Cart × List Byte × Bool) : State :=
  if !s.pins.cartDet then s
  else if !s.wired then { s with cart := { s.cart with answer := [], acked := false } }
  else
    let (c, out, ok) := f { s.cart with lock := .wired, ignoring := false }
    { s with cart := { c with answer := out, acked := ok } }

/-- TAG_WIRED_READ (R472). -/
def execTagWiredRead (addr : BitVec 11) (n : Nat) (s : State) : Host.Outcome State Fault Refusal :=
  .next (s.wiredDo (fun c => (c, c.bytes addr.toNat n, true)))

/-- TAG_WIRED_WRITE (R473). -/
def execTagWiredWrite (addr : BitVec 11) (data : List Byte) (s : State) : Host.Outcome State Fault Refusal :=
  .next (s.wiredDo (fun c => ((c.wiredWrite addr.toNat data).1, [], (c.wiredWrite addr.toNat data).2)))

/-- TAG_APPEND (R474). -/
def execTagAppend (data : List Byte) (s : State) : Host.Outcome State Fault Refusal :=
  .next (s.wiredDo (fun c => ((c.append data).1, [], (c.append data).2)))

/-! ### The contactless side (R490 to R495) -/

/-- The address of byte `i` of the contactless pages, or none for the pages that hold no tag memory (Table 11-7). -/
def pageAddr (i : Nat) : Option Nat :=
  let p := i / 4
  if p < 4 then none
  else if p < 20 then some (i - 16)
  else if p < 148 then some (0x240 + (i - 80))
  else some (0x640 + (i - 592))

/-- The byte a contactless reader finds at byte `i` of the pages, wrapping from page 163 to page 0 (Table 11-7, R495). -/
def Cart.pageByte (c : Cart) (i : Nat) : Byte :=
  let i := i % 656
  match pageAddr i with
  | some a => c.read a
  | none => if i < 12 then Config.nfcByte i else ([0xE1, 0x10, 0x50, 0x00] : List Byte).getD (i - 12) 0

/-- A contactless command reaches the tag: the lock is taken with the first one, which opens a session (R490 to R492). -/
def State.contactlessDo (s : State) (f : Cart → Cart × List Byte × Bool) : State :=
  if !s.pins.cartDet then s
  else if s.cart.ignoring || decide (s.cart.lock = .wired) then { s with cart := { s.cart with answer := [], acked := false } }
  else
    let c := if s.cart.lock = .none then (s.cart.put 0x640 (toLe 2 (s.cart.num 0x640 2 + 1))) else s.cart
    let (c, out, ok) := f { c with lock := .contactless }
    { s with cart := { c with answer := out, acked := ok } }

/-- CONTACTLESS_READ (R495). -/
def execContactlessRead (page : Byte) (s : State) : Host.Outcome State Fault Refusal :=
  .next (s.contactlessDo (fun c =>
    if page.toNat ≤ 163 then (c, (List.range 16).map (fun i => c.pageByte (4 * page.toNat + i)), true) else (c, [], false)))

/-- CONTACTLESS_WRITE (R495). -/
def execContactlessWrite (page : Byte) (data : List Byte) (s : State) : Host.Outcome State Fault Refusal :=
  .next (s.contactlessDo (fun c =>
    if 20 ≤ page.toNat ∧ page.toNat ≤ 147 ∧ data.length = 4 then (c.put (0x240 + 4 * (page.toNat - 20)) data, [], true) else (c, [], false)))

/-- TAG_LOCK_RELEASE (R490): it also ends the 50 ms in which contactless commands are ignored (R492, notes/assumptions/96.md). -/
def execTagLockRelease (s : State) : Host.Outcome State Fault Refusal :=
  .next { s with cart := { s.cart with lock := .none, ignoring := false } }

/-- CONTACTLESS_SESSION_LIMIT (R492). -/
def execContactlessSessionLimit (s : State) : Host.Outcome State Fault Refusal :=
  .next (if s.cart.lock = .contactless then { s with cart := { s.cart with lock := .none, ignoring := true } } else s)

end Sys2Proof.Machine
end

