-- ==== Sys2Proof/Machine/Intake.lean ====
section
/-! DEFINITION. The DXQ-P57, the intake master, shedding and brownout, and the performance level they cap (R195 to R232, R530 to R534). -/

namespace Sys2Proof.Machine

/-! ### Performance level (R530, R531, R533) -/

/-- The slowest cap in force: shed steps 5 and 6, brownout (R220, R224). -/
def State.capLevel (s : State) : Nat :=
  if s.intake.brownout ∨ 6 ≤ s.rf F.PWR_SHED_STATUS.step then 3 else if s.rf F.PWR_SHED_STATUS.step = 5 then 2 else 0

/-- The fastest PERF_REQUEST in force, 3 when none (Table 13-10). -/
def State.hostReq (s : State) : Nat := (s.hif.clients.filterMap (fun c => c.perf)).foldl min 3

/-- The fastest of the four requests (R530). -/
def State.wantLevel (s : State) : Nat :=
  min (min (s.rf F.PWR_PERF.cc_req) (s.rf F.PWR_PERF.ae0_req)) (min (s.rf F.PWR_PERF.ae1_req) (s.rf F.PWR_PERF.host_req))

/-- The level the requests and the cap give (R530). -/
def State.targetLevel (s : State) : Nat := max s.wantLevel s.capLevel

/-- Requests or caps have changed: PWR_PERF shows them, and a change of level starts while CORE is on (R531, R562). -/
def State.relevel (s : State) : State :=
  let s := (s.wr F.PWR_PERF.host_req s.hostReq).wr F.PWR_PERF.cap s.capLevel
  let s := s.put F.PWR_PERF.capped (decide (s.wantLevel < s.capLevel))
  { s with pwr := { s.pwr with changing := decide (s.targetLevel ≠ s.rf F.PWR_PERF.in_force) } }

/-! ### The P57 -/

/-- P_class in mW (R201); class 0 acts as 1 (Table 5-10). -/
def classMw (c : Nat) : Nat := 100 * classLimit c

/-- The warning threshold in percent: values outside 50 to 100 act as 90 (Table 5-10). -/
def P57.warnPercent (p : P57) : Nat := if 50 ≤ p.percent.toNat ∧ p.percent.toNat ≤ 100 then p.percent.toNat else 90

/-- The detector's threshold in mV; level 0 acts as 1 (Table 5-10). -/
def P57.hornLevel (p : P57) : Nat := 50 * max 1 (p.hornCtl.toNat / 16)

/-- SURGE_N is driven (R217): an enabled cause of Table 5-5 that drives it, the overload only after its restart, or a surge waiting. -/
def P57.surgeN (p : P57) : Bool :=
  let drives : Byte := if p.phase = .overloadWait ∨ p.phase = .restartWait then 0x3B else 0x3F
  decide (p.cause &&& p.causeEn &&& drives ≠ 0) || !p.fifo.isEmpty

/-- A cause is set. -/
def P57.setCause (p : P57) (i : Nat) : P57 := { p with cause := p.cause ||| BitVec.ofNat 8 (2 ^ i) }

/-- The P57 without power: its registers are at reset when it comes back, and its FIFO is empty (R201, R216). -/
def P57.powerLoss (p : P57) (ph : P57Phase) : P57 := { P57.reset with phase := ph, pg := false, lineOk := false, srcHost := false, telem := p.telem }

/-- The buck supplies VSYS5 (Table 5-2). -/
def P57.up (p : P57) : P57 := { p with phase := .on, pg := true, lineOk := true, ilim := false }

/-- Change the P57. -/
def State.modP57 (s : State) (f : P57 → P57) : State := { s with p57 := f s.p57 }

/-- P57_INPUT_RISE (R199). -/
def execP57InputRise (s : State) : Host.Outcome State Fault Refusal :=
  .next (s.modP57 (fun p => if p.phase = .off then { p with phase := .inrush } else p))

/-- INRUSH_END (R199, Table 5-2). -/
def execInrushEnd (s : State) : Host.Outcome State Fault Refusal :=
  .next (s.modP57 (fun p => if p.phase = .inrush then p.up else p))

/-- P57_INPUT_FALL (R199, R210, Table 5-5): with HOST5 holding VSYS5 the P57 keeps its registers and sets line_loss; without it, it loses
its power. A P57 that turns off during start-up waits for its restart. -/
def execP57InputFall (s : State) : Host.Outcome State Fault Refusal :=
  .next (s.modP57 (fun p =>
    let next : P57Phase := if p.phase = .inrush ∨ p.phase = .softStart ∨ p.phase = .restartWait then .restartWait else .off
    if p.srcHost then ({ p with phase := next, lineOk := false, ilim := false }).setCause 5 else p.powerLoss next))

/-- P57_RESTART_DELAY (R199, R203). -/
def execP57RestartDelay (inputUp : Bool) (s : State) : Host.Outcome State Fault Refusal :=
  .next (s.modP57 (fun p => match p.phase with
    | .restartWait => { p with phase := if inputUp then .inrush else .off }
    | .overloadWait => if inputUp then p.up else { p with phase := .off }
    | _ => p))

/-- INRUSH_TIMEOUT (R200). -/
def execInrushTimeout (s : State) : Host.Outcome State Fault Refusal :=
  .next (s.modP57 (fun p => if p.phase = .inrush then ({ p with phase := .restartWait }).setCause 2 else p))

/-- P57_OVERLOAD (R203). -/
def execP57Overload (s : State) : Host.Outcome State Fault Refusal :=
  .next (s.modP57 (fun p => if p.phase = .on then ({ p with phase := .overloadWait, pg := false, ilim := true }).setCause 2 else p))

/-- HOST5_SELECT (R208): PG follows VSYS5 (R210). -/
def execHost5Select (s : State) : Host.Outcome State Fault Refusal :=
  .next (s.modP57 (fun p =>
    if p.srcCtl.getLsbD 0 && !p.srcCtl.getLsbD 1 && !p.srcHost then ({ p with srcHost := true, pg := true }).setCause 3 else p))

/-- HOST5_DESELECT (R208): without the buck VSYS5 falls and the P57 with it (R210). -/
def execHost5Deselect (s : State) : Host.Outcome State Fault Refusal :=
  .next (s.modP57 (fun p =>
    if !p.srcHost then p
    else if p.phase = .on then ({ p with srcHost := false }).setCause 3
    else p.powerLoss p.phase))

/-- SURGE_START (R214). -/
def execSurgeStart (s : State) : Host.Outcome State Fault Refusal := .next (s.modP57 (fun p => { p with surging := true }))

/-- Add to the newest entry of a list, saturating (R215). -/
def addNewest (mj : Nat) : List Nat → List Nat
  | [] => []
  | [x] => [min 65535 (x + mj)]
  | x :: xs => x :: addNewest mj xs

/-- SURGE_END (R215). -/
def execSurgeEnd (mj : Nat) (s : State) : Host.Outcome State Fault Refusal :=
  .next (s.modP57 (fun p =>
    if !p.surging then p
    else
      let p := { p with surging := false }
      (if p.fifo.length < 4 then { p with fifo := p.fifo ++ [min 65535 mj] }
       else { p with fifo := addNewest mj p.fifo, overflow := true }).setCause 0))

/-- P57_THERMAL (R217, Table 5-5). -/
def execP57Thermal (s : State) : Host.Outcome State Fault Refusal :=
  .next (s.modP57 (fun p => ({ p with hot := true }).setCause 4))

/-- A write of 1 bits to P57_CAUSE: HORN_WAKE is released with its bits (R213). -/
def P57.clearCause (p : P57) (v : Byte) : P57 :=
  let p := { p with cause := p.cause &&& ~~~v }
  { p with hornWake := p.hornWake && decide (p.cause &&& 0xC0 ≠ 0) }

/-- P57_CAUSE_WRITE (R213). -/
def execP57CauseWrite (v : Byte) (s : State) : Host.Outcome State Fault Refusal := .next (s.modP57 (fun p => p.clearCause v))

/-- P57_SURGE_E_READ (R227). -/
def execP57SurgeERead (s : State) : Host.Outcome State Fault Refusal := .next (s.modP57 (fun p => { p with fifo := p.fifo.drop 1 }))

/-- The intake master may start a transaction (R224, R228). -/
def State.intakeFree (s : State) : Bool := !s.intake.brownout && !s.intake.waiting && s.intake.retry.isNone && !s.pins.resetHeld

/-- HORN_WAKE rises with cause bit `i`: it wakes the node from S4 and S5, and the L64 clears the bit once it may write to the P57 (R213). -/
def State.hornWake (s : State) (i : Nat) : State :=
  let s := s.modP57 (fun p => { p.setCause i with hornWake := true })
  let s := if 4 ≤ s.pwr.state then s.wakeBy 2 else s
  if s.intakeFree then s.modP57 (fun p => p.clearCause (BitVec.ofNat 8 (2 ^ i))) else s

/-- P57_HORN_DETECT (R211). -/
def execP57HornDetect (levelMv : Nat) (s : State) : Host.Outcome State Fault Refusal :=
  .next (if s.p57.lineOk && s.p57.hornCtl.getLsbD 0 && decide (s.p57.hornLevel ≤ levelMv) then s.hornWake 6 else s)

/-- P57_ACTIVITY_DETECT (R212). -/
def execP57ActivityDetect (levelMv : Nat) (s : State) : Host.Outcome State Fault Refusal :=
  .next (if s.p57.lineOk && s.p57.hornCtl.getLsbD 1 && decide (s.p57.hornLevel ≤ levelMv) then s.hornWake 7 else s)

/-! ### Shedding (R220 to R223) -/

/-- The warning clears: the sequence stops and steps are undone in time (R222). -/
def State.warnClear (s : State) : State := { s with intake := { s.intake with shedding := false, exhausted := false } }

/-- P57_POWER_WARNING (R202): up past percent of P_class, down 5 points below it. -/
def execP57PowerWarning (avgMw : Nat) (s : State) : Host.Outcome State Fault Refusal :=
  let limit := classMw s.p57.cls.toNat
  let w := s.p57.warnPercent
  .next (if !s.p57.pwarn ∧ limit * w < 100 * avgMw then s.modP57 (fun p => ({ p with pwarn := true }).setCause 1)
    else if s.p57.pwarn ∧ 100 * avgMw ≤ limit * (w - 5) then (s.modP57 (fun p => { p with pwarn := false })).warnClear
    else s)

/-- Shed step `n` is in force. -/
def State.setStep (s : State) (n : Nat) : State := ((s.wr F.PWR_SHED_STATUS.step n).stim 12 n).relevel

/-- The L64 sees a power warning: step 1 at once, or a return to shedding from the current step (R218, R220, R222). -/
def State.warnRise (s : State) : State :=
  let s := s.bump F.PWR_SHED_STATUS.warnings
  let s := { s with intake := { s.intake with shedding := true } }
  if s.rf F.PWR_SHED_STATUS.step = 0 then s.setStep 1 else s

/-- SHED_STEP (R220). -/
def execShedStep (s : State) : Host.Outcome State Fault Refusal :=
  .next (if s.intake.shedding ∧ s.p57.pwarn ∧ s.rf F.PWR_SHED_STATUS.step < 6 then s.setStep (s.rf F.PWR_SHED_STATUS.step + 1) else s)

/-- EV_BROWNOUT (Table 10-11). -/
def State.evBrownout (s : State) (cause ms : Nat) : State :=
  s.raise 17 cause (s.rf F.PWR_SHED_STATUS.step) 0 (BitVec.ofNat 32 ms)

/-- SHED_EXHAUSTED (R221). -/
def execShedExhausted (s : State) : Host.Outcome State Fault Refusal :=
  .next (if s.rf F.PWR_SHED_STATUS.step = 6 ∧ s.p57.pwarn ∧ ¬ s.intake.exhausted then
      ({ s with intake := { s.intake with exhausted := true } }).evBrownout 2 0
    else s)

/-- SHED_RESTORE (R222). -/
def execShedRestore (s : State) : Host.Outcome State Fault Refusal :=
  .next (if ¬ s.p57.pwarn ∧ 0 < s.rf F.PWR_SHED_STATUS.step then s.setStep (s.rf F.PWR_SHED_STATUS.step - 1) else s)

/-! ### Attention (R218, R228, R232) -/

/-- One surge energy is handed to the tag, or told with no cartridge (R232, R489). -/
def State.takeSurge (s : State) (overflow : Bool) (mj : Nat) : State :=
  if !s.pins.cartDet then (s.bump F.PWR_INTAKE_STATUS.surge_no_cart).evSurge 2 mj
  else if s.tag.identity.isNone then s.evSurge 2 mj
  else s.lifeEvent 2 mj overflow

/-- The intake master's work when SURGE_N is low: causes read, shedding started, the FIFO emptied, the causes cleared (R218). -/
def State.serveAttention (s : State) : State :=
  let p := s.p57
  let s := s.stim 11 p.cause.toNat
  let s := if p.cause.getLsbD 1 then s.warnRise else s
  let s := s.modP57 (fun q => { (q.clearCause (p.cause &&& 0x3F)) with fifo := [], overflow := false })
  let s := s.wakeBy 1024
  p.fifo.foldl (fun t mj => t.takeSurge p.overflow mj) s

/-- A transaction the P57 does not acknowledge is kept for its retries (R228). -/
def State.keepRetry (s : State) (what : Option Nat) : State := { s with intake := { s.intake with retry := some (what, 0) } }

/-- INTAKE_ATTENTION (R218). -/
def execIntakeAttention (ack : Bool) (s : State) : Host.Outcome State Fault Refusal :=
  .next (if s.p57.surgeN ∧ s.intakeFree then (if ack then s.serveAttention else s.keepRetry none) else s)

/-! ### Brownout (R224 to R226) -/

/-- PG_FALL (R224). -/
def execPgFall (s : State) : Host.Outcome State Fault Refusal :=
  let s := (s.modP57 (fun p => { p with pg := false })).put F.PWR_INTAKE_STATUS.pg false
  .next (if s.intake.brownout then s else ({ s with intake := { s.intake with brownout := true, sustained := false } }).relevel)

/-- The P57 is rewritten after its own reset: the values in force go back in, fresh is cleared, the generation counts (R225). -/
def State.rewriteP57 (s : State) : State :=
  let s := s.modP57 (fun p => { p with cls := BitVec.ofNat 2 s.intake.admitted, percent := 90, hornCtl := 0x41, srcCtl := 0x01, causeEn := 0x7F, fresh := false })
  (s.wrapInc F.PWR_INTAKE_STATUS.p57_gen).put F.GLB_BLOCK_RESET.p57 true

/-- PG counts as restored and the P57 answers (R225, R216). -/
def State.restorePg (s : State) (lowMs : Nat) : State :=
  let fresh := s.p57.fresh
  let s := if fresh then s.rewriteP57 else s
  let was := s.intake.brownout
  let s := { s with intake := { s.intake with brownout := false, sustained := false, waiting := false, retry := none } }
  let s := s.relevel
  let s := if fresh then s.lifeEvent 3 (s.rf F.PWR_INTAKE_STATUS.p57_gen) false else s
  if was then s.evBrownout 0 lowMs else s

/-- PG_RESTORED (R225, R560). -/
def execPgRestored (ack : Bool) (lowMs : Nat) (s : State) : Host.Outcome State Fault Refusal :=
  let s := (s.modP57 (fun p => { p with pg := true })).put F.PWR_INTAKE_STATUS.pg true
  let s := s.wakeBy 1024
  .next (if ack then s.restorePg lowMs else s.keepRetry (some lowMs))

/-- BROWNOUT_SUSTAINED (R226). -/
def execBrownoutSustained (s : State) : Host.Outcome State Fault Refusal :=
  .next (if s.intake.brownout ∧ ¬ s.intake.sustained then ({ s with intake := { s.intake with sustained := true } }).evBrownout 1 0 else s)

/-- INTAKE_BUS_RETRY (R228). -/
def execIntakeBusRetry (ack : Bool) (s : State) : Host.Outcome State Fault Refusal :=
  match s.intake.retry with
  | none => .next s
  | some (what, n) =>
    if ack then
      let s := { s with intake := { s.intake with retry := none } }
      .next (match what with | some ms => s.restorePg ms | none => s.serveAttention)
    else if n < 2 then .next { s with intake := { s.intake with retry := some (what, n + 1) } }
    else
      let s := ({ s with intake := { s.intake with retry := none, waiting := true } }).bump F.PWR_INTAKE_STATUS.bus_err
      .next (if s.p57.pg then s.evBrownout 3 0 else s)

/-- TELEMETRY_COPY (R219). -/
def execTelemetryCopy (m : P57Telem) (s : State) : Host.Outcome State Fault Refusal :=
  let s := s.modP57 (fun p => { p with telem := m })
  .next (if s.pwr.state ≤ 1 ∧ s.intakeFree then
      let s := (s.wr F.PWR_INTAKE_TELEM0.vin m.vin.toNat).wr F.PWR_INTAKE_TELEM0.iin m.iin.toNat
      let s := (s.wr F.PWR_INTAKE_TELEM1.pin m.pin.toNat).wr F.PWR_INTAKE_TELEM1.vsys m.vsys.toNat
      s.put F.PWR_INTAKE_STATUS.telem_stale false
    else s)

end Sys2Proof.Machine
end

