-- ==== Sys2Proof/Machine/Power.lean ====
section
/-! DEFINITION. Sleep entry and exit, wake sources, the RTC, performance changes and refused votes (R530 to R562). -/

namespace Sys2Proof.Machine

/-! ### Refused votes (R551) -/

/-- EV_POWER_REFUSED for a refused vote: the refuser with the lowest code, the state asked, the refusals counted since the last event. -/
def State.tellRefused (s : State) (r : RefusedVote) : State :=
  let lowest := r.refusers.foldl min 31
  let n := s.pwr.refusals
  let s := { s with pwr := { s.pwr with refusals := 0, refused := s.pwr.refused.map (fun (x : RefusedVote) => if x.client = r.client then { x with reported := true } else x) } }
  s.raise 16 lowest r.asked 0 (BitVec.ofNat 32 n)

/-- The clients that refuse a vote for `asked` now. -/
def State.refusersOf (s : State) (asked : Nat) : List Nat := (List.range 26).filter (fun c => s.refuses c asked)

/-- One client becomes a refuser: its count and the count since the last event go up (R551). -/
def State.countRefuser (s : State) (c : Nat) : State :=
  let s := s.bump (F.refuseCnt c)
  { s with pwr := { s.pwr with refusals := s.pwr.refusals + 1 } }

/-- Refusals that no longer stand are dropped; a client that becomes a refuser of one that stands is counted. -/
def State.refreshRefusals (s : State) : State :=
  let now : List (RefusedVote × List Nat) := s.pwr.refused.map (fun r => (r, s.refusersOf r.asked))
  let fresh := now.flatMap (fun x => x.2.filter (fun c => !x.1.refusers.contains c))
  let s := fresh.foldl (fun t c => t.countRefuser c) s
  let standing : List RefusedVote := (now.filter (fun x => !x.2.isEmpty)).map (fun (x : RefusedVote × List Nat) => { x.1 with refusers := x.2 })
  { s with pwr := { s.pwr with refused := standing } }

/-- A POWER_VOTE for `asked` by client `c` has been recorded (R551); a report time of 0 reports at once (Table 13-10). -/
def State.voted (s : State) (c asked : Nat) : State :=
  let s := { s with pwr := { s.pwr with refused := s.pwr.refused.filter (fun r => decide (r.client ≠ c)) } }
  let s := { s with pwr := { s.pwr with refused := s.pwr.refused ++ [({ client := c, asked := asked, refusers := [], reported := false } : RefusedVote)] } }
  let s := s.refreshRefusals
  if s.rf F.PWR_REFUSE_CTL.report_ms = 0 then
    match s.pwr.refused.find? (fun r => decide (r.client = c)) with
    | some r => s.tellRefused r
    | none => s
  else s

/-- REFUSAL_REPORT (R551). -/
def execRefusalReport (s : State) : Host.Outcome State Fault Refusal :=
  let s := s.refreshRefusals
  .next (match s.pwr.refused.find? (fun r => !r.reported) with
    | some r => s.tellRefused r
    | none => s)

/-! ### Entry (R537 to R539, R557, R558) -/

/-- One cycle passes at the present allowed depth (R537). -/
def State.holdCycle (s : State) : State :=
  { s with pwr := { s.pwr with holds := s.pwr.holds.mapIdx (fun i n => if i + 2 ≤ s.allowedDepth then n + 1 else 0) } }

/-- hold_cycles; 0 acts as 1 (Table 13-10). -/
def State.holdNeeded (s : State) : Nat := max 1 (s.rf F.PWR_CTL.hold_cycles)

/-- The deepest state whose hold is over (R537). -/
def State.dueState (s : State) : Option Nat :=
  [5, 4, 3, 2].find? (fun n => decide (n ≤ s.allowedDepth) && decide (s.holdNeeded ≤ s.pwr.holds.getD (n - 2) 0))

/-- The node must send NODE_STATUS before it enters state `n` (R539): on an Active line, from a reported state of 0, with an address. -/
def State.mustReport (s : State) (n : Nat) : Bool :=
  decide (3 ≤ n) && decide (s.link.reported = 0) && (s.addr .a).isSome && s.locked && !s.lineDown && decide (s.lineState .a = 0)

/-- Votes told at the start of an entry into a state shallower than the state asked (R551). -/
def State.tellShallow (s : State) (n : Nat) : State :=
  (s.pwr.refused.filter (fun r => !r.reported && decide (n < r.asked))).foldl (fun t r => t.tellRefused r) s

/-- An entry into state `n` starts: at once, or after the NODE_STATUS (R537, R539). -/
def State.startEntry (s : State) (n : Nat) : State :=
  let s := (s.refreshRefusals).tellShallow n
  if s.mustReport n then
    ({ s with pwr := { s.pwr with entering := some n, entrySince := some s.lpc } }).statusDue .a
  else s.enterSleep n

/-- The votes no longer allow the entry under way (R558). -/
def State.checkEntry (s : State) : State :=
  match s.pwr.entering with
  | some n => if s.allowedDepth < n then s.abortEntry 31 else s
  | none => s

/-- A bell's message is still awaited (R104). -/
def State.awaitsBell (s : State) : Bool := match s.pwr.bellUntil with | some u => !later s.lpc u | none => false

/-- SLEEP_HOLD_EXPIRY (R537). -/
def execSleepHoldExpiry (s : State) : Host.Outcome State Fault Refusal :=
  .next (if s.coreOn && s.pwr.entering.isNone && !s.pins.resetHeld && !s.awaitsBell then
      match s.dueState with
      | some n => s.startEntry n
      | none => s
    else s)

/-- SLEEP_ENTRY_ABORT (R539): 64 cycles have passed without the NODE_STATUS. -/
def execSleepEntryAbort (s : State) : Host.Outcome State Fault Refusal :=
  .next (match s.pwr.entrySince with
    | some e => if 64 ≤ (s.lpc - e).toNat then
        { s with pwr := { s.pwr with entering := none, entrySince := none, holds := [0, 0, 0, 0] } } else s
    | none => s)

/-- S1_ENTRY (R536): the allowed depth permits it; that no element has work is what the command says. -/
def execS1Entry (s : State) : Host.Outcome State Fault Refusal :=
  .next (if s.pwr.state = 0 ∧ 1 ≤ s.allowedDepth ∧ s.pwr.entering.isNone then
      ({ s with pwr := { s.pwr with state := 1 } }).stim 2 (1 + 16 * s.rf F.PWR_PERF.in_force)
    else s)

/-- S1_EXIT (R536). -/
def execS1Exit (s : State) : Host.Outcome State Fault Refusal :=
  .next (if s.pwr.state = 1 then ({ s with pwr := { s.pwr with state := 0 } }).stim 2 (16 * s.rf F.PWR_PERF.in_force) else s)

/-- WAKE_SOURCE (R552, R557 to R559). -/
def execWakeSource (bits : BitVec 13) (s : State) : Host.Outcome State Fault Refusal :=
  .next (if s.pins.resetHeld then s else s.wakeBy bits.toNat)

/-- The node's Watch cycles: its own cycle of eight, and every Quiet beacon cycle on a Quiet line (R541, R542). -/
def State.watchDue (s : State) : Bool :=
  decide (s.lpc.toNat % 8 = s.rf F.LINE_ADDR.addr % 8) || (decide (s.lineState .a ≠ 0) && quietBeaconCycle s.lpc)

/-- WATCH_CYCLE (R541, R542): the PHY is powered for the beacon and the bell field of this cycle. -/
def execWatchCycle (s : State) : Host.Outcome State Fault Refusal :=
  .next (if s.pwr.state = 3 ∧ s.watchDue then { s with phy := { s.phy with watch := some s.lpc } } else s)

/-! ### RTC (R553, R676) -/

/-- RTC_TICK. -/
def execRtcTick (s : State) : Host.Outcome State Fault Refusal :=
  .next (if s.pins.rtcCrystal then s.wr F.PWR_RTC.seconds (s.rf F.PWR_RTC.seconds + 1) else s)

/-- RTC_ALARM: it fires once and clears; a value of 0 disables it. -/
def execRtcAlarm (s : State) : Host.Outcome State Fault Refusal :=
  .next (if s.pins.rtcCrystal ∧ s.rf F.PWR_RTC_ALARM.seconds ≠ 0 ∧ s.rf F.PWR_RTC.seconds = s.rf F.PWR_RTC_ALARM.seconds then
      (s.wr F.PWR_RTC_ALARM.seconds 0).wakeBy 4
    else s)

/-- RTC_CRYSTAL_LOSS (R676). -/
def execRtcCrystalLoss (s : State) : Host.Outcome State Fault Refusal :=
  .next { s with pins := { s.pins with rtcCrystal := false } }

/-! ### Level changes (R531, R533, R456) -/

/-- A PERF_REQUEST waits for the level change. -/
def waitsPerf (x : InFlight) : Bool := decide (x.phase = .perf)

/-- The status a PERF_REQUEST for `level` completes with at the level in force. -/
def State.perfStatus (s : State) (level : Nat) : Status :=
  if level = 0xFF ∨ s.rf F.PWR_PERF.in_force ≤ level then .ok else .partialDone

/-- Complete client `c`'s PERF_REQUEST. -/
def State.perfDone (s : State) (c : Nat) : State :=
  match s.findFlight c waitsPerf with
  | some j => match (s.client c).flight[j]? with
    | some x => s.finish c j (s.perfStatus (byteAt x.desc.params 0)) (BitVec.ofNat 32 (s.rf F.PWR_PERF.in_force)) 0
    | none => s
  | none => s

/-- PERF_LEVEL_CHANGE_DONE (R531, R562). -/
def execPerfLevelChangeDone (s : State) : Host.Outcome State Fault Refusal :=
  .next (if s.coreOn ∧ s.pwr.changing then
      let s := s.wr F.PWR_PERF.in_force s.targetLevel
      let s := ({ s with pwr := { s.pwr with changing := false } }).stim 2 (s.pwr.state + 16 * s.rf F.PWR_PERF.in_force)
      (List.range 17).foldl (fun t c => t.perfDone c) s
    else s)

end Sys2Proof.Machine
end

