-- ==== Sys2Proof/Machine/Operands.lean ====
section
/-! DEFINITION. Descriptors as operands: their fields, the checks of Tables 10-1 and 10-4, the order in which a client's commands start,
and the firmware compare units that scheduled ones wait for (R13, R33, R35, R388 to R390, R428 to R435). -/

namespace Sys2Proof.Machine

/-! ### Fields (Table 10-1) -/

/-- The descriptor 64 bytes spell. -/
def parseDesc (b : List Byte) : Desc :=
  { opcode := byteAt b 0, flags := BitVec.ofNat 8 (byteAt b 1), id := BitVec.ofNat 16 (leAt b 2 2), due := BitVec.ofNat 32 (leAt b 4 4),
    bufAddr := BitVec.ofNat 64 (leAt b 8 8), bufLen := leAt b 16 4, params := bytesAt b 20 44 }

/-- Parameter byte `i` of the descriptor, by its place in the 64 bytes. -/
def Desc.byte (d : Desc) (i : Nat) : Nat := byteAt d.params (i - 20)

/-- The little-endian number in `n` parameter bytes from place `i`. -/
def Desc.num (d : Desc) (i n : Nat) : Nat := leAt d.params (i - 20) n

/-- The fence flag (R390). -/
def Desc.fence (d : Desc) : Bool := d.flags.getLsbD 0
/-- The scheduled flag (R35). -/
def Desc.scheduled (d : Desc) : Bool := d.flags.getLsbD 2
/-- The chain flag (R386). -/
def Desc.chain (d : Desc) : Bool := d.flags.getLsbD 3

/-- The opcodes of Table 10-4. -/
def knownOps : List Nat :=
  [0x01, 0x02, 0x10, 0x11, 0x12, 0x13, 0x14, 0x20, 0x21, 0x22, 0x30, 0x31, 0x32, 0x40, 0x50, 0x51, 0x52, 0x60, 0x70, 0x71, 0x80, 0x90, 0x91, 0xA0, 0xF0]

/-- The opcodes that may be scheduled (Table 10-4). -/
def schedOps : List Nat := [0x01, 0x10, 0x11, 0x12, 0x13, 0x14, 0x30, 0x40, 0x91]

/-- The opcodes with a buffer (Table 10-4). -/
def bufferOps : List Nat := [0x21, 0x40, 0x50, 0x51, 0x60, 0x90, 0xA0, 0xF0]

/-- The opcodes SB may not use (R421). -/
def notForSb : List Nat := [0x20, 0x21, 0x22, 0x80]

/-- Parameter bytes an opcode lists, as (place, bits that are not reserved); a byte in no entry is reserved. -/
def opBytes (op : Nat) (own : Bool) : List (Nat × Nat) :=
  let all (is : List Nat) : List (Nat × Nat) := is.map (fun i => (i, 0xFF))
  let span (o n : Nat) : List (Nat × Nat) := (List.range n).map (fun i => (o + i, 0xFF))
  match op with
  | 0x10 => all [20, 22] ++ [(21, 1)] ++ span 24 8
  | 0x11 => span 20 5 ++ [(25, 1)]
  | 0x12 | 0x21 | 0x22 | 0x70 | 0x71 | 0x90 => all [20]
  | 0x13 => span 20 3 ++ span 24 8
  | 0x14 | 0x40 | 0x50 | 0x51 => span 20 2
  | 0x20 => span 20 6 ++ [(26, 3), (27, 0xFF)]
  | 0x30 => span 20 4 ++ [(24, 1)]
  | 0x31 => all [20] ++ span 22 3
  | 0x32 => all [20] ++ span 24 8
  | 0x52 => all [20] ++ span 24 4
  | 0x60 => span 20 2 ++ [(22, 1)] ++ span 24 4 ++ (if own then span 28 24 else [])
  | 0x80 | 0xA0 => span 20 2 ++ span 24 8
  | 0xF0 => all [20] ++ span 24 2
  | _ => []

/-- The bits of parameter byte `i` that opcode `op` does not reserve. -/
def paramMask (op : Nat) (own : Bool) (i : Nat) : Nat := (((opBytes op own).find? (fun x => decide (x.1 = i))).map (fun x => x.2)).getD 0

/-- No reserved bit or byte is set (R13, Table 10-1). -/
def Desc.reservedClear (d : Desc) : Bool :=
  decide (d.flags.toNat / 16 = 0) &&
  (List.range 44).all (fun k => decide (Nat.land (byteAt d.params k) (255 - paramMask d.opcode (bitOf (d.byte 22) 0) (k + 20)) = 0))

/-- A field holds a value that its table gives (Tables 10-5 to 10-10, R449 to R461). -/
def Desc.inRange (d : Desc) : Bool :=
  match d.opcode with
  | 0x10 => decide (d.byte 20 ≤ 3)
  | 0x11 => decide (d.byte 20 ≤ 63) && (decide (d.byte 21 = 1) || decide (d.byte 21 = 2)) && decide (d.byte 22 ≤ 3) && decide (d.byte 23 ≤ 7)
      && (if d.byte 23 = 2 ∨ d.byte 23 = 4 ∨ d.byte 23 = 5 then decide (d.byte 24 ≤ 31)
          else if d.byte 23 = 3 ∨ d.byte 23 = 6 ∨ d.byte 23 = 7 then decide (d.byte 24 ≤ 7) else true)
  | 0x12 => decide (d.byte 20 ≤ 7)
  | 0x13 => (decide (d.byte 20 = 0) && decide (d.byte 21 ≤ 3)) || (decide (d.byte 20 = 1) && decide (d.byte 21 ≤ 1) && decide (d.byte 22 ≤ 7))
  | 0x20 => decide (d.byte 20 ≤ 2) && (decide (d.byte 20 ≠ 0) || (decide (d.byte 21 ≤ 6) && (decide (d.byte 21 ≠ 2) || decide (d.byte 22 ≤ 63))))
      && decide (d.byte 23 ≤ 1) && decide (16 ≤ d.num 24 2) && decide (d.num 24 2 ≤ 4096) && decide (d.num 24 2 % 16 = 0)
  | 0x21 => decide (d.byte 20 ≤ 31) && decide (16 ≤ d.bufLen)
  | 0x22 => decide (d.byte 20 ≤ 31)
  | 0x30 => decide (d.byte 20 ≤ 1) && decide (d.byte 21 ≤ 63) && decide (d.byte 23 ≤ 3)
      && (if d.byte 20 = 0 then decide (d.byte 22 = 0xFF) else decide (d.byte 22 ≤ 127))
  | 0x31 => decide (d.byte 20 ≤ 2)
  | 0x32 => decide (d.byte 20 ≤ 2)
  | 0x50 | 0x51 => decide (d.num 20 2 + d.bufLen ≤ 2048)
  | 0x60 => decide (d.byte 20 ≤ 3) && decide (d.byte 21 ≤ 3) && decide (d.bufLen ≤ 0x1000000)
  | 0x70 => decide (d.byte 20 ≤ 5)
  | 0x71 => decide (d.byte 20 ≤ 3) || decide (d.byte 20 = 0xFF)
  | 0x80 => decide (d.byte 20 ≤ 31) && decide (d.byte 21 ≤ 1)
  | 0x90 => decide (d.byte 20 ≤ 1) && (decide (d.byte 20 = 1) || (decide (d.bufLen ≠ 0) && decide (d.bufLen % 12 = 0)))
  | _ => true

/-- What a descriptor of client `c` completes with before it has any effect, if it breaks a rule (R13, R421, R428 to R430, Table 10-1). -/
def checkDesc (c : Nat) (d : Desc) : Option Status :=
  if d.id = 0xFFFF ∨ d.flags.toNat / 16 ≠ 0 then some .badDesc
  else if !knownOps.contains d.opcode then some .unsupported
  else if c = clientSB ∧ notForSb.contains d.opcode then some .unsupported
  else if d.scheduled ∧ !schedOps.contains d.opcode then some .badDesc
  else if !bufferOps.contains d.opcode ∧ (d.bufAddr ≠ 0 ∨ d.bufLen ≠ 0) then some .badDesc
  else if c = clientSB ∧ (d.bufAddr ≠ 0 ∨ 256 < d.bufLen) then some .badDesc
  else if !d.reservedClear ∨ !d.inRange then some .badDesc
  else none

/-! ### The order of a client's commands (R388 to R390) -/

/-- The descriptor has started or been armed, or has been refused. -/
def Phase.begun : Phase → Bool
  | .fetched => false
  | .doomed _ => false
  | _ => true

/-- Descriptor `j` of the list `fl` may start: nothing before it under a fence or FENCE, no control command before a control command,
no STREAM_OPEN, no STREAM_CLOSE and no waiting buffer of its stream before a STREAM_BUF. -/
def mayStart (fl : List InFlight) (j : Nat) : Bool :=
  match fl[j]? with
  | none => false
  | some x =>
    let before := fl.take j
    if x.phase.begun then false
    else if x.desc.fence || decide (x.desc.opcode = 0x02) then decide (j = 0)
    else if x.isStream then
      !before.any (fun y => decide (y.desc.opcode = 0x20) || decide (y.desc.opcode = 0x22)
        || (y.isStream && !y.phase.begun && decide (y.desc.byte 20 = x.desc.byte 20)))
    else !before.any (fun y => !y.isStream)

/-- Commands start: CC is up, out of a warm restart and past its boot (R412, R605). -/
def State.runsCommands (s : State) : Bool := s.ccUp && s.booted 7

/-- Descriptor `x` of client `c` has something to run it: its client is open, or it is a CONFIG_APPLY that outlives it (R424). -/
def State.runsFor (s : State) (c : Nat) (x : InFlight) : Bool := s.runsCommands && ((s.client c).running || decide (x.desc.opcode = 0x91))

/-- The first startable descriptor of client `c` with opcode `op`. -/
def State.startable (s : State) (c op : Nat) : Option (Nat × InFlight) :=
  let fl := (s.client c).flight
  (List.range fl.length).findSome? (fun j => match fl[j]? with
    | some x => if s.runsFor c x ∧ x.desc.opcode = op ∧ x.phase = .fetched ∧ mayStart fl j then some (j, x) else none
    | none => none)

/-! ### Firmware compare units (R33) -/

/-- Insert a deadline in the order of due positions. -/
def insertDeadline (now : Word) (d : Deadline) : List Deadline → List Deadline
  | [] => [d]
  | x :: xs => if cycleDiff d.cycle now < cycleDiff x.cycle now then d :: x :: xs else x :: insertDeadline now d xs

/-- Arm a free unit for the first waiting deadline, as long as there are both; `n` bounds the work. -/
def State.armUnits (s : State) : Nat → State
  | 0 => s
  | n + 1 =>
    match s.plt.waiting, s.plt.units.findIdx? (fun u => u.isNone) with
    | d :: rest, some i =>
      (({ s with plt := { s.plt with waiting := rest, units := s.plt.units.set i (some d) } }).setBit F.PLT_CMP_STATUS.armed i).armUnits n
    | _, _ => s

/-- The firmware waits for symbol 0 of cycle `due` for descriptor `id` of client `c` (R33, R35). -/
def State.addDeadline (s : State) (c : Nat) (id : Half) (due : Word) : State :=
  let d : Deadline := { cycle := due, sym := 0, client := c, id := id }
  ({ s with plt := { s.plt with waiting := insertDeadline s.lpc d s.plt.waiting } }).armUnits 6

/-- The deadlines `p` selects are given up: their units are free (R424). -/
def State.dropDeadlines (s : State) (p : Deadline → Bool) : State :=
  let gone := (List.range 6).filter (fun i => match s.plt.units.getD i none with | some d => p d | none => false)
  let s := { s with plt := { s.plt with waiting := s.plt.waiting.filter (fun d => !p d) } }
  let s := gone.foldl (fun t i => ({ t with plt := { t.plt with units := t.plt.units.set i none } }).clrBit F.PLT_CMP_STATUS.armed i) s
  s.armUnits 6

/-- A due cycle that lies ahead (R35). -/
def State.isAhead (s : State) (due : Word) : Bool := later due s.lpc

/-! ### Starting commands -/

/-- Arm scheduled descriptor `j` of client `c` for its due cycle. -/
def State.schedule (s : State) (c j : Nat) (d : Desc) (buf : List Byte) : State :=
  (s.setPhase c j (.scheduled d.due buf)).addDeadline c d.id d.due

/-- One descriptor whose turn has come needs no executing block: a refused one completes, a scheduled one without a buffer is armed. -/
def State.settleOne (s : State) (c : Nat) : Option State :=
  let fl := (s.client c).flight
  (List.range fl.length).findSome? (fun j => match fl[j]? with
    | some x =>
      if !s.runsFor c x || !mayStart fl j then none
      else match x.phase with
        | .doomed st => some (s.finish c j st 0 0)
        | _ => match checkDesc c x.desc with
          | some st => some (s.finish c j st 0 0)
          | none =>
            if x.desc.scheduled && s.isAhead x.desc.due && !bufferOps.contains x.desc.opcode then some (s.schedule c j x.desc []) else none
    | none => none)

/-- Every such descriptor of client `c`; `n` bounds how many there are. -/
def State.settleN (s : State) (c : Nat) : Nat → State
  | 0 => s
  | n + 1 => match s.settleOne c with
    | some t => t.settleN c n
    | none => s

/-- Settle client `c`. -/
def State.settle (s : State) (c : Nat) : State := s.settleN c (2 * (s.client c).flight.length)

/-- Settle every client. -/
def State.settleAll (s : State) : State := (List.range 17).foldl (fun t c => t.settle c) s

/-- The bytes a command of client `c` has: its host buffer as read, or the standby buffer (R421). -/
def State.bufferOf (s : State) (c : Nat) (d : Desc) (buf : List Byte) : List Byte :=
  if c = clientSB then Cells.getList (fun _ => 0) s.sby.buf 0 d.bufLen else buf.take d.bufLen

/-- The command of client `c` with opcode `op` whose turn has come: refused when it breaks a rule, armed when its due cycle lies ahead,
otherwise `f` acts, on the state, its place and the descriptor (R388, R430, R35). -/
def State.command (s : State) (c op : Nat) (buf : List Byte) (f : State → Nat → Desc → State) : State :=
  match s.startable c op with
  | none => s
  | some (j, x) =>
    let s := match checkDesc c x.desc with
      | some st => s.finish c j st 0 0
      | none =>
        if x.desc.scheduled && s.isAhead x.desc.due then s.schedule c j x.desc (s.bufferOf c x.desc buf)
        else f (s.stim 5 (x.desc.id.toNat + 65536 * c)) j x.desc
    s.settle c

end Sys2Proof.Machine
end

