-- ==== Sys2Proof/Machine/Host.lean ====
section
/-! DEFINITION. The host link: doorbells, rings, fetch, completions, vectors, client faults and the resets and power states of the link
(R370 to R414), and the standby port (R415 to R422). -/

namespace Sys2Proof.Machine

/-! ### Rings -/

/-- Entries of client `n`'s submission queue (R377). -/
def State.sqSize (s : State) (n : Nat) : Nat := 2 ^ s.rf (F.HIF_RING_CTL.sq_log2 n)

/-- Entries of client `n`'s completion queue. -/
def State.cqSize (s : State) (n : Nat) : Nat := 2 ^ s.rf (F.HIF_RING_CTL.cq_log2 n)

/-- Descriptors published and not fetched (R379). -/
def State.published (s : State) (n : Nat) : Nat :=
  ((s.client n).sqTail + s.sqSize n - (s.client n).sqHead) % s.sqSize n

/-- The device may read and write host memory (R401, R402, R404). -/
def State.busOpen (s : State) : Bool := s.hif.bme && !s.hif.d3hot && s.hif.linkUp && !s.pins.perst && s.hostOn && !s.pins.resetHeld

/-- Descriptors in flight device-wide (R383). -/
def State.totalInFlight (s : State) : Nat := (s.hif.clients.map (fun c => c.inFlight)).foldl (· + ·) 0

/-! ### Vectors (R395 to R400) -/

/-- What an unlisted byte of the MSI-X table reads as: vector control 1, so that every vector is masked. -/
def msixByte (k : Nat) : Byte := if k % 16 = 12 then 1 else 0

/-- Vector `v` fires. A vector that is masked, or whose message the device may not write (R401, R402), is left pending. -/
def State.fireVector (s : State) (v : Nat) : State :=
  if s.hif.msix then
    if (Cells.get msixByte s.hif.msixTable (16 * v + 12)).getLsbD 0 || !s.busOpen then { s with hif := { s.hif with pba := s.hif.pba ||| (1 <<< v) } }
    else { s with hif := { s.hif with fired := v :: s.hif.fired } }
  else if s.hif.msi && s.busOpen then
    ({ s with hif := { s.hif with fired := v :: s.hif.fired } }).setBit F.HIF_IRQ_SUMMARY.src v
  else s

/-- Client `n`'s vector fires and is disarmed (R398). -/
def State.fireClient (s : State) (n : Nat) : State := (s.fireVector n).modClient n (fun c => { c with armed := false })

/-! ### Closing a client (R407, R410, R413) -/

/-- A descriptor that ends with its client: not started, or ended by the close of its session, stream or buffer. A fetched CONFIG_APPLY
still applies (R407 step 7, R424). -/
def InFlight.endsWithClient (x : InFlight) : Bool :=
  match x.phase with
  | .fetched | .scheduled _ _ => decide (x.desc.opcode ≠ 0x91)
  | .doomed _ | .forwarded _ | .raising _ _ | .talkOpen _ | .talkClose _ | .streamBuf _ | .streamClose _ | .writing _ _ _ _ | .job _ _ _ _ _ => true
  | .applying | .monitor | .callSend _ | .ledgerSend _ | .tag _ | .configApply | .perf => false

/-- The Tollgate unit a job holds is released. -/
def State.releaseJob (s : State) (x : InFlight) : State :=
  match x.phase with
  | .job u _ _ _ _ => s.put (F.TOLL_STATUS.job u) false
  | _ => s

/-- Close the talk sessions of client `n`, releasing their leases (R407 step 5, R468). -/
def State.closeTalk (s : State) (n : Nat) : State :=
  (List.range 8).foldl (fun t k => match t.session k with
    | some x => if x.client = n then (t.dropTalk .a (.session k)).setSession k none else t
    | none => t) s

/-- Close the streams of client `n` and end their history fetches (R407 step 4, R368). -/
def State.closeStreams (s : State) (n : Nat) : State :=
  let mine (i : Nat) : Bool := match s.hif.streams.getD i none with | some x => decide (x.client = n) | none => false
  { s with
    wake := { s.wake with fetches := s.wake.fetches.filter (fun f => !mine f.1) }
    hif := { s.hif with streams := s.hif.streams.mapIdx (fun i x => if mine i then none else x) } }

/-- Steps 1 to 6 of R407 for client `n`. -/
def State.endClient (s : State) (n : Nat) : State :=
  let fl := (s.client n).flight
  let applies (d : Deadline) : Bool := fl.any (fun x => decide (x.desc.id = d.id) && decide (x.desc.opcode = 0x91))
  let s := fl.foldl (fun t x => t.releaseJob x) s
  let s := s.dropDeadlines (fun d => decide (d.client = n) && !applies d)
  let s := (s.closeTalk n).closeStreams n
  s.modClient n (fun c =>
    { c with
      running := false, armed := false, fetching := 0, badChain := false, latched := [none, none, none], waiting := [], mask := 0,
      vote := none, perf := none,
      flight := (c.flight.filter (fun x => !x.endsWithClient)).map (fun x => { x with stale := true, chainLeft := 0 }) })

/-- Staging that no fetched CONFIG_APPLY of its owner covers is discarded (R407 step 7). -/
def State.dropStaging (s : State) : State :=
  match s.cfg.owner with
  | some n =>
    if n < 16 ∧ s.cfg.apply.isNone ∧ ¬ (s.client n).flight.any (fun x => decide (x.desc.opcode = 0x91)) then
      { s with cfg := { s.cfg with staging := [], owner := none } } else s
  | none => s

/-- A set that client `n` staged is discarded with the client, unless a CONFIG_APPLY it has fetched covers it (R424, R595, Table 14-7). -/
def State.dropStagingOf (s : State) (n : Nat) : State := if s.cfg.owner = some n then s.dropStaging else s

/-- Close client `n` alone (R410, R595). -/
def State.closeClient (s : State) (n : Nat) : State := (((s.endClient n).dropStagingOf n).bumpGen F.CFG_GEN1.hif 4).relevel

/-- Client `n` faults (R413). -/
def State.clientFault (s : State) (n cause : Nat) : State :=
  let was := bitOf (s.rf F.HIF_FAULT_STATUS.client) n
  let s := (s.setBit F.HIF_FAULT_STATUS.client n).wr (F.HIF_FAULT.cause n) cause
  let s := if was then s else s.fireVector 16
  let s := s.closeClient n
  let s := s.modClient n (fun c => { c with faulted := true })
  let s := s.stim 15 (n + 256 * cause)
  s.eventAll (fun i c => decide (i ≠ n) && !c.faulted) (eventEntry s.lpc 23 n cause 0 0)

/-! ### Doorbells (R375, R376, R379, R381, R382, R400, R412) -/

/-- A doorbell write reaches HIF: the link carries it, and it is a wake source, in the running node as well (R403, R552). -/
def State.doorbell (s : State) : Option State :=
  if !s.barOpen then none
  else
    let t := s.wakeBy 16
    if t.hostOn then some t else none

/-- The SQ tail of client `n` is published. -/
def State.publishTail (s : State) (n : Nat) (v : Word) : State :=
  let c := s.client n
  let k := s.sqSize n
  let t := v.toNat % 4096
  if !c.running then s
  else if k ≤ t ∨ k ≤ s.published n + (t + k - c.sqTail) % k then s.clientFault n 1
  else s.modClient n (fun c => { c with sqTail := t })

/-- The CQ head of client `n` is published. -/
def State.publishHead (s : State) (n : Nat) (v : Word) : State :=
  let c := s.client n
  let k := s.cqSize n
  let t := v.toNat % 4096
  if !c.running then s
  else if k ≤ t ∨ (c.cqTail + k - c.cqHead) % k < (t + k - c.cqHead) % k then s.clientFault n 1
  else s.modClient n (fun c => { c with cqHead := t })

/-- Client `n` acknowledges events: its vector is armed, and fires at once when an entry is pending (R400). -/
def State.acknowledge (s : State) (n : Nat) (v : Word) : State :=
  let c := s.client n
  if !c.running || !v.getLsbD 0 then s
  else
    let s := s.modClient n (fun c => { c with armed := true, written := 0 })
    if c.cqHead = c.cqTail then s else s.fireClient n

/-- Doorbell word `w` of client `n` is written. -/
def State.ringDoorbell (s : State) (n w : Nat) (size : AccSize) (v : Word) : State :=
  if size ≠ .b4 then (if s.barOpen && s.hostOn then s.bump F.HIF_ERR.bad_access else s)
  else match s.doorbell with
  | none => s
  | some s =>
    if s.cfg.restarting then s.modClient n (fun c => { c with latched := c.latched.set w (some v) })
    else if w = 0 then s.publishTail n v
    else if w = 1 then s.publishHead n v
    else s.acknowledge n v

/-- The doorbell words latched in a warm restart take effect (R412). -/
def State.unlatch (s : State) (n : Nat) : State :=
  let l := (s.client n).latched
  let s := s.modClient n (fun c => { c with latched := [none, none, none] })
  let s := match l.getD 0 none with | some v => s.publishTail n v | none => s
  let s := match l.getD 1 none with | some v => s.publishHead n v | none => s
  match l.getD 2 none with | some v => s.acknowledge n v | none => s

/-- SQ_TAIL_DOORBELL. -/
def execSqTailDoorbell (c : Fin 16) (size : AccSize) (v : Word) (s : State) : Host.Outcome State Fault Refusal :=
  .next (s.ringDoorbell c 0 size v)

/-- CQ_HEAD_DOORBELL. -/
def execCqHeadDoorbell (c : Fin 16) (size : AccSize) (v : Word) (s : State) : Host.Outcome State Fault Refusal :=
  .next (s.ringDoorbell c 1 size v)

/-- EVENT_ACKNOWLEDGE. -/
def execEventAcknowledge (c : Fin 16) (size : AccSize) (v : Word) (s : State) : Host.Outcome State Fault Refusal :=
  .next (s.ringDoorbell c 2 size v)

/-! ### Enabling and disabling (R377, R378, R410, R413) -/

/-- The ring of client `n` may be enabled: aligned bases, sizes of 16 to 4,096 entries (R377). -/
def State.ringOk (s : State) (n : Nat) : Bool :=
  let size (k : Nat) : Bool := decide (4 ≤ k) && decide (k ≤ 12)
  decide (s.rf (F.HIF_SQ_BASE_LO.addr n) % 64 = 0) && decide (s.rf (F.HIF_CQ_BASE_LO.addr n) % 64 = 0)
    && size (s.rf (F.HIF_RING_CTL.sq_log2 n)) && size (s.rf (F.HIF_RING_CTL.cq_log2 n))

/-- HIF_Cn_RING_CTL.en has gone from 0 to 1 (R378, Table 9-5 code 4, Table 16-7). A client without a vote votes 0 (R549), which ends an
entry under way (R558). -/
def State.enableRing (s : State) (n : Nat) : State :=
  let s := (s.put (F.HIF_RING_CTL.en n) true).wr (F.HIF_FAULT.cause n) 0
  if !s.ringOk n then s.clientFault n 4
  else
    (s.modClient n (fun c =>
      { c with
        sqHead := 0, sqTail := 0, cqHead := 0, cqTail := 0, phase := true, running := true, enabled := true, faulted := false,
        armed := true, written := 0, fetching := 0, badChain := false, waiting := [], mask := 0, vote := none, perf := none })).checkEntry

/-- HIF_Cn_RING_CTL.en has been written 0 (R410). -/
def State.disableRing (s : State) (n : Nat) : State :=
  let s := s.put (F.HIF_RING_CTL.en n) false
  if (s.client n).running then s.closeClient n else s

/-- RING_ENABLE. -/
def execRingEnable (c : Fin 16) (s : State) : Host.Outcome State Fault Refusal :=
  .next (match s.reach .bar0 (F.HIF_RING_CTL.en c).off with
    | some t => if t.on (F.HIF_RING_CTL.en c) then t else t.enableRing c
    | none => s)

/-- RING_DISABLE. -/
def execRingDisable (c : Fin 16) (s : State) : Host.Outcome State Fault Refusal :=
  .next (match s.reach .bar0 (F.HIF_RING_CTL.en c).off with
    | some t => t.disableRing c
    | none => s)

/-- CLIENT_DRAINED (R410). -/
def execClientDrained (c : Fin 16) (s : State) : Host.Outcome State Fault Refusal :=
  .next (if !(s.client c).running ∧ (s.client c).inFlight = 0 then s.modClient c (fun x => { x with enabled := false }) else s)

/-! ### Fetch (R383 to R386) -/

/-- Client `n` may be fetched for. -/
def State.mayFetch (s : State) (n : Nat) : Bool :=
  let c := s.client n
  c.running && decide (c.fetching = 0) && decide (0 < s.published n) && decide (c.inFlight < s.effQuota n) && decide (s.totalInFlight < 128)

/-- The client whose turn it is (R385). -/
def State.fetchTurn (s : State) : Option Nat :=
  ((List.range 16).map (fun i => (s.hif.turn + i) % 16)).find? s.mayFetch

/-- DESCRIPTOR_FETCH: up to 8 contiguous descriptors are read (R373). A warm restart holds fetching back, a halted CC does not (R412, R617). -/
def execDescriptorFetch (c : Fin 16) (s : State) : Host.Outcome State Fault Refusal :=
  .next (if s.busOpen && s.coreOn && !s.cfg.restarting && decide (s.fetchTurn = some c.val) then
      let s := { s with hif := { s.hif with turn := (c.val + 1) % 16 } }
      s.modClient c (fun x => { x with fetching := min 8 (s.published c) })
    else s)

/-- The member of the stack that serves client `n` of a stack master, when it is another device (R189). -/
def State.boundMember (s : State) (n : Nat) : Option Nat :=
  let m := s.rf F.STK_CLIENT_MAP.member / 4 ^ n % 4
  if s.isB && s.on F.STK_CTL.en && decide (s.rf F.STK_CTL.member_id = 0) && decide (n < 16) && decide (m ≠ 0) then some m else none

/-- The phase a descriptor enters at fetch: a due cycle too far ahead refuses it (R430). -/
def State.phaseAtFetch (s : State) (n : Nat) (d : Desc) : Phase :=
  match s.boundMember n with
  | some m => if bitOf (s.rf F.STK_STATUS.present) m then .forwarded m else .doomed .peerReset
  | none => if d.scheduled ∧ 65536 < cycleDiff d.due s.lpc then .doomed .badDesc else .fetched

/-- `ds` leave the ring of client `n` and are in flight; `doom` refuses the whole chain. -/
def State.takeDescs (s : State) (n : Nat) (ds : List Desc) (doom : Bool) : State :=
  let base := s.hif.fetched
  let k := ds.length
  let new : List InFlight := ds.mapIdx (fun i d =>
    { desc := d, phase := if doom then .doomed .quota else s.phaseAtFetch n d, chainLeft := if doom then 0 else k - 1 - i, order := base + i, stale := false })
  let q := s.sqSize n
  let s := { s with hif := { s.hif with fetched := base + k } }
  s.modClient n (fun c => { c with sqHead := (c.sqHead + k) % q, flight := c.flight ++ new, fetching := 0 })

/-- The descriptors read for client `n` are handed on: one, or one whole chain (R385, R386). -/
def State.fetched (s : State) (n : Nat) (ds : List Desc) : State :=
  let c := s.client n
  match ds.findIdx? (fun d => !d.chain) with
  | some j =>
    let k := j + 1
    let doom := c.badChain || decide (s.effQuota n < k)
    if !doom ∧ (s.effQuota n < c.inFlight + k ∨ 128 < s.totalInFlight + k) then s.modClient n (fun c => { c with fetching := 0 })
    else (s.takeDescs n (ds.take k) doom).modClient n (fun c => { c with badChain := false })
  | none => (s.takeDescs n ds true).modClient n (fun c => { c with badChain := decide (8 ≤ ds.length) && decide (0 < s.published n - ds.length) })

/-- DESCRIPTOR_FETCH_COMPLETION. -/
def execDescriptorFetchCompletion (c : Fin 16) (r : FetchResult) (s : State) : Host.Outcome State Fault Refusal :=
  .next (if (s.client c).fetching = 0 then s
    else match r with
      | .failed => s.clientFault c 2
      | .fetched ds =>
        let ds := (ds.take (s.client c).fetching).map parseDesc
        if ds.isEmpty then s.modClient c (fun x => { x with fetching := 0 }) else (s.fetched c ds).settle c)

/-! ### Completions (R380, R392, R398, R419) -/

/-- Client `n`'s ring has room for an entry (R380). -/
def State.cqRoom (s : State) (n : Nat) : Bool :=
  decide (((s.client n).cqTail + 1) % s.cqSize n ≠ (s.client n).cqHead)

/-- Entry `e` is written to client `n`'s ring. -/
def State.writeEntry (s : State) (n : Nat) (e : Entry) : State :=
  let k := s.cqSize n
  let s := s.modClient n (fun c =>
    { c with
      ring := Cells.set (fun _ => none) c.ring c.cqTail (some (c.phase, e))
      cqTail := (c.cqTail + 1) % k
      phase := if c.cqTail + 1 = k then !c.phase else c.phase
      written := c.written + 1
      waiting := c.waiting.drop 1 })
  let c := s.client n
  if c.armed && (decide (max 1 (s.rf (F.HIF_COAL.count n)) ≤ c.written) || decide (s.rf (F.HIF_COAL.time_us n) = 0) || e.notify) then s.fireClient n
  else s

/-- Entry `e` is placed in the completion slot (R419). -/
def State.placeEntry (s : State) (e : Entry) : State :=
  ({ s with sby := { s.sby with slot := some (s.sby.phase, e), phase := !s.sby.phase } }).modClient clientSB (fun c => { c with waiting := c.waiting.drop 1 })

/-- COMPLETION_WRITE. -/
def execCompletionWrite (c : Client) (s : State) : Host.Outcome State Fault Refusal :=
  .next (match (s.client c).waiting with
    | [] => s
    | e :: _ =>
      if c.val = clientSB then (if s.sby.slot.isNone && !s.cfg.restarting && !s.pins.resetHeld then (s.placeEntry e).settle c else s)
      else if (s.client c).running && s.busOpen && !s.cfg.restarting && s.cqRoom c then (s.writeEntry c e).settle c
      else s)

/-- VECTOR_FIRE (R398): the oldest entry has waited time_us. -/
def execVectorFire (c : Fin 16) (s : State) : Host.Outcome State Fault Refusal :=
  .next (if (s.client c).running ∧ (s.client c).armed ∧ 0 < (s.client c).written then s.fireClient c else s)

/-- HOST_WRITE_REFUSED (R413, code 3). -/
def execHostWriteRefused (c : Fin 16) (s : State) : Host.Outcome State Fault Refusal :=
  .next (if (s.client c).running then s.clientFault c 3 else s)

/-! ### Resets and power of the link (R401 to R411) -/

/-- A per-client HIF register that R407 step 8 clears. -/
def flrClears (o : Nat) : Bool := decide (0x1000 ≤ o) && decide (o < 0x1400) && decide (o % 0x40 ≠ 0x14)

/-- The configuration header at its reset values; PME_En stays, as PCI Express keeps it. -/
def State.headerReset (s : State) : State :=
  { s with hif := { s.hif with bme := false, pmeStatus := false, msix := false, msi := false, d3hot := false, msixTable := [], pba := 0 } }

/-- A Function Level Reset (R407, R408). -/
def State.flr (s : State) : State :=
  let s := (List.range 16).foldl (fun t n => t.endClient n) s
  let s := s.dropStaging
  let s := (List.range 16).foldl (fun t n => t.modClient n (fun c =>
    { ClientSt.reset with effQuota := c.effQuota, flight := c.flight, enabled := c.enabled && !c.flight.isEmpty })) s
  let s := { s with regs := s.regs.filter (fun c => !flrClears c.1) }
  ((s.headerReset.wr F.HIF_LINK_STATUS.dstate 0).bumpGen F.CFG_GEN1.hif 4).relevel

/-- FUNCTION_LEVEL_RESET: the write that starts it is a configuration access, which is a wake source (R403, R552). -/
def execFunctionLevelReset (s : State) : Host.Outcome State Fault Refusal := .next (if s.pins.resetHeld || !s.hif.linkUp then s else (s.wakeBy 16).flr)

/-- The link shows its state (Table 9-13). -/
def State.showLink (s : State) (l : LinkState) (speed : Nat) : State :=
  (({ s with hif := { s.hif with link := l } }).wr F.HIF_LINK_STATUS.lpm (lpmCode l)).wr F.HIF_LINK_STATUS.speed speed

/-- PERST_N_ASSERT (R411, R404). -/
def execPerstNAssert (s : State) : Host.Outcome State Fault Refusal :=
  let s := { s with pins := { s.pins with perst := true } }
  .next (if s.pins.resetHeld then s
    else
      let s := s.flr.showLink .l2 0
      { s with hif := { s.hif with linkUp := false, d3cold := true } })

/-- The link trains; at which of its two rates is left free (R370). -/
def State.trainLink (s : State) : State :=
  let s := { s with hif := { s.hif with linkUp := true, d3cold := false } }
  (s.showLink .l0 (Config.linkSpeed s.free)).takeFree 1

/-- PERST_N_DEASSERT (R405, R565, Table 13-5 bit 4). -/
def execPerstNDeassert (s : State) : Host.Outcome State Fault Refusal :=
  let s := { s with pins := { s.pins with perst := false, wakeN := false } }
  .next (if s.pins.resetHeld then s
    else
      let s := ({ s with hif := { s.hif with d3cold := false } }).put F.SBY_HOST_WAKE.req_wake_n false
      let s := s.wakeBy 16
      if s.booted 7 then s.trainLink else s)

/-- LINK_DOWN (R411). -/
def execLinkDown (s : State) : Host.Outcome State Fault Refusal :=
  .next (if s.pins.resetHeld || !s.hif.linkUp then s
    else
      let s := s.flr.showLink .l2 0
      { s with hif := { s.hif with linkUp := false } })

/-- BUS_MASTER_ENABLE_CHANGE (R401), by a configuration access. -/
def execBusMasterEnableChange (bme : Bool) (s : State) : Host.Outcome State Fault Refusal :=
  .next (if s.hif.linkUp && !s.pins.perst then
      let t := s.wakeBy 16
      { t with hif := { t.hif with bme := bme } }
    else s)

/-- D_STATE_CHANGE (R402), by a configuration access. -/
def execDStateChange (d3hot : Bool) (s : State) : Host.Outcome State Fault Refusal :=
  .next (if s.hif.linkUp && !s.pins.perst then
      let t := s.wakeBy 16
      ({ t with hif := { t.hif with d3hot := d3hot } }).wr F.HIF_LINK_STATUS.dstate (if d3hot then 3 else 0)
    else s)

/-- LINK_POWER_STATE_CHANGE (R403): the link limit on depth follows, which may end an entry under way (R558). A link that had gone down
without PERST_N and comes to L0 has trained again. -/
def execLinkPowerStateChange (l : LinkState) (s : State) : Host.Outcome State Fault Refusal :=
  .next (if s.pins.perst || s.pins.resetHeld then s
    else if s.hif.linkUp then (s.showLink l (s.rf F.HIF_LINK_STATUS.speed)).checkEntry
    else if l = .l0 ∧ s.booted 7 then s.trainLink.checkEntry
    else s)

/-! ### Wake of the host (R405, R406, R422) -/

/-- A wake cause of R406 occurs: `en` says whether HIF_WAKE_CTL enables it. -/
def State.wakeHost (s : State) (en : Bool) : State :=
  if !en || !s.hif.pmeEn then s
  else if s.hif.d3cold then { s with pins := { s.pins with wakeN := true } }
  else if s.hif.d3hot then { s with hif := { s.hif with pmeStatus := true } }
  else s

/-- HOST_WAKE and WAKE_N for an answered call (R303 step 5). -/
def State.answerWakes (s : State) : State := (s.put F.SBY_HOST_WAKE.active true).wakeHost (s.on F.HIF_WAKE_CTL.answer)

/-- req_wake_n is written 1 (R406). -/
def State.reqWakeN (s : State) : State := (s.put F.SBY_HOST_WAKE.req_wake_n true).wakeHost (s.on F.HIF_WAKE_CTL.sb_req)

/-! ### Standby port (R416 to R422) -/

/-- SB_MAILBOX_WRITE (R418): the accepted descriptor is in flight at once and wakes the node. -/
def execSbMailboxWrite (bytes : List Byte) (s : State) : Host.Outcome State Fault Refusal :=
  .next (if s.pins.resetHeld then s
    else if s.mbBusy ∨ bytes.length < 64 then
      ({ s with sby := { s.sby with reject := true } }).bump F.SBY_STATUS.rejects
    else
      let s := { s with sby := { s.sby with reject := false } }
      let s := s.wakeBy 8
      let d := parseDesc bytes
      let x : InFlight :=
        { desc := d, phase := if d.chain then .doomed .quota else s.phaseAtFetch clientSB d, chainLeft := 0, order := s.hif.fetched, stale := false }
      let s := { s with hif := { s.hif with fetched := s.hif.fetched + 1 } }
      (s.modClient clientSB (fun c => { c with flight := c.flight ++ [x] })).settle clientSB)

/-- Byte 3 of an entry: phase and event flag (Table 10-2). -/
def entryFlags (phase : Bool) (e : Entry) : Nat := bit phase + 2 * bit e.event

/-- Place of a status in Table 10-3. -/
def statusIndex : Status → Nat
  | .ok => 0 | .partialDone => 1 | .busy => 2 | .aborted => 3 | .peerReset => 4 | .noLease => 5 | .badDesc => 6 | .quota => 7
  | .tagContended => 8 | .mismatch => 9 | .epochMixed => 10 | .muted => 11 | .lineDown => 12 | .timeout => 13 | .refused => 14 | .unsupported => 15

/-- The 16 bytes of an entry (Table 10-2); the numbers of the statuses are not given. -/
def entryBytes (phase : Bool) (e : Entry) : List Byte :=
  toLe 2 e.id.toNat ++ [if e.event then 0 else Config.statusCode (statusIndex e.status), BitVec.ofNat 8 (entryFlags phase e)]
    ++ toLe 4 e.result.toNat ++ toLe 4 e.cycle.toNat ++ toLe 4 e.info.toNat

/-- What a Completion read finds with no entry in the slot is not given. -/
def emptySlotBytes : List Byte := (List.range 16).map Config.emptySlot

/-- SB_COMPLETION_READ (R419, R14): the slot is free for the next entry only when all 16 bytes were clocked. -/
def execSbCompletionRead (clocked : Nat) (s : State) : Host.Outcome State Fault Refusal :=
  let bytes := match s.sby.slot with | some (ph, e) => entryBytes ph e | none => emptySlotBytes
  .next (if s.pins.resetHeld then s
    else { s with sby := { s.sby with miso := bytes.take clocked, slot := if 16 ≤ clocked then none else s.sby.slot } })

/-- SB_BUFFER_WRITE (R421): bytes up to offset 255. -/
def execSbBufferWrite (off : Byte) (data : List Byte) (s : State) : Host.Outcome State Fault Refusal :=
  .next (if s.pins.resetHeld then s
    else { s with sby := { s.sby with buf := Cells.setList (fun _ => 0) s.sby.buf off.toNat (data.take (256 - off.toNat)) } })

/-- SB_BUFFER_READ (R421): the bytes are defined only while no descriptor is in flight. -/
def execSbBufferRead (off : Byte) (n : Nat) (s : State) : Host.Outcome State Fault Refusal :=
  let k := min n (256 - off.toNat)
  .next (if s.pins.resetHeld then s
    else if s.mbBusy then
      ({ s with sby := { s.sby with miso := (List.range k).map (fun i => Config.sbBufByte (s.free + i)) } }).takeFree k
    else { s with sby := { s.sby with miso := Cells.getList (fun _ => 0) s.sby.buf off.toNat k } })

/-- SBY_HOST_WAKE_ACTIVE (R422). -/
def execSbyHostWakeActive (s : State) : Host.Outcome State Fault Refusal :=
  .next (if s.pins.resetHeld then s else s.put F.SBY_HOST_WAKE.active false)

/-- SBY_HOST_WAKE_TEST (R422). -/
def execSbyHostWakeTest (s : State) : Host.Outcome State Fault Refusal :=
  .next (if s.pins.resetHeld then s else s.put F.SBY_HOST_WAKE.active true)

/-- SBY_REQ_WAKE_N (R406). -/
def execSbyReqWakeN (s : State) : Host.Outcome State Fault Refusal :=
  .next (if s.pins.resetHeld then s else s.reqWakeN)

end Sys2Proof.Machine
end

