-- ==== Sys2Proof/Machine/Streams.lean ====
section
/-! DEFINITION. Host streams: capture, inject and program-reference buffers cycle by cycle, the history and its fetches
(R256, R258, R353 to R361, R443 to R448). -/

namespace Sys2Proof.Machine

/-! ### Streams -/

/-- Stream `i`. -/
def State.stream (s : State) (i : Nat) : Option Stream := s.hif.streams.getD i none

/-- Replace stream `i`. -/
def State.setStream (s : State) (i : Nat) (x : Option Stream) : State :=
  { s with hif := { s.hif with streams := s.hif.streams.set i x } }

/-- Bytes of one sample (Table 10-8). -/
def Stream.sampleBytes (x : Stream) : Nat := if x.wide then 4 else 2

/-- Samples a buffer of `len` bytes holds. -/
def Stream.fits (x : Stream) (len : Nat) : Nat := (len - 16) / x.sampleBytes

/-- Samples capture buffer `b` takes: its frame, or what fits (R445). -/
def Stream.capacity (x : Stream) (b : StreamBufSt) : Nat := min x.frame (x.fits b.len)

/-- The tap carries microphone samples (R448). -/
def Stream.micTap (x : Stream) : Bool := decide (3 ≤ x.tap) && decide (x.tap ≤ 6)

/-- The cycle in which the sample of index `i` became available at the tap: 3 cycles after its own behind the echo path, 5 behind the mix
(Tables 1-8 and 1-9). -/
def Stream.availableIn (x : Stream) (i : Dword) : Word := ((i / 16) + (if x.micTap then 3 else 5)).setWidth 32

/-- The buffer header of Table 10-9. -/
def bufHeader (first : Dword) (cycle : Word) (count : Nat) (gap concealed muted ended : Bool) : List Byte :=
  toLe 8 first.toNat ++ toLe 4 cycle.toNat ++ toLe 2 count ++ toLe 2 (bit gap + 2 * bit concealed + 4 * bit muted + 8 * bit ended)

/-- The first buffer of stream `i` queued by client `c`. -/
def bufferOn (i : Nat) (x : InFlight) : Bool := decide (x.phase = .streamBuf i)

/-- The head buffer of stream `i` leaves its queue; its descriptor completes with nothing moved. -/
def State.endHead (s : State) (i : Nat) (st : Status) (result info : Word) : State :=
  match s.stream i with
  | some x =>
    let s := s.setStream i (some { x with bufs := x.bufs.drop 1 })
    match s.findFlight x.client (bufferOn i) with
    | some j => (s.setPhase x.client j .applying).finish x.client j st result info
    | none => s
  | none => s

/-- The head buffer of capture stream `i` is written to host memory with its samples, then completes (R372, R445). -/
def State.writeHead (s : State) (i : Nat) (st : Status) (result info : Word) (ended : Bool) : State :=
  match s.stream i with
  | some x => match x.bufs with
    | b :: rest =>
      let n := b.got * x.sampleBytes
      let bytes := bufHeader b.first (x.availableIn (b.first + BitVec.ofNat 64 (b.got - 1))) b.got b.gap b.concealed b.muted ended ++ (List.range n).map (fun k => Config.audioByte (s.free + k))
      let s := (s.setStream i (some { x with bufs := rest })).takeFree n
      match s.findFlight x.client (bufferOn i) with
      | some j => s.setPhase x.client j (.writing bytes st result info)
      | none => s
    | [] => s
  | none => s

/-- A full capture buffer completes (R445, R448). -/
def State.completeHead (s : State) (i : Nat) : State :=
  match s.stream i with
  | some x => match x.bufs with
    | b :: _ =>
      if x.micTap ∧ !b.live ∧ 0 < b.got then s.endHead i .muted 0 0
      else s.writeHead i (if b.got = x.frame then .ok else .partialDone) (BitVec.ofNat 32 (16 + b.got * x.sampleBytes)) 0 false
    | [] => s
  | none => s

/-- `n` samples from index `first` become available on capture stream `i`; what no buffer can take is lost (R445). `k` bounds the
buffers filled. -/
def State.feed (s : State) (i : Nat) (first : Dword) (n : Nat) (muted concealed : Bool) : Nat → State
  | 0 => s
  | k + 1 =>
    match s.stream i with
    | none => s
    | some x =>
      if n = 0 then s
      else match x.bufs with
        | [] => s.setStream i (some { x with gap := true })
        | b :: rest =>
          let take := min n (x.capacity b - b.got)
          let b' : StreamBufSt :=
            { b with first := if b.got = 0 then first else b.first, got := b.got + take, gap := if b.got = 0 then x.gap else b.gap,
                     live := b.live || (!muted && decide (0 < take)), muted := b.muted || (muted && decide (0 < take)),
                     concealed := b.concealed || (concealed && decide (0 < take)) }
          let s := s.setStream i (some { x with bufs := b' :: rest, gap := if b.got = 0 then false else x.gap })
          let s := if b'.got = x.capacity b then s.completeHead i else s
          s.feed i (first + BitVec.ofNat 64 take) (n - take) muted concealed k

/-- Every buffer stream `i` still queues completes ST_ABORTED; `k` bounds them. -/
def State.abortBuffers (s : State) (i : Nat) : Nat → State
  | 0 => s
  | k + 1 => match s.stream i with
    | some x => if x.bufs.isEmpty then s else (s.endHead i .aborted 0 0).abortBuffers i k
    | none => s

/-! ### Inject and program-reference streams (R258, R446) -/

/-- An inject buffer whose samples are all consumed or dropped completes (R446). -/
def State.completeInject (s : State) (i : Nat) : State :=
  match s.stream i with
  | some x => match x.bufs with
    | b :: _ =>
      let partly := decide (b.count < x.frame) || decide (0 < b.dropped)
      s.endHead i (if partly then .partialDone else .ok) (BitVec.ofNat 32 b.consumed) (if partly then BitVec.ofNat 32 b.dropped else 0)
    | [] => s
  | none => s

/-- Cycle `x` of inject stream `i` is due: samples of its indices are consumed, late ones and ones at or below an index already consumed
are dropped (R258, R446). `k` bounds the buffers. -/
def State.drain (s : State) (i : Nat) (lo : Nat) : Nat → State
  | 0 => s
  | k + 1 =>
    match s.stream i with
    | none => s
    | some x => match x.bufs with
      | [] => s
      | b :: rest =>
        let next := b.first.toNat + b.consumed + b.dropped
        let left := b.count - (b.consumed + b.dropped)
        let floor := max lo (match x.last with | some l => l.toNat + 1 | none => 0)
        let drop := min left (floor - next)
        let use := min (left - drop) (lo + 16 - (next + drop))
        let b' : StreamBufSt := { b with consumed := b.consumed + use, dropped := b.dropped + drop }
        let last := if 0 < use then some (BitVec.ofNat 64 (next + drop + use - 1)) else x.last
        let s := s.setStream i (some { x with bufs := b' :: rest, last := last })
        if b'.consumed + b'.dropped = b.count then (s.completeInject i).drain i lo k else s

/-! ### History (R353 to R355) -/

/-- Samples per channel that the history keeps (Table 8-5): 0 acts as 1, above 5 as 5. -/
def State.histCap (s : State) : Nat := 8000 * min 5 (max 1 (s.rf F.WAKE_HIST_CTL.depth))

/-- The history records: listening or active mode with real output, not muted (R354). -/
def State.recording (s : State) : Bool :=
  (decide (s.rf F.MIC_STATUS.mode = 1) || decide (s.rf F.MIC_STATUS.mode = 2)) && !s.muted && !(decide (0 < s.mic.settleLeft) && !s.mic.bridging)

/-- The 16 samples from index `first` are written to the history; its range stays one unbroken run (R354, R355). -/
def State.recordHistory (s : State) (first : Dword) : State :=
  if !s.recording || decide (first < s.mic.validFrom) then s
  else
    let hi := first + 15
    let lo := match s.wake.range with
      | some (lo, old) => if old + 1 = first then lo else first
      | none => first
    let lo := if BitVec.ofNat 64 s.histCap ≤ hi - lo then hi + 1 - BitVec.ofNat 64 s.histCap else lo
    { s with wake := { s.wake with range := some (lo, hi) } }

/-! ### Fetches (R359 to R361, R457) -/

/-- The fetch into stream `i`. -/
def State.fetchOf (s : State) (i : Nat) : Option (Nat × Nat × Dword) := s.wake.fetches.find? (fun f => decide (f.1 = i))

/-- Samples the queued buffers of stream `i` can still take. -/
def State.roomOf (s : State) (i : Nat) : Nat :=
  match s.stream i with
  | some x => (x.bufs.map (fun b => x.capacity b - b.got)).foldl (· + ·) 0
  | none => 0

/-- A fetch delivers what the history holds from its next index on, as far as its buffers reach (R359). -/
def State.serveFetch (s : State) (i : Nat) : State :=
  match s.fetchOf i, s.wake.range with
  | some (_, ch, next), some (lo, hi) =>
    if next < lo ∨ hi < next then s
    else
      let n := min ((hi - next).toNat + 1) (s.roomOf i)
      let after := next + BitVec.ofNat 64 n
      let s := { s with wake := { s.wake with fetches := s.wake.fetches.map (fun (f : Nat × Nat × Dword) => if f.1 = i then (i, ch, after) else f) } }
      s.feed i next n false false ((match s.stream i with | some x => x.bufs.length | none => 0) + 1)
  | _, _ => s

/-- A fetch ends: the buffer being filled completes ST_ABORTED with the index it would have delivered next, later buffers ST_ABORTED
(R361, R457). -/
def State.endFetch (s : State) (i : Nat) : State :=
  match s.fetchOf i with
  | none => s
  | some (_, _, next) =>
    let s := { s with wake := { s.wake with fetches := s.wake.fetches.filter (fun f => decide (f.1 ≠ i)) } }
    let s := s.bump F.WAKE_ERR.fetch_overrun
    let s := s.writeHead i .aborted (next.setWidth 32) ((next >>> 32).setWidth 32) true
    match s.stream i with
    | some x => (s.setStream i (some { x with ended := true })).abortBuffers i x.bufs.length
    | none => s

/-- The valid range is emptied, and every fetch ends (R354, R361). -/
def State.historyLost (s : State) : State :=
  (s.wake.fetches.map (fun (f : Nat × Nat × Dword) => f.1)).foldl (fun t i => t.endFetch i) s.emptyHistory

/-- HISTORY_FETCH_OVERRUN (R361): the fetch's next sample has left the buffer. -/
def execHistoryFetchOverrun (stream : Fin 32) (s : State) : Host.Outcome State Fault Refusal :=
  .next (match s.fetchOf stream, s.wake.range with
    | some (_, _, next), some (lo, _) => if next < lo then s.endFetch stream else s
    | some _, none => s.endFetch stream
    | none, _ => s)

/-! ### Every cycle -/

/-- Closing streams end with their cycle: a partly filled capture buffer completes ST_PARTIAL, every other ST_ABORTED (R447). -/
def State.stopStream (s : State) (i : Nat) : State :=
  match s.stream i with
  | some x =>
    if !x.closing || x.ended then s
    else
      let s := { s with wake := { s.wake with fetches := s.wake.fetches.filter (fun f => decide (f.1 ≠ i)) } }
      let s := match x.bufs with
        | b :: _ => if x.kind = 0 ∧ 0 < b.got then s.writeHead i .partialDone (BitVec.ofNat 32 (16 + b.got * x.sampleBytes)) 0 false else s
        | [] => s
      match s.stream i with
      | some y => (s.setStream i (some { y with ended := true })).abortBuffers i y.bufs.length
      | none => s
  | none => s

/-- A STREAM_CLOSE of stream `i` waits. -/
def closesStream (i : Nat) (x : InFlight) : Bool := decide (x.phase = .streamClose i)

/-- A stopped stream with no buffer of its own still to complete is closed, and its STREAM_CLOSE completes (R447). -/
def State.freeStream (s : State) (i : Nat) : State :=
  match s.stream i with
  | some x =>
    if x.closing && x.ended && !(s.client x.client).flight.any (fun y => y.isStream && decide (y.desc.byte 20 = i) && y.phase.begun) then
      (s.setStream i none).finishWhere x.client (closesStream i) .ok 0 0
    else s
  | none => s

/-- The mix of a cycle contains a concealed contribution (R247). -/
def State.mixConcealed (s : State) : Bool := s.mix.terms.any (fun t => t.concealed)

/-- One cycle of stream `i`, entering the cycle whose count is `c`: capture taps of the mix gain the samples of cycle c − 6, those of the
echo path the samples of cycle c − 4, inject streams give those of cycle c − 3 (Tables 1-8 and 1-9, R258, R445). -/
def State.streamCycle (s : State) (i : Nat) (c : Dword) : State :=
  match s.stream i with
  | none => s
  | some x =>
    let k := x.bufs.length + 1
    let s :=
      if x.ended then s
      else if x.kind ≠ 0 then s.drain i (sampleIndex (c - 3)).toNat k
      else if x.tap = 6 then s.serveFetch i
      else
        let at_ := if x.tap ≤ 2 then c - 6 else c - 4
        if cycleDiff (at_.setWidth 32) x.since < 0 then s
        else
          let first := sampleIndex at_
          let muted := x.micTap && (s.muted || decide (first < s.mic.validFrom))
          s.feed i first 16 muted (decide (x.tap ≤ 2) && s.mixConcealed) k
    (s.stopStream i).freeStream i

/-- One cycle of every stream. -/
def State.streamsCycle (s : State) (c : Dword) : State := (List.range 32).foldl (fun t i => t.streamCycle i c) s

end Sys2Proof.Machine
end

