-- ==== Sys2Proof/Machine/Toll.lean ====
section
/-! DEFINITION. The Tollgate units T0 to T3 (R508 to R529): their registers' commands and what a CHECK_JOB computes. -/

namespace Sys2Proof.Machine

/-- Parameters, fold and order of a check, from the registers or from a job (Table 12-2, Table 12-5). -/
structure TollSet where
  params : CheckParams
  foldAfter : Bool
  fold : List Byte
  bigEndian : Bool
  deriving DecidableEq, Repr

/-- The check width: 0 and values above 32 act as 32 (Table 12-5). -/
def tollWidth (n : Nat) : Nat := if n = 0 ∨ 32 < n then 32 else n

/-- The fold bytes in the order in which they are fed (R510); a length above 8 acts as 8. -/
def foldBytes (len : Nat) (descending : Bool) (v : Nat) : List Byte :=
  let b := toLe (min 8 len) v
  if descending then b.reverse else b

/-- The settings that a polynomial, initial value, final XOR, configuration word and fold value spell (Table 12-5). -/
def tollSet (poly init xorout cfg fold : Nat) : TollSet :=
  { params := { width := tollWidth (cfg % 64), poly := poly, init := init, xorout := xorout, refin := bitOf cfg 8, refout := bitOf cfg 9 }
    foldAfter := bitOf cfg 10
    fold := foldBytes (bitsOf cfg 16 4) (bitOf cfg 11) fold
    bigEndian := bitOf cfg 12 }

/-- The bits of TOLLn_CFG that are not reserved (Table 12-5). -/
def tollCfgMask : Nat := 0xF1F3F

/-- The settings unit `n`'s registers hold. -/
def State.tollRegs (s : State) (n : Nat) : TollSet :=
  tollSet (s.rf (F.TOLL_POLY.poly n)) (s.rf (F.TOLL_INIT.init n)) (s.rf (F.TOLL_XOROUT.xorout n)) (s.reg (F.TOLL_CFG.width n).off).toNat
    (s.rf (F.TOLL_FOLD_LO.fold_lo n) + 2 ^ 32 * s.rf (F.TOLL_FOLD_HI.fold_hi n))

/-- Bytes the value takes in a byte stream (Table 12-1). -/
def TollSet.size (t : TollSet) : Nat := (t.params.width + 7) / 8

/-- The number a stored field spells, in the order of out_order (Table 12-1). -/
def TollSet.field (t : TollSet) (bs : List Byte) : Nat := if t.bigEndian then beNat bs else leNat bs

/-- The bytes of a stored value. -/
def TollSet.stored (t : TollSet) (v : Nat) : List Byte := if t.bigEndian then toBe t.size v else toLe t.size v

/-- The value over `data` with its fold before or after (R508, R510). -/
def TollSet.valueOf (t : TollSet) (data : List Byte) : Nat :=
  crcOf t.params (if t.foldAfter then data ++ t.fold else t.fold ++ data)

/-- Code of a path in TOLLn_STATUS.holder (Table 12-5). -/
def holderCode : Path → Nat | .bar0 => 1 | .sb => 2 | .mon => 3

/-- Unit `n` beside its registers. -/
def State.tollUnit (s : State) (n : Nat) : Toll := s.toll.getD n { mode := 0, tail := [] }

/-- Replace unit `n`. -/
def State.setToll (s : State) (n : Nat) (t : Toll) : State := { s with toll := s.toll.set n t }

/-- Unit `n` has no holder and its running state is gone (R512, R525). -/
def State.tollFree (s : State) (n : Nat) : State :=
  (s.wr (F.TOLL_STATUS.holder n) 0).setToll n { mode := 0, tail := [] }

/-- A mismatch is counted and told (R511). -/
def State.tollMismatch (s : State) (n : Nat) (job : Bool) (v : Nat) : State :=
  (s.bump (F.TOLL_ERR.mismatches n)).raise 22 n (bit job) 0 (BitVec.ofNat 32 v)

/-- A start by path `p` (R512, R516, R522). -/
def State.tollStart (s : State) (p : Path) (n mode : Nat) : State :=
  if s.on (F.TOLL_STATUS.job n) then s.put (F.TOLL_STATUS.claim_refused n) true
  else
    let t := s.tollRegs n
    let raw := crcFeed t.params (crcStart t.params) (if t.foldAfter then [] else t.fold)
    let s := (s.wr (F.TOLL_STATUS.holder n) (holderCode p)).setToll n { mode := mode, tail := [] }
    ((s.wr (F.TOLL_COUNT.bytes n) 0).put (F.TOLL_STATUS.done n) false).wr (F.TOLL_RAW.raw n) raw

/-- Data bytes from path `p` (R509, R512, R514, R515). -/
def State.tollData (s : State) (p : Path) (n : Nat) (bs : List Byte) : State :=
  let h := s.rf (F.TOLL_STATUS.holder n)
  if h = 0 then s.bump (F.TOLL_ERR.idle_writes n)
  else if h ≠ (holderCode p) then s.bump (F.TOLL_ERR.foreign_writes n)
  else
    let t := s.tollRegs n
    let u := s.tollUnit n
    let all := u.tail ++ bs
    let keep := if u.mode = 2 then t.size else 0
    let fed := all.take (all.length - keep)
    let s := s.wr (F.TOLL_RAW.raw n) (crcFeed t.params (s.rf (F.TOLL_RAW.raw n)) fed)
    let s := s.wr (F.TOLL_COUNT.bytes n) (s.rf (F.TOLL_COUNT.bytes n) + bs.length)
    s.setToll n { u with tail := all.drop (all.length - keep) }

/-- A finish from path `p` (R511, R512, R514, R515, R518). -/
def State.tollFinish (s : State) (p : Path) (n : Nat) : State :=
  let h := s.rf (F.TOLL_STATUS.holder n)
  if h = 0 then s
  else if h ≠ (holderCode p) then s.bump (F.TOLL_ERR.foreign_writes n)
  else
    let t := s.tollRegs n
    let u := s.tollUnit n
    let raw := crcFeed t.params (s.rf (F.TOLL_RAW.raw n)) (if t.foldAfter then t.fold else [])
    let v := crcValue t.params raw
    let s := ((s.wr (F.TOLL_RAW.raw n) raw).wr (F.TOLL_VALUE.value n) v).put (F.TOLL_STATUS.done n) true
    let s := s.tollFree n
    if u.mode = 2 ∨ u.mode = 3 then
      let want := if u.mode = 3 then s.rf (F.TOLL_EXPECT.expect n) else t.field u.tail
      let ok := decide (want = v) && (decide (u.mode = 3) || decide (t.size ≤ u.tail.length))
      let s := s.put (F.TOLL_STATUS.match n) ok
      if ok then s else s.tollMismatch n false v
    else s

/-- An abort from path `p` (R512, R515). -/
def State.tollAbort (s : State) (p : Path) (n : Nat) : State :=
  let h := s.rf (F.TOLL_STATUS.holder n)
  if h = 0 then s else if h ≠ (holderCode p) then s.bump (F.TOLL_ERR.foreign_writes n) else s.tollFree n

/-- A write of path `p` to unit `n`'s registers acts: R517 turns away every write after the lock, and R634 counts it. -/
def State.tollWrite (s : State) (p : Path) (n : Nat) (f : State → State) : State :=
  match s.reach p (F.TOLL_CMD.mode n).off with
  | none => s
  | some t => if t.lockBinds p then t.countLocked else f t

/-- TOLLn_CMD written whole: its start, finish and abort bits act in the order of their places (Table 12-5). -/
def State.tollCmd (s : State) (p : Path) (n : Nat) (w : Nat) : State :=
  let s := if bitOf w 4 then s.tollStart p n (w % 4) else s
  let s := if bitOf w 5 then s.tollFinish p n else s
  if bitOf w 6 then s.tollAbort p n else s

/-- A TOLL block reset releases every unit and loses its running state (R525, Table 16-7). -/
def State.tollReset (s : State) : State :=
  (List.range 4).foldl (fun t n =>
    let t := t.tollFree n
    let t := t.wr (F.TOLL_VALUE.value n) 0
    let t := (t.wr (F.TOLL_RAW.raw n) 0).wr (F.TOLL_COUNT.bytes n) 0
    (((t.put (F.TOLL_STATUS.job n) false).put (F.TOLL_STATUS.busy n) false).put (F.TOLL_STATUS.done n) false).put (F.TOLL_STATUS.match n) false) s

/-! ### CHECK_JOB (R519 to R523) -/

/-- What a job does with its buffer: the value, the bytes it appends and the field it compares. -/
structure JobOutcome where
  status : Status
  value : Nat
  info : Nat
  append : List Byte
  deriving DecidableEq, Repr

/-- The job over `buf` in mode `mode` with expected value `expect` (R511, R520, R521). -/
def TollSet.job (t : TollSet) (mode expect : Nat) (buf : List Byte) : JobOutcome :=
  let k := t.size
  let body := buf.take (buf.length - k)
  match mode with
  | 0 => ⟨.ok, t.valueOf buf, 0, []⟩
  | 1 => ⟨.ok, t.valueOf body, 0, t.stored (t.valueOf body)⟩
  | 2 =>
    let got := t.field (buf.drop (buf.length - k))
    ⟨if got = t.valueOf body then .ok else .mismatch, t.valueOf body, got, []⟩
  | _ => ⟨if expect = t.valueOf buf then .ok else .mismatch, t.valueOf buf, expect, []⟩

/-! ### The commands -/

/-- TOLL_START. -/
def execTollStart (p : Path) (n : Fin 4) (mode : BitVec 2) (s : State) : Host.Outcome State Fault Refusal :=
  .next (s.tollWrite p n (fun t => t.tollStart p n mode.toNat))

/-- TOLL_FINISH. -/
def execTollFinish (p : Path) (n : Fin 4) (s : State) : Host.Outcome State Fault Refusal :=
  .next (s.tollWrite p n (fun t => t.tollFinish p n))

/-- TOLL_ABORT. -/
def execTollAbort (p : Path) (n : Fin 4) (s : State) : Host.Outcome State Fault Refusal :=
  .next (s.tollWrite p n (fun t => t.tollAbort p n))

/-- TOLL_DATA8. -/
def execTollData8 (p : Path) (n : Fin 4) (v : Byte) (s : State) : Host.Outcome State Fault Refusal :=
  .next (s.tollWrite p n (fun t => t.tollData p n [v]))

/-- TOLL_DATA16: bits [7:0] first (R509). -/
def execTollData16 (p : Path) (n : Fin 4) (v : Half) (s : State) : Host.Outcome State Fault Refusal :=
  .next (s.tollWrite p n (fun t => t.tollData p n (toLe 2 v.toNat)))

/-- TOLL_DATA32: bits [7:0] first (R509). -/
def execTollData32 (p : Path) (n : Fin 4) (v : Word) (s : State) : Host.Outcome State Fault Refusal :=
  .next (s.tollWrite p n (fun t => t.tollData p n (toLe 4 v.toNat)))

end Sys2Proof.Machine
end

