-- ==== Sys2Proof/Machine/Commands.lean ====
section
/-! DEFINITION. What the descriptors of clients do, but for calls, configuration and the monitor: settings, talk, streams, events, ledger
messages, tag, checks, power and diagnostics (R432 to R461). Each effect has its state, client, place in flight and descriptor; the scheduled
ones also say whether they start at symbol 0 of their due cycle (R433, R434). -/

namespace Sys2Proof.Machine

/-! ### NOP and FENCE -/

/-- NOP and FENCE complete at start (Table 10-4). -/
def State.doNop (s : State) (c j : Nat) : State := s.finish c j .ok 0 0

/-- NOP (R432). -/
def execNop (c : Client) (s : State) : Host.Outcome State Fault Refusal := .next (s.command c 0x01 [] (fun s j _ => s.doNop c j))

/-- FENCE (R390). -/
def execFence (c : Client) (s : State) : Host.Outcome State Fault Refusal := .next (s.command c 0x02 [] (fun s j _ => s.doNop c j))

/-! ### Settings (R433, R436 to R438, R260, R262) -/

/-- The listen set. -/
def State.listenSet (s : State) : Dword := s.reg64 F.MIX_LISTEN0.groups.off F.MIX_LISTEN1.groups.off

/-- Write the listen set; a change makes the node send NODE_STATUS (R261). -/
def State.setListen (s : State) (m : Dword) : State :=
  if m = s.listenSet then s else (s.setReg64 F.MIX_LISTEN0.groups.off F.MIX_LISTEN1.groups.off m).statusDue .a

/-- The groups a mask selects, lowest first. -/
def groupsIn (m : Dword) : List Nat := (List.range 64).filter (fun g => m.getLsbD g)

/-- A setting change and the result and info its command reports. -/
def State.applySetting (s : State) (x : SettingChange) : State × Word × Word :=
  match x with
  | .listen op setGain gain mask =>
    let old := s.listenSet
    let s := if setGain then (groupsIn mask).foldl (fun t g => t.wr (F.groupGain g) gain) s else s
    let new := match op with | 0 => mask | 1 => old ||| mask | 2 => old &&& ~~~mask | _ => old
    (s.setListen new, new.setWidth 32, (new >>> 32).setWidth 32)
  | .floors floor mask =>
    let old := match groupsIn mask with | g :: _ => s.rf (F.groupFloor g) | [] => 0
    ((groupsIn mask).foldl (fun t g => t.wr (F.groupFloor g) floor) s, BitVec.ofNat 32 old, 0)
  | .room id =>
    let old := s.rf F.MIX_ROOM.room_id
    ((s.wr F.MIX_ROOM.room_id id.toNat).statusDue .a, BitVec.ofNat 32 old, 0)
  | .push op mask =>
    let old := s.listenSet
    let keep := old &&& s.reg64 F.MIX_LISTEN_LOCK0.groups.off F.MIX_LISTEN_LOCK1.groups.off
    let new := match op with | 0 => old ||| mask | 1 => (old &&& ~~~mask) ||| keep | _ => mask ||| keep
    ((s.setListen new).put F.MIX_STATUS.pushed true, 0, 0)

/-- A setting command starts: at its due cycle's symbol 0 it applies and completes, otherwise at the next symbol 0 (R433). -/
def State.doSetting (s : State) (c j : Nat) (d : Desc) (x : SettingChange) (atDue : Bool) : State :=
  if atDue then
    let (t, result, info) := s.applySetting x
    t.finish c j .ok result info
  else { s.setPhase c j .applying with mix := { s.mix with changes := s.mix.changes ++ [(c, d.id, s.lpc + 1, x)] } }

/-- A setting command that waits for symbol 0. -/
def awaitsSetting (id : Half) (x : InFlight) : Bool := decide (x.phase = .applying) && decide (x.desc.id = id)

/-- Symbol 0: the changes that are due apply, pushes first, and their commands complete (R260, R262, R433). -/
def State.applyChanges (s : State) : State :=
  let due := s.mix.changes.filter (fun x => !later x.2.2.1 s.lpc)
  let push (x : Nat × Half × Word × SettingChange) : Bool := match x.2.2.2 with | .push _ _ => true | _ => false
  let s := { s with mix := { s.mix with changes := s.mix.changes.filter (fun x => later x.2.2.1 s.lpc) } }
  (due.filter push ++ due.filter (fun x => !push x)).foldl (fun t x =>
    let (t, result, info) := t.applySetting x.2.2.2
    if x.1 ≤ 16 then t.finishWhere x.1 (awaitsSetting x.2.1) .ok result info else t) s

/-- LISTEN_SET's change (Table 10-5). -/
def Desc.listenChange (d : Desc) : SettingChange := .listen (d.byte 20) (bitOf (d.byte 21) 0) (d.byte 22) (BitVec.ofNat 64 (d.num 24 8))

/-- LISTEN_SET (R436). -/
def State.doListenSet (s : State) (c j : Nat) (d : Desc) (atDue : Bool) : State := s.doSetting c j d d.listenChange atDue

/-- LISTEN_SET. -/
def execListenSet (c : Client) (s : State) : Host.Outcome State Fault Refusal :=
  .next (s.command c 0x10 [] (fun s j d => s.doListenSet c j d false))

/-- PRECEDENCE_SET (R437): on a session the flag changes with the next slot the node sends. -/
def State.doPrecedenceSet (s : State) (c j : Nat) (d : Desc) (atDue : Bool) : State :=
  if d.byte 20 = 0 then s.doSetting c j d (.floors (d.byte 21) (BitVec.ofNat 64 (d.num 24 8))) atDue
  else
    let n := d.byte 22
    match s.session n with
    | some x =>
      if x.client ≠ c then s.finish c j .mismatch 0 0
      else if (s.slotsFor .a (.session n)).isEmpty then s.finish c j .noLease 0 0
      else (s.setSession n (some { x with raised := decide (d.byte 21 = 1) })).setPhase c j (.raising n x.raised)
    | none => s.finish c j .mismatch 0 0

/-- PRECEDENCE_SET. -/
def execPrecedenceSet (c : Client) (s : State) : Host.Outcome State Fault Refusal :=
  .next (s.command c 0x13 [] (fun s j d => s.doPrecedenceSet c j d false))

/-- ROOM_SET (R438). -/
def State.doRoomSet (s : State) (c j : Nat) (d : Desc) (atDue : Bool) : State :=
  s.doSetting c j d (.room (BitVec.ofNat 16 (d.num 20 2))) atDue

/-- ROOM_SET. -/
def execRoomSet (c : Client) (s : State) : Host.Outcome State Fault Refusal :=
  .next (s.command c 0x14 [] (fun s j d => s.doRoomSet c j d false))

/-- A PRECEDENCE_SET on session `n` waits for a slot. -/
def raisesSession (n : Nat) (x : InFlight) : Bool := match x.phase with | .raising k _ => decide (k = n) | _ => false

/-- The session has sent a slot, or holds none any more: its PRECEDENCE_SET completes (R437). -/
def State.raiseDone (s : State) (n : Nat) (st : Status) : State :=
  match s.session n with
  | some x => match (s.client x.client).flight.find? (raisesSession n) with
    | some y => s.finishWhere x.client (raisesSession n) st (match y.phase with | .raising _ p => BitVec.ofNat 32 (bit p) | _ => 0) 0
    | none => s
  | none => s

/-! ### Talk (R439 to R442) -/

/-- The line cannot carry a command: it is down, or the node holds no address (Table 10-3). -/
def State.lineShut (s : State) : Bool := s.lineDown || (s.addr .a).isNone

/-- A talk source that names an inject stream (Table 10-6). -/
def streamSource (src : Nat) : Bool := decide (src = 2) || decide (src = 4) || decide (src = 5)

/-- TALK_OPEN. -/
def State.doTalkOpen (s : State) (c j : Nat) (d : Desc) : State :=
  let src := d.byte 23
  let owns := match s.stream (d.byte 24) with | some x => decide (x.client = c) && decide (x.kind = 1) && !x.closing | none => false
  if streamSource src ∧ c = clientSB then s.finish c j .unsupported 0 0
  else if streamSource src ∧ !owns then s.finish c j .badDesc 0 0
  else if s.lineShut then s.finish c j .lineDown 0 0
  else match (List.range 8).find? (fun k => (s.session k).isNone) with
    | none => s.finish c j .busy 0 0
    | some n =>
      let x : Session := { client := c, group := d.byte 20, format := d.byte 21, prec := d.byte 22, source := src, feed := d.byte 24, raised := false, lastTx := 0 }
      let standing := bitOf (d.byte 25) 0 || decide (s.lineState .a ≠ 0)
      ((s.setSession n (some x)).setPhase c j (.talkOpen n)).requestLease .a (.session n) standing x.group x.format x.prec 0

/-- TALK_OPEN (R439 to R441). -/
def execTalkOpen (c : Client) (s : State) : Host.Outcome State Fault Refusal :=
  .next (s.command c 0x11 [] (fun s j d => s.doTalkOpen c j d))

/-- The session's result of TALK_CLOSE: the last cycle in which it transmitted. -/
def Session.closeResult (x : Session) : Word := x.lastTx

/-- TALK_CLOSE: the request is removed unsent, cancelled, or the lease released (R442). -/
def State.doTalkClose (s : State) (c j : Nat) (d : Desc) : State :=
  let n := d.byte 20
  match s.session n with
  | none => s.finish c j .mismatch 0 0
  | some x =>
    if x.client ≠ c then s.finish c j .mismatch 0 0
    else
      let slots := s.slotsFor .a (.session n)
      match slots, s.link.reqs.find? (fun q => decide (q.owner = .session n)) with
      | [], none => (s.setSession n none).finish c j .noLease 0 0
      | [], some q =>
        if q.phase = .unsent then (((s.dropTalk .a (.session n)).setSession n none)).finish c j .ok x.closeResult 0
        else if s.lineShut then (((s.dropTalk .a (.session n)).setSession n none)).finish c j .lineDown 0 0
        else
          (s.setPhase c j (.talkClose n)).post .a
            (newMsg s.lpc (s.masterAddr .a) tyLeaseReq (leaseReqPayload 2 0 0 0 0 (if q.standing then 0 else q.reqId)) (.cancel c d.id))
      | ks, _ => (s.setPhase c j (.talkClose n)).queueRelease .a ks (.release c d.id n)

/-- TALK_CLOSE (R442). -/
def execTalkClose (c : Client) (s : State) : Host.Outcome State Fault Refusal :=
  .next (s.command c 0x12 [] (fun s j d => s.doTalkClose c j d))

/-! ### Streams and history (R443 to R447, R457) -/

/-- STREAM_OPEN. -/
def State.doStreamOpen (s : State) (c j : Nat) (d : Desc) : State :=
  let program := s.hif.streams.any (fun x => match x with | some y => decide (y.kind = 2) | none => false)
  if d.byte 20 = 2 ∧ program then s.finish c j .mismatch 0 0
  else match (List.range 32).find? (fun k => (s.stream k).isNone) with
    | none => s.finish c j .busy 0 0
    | some n =>
      let x : Stream :=
        { client := c, kind := d.byte 20, tap := d.byte 21, group := d.byte 22, wide := decide (d.byte 23 = 1), frame := d.num 24 2,
          route := d.byte 26, gain := d.byte 27, bufs := [], gap := false, since := s.lpc + 1, last := none, closing := false, ended := false }
      (s.setStream n (some x)).finish c j .ok (BitVec.ofNat 32 n) 0

/-- STREAM_OPEN (R443). -/
def execStreamOpen (c : Client) (s : State) : Host.Outcome State Fault Refusal :=
  .next (s.command c 0x20 [] (fun s j d => s.doStreamOpen c j d))

/-- STREAM_BUF: the buffer joins its stream's queue (R389, R444, R446). -/
def State.doStreamBuf (s : State) (c j : Nat) (d : Desc) (buf : List Byte) : State :=
  let i := d.byte 20
  match s.stream i with
  | none => s.finish c j .mismatch 0 0
  | some x =>
    if x.client ≠ c then s.finish c j .mismatch 0 0
    else if x.ended then s.finish c j .aborted 0 0
    else
      let count := if x.kind = 0 then 0 else leAt buf 12 2
      if x.kind ≠ 0 ∧ x.fits d.bufLen < count then s.finish c j .badDesc 0 0
      else
        let b : StreamBufSt :=
          { id := d.id, len := d.bufLen, got := 0, first := if x.kind = 0 then 0 else BitVec.ofNat 64 (leAt buf 0 8), count := count, consumed := 0,
            dropped := 0, live := false, muted := false, concealed := false, gap := false }
        let s := (s.setStream i (some { x with bufs := x.bufs ++ [b] })).setPhase c j (.streamBuf i)
        if x.kind = 0 ∧ x.tap = 6 then s.serveFetch i else s

/-- STREAM_BUF (R444). -/
def execStreamBuf (c : Client) (buf : List Byte) (s : State) : Host.Outcome State Fault Refusal :=
  .next (s.command c 0x21 buf (fun s j d => s.doStreamBuf c j d buf))

/-- STREAM_CLOSE: the stream stops at the end of the cycle (R447). -/
def State.doStreamClose (s : State) (c j : Nat) (d : Desc) : State :=
  let i := d.byte 20
  match s.stream i with
  | none => s.finish c j .mismatch 0 0
  | some x =>
    if x.client ≠ c then s.finish c j .mismatch 0 0
    else (s.setStream i (some { x with closing := true })).setPhase c j (.streamClose i)

/-- STREAM_CLOSE (R447). -/
def execStreamClose (c : Client) (s : State) : Host.Outcome State Fault Refusal :=
  .next (s.command c 0x22 [] (fun s j d => s.doStreamClose c j d))

/-- HISTORY_FETCH (R359, R360, R457). -/
def State.doHistoryFetch (s : State) (c j : Nat) (d : Desc) : State :=
  let i := d.byte 20
  match s.stream i with
  | none => s.finish c j .mismatch 0 0
  | some x =>
    if x.client ≠ c ∨ x.kind ≠ 0 ∨ x.tap ≠ 6 then s.finish c j .mismatch 0 0
    else if (s.fetchOf i).isSome then s.finish c j .busy 0 0
    else if s.muted then s.finish c j .muted 0 0
    else
      let asked := BitVec.ofNat 64 (d.num 24 8)
      let first := match s.wake.range with | some (lo, _) => if asked < lo then lo else asked | none => asked
      let s := { s with wake := { s.wake with fetches := s.wake.fetches ++ [(i, d.byte 21, first)] } }
      let s := s.setStream i (some { x with ended := false })
      (s.finish c j .ok (first.setWidth 32) ((first >>> 32).setWidth 32)).serveFetch i

/-- HISTORY_FETCH (R457). -/
def execHistoryFetch (c : Client) (s : State) : Host.Outcome State Fault Refusal :=
  .next (s.command c 0x80 [] (fun s j d => s.doHistoryFetch c j d))

/-! ### Events and ledger messages (R451, R452) -/

/-- The codes a mask may hold: 1 to 22 (Table 10-11, R451). -/
def eventCodes : Dword := 0x7FFFFE

/-- EVENT_SUBSCRIBE. -/
def State.doSubscribe (s : State) (c j : Nat) (d : Desc) : State :=
  let m := BitVec.ofNat 64 (d.num 24 8) &&& eventCodes
  let old := (s.client c).mask
  let new := match d.byte 20 with | 0 => m | 1 => old ||| m | _ => old &&& ~~~m
  (s.modClient c (fun x => { x with mask := new })).finish c j .ok (new.setWidth 32) ((new >>> 32).setWidth 32)

/-- EVENT_SUBSCRIBE (R451). -/
def execEventSubscribe (c : Client) (s : State) : Host.Outcome State Fault Refusal :=
  .next (s.command c 0x32 [] (fun s j d => s.doSubscribe c j d))

/-- LEDGER_SEND: the message is queued (R452). -/
def State.doLedgerSend (s : State) (c j : Nat) (d : Desc) (buf : List Byte) : State :=
  let typ := d.byte 21
  if typ ≠ tyMonitor ∧ typ ≠ tyGroupPush then s.finish c j .refused 0 0
  else if !lengthOk typ (buf.take d.bufLen) ∨ buf.length < d.bufLen then s.finish c j .badDesc 0 0
  else if s.lineShut then s.finish c j .lineDown 0 0
  else (s.setPhase c j (.ledgerSend s.lpc)).post .a (newMsg s.lpc (d.byte 20) typ (buf.take d.bufLen) (.host c d.id))

/-- LEDGER_SEND (R452). -/
def execLedgerSend (c : Client) (buf : List Byte) (s : State) : Host.Outcome State Fault Refusal :=
  .next (s.command c 0x40 buf (fun s j d => s.doLedgerSend c j d (s.bufferOf c d buf)))

/-- A LEDGER_SEND whose message has waited 256 cycles. -/
def State.overdue (s : State) (x : InFlight) : Bool :=
  match x.phase with
  | .ledgerSend since => decide (256 ≤ (s.lpc - since).toNat)
  | _ => false

/-- LEDGER_SEND_WITHDRAW (R452). -/
def execLedgerSendWithdraw (c : Client) (s : State) : Host.Outcome State Fault Refusal :=
  .next (match s.findFlight c s.overdue with
    | some j => match (s.client c).flight[j]? with
      | some x => ((s.modLnk .a (fun l => l.purge (fun m => decide (m.owner = .host c x.desc.id)))).finish c j .timeout 0 0).settle c
      | none => s
    | none => s)

/-! ### Tag (R453, R454) -/

/-- TAG_READ: one wired transaction, retried while the tag is locked (R453, R493). -/
def State.doTagRead (s : State) (c j : Nat) (d : Desc) : State :=
  if !s.pins.cartDet then s.finish c j .refused 0 2
  else (s.setPhase c j (.tag [])).queueTag (.host c d.id)

/-- TAG_READ (R453). -/
def execTagRead (c : Client) (s : State) : Host.Outcome State Fault Refusal :=
  .next (s.command c 0x50 [] (fun s j d => s.doTagRead c j d))

/-- The tag area a host may write: the service pages alone (R453, Table 11-2). -/
def hostMayWrite (a n : Nat) : Bool := decide (0x240 ≤ a) && decide (a + n ≤ 0x640)

/-- TAG_WRITE (R453, R476). -/
def State.doTagWrite (s : State) (c j : Nat) (d : Desc) (buf : List Byte) : State :=
  if !hostMayWrite (d.num 20 2) d.bufLen then s.finish c j .refused 0 1
  else if !s.pins.cartDet then s.finish c j .refused 0 2
  else (s.setPhase c j (.tag (buf.take d.bufLen))).queueTag (.host c d.id)

/-- TAG_WRITE (R476). -/
def execTagWrite (c : Client) (buf : List Byte) (s : State) : Host.Outcome State Fault Refusal :=
  .next (s.command c 0x51 buf (fun s j d => s.doTagWrite c j d (s.bufferOf c d buf)))

/-- TAG_LIFE_POST (R454): a host kind is appended or deferred; without an accepted cartridge it is refused. -/
def State.doLifePost (s : State) (c j : Nat) (d : Desc) : State :=
  let kind := d.byte 20
  if kind < 0x10 ∨ 0x1F < kind ∨ s.tag.identity.isNone then s.finish c j .refused 0 0
  else
    let (stamp, rtc) := s.stampNow
    let e : Deferred := { serial := s.tag.serial, kind := kind, amount := d.num 24 4, stamp := stamp, rtc := rtc }
    let s := s.setPhase c j (.tag [])
    if !s.tagMaster then s.deferOp e (some (c, d.id)) false else s.queueTag (.life e (some (c, d.id)) false)

/-- TAG_LIFE_POST (R454). -/
def execTagLifePost (c : Client) (s : State) : Host.Outcome State Fault Refusal :=
  .next (s.command c 0x52 [] (fun s j d => s.doLifePost c j d))

/-! ### Checks (R455, R519 to R523) -/

/-- The settings of a job (R519). -/
def State.jobSet (s : State) (d : Desc) : TollSet :=
  if bitOf (d.byte 22) 0 then tollSet (d.num 28 4) (d.num 32 4) (d.num 36 4) (d.num 40 4) (d.num 44 8) else s.tollRegs (d.byte 20)

/-- The job's configuration, buffer length or expected value breaks a rule (R519, R520). -/
def State.jobBad (s : State) (d : Desc) : Bool :=
  let t := s.jobSet d
  let m := d.byte 21
  (bitOf (d.byte 22) 0 && decide (Nat.land (d.num 40 4) (0xFFFFFFFF - tollCfgMask) ≠ 0))
    || ((decide (m = 1) || decide (m = 2)) && decide (d.bufLen < t.size))
    || (decide (m = 3) && decide (2 ^ t.params.width ≤ d.num 24 4))

/-- A job on unit `u` runs, or one fetched earlier waits for it (R522). -/
def State.jobWaits (s : State) (u order : Nat) : Bool :=
  s.on (F.TOLL_STATUS.job u) || s.hif.clients.any (fun c => c.flight.any (fun x =>
    decide (x.desc.opcode = 0x60) && decide (x.desc.byte 20 = u) && decide (x.phase = .fetched) && decide (x.order < order)))

/-- A job's value is known: a mismatch is told, and the descriptor completes (R511, R521). -/
def State.jobDone (s : State) (c j u : Nat) (st : Status) (result info : Word) : State :=
  let s := s.put (F.TOLL_STATUS.job u) false
  let s := if st = .mismatch then s.tollMismatch u true result.toNat else s
  s.finish c j st result info

/-- CHECK_JOB: from a host it holds its unit until its buffer has been transferred, from SB it works on the standby buffer at once. -/
def State.doCheckJob (s : State) (c j : Nat) (d : Desc) (buf : List Byte) : State :=
  let u := d.byte 20
  if s.jobBad d then s.finish c j .badDesc 0 0
  else if s.rf (F.TOLL_STATUS.holder u) ≠ 0 then s.finish c j .busy 0 0
  else
    let o := (s.jobSet d).job (d.byte 21) (d.num 24 4) buf
    if c = clientSB then
      let s := { s with sby := { s.sby with buf := Cells.setList (fun _ => 0) s.sby.buf (d.bufLen - o.append.length) o.append } }
      s.jobDone c j u o.status (BitVec.ofNat 32 o.value) (BitVec.ofNat 32 o.info)
    else (s.put (F.TOLL_STATUS.job u) true).setPhase c j (.job u o.append o.status (BitVec.ofNat 32 o.value) (BitVec.ofNat 32 o.info))

/-- CHECK_JOB (R455). -/
def execCheckJob (c : Client) (buf : List Byte) (s : State) : Host.Outcome State Fault Refusal :=
  match s.startable c 0x60 with
  | some (_, x) =>
    if (checkDesc c x.desc).isNone ∧ s.rf (F.TOLL_STATUS.holder (x.desc.byte 20)) = 0 ∧ s.jobWaits (x.desc.byte 20) x.order then .next s
    else .next (s.command c 0x60 buf (fun s j d => s.doCheckJob c j d (s.bufferOf c d buf)))
  | none => .next s

/-! ### Power (R456, R533, R549, R551) -/

/-- The vote of client `c`, 0 for a host client without one and 5 for SB (R549). -/
def State.oldVote (s : State) (c : Nat) : Nat := if c = clientSB then s.pwr.sbVote.getD 5 else (s.client c).vote.getD 0

/-- POWER_VOTE: the vote is recorded, the command completes, and the vote is judged (R551, R558). -/
def State.doPowerVote (s : State) (c j : Nat) (d : Desc) : State :=
  let old := s.oldVote c
  let v := d.byte 20
  let s := if c = clientSB then { s with pwr := { s.pwr with sbVote := some v } } else s.modClient c (fun x => { x with vote := some v })
  (((s.finish c j .ok (BitVec.ofNat 32 old) 0).voted c v).checkEntry)

/-- POWER_VOTE (R456). -/
def execPowerVote (c : Client) (s : State) : Host.Outcome State Fault Refusal :=
  .next (s.command c 0x70 [] (fun s j d => s.doPowerVote c j d))

/-- PERF_REQUEST: it completes at once when no change of level follows (R456, R533). -/
def State.doPerfRequest (s : State) (c j : Nat) (d : Desc) : State :=
  let v := d.byte 20
  let s := (s.modClient c (fun x => { x with perf := if v = 0xFF then none else some v })).relevel
  let s := s.setPhase c j .perf
  if s.pwr.changing then s else s.perfDone c

/-- PERF_REQUEST (R533). -/
def execPerfRequest (c : Client) (s : State) : Host.Outcome State Fault Refusal :=
  .next (s.command c 0x71 [] (fun s j d => s.doPerfRequest c j d))

/-! ### Diagnostics (R461) -/

/-- The register at `o` while its domain is off: the setup fields are kept, every other field is at its reset value (R644). -/
def State.offValue (s : State) (o : Nat) : Word :=
  match rowAt o with
  | some r =>
    let m := r.acc s.isB .rw ||| r.acc s.isB .rwl
    (s.reg o &&& m) ||| (r.resetValue &&& ~~~m)
  | none => 0

/-- The registers of the block at `base`, as they read without clearing; where their domain is off, the values of R644 (R650). -/
def State.blockBytes (s : State) (base : Nat) : List Byte :=
  (List.range 512).flatMap (fun i =>
    toLe 4 (if s.domainOn (domainOf (base + 4 * i)) then s.value (base + 4 * i) else s.offValue (base + 4 * i)).toNat)

/-- DIAG: the buffer back, or a snapshot of a block; a short buffer takes what fits, and its
result gives the amount (Table 10-3, R431). -/
def State.doDiag (s : State) (c j : Nat) (d : Desc) (buf : List Byte) : State :=
  match d.byte 20 with
  | 0 => s.deliver c j (buf.take d.bufLen) .ok 0 0
  | 1 =>
    if d.num 24 2 % 0x800 ≠ 0 then s.finish c j .badDesc 0 0
    else
      let all := s.blockBytes (d.num 24 2)
      let n := min all.length d.bufLen
      if n < all.length then s.deliver c j (all.take n) .partialDone (BitVec.ofNat 32 n) 0 else s.deliver c j all .ok 0 0
  | _ => s.finish c j .unsupported 0 0

/-- DIAG (R461). -/
def execDiag (c : Client) (buf : List Byte) (s : State) : Host.Outcome State Fault Refusal :=
  .next (s.command c 0xF0 buf (fun s j d => s.doDiag c j d (s.bufferOf c d buf)))

/-! ### The end of a buffer transfer (R413, R414) -/

/-- A descriptor with id `id` moves its buffer: it writes its answer, or its data is still being read. -/
def movesBuffer (id : Half) (x : InFlight) : Bool :=
  decide (x.desc.id = id) && (match x.phase with
    | .writing _ _ _ _ | .job _ _ _ _ _ => true
    | .fetched => bufferOps.contains x.desc.opcode
    | _ => false)

/-- Buffers of one stream complete in ring order (R389). -/
def State.streamTurn (s : State) (c j : Nat) (x : InFlight) : Bool :=
  !x.isStream || !((s.client c).flight.take j).any (fun y => y.isStream && decide (y.desc.byte 20 = x.desc.byte 20))

/-- BUFFER_TRANSFER_COMPLETION. -/
def execBufferTransferCompletion (c : Client) (id : Half) (ok : Bool) (moved : Nat) (s : State) : Host.Outcome State Fault Refusal :=
  match s.findFlight c (movesBuffer id) with
  | none => .next s
  | some j => match (s.client c).flight[j]? with
    | none => .next s
    | some x =>
      if !s.streamTurn c j x then .next s
      else if !ok then
        if x.isStream then .next (s.clientFault c 5)
        else .next ((((s.releaseJob x).bump F.HIF_ERR.buf_dma).finish c j .aborted (BitVec.ofNat 32 moved) 0).settle c)
      else match x.phase with
        | .writing _ st r i =>
          let s := s.finish c j st r i
          .next ((if x.isStream then s.freeStream (x.desc.byte 20) else s).settle c)
        | .job u _ st r i => .next ((s.jobDone c j u st r i).settle c)
        | _ => .next s

end Sys2Proof.Machine
end

