-- ==== Sys2Proof/Machine/Mixer.lean ====
section
/-! DEFINITION. The mixer: which slots are mixed and how strongly, ducking, concealment, catch-up playback, the annunciator, the TDM port
and the chime (R233 to R277). -/

namespace Sys2Proof.Machine

/-! ### The slots of a cycle (Listing 6-1, R236 to R239) -/

/-- The port the mixer mixes (R233). -/
def State.mixPort (s : State) : Port := if s.isB && s.on F.MIX_CTL.port_b then .b else .a

/-- Holder and precedence of slot `k` in the lease table of the mixed port. -/
def State.rowPrec (s : State) (k : Nat) : Option (Nat × Nat) :=
  let p := s.mixPort
  if s.mastering p then ((s.mst p).lease k).map (fun l => (l.holder, l.prec))
  else (Cells.get (fun _ => none) (s.lnk p).table k).map (fun (r : LeaseRow) => (r.holder, r.prec))

/-- A slot's precedence (R237). -/
def State.slotPrec (s : State) (k : Nat) (x : RxSlot) : Nat :=
  let lease := match s.rowPrec k with | some (h, q) => if h = x.source then q else 0 | none => 0
  let raised := if x.raised then (if 2 ≤ lease then lease else lease + 1) else lease
  max raised (s.rf (F.groupFloor x.group))

/-- The room of address `a` in the node's roster, 0 when it is not there (R238). -/
def State.roomOfAddr (s : State) (a : Nat) : Nat :=
  let p := s.mixPort
  let rows := if s.mastering p then (s.mst p).roster.map (fun r => r.row) else (s.lnk p).roster
  match rows.find? (fun r => decide (r.addr = a)) with
  | some r => r.room.toNat
  | none => 0

/-- A call the block has admitted covers the slot (R298). -/
def State.callAdmits (s : State) (source group : Nat) : Bool :=
  s.call.admitted.any (fun r => match s.callRec r with
    | some c => decide (c.group = group) && (!c.node || decide (c.caller = source))
    | none => false)

/-- The listen, mix-minus and room tests of Listing 6-1 for a source in a group at a precedence. -/
def State.passes (s : State) (source group prec : Nat) : Bool :=
  (s.listenSet.getLsbD group || s.callAdmits source group)
    && decide (s.addr s.mixPort ≠ some source)
    && !(decide (prec < 3) && decide (s.rf F.MIX_ROOM.room_id ≠ 0) && decide (s.roomOfAddr source = s.rf F.MIX_ROOM.room_id))

/-- Playback of the source's call runs, so that its slots are left out (R253). -/
def State.inPlayback (s : State) (source group : Nat) : Bool :=
  match s.mix.playback with
  | some p => p.running && decide (p.caller = source) && decide (p.group = group)
  | none => false

/-- The 16 PCM samples of a payload as integers, most significant byte first (Table 2-10). -/
def pcmSamples (payload : List Byte) : List Int :=
  (List.range 16).map (fun i => (BitVec.ofNat 16 (beAt payload (2 * i) 2)).toInt)

/-- The RMS of 16 samples is at or above −`level` dBFS, 0 dBFS being a sine with peaks at ±32,767: compared exactly in tenth powers. -/
def rmsAtLeast (samples : List Int) (level : Nat) : Bool :=
  let sq := (samples.map (fun x => x.natAbs * x.natAbs)).foldl (· + ·) 0
  decide ((16 * 32767 * 32767) ^ 10 ≤ (2 * sq) ^ 10 * 10 ^ level)

/-- The slot is active (R240). -/
def State.slotActive (s : State) (x : RxSlot) : Bool :=
  decide (1 ≤ x.format) && decide (x.format ≤ 4) && !x.muted && rmsAtLeast (pcmSamples x.payload) (s.rf F.MIX_DUCK0.act_level)

/-- Ducking depth in half dB for level `top`; none mutes (R241). -/
def State.duckDepth (s : State) (top : Nat) : Option Nat :=
  let d := match top with | 0 => 0 | 1 => s.rf F.MIX_DUCK0.prio_db | 2 => s.rf F.MIX_DUCK0.page_db | _ => s.rf F.MIX_DUCK0.emerg_db
  if d = 63 then none else some (2 * d)

/-- Gain of a group in half dB; none mutes (Table 6-2). -/
def State.gainOf (s : State) (group : Nat) : Option Int :=
  let code := s.rf (F.groupGain group)
  if code = 255 then none else some (24 - (code : Int))

/-- Weight of a source in half dB after its group gain, ducking and the emergency rule (Listing 6-1, R240 to R243). -/
def State.weight (s : State) (group prec top : Nat) : Option Int :=
  let g := s.gainOf group
  let g := if prec < top then
      (match g, s.duckDepth top with | some x, some d => some (x - (d : Int)) | _, _ => none) else g
  if prec = 3 then (match g with | some x => if x < 0 then some 0 else some x | none => some 0) else g

/-- The term slot `k` gives the mix; none when a test leaves it out. Format-4 slots go to the catch-up buffer and format-3 halves to their
pair (R146, R248, R249). -/
def State.termOf (s : State) (k : Nat) (x : RxSlot) (top : Nat) : Option MixTerm :=
  if x.format = 0 ∧ ¬ s.on F.MIX_CTL.comfort_en then none
  else if 3 ≤ x.format then none
  else
    let prec := s.slotPrec k x
    if !s.passes x.source x.group prec || s.inPlayback x.source x.group then none
    else some { slot := k, source := x.source, group := x.group, prec := prec, gain := s.weight x.group prec top, concealed := false }

/-- The slot received as `k` in this cycle. -/
def State.rxSlot (s : State) (k : Nat) : Option RxSlot := Cells.get (fun _ => none) s.mix.rx k

/-- A format-3 half came without its partner: the pair is missing (R146). -/
def State.loneHigh (s : State) (k : Nat) : Bool :=
  match s.rxSlot (k + 1) with
  | some x => decide (k % 2 = 0) && decide (x.format = 3) && (s.rxSlot k).isNone
  | none => false

/-! ### Precedence held (R240) -/

/-- Levels 0 to 3 at which a slot or a playback is active now. -/
def State.activeAt (s : State) (level : Nat) : Bool :=
  (List.range 64).any (fun k => match s.rxSlot k with
    | some x => decide (s.slotPrec k x = level) && s.slotActive x && s.passes x.source x.group (s.slotPrec k x)
    | none => false)
  || (match s.mix.playback with | some p => p.running && decide (p.prec = level) | none => false)

/-- Holds are renewed by activity and run down without it; top_prec rises at once. -/
def State.holdPrec (s : State) : State :=
  let act := (List.range 3).map (fun i => s.activeAt (i + 1))
  let hold := s.mix.hold.mapIdx (fun i n => if act.getD i false then s.rf F.MIX_DUCK1.hold_cycles else n - 1)
  let high := (List.range 3).foldl (fun m i => if act.getD i false then i + 1 else m) 0
  let s := { s with mix := { s.mix with hold := hold } }
  s.wr F.MIX_STATUS.top_prec (max high (s.rf F.MIX_STATUS.top_prec))

/-- The highest level still active or held. -/
def State.heldPrec (s : State) : Nat :=
  (List.range 3).foldl (fun m i => if 0 < s.mix.hold.getD i 0 || s.activeAt (i + 1) then i + 1 else m) 0

/-- TOP_PREC_HOLD_EXPIRY (R240): top_prec falls to the next level still active or held. -/
def execTopPrecHoldExpiry (s : State) : Host.Outcome State Fault Refusal :=
  .next (if s.coreOn then s.wr F.MIX_STATUS.top_prec (min (s.rf F.MIX_STATUS.top_prec) s.heldPrec) else s)

/-! ### Concealment (R247) -/

/-- A term of the last mix whose slot is missing now goes on concealed, for 4 cycles, or for the whole run after comfort noise. -/
def State.concealTerm (s : State) (t : MixTerm) : Option MixTerm :=
  let run := Cells.get (fun _ => 0) s.mix.runs t.slot + 1
  if run ≤ 4 ∨ t.slot ∈ s.mix.comfort then some { t with concealed := true } else none

/-- The slot of a term is missing: leased still, and failed or absent. -/
def State.slotMissing (s : State) (k : Nat) : Bool := (s.rowPrec k).isSome && ((s.rxSlot k).isNone || s.loneHigh k)

/-! ### Emergency minimum (R244, R223) -/

/-- An emergency slot or an emergency catch-up playback is active in the cycle being mixed. -/
def State.emergencyOn (s : State) : Bool := s.on F.MIX_CTL.en && s.activeAt 3

/-- A shed cap holds the annunciator below the emergency floor (R220, R223). -/
def State.emergCapped (s : State) : Bool :=
  let step := s.rf F.PWR_SHED_STATUS.step
  s.emergencyOn && s.on F.MIX_CTL.spk_en && decide (s.intake.loads ≠ 1)
    && (decide (4 ≤ step) || (decide (1 ≤ step) && decide (s.rf F.MIX_EMERG.floor < 6 * step)))

/-- Makeup for an estimate of −`level` dBFS. -/
def State.makeupFor (s : State) (level : Nat) : Nat :=
  if s.emergencyOn then min (s.rf F.MIX_EMERG.max_makeup) (level - s.rf F.MIX_EMERG.floor) else 0

/-! ### The mix of a cycle -/

/-- The mix formed from the slots of the cycle that ends (R236 to R248). -/
def State.formMix (s : State) (limited : Bool) (emergLevel : Nat) : State :=
  let s := s.holdPrec
  let top := s.rf F.MIX_STATUS.top_prec
  let old := s.mix.terms
  let live := if s.on F.MIX_CTL.en then
      (List.range 64).filterMap (fun k => if s.loneHigh (k - 1) && decide (k % 2 = 1) then none
        else match s.rxSlot k with | some x => s.termOf k x top | none => none) else []
  let lost := old.filter (fun t => s.slotMissing t.slot && !live.any (fun u => decide (u.slot = t.slot)))
  let bridged := if s.on F.MIX_CTL.en then lost.filterMap (fun t => s.concealTerm t) else []
  let runs := lost.foldl (fun m t => Cells.set (fun _ => 0) m t.slot (Cells.get (fun _ => 0) s.mix.runs t.slot + 1)) []
  let comfort := (live.filter (fun t => match s.rxSlot t.slot with | some x => decide (x.format = 0) | none => false)).map (fun t => t.slot)
    ++ (bridged.map (fun t => t.slot)).filter (fun k => s.mix.comfort.contains k)
  let silent := lost.filter (fun t => !bridged.any (fun u => decide (u.slot = t.slot)))
  let s :=
    { s with
      mix := { s.mix with
      terms := live ++ bridged
      runs := runs
      comfort := comfort
      idle := if live.isEmpty && bridged.isEmpty then min 65535 (s.mix.idle + 1) else 0
      out := (List.range 32).map (fun i => if (live ++ bridged).isEmpty then 0 else Config.mixSample (s.free + i)) } }
  let s := (s.takeFree 32).bumpBy F.MIX_ERR.concealed bridged.length
  let s := { s with mix := { s.mix with terms := s.mix.terms ++ silent.map (fun (t : MixTerm) => { t with gain := none, concealed := true }) } }
  let s := if limited then s.bump F.MIX_ERR.limit else s
  let m := s.makeupFor emergLevel
  let s := ({ s with mix := { s.mix with makeup := m } }).put F.MIX_STATUS.makeup_on (decide (0 < m))
  s.put F.PWR_SHED_STATUS.emerg_capped s.emergCapped

/-! ### Catch-up playback (R249 to R255, R274) -/

/-- Playback ends, and its caller's live slot returns to the mix (R252, R255, R274). -/
def State.endPlayback (s : State) : State :=
  match s.mix.playback with
  | some p =>
    ({ s with mix := { s.mix with playback := none, buffered := s.mix.buffered.filter (fun b => decide (b.source ≠ p.caller)) } }).put F.MIX_STATUS.cu_active false
  | none => s

/-- A CALL with catch-up present reaches a listener in this cycle (R250, R255). -/
def State.planPlayback (s : State) (caller group prec count : Nat) (histStart liveFirst cuFirst : Word) : State :=
  let m := if later cuFirst s.lpc then cuFirst else s.lpc
  let p : Playback :=
    { caller := caller, group := group, prec := prec, histStart := histStart, liveFirst := liveFirst, cuFirst := cuFirst, count := count,
      startAt := m + 2, running := false, pos := 0 }
  match s.mix.playback with
  | none => { s with mix := { s.mix with playback := some p } }
  | some q => if q.prec < prec then { s.endPlayback with mix := { s.endPlayback.mix with playback := some p } } else s.bump F.MIX_ERR.cu_skipped

/-- CATCH_UP_PLAYBACK_START (R250). -/
def execCatchUpPlaybackStart (s : State) : Host.Outcome State Fault Refusal :=
  .next (match s.mix.playback with
    | some p => if !p.running ∧ !later p.startAt s.lpc ∧ s.coreOn then
        ({ s with mix := { s.mix with playback := some { p with running := true } } }).put F.MIX_STATUS.cu_active true else s
    | none => s)

/-- The history cycle a buffered slot of the playback's caller carries (R134); none when it lies outside the plan. -/
def Playback.named (p : Playback) (b : CuSlot) : Option Word :=
  let e := p.histStart + BitVec.ofNat 32 p.count * (b.cycle - p.cuFirst) + BitVec.ofNat 32 b.pos
  let back := e - 128
  let c := back + BitVec.ofNat 32 ((b.seq + 256 - back.toNat % 256) % 256)
  if cycleDiff c p.histStart < 0 ∨ cycleDiff p.liveFirst c ≤ 0 then none else some c

/-- The cycle in which the slot of history cycle `h` is sent (R133). -/
def Playback.sentIn (p : Playback) (h : Word) : Word := p.cuFirst + BitVec.ofNat 32 ((h - p.histStart).toNat / max 1 p.count)

/-- The cycle that ended, of a running playback: it stalls for a history cycle not yet sent, conceals one that failed, and ends when its
position reaches the live one, 6 cycles before the cycle that begins (R251, R252, R254). -/
def State.playCycle (s : State) (took : Nat) : State :=
  match s.mix.playback with
  | none => s
  | some p =>
    if !p.running then s
    else if !(s.listenSet.getLsbD p.group || s.callAdmits p.caller p.group) then s.endPlayback
    else
      let h := p.histStart + BitVec.ofNat 32 (p.pos / 16)
      let inHistory := decide (0 < cycleDiff p.liveFirst h)
      if inHistory && !later (s.lpc - 1) (p.sentIn h) then s.bump F.MIX_ERR.cu_stall
      else
        let got := s.mix.buffered.any (fun b => decide (b.source = p.caller) && decide (p.named b = some h))
        let s := if inHistory && !got then s.bump F.MIX_ERR.concealed else s
        let pos := p.pos + took
        if 0 ≤ cycleDiff (p.histStart + BitVec.ofNat 32 (pos / 16)) (s.lpc - 6) then s.endPlayback
        else { s with mix := { s.mix with playback := some { p with pos := pos } } }

/-- Catch-up slots of the cycle that ends are buffered; those never named are dropped 16 cycles after the last catch-up lease of their
source ended, which is when its last slot came (R249). `c` is the cycle they were received in. -/
def State.bufferCatchUp (s : State) (c : Word) : State :=
  let cus := (List.range 64).filterMap (fun k => match s.rxSlot k with
    | some x => if x.format = 4 ∧ (s.listenSet.getLsbD x.group ∨ s.callAdmits x.source x.group) then some (k, x) else none
    | none => none)
  let new : List CuSlot := cus.map (fun y =>
    { source := y.2.source, pos := (cus.filter (fun z => decide (z.2.source = y.2.source) && decide (z.1 < y.1))).length, cycle := c, seq := y.2.seq, group := y.2.group })
  let p := s.mixPort
  let leased (a : Nat) : Bool := (List.range 64).any (fun k =>
    if s.mastering p then (match (s.mst p).inForce k with | some l => decide (l.holder = a) && decide (l.format = 4) | none => false)
    else (match Cells.get (fun _ => none) (s.lnk p).table k with | some (r : LeaseRow) => decide (r.holder = a) && decide (r.format = 4) | none => false))
  let named (a : Nat) : Bool := match s.mix.playback with | some p => decide (p.caller = a) | none => false
  let all := s.mix.buffered ++ new
  { s with mix := { s.mix with buffered := all.filter (fun b =>
      leased b.source || named b.source || all.any (fun x => decide (x.source = b.source) && decide ((c - x.cycle).toNat < 16))) } }

/-- The mixer's work at a cycle boundary; `c` is the cycle that ended. -/
def State.mixCycle (s : State) (c : Word) (o : CycleObs) : State :=
  if !s.coreOn then { s with mix := { s.mix with rx := [] } }
  else
    let s := ((s.bufferCatchUp c).playCycle o.playbackTook).formMix o.limited o.emergLevel
    { s with mix := { s.mix with rx := [], tdmHold := s.mix.tdmHold - 1 } }

/-! ### TDM port (R263 to R266) -/

/-- ASRC_LOCK (R264): slave mode only. -/
def execAsrcLock (s : State) : Host.Outcome State Fault Refusal :=
  .next (if s.coreOn && s.on F.MIX_CTL.tdm_en && !s.on F.MIX_TDM_CTL.master then s.put F.MIX_STATUS.asrc_locked true else s)

/-- ASRC_LOCK_LOSS (R264). -/
def execAsrcLockLoss (s : State) : Host.Outcome State Fault Refusal := .next (s.put F.MIX_STATUS.asrc_locked false)

/-! ### Annunciator (R205, R220, R224, R267, R269, R674) -/

/-- The annunciator is enabled: by its control, its power and the admitted class, no shed step, brownout or fault against it. -/
def State.spkDrives (s : State) : Bool :=
  s.on F.MIX_CTL.spk_en && s.coreOn && decide (s.intake.loads ≠ 1) && decide (s.rf F.PWR_SHED_STATUS.step < 4) && !s.intake.brownout
    && !s.pins.pvddLow && !(decide (s.mix.spkRetry = some false))

/-- ANNUNCIATOR_OVERCURRENT (R269). -/
def execAnnunciatorOvercurrent (s : State) : Host.Outcome State Fault Refusal :=
  .next (if s.spkDrives then
      ({ s with mix := { s.mix with spkRetry := some false } }).put F.MIX_STATUS.spk_fault true else s)

/-- ANNUNCIATOR_RETRY (R269): the retry 1 s after the fault, then 1 s of clean running. -/
def execAnnunciatorRetry (s : State) : Host.Outcome State Fault Refusal :=
  .next (match s.mix.spkRetry with
    | some false => { s with mix := { s.mix with spkRetry := some true } }
    | some true => ({ s with mix := { s.mix with spkRetry := none } }).put F.MIX_STATUS.spk_fault false
    | none => s)

/-- PVDD_SPK_LOW (R674). -/
def execPvddSpkLow (s : State) : Host.Outcome State Fault Refusal := .next { s with pins := { s.pins with pvddLow := true } }

/-- PVDD_SPK_RESTORED (R674). -/
def execPvddSpkRestored (s : State) : Host.Outcome State Fault Refusal := .next { s with pins := { s.pins with pvddLow := false } }

/-! ### Chime (R270, R271) -/

/-- Pattern `n` starts; an entry of duration 0 ends it at once (Table 6-11). -/
def State.beginChime (s : State) (n prec : Nat) : State :=
  let e := s.rf (F.MIX_CHIME_PAT.first n)
  let r := s.rf (F.MIX_CHIME_PAT.repeat n)
  if s.rf (F.MIX_CHIME_CAD.cycles e) = 0 then { s with mix := { s.mix with chime := none } }
  else { s with mix := { s.mix with chime := some { pattern := n, entry := e, left := r, forever := decide (r = 0), prec := prec } } }

/-- A pattern is asked for: it starts, or waits for the entry boundary or the end of the one sounding (R271). -/
def State.askChime (s : State) (n prec : Nat) : State :=
  if s.mix.chime.isNone then s.beginChime n prec else { s with mix := { s.mix with chimeWait := s.mix.chimeWait ++ [(n, prec)] } }

/-- The first request that outranks `prec`. -/
def outranking (prec : Nat) (l : List (Nat × Nat)) : Option (Nat × Nat) :=
  l.foldl (fun best x => if decide (prec < x.2) && (match best with | some b => decide (b.2 < x.2) | none => true) then some x else best) none

/-- The pattern sounding stops: the oldest request waiting starts (R271). -/
def State.stopChime (s : State) : State :=
  match s.mix.chimeWait with
  | (n, prec) :: rest => ({ s with mix := { s.mix with chimeWait := rest, chime := none } }).beginChime n prec
  | [] => { s with mix := { s.mix with chime := none } }

/-- CHIME_ENTRY_END (R270, R271). -/
def execChimeEntryEnd (s : State) : Host.Outcome State Fault Refusal :=
  .next (match s.mix.chime with
    | none => s
    | some c =>
      match outranking c.prec s.mix.chimeWait with
      | some x => ({ s with mix := { s.mix with chimeWait := s.mix.chimeWait.erase x } }).beginChime x.1 x.2
      | none =>
        let next := (c.entry + 1) % 16
        if s.on (F.MIX_CHIME_CAD.last c.entry) ∨ s.rf (F.MIX_CHIME_CAD.cycles next) = 0 then
          if c.forever then { s with mix := { s.mix with chime := some { c with entry := s.rf (F.MIX_CHIME_PAT.first c.pattern) } } }
          else if 1 < c.left then
            { s with mix := { s.mix with chime := some { c with entry := s.rf (F.MIX_CHIME_PAT.first c.pattern), left := c.left - 1 } } }
          else s.stopChime
        else { s with mix := { s.mix with chime := some { c with entry := next } } })

end Sys2Proof.Machine
end

