-- ==== Sys2Proof/Machine/Echo.lean ====
section
/-! DEFINITION. The echo canceller's reconvergence, the howl sentinel and the beams' channels (R280 to R296, R316, R321). -/

namespace Sys2Proof.Machine

/-! ### Every cycle -/

/-- Bands that a cycle finds diverging: their run counts on, any other band's run ends (R286). -/
def Ech.countHot (e : Ech) (hot : List (Fin 64)) : Cells Nat :=
  (List.range 64).foldl (fun (m : Cells Nat) b =>
    if hot.any (fun x => decide (x.val = b)) then Cells.set (fun _ => 0) m b (Cells.get (fun _ => 0) e.hot b + 1) else m) []

/-- Bands whose run has reached 10 cycles are cleared and counted; 16 in one cycle start a reconvergence (R286, R290). -/
def State.clearBands (s : State) (hot : List (Fin 64)) : State :=
  let runs := s.ech.countHot hot
  let gone := (List.range 64).filter (fun b => decide (10 ≤ Cells.get (fun _ => 0) runs b))
  let s := { s with ech := { s.ech with hot := runs.filter (fun x => decide (x.2 < 10)), cleared := gone } }
  let s := s.bumpBy F.ECH_ERR.diverged gone.length
  if 16 ≤ gone.length then s.startReconv else s

/-- The age of a running reconvergence, and the run of cycles at or above release_db (R291). -/
def State.reconvCycle (s : State) (erle : Byte) : State :=
  if s.on F.ECH_STATUS.reconv then
    { s with ech := { s.ech with age := s.ech.age + 1, good := if s.rf F.ECH_SUPP_CTL.release_db ≤ erle.toNat then s.ech.good + 1 else 0 } }
  else s

/-- The howl sentinel's counts for one cycle (R294, R295). -/
def State.howlCycle (s : State) (howling : Bool) (level : BitVec 4) : State :=
  let held := decide ((s.ech.notches.filter (fun n => n.isSome)).length = 4)
  { s with
    ech := { s.ech with
      notches := s.ech.notches.mapIdx (fun i n => n.map (fun x => { x with idle := if level.getLsbD i then 0 else x.idle + 1 }))
      howlRun := if held && howling then s.ech.howlRun + 1 else 0
      howlIdle := if decide (0 < s.rf F.ECH_STATUS.howl_cut) && !howling then s.ech.howlIdle + 1 else 0 } }

/-- The echo path's work at a cycle boundary; it runs on AE0 (R280, R285, R286, R291). -/
def State.echCycle (s : State) (o : CycleObs) : State :=
  if !s.coreOn || s.halted 1 then s
  else
    let s := { s with ech := { s.ech with inBeam := BitVec.ofNat 8 s.healthy, mutedCycle := false } }
    let s := (s.wr F.ECH_STATUS.dt o.nearEnd.toNat).wr F.ECH_STATUS.erle o.erle.toNat
    let s := if s.on F.ECH_AEC_CTL.en then s.clearBands o.hotBands else { s with ech := { s.ech with hot := [], cleared := [] } }
    (s.reconvCycle o.erle).howlCycle o.howling o.notchLevel

/-! ### Reconvergence -/

/-- RECONVERGENCE_END (R291): ERLE has held for 50 cycles, or 2,000 cycles have passed. -/
def execReconvergenceEnd (s : State) : Host.Outcome State Fault Refusal :=
  .next (if s.on F.ECH_STATUS.reconv ∧ (50 ≤ s.ech.good ∨ 2000 ≤ s.ech.age) then s.put F.ECH_STATUS.reconv false else s)

/-! ### Howl sentinel -/

/-- The notches held are shown (Table 7-9). -/
def State.showNotches (s : State) : State :=
  (List.range 4).foldl (fun t n => t.wr (F.ECH_HOWL_FREQ.freq_hz n) (match t.ech.notches.getD n none with | some x => x.freq | none => 0))
    (s.wr F.ECH_STATUS.notches (s.ech.notches.filter (fun n => n.isSome)).length)

/-- The lowest free notch. -/
def State.freeNotch (s : State) : Option Nat := (List.range 4).find? (fun n => (s.ech.notches.getD n none).isNone)

/-- HOWL_FOUND (R293 to R295): a notch, or with 4 held a cut of the talk gain. -/
def execHowlFound (freq : BitVec 13) (s : State) : Host.Outcome State Fault Refusal :=
  .next (if !s.on F.ECH_HOWL_CTL.en || !s.coreOn || s.halted 1 then s
    else
      let s := s.bump F.ECH_ERR.howls
      match s.freeNotch with
      | some n =>
        let s := ({ s with ech := { s.ech with notches := s.ech.notches.set n (some { freq := freq.toNat, idle := 0 }) } }).showNotches
        s.raise 20 0 (s.rf F.ECH_STATUS.howl_cut) 0 (freq.setWidth 32)
      | none =>
        let cut := min 3 (s.rf F.ECH_STATUS.howl_cut + 1)
        let s := ({ s with ech := { s.ech with howlRun := 0, howlIdle := 0 } }).wr F.ECH_STATUS.howl_cut cut
        s.raise 20 1 cut 0 (freq.setWidth 32))

/-- NOTCH_RELEASE (R294): 10,000 cycles without the level test met. -/
def execNotchRelease (n : Fin 4) (s : State) : Host.Outcome State Fault Refusal :=
  .next (match s.ech.notches.getD n.val none with
    | some x => if 10000 ≤ x.idle then ({ s with ech := { s.ech with notches := s.ech.notches.set n.val none } }).showNotches else s
    | none => s)

/-- HOWL_GAIN_STEP (R295): 100 more cycles of howl cut deeper, 1,000 without one give a step back. -/
def execHowlGainStep (s : State) : Host.Outcome State Fault Refusal :=
  let cut := s.rf F.ECH_STATUS.howl_cut
  .next (if 100 ≤ s.ech.howlRun ∧ 0 < cut then ({ s with ech := { s.ech with howlRun := 0, howlIdle := 0 } }).wr F.ECH_STATUS.howl_cut (min 3 (cut + 1))
    else if 1000 ≤ s.ech.howlIdle ∧ 0 < cut then ({ s with ech := { s.ech with howlIdle := 0 } }).wr F.ECH_STATUS.howl_cut (cut - 1)
    else s)

/-! ### Reset of AE0 (R316, R290) -/

/-- The filters, notches and howl cut are cleared and reconvergence begins; the talk signal is muted for the cycle. -/
def State.resetEcho (s : State) : State :=
  let s := { s with ech := { Ech.reset with inBeam := s.ech.inBeam, mutedCycle := true } }
  ((s.showNotches).wr F.ECH_STATUS.howl_cut 0).startReconv

end Sys2Proof.Machine
end

