-- ==== Sys2Proof/Machine/Call.lean ====
section
/-! DEFINITION. Calls: records, ringing, answers and ends, local keys, placed calls, tone detectors, the talk-activity map and CALL_LED
(R297 to R320, R356, R357, R449, R450). -/

namespace Sys2Proof.Machine

/-! ### Ringing (R299, R300) -/

/-- The chime pattern of a precedence (Table 7-10). -/
def State.patternFor (s : State) : Nat → Nat
  | 0 => s.rf F.CALL_RING_CTL.pat_routine
  | 1 => s.rf F.CALL_RING_CTL.pat_priority
  | 2 => s.rf F.CALL_RING_CTL.pat_page
  | _ => s.rf F.CALL_RING_CTL.pat_emerg

/-- Record `r` rings or could ring. -/
def State.ringsNow (s : State) (r : Nat) : Bool :=
  match s.callRec r with | some c => decide (c.state = .ringing) && c.rings | none => false

/-- The ring moves to the record that is to ring now; `was` is the one that rang before. A record that rings no more takes its chime with
it. -/
def State.reRing (s : State) (was : Option Nat) : State :=
  let now := s.ringingRec
  if now = was then s
  else
    let still := match was with | some r => s.ringsNow r | none => true
    let s := if still then s else { s with mix := { s.mix with chime := none, chimeWait := [] } }
    match now.bind s.callRec with
    | some c => s.askChime (s.patternFor c.prec) c.prec
    | none => s

/-! ### The life of a record (R297 to R305) -/

/-- A CALL_ACK is queued (Table 3-7); a tone record has no caller to tell. -/
def State.callAckOut (s : State) (p : Port) (id : Half) (caller code : Nat) : State :=
  match s.addr p with
  | some a =>
    if caller = 0xFF then s
    else s.post p (newMsg s.lpc 0xFF tyCallAck (toBe 2 id.toNat ++ [BitVec.ofNat 8 caller, BitVec.ofNat 8 a, BitVec.ofNat 8 code, 0, 0, 0]) .none)
  | none => s

/-- A CALL_SEND waits for record `r`'s CALL. -/
def placesCall (r : Nat) (x : InFlight) : Bool := decide (x.phase = .callSend r)

/-- Record `r` ends: its talk lease is released, a command that placed it and still waits completes, EV_CALL_END is raised and the record
removed (R305, Table 7-3). -/
def State.endCall (s : State) (r reason : Nat) : State :=
  match s.callRec r with
  | none => s
  | some c =>
    let was := s.ringingRec
    let s := if c.state = .answered then s.dropTalk c.port (.call r) else s
    let s := s.modLnk .a (fun l => l.purge (fun m => decide (m.owner = .call r)))
    let s := if c.own then { s with wake := { s.wake with sending := none } } else s
    let s := match c.cmd with
      | some (k, _) => s.finishWhere k (placesCall r) (if reason = 3 then .lineDown else .timeout) 0 0
      | none => s
    let s := s.setCall r (some { c with state := .ended })
    let s := s.raise 3 reason r c.caller (BitVec.ofNat 32 c.callId.toNat)
    (s.setCall r none).reRing was

/-- The Ringing record of lowest precedence, the oldest among equals (R297). -/
def State.lowestRinging (s : State) : Option Nat :=
  (List.range 8).foldl (fun (best : Option Nat) i =>
    match s.callRec i with
    | none => best
    | some c =>
      if c.state ≠ .ringing then best
      else match best.bind s.callRec with
        | some b => if c.prec < b.prec ∨ (b.prec = c.prec ∧ c.stamp < b.stamp) then some i else best
        | none => some i) none

/-- A free record. -/
def State.freeRec (s : State) : Option Nat := (List.range 8).find? (fun r => (s.callRec r).isNone)

/-- A full table drops a Ringing record for a new one (R297). -/
def State.makeRoom (s : State) : State :=
  if s.freeRec.isSome then s
  else match s.lowestRinging with
    | some r => (s.endCall r 6).bump F.CALL_STATUS.dropped
    | none => s

/-- A group call may go to Listening (R302). -/
def State.autoListens (s : State) (prec group : Nat) : Bool :=
  s.on F.CALL_AUTO_CTL.en && decide (s.rf F.CALL_AUTO_CTL.min_prec ≤ prec)
    && (s.listenSet.getLsbD group || bitOf (s.rf (F.CALL_AUTO_GRP.groups (group / 32))) (group % 32))

/-- Some record is Answered. -/
def State.inCall (s : State) : Bool := s.liveCalls.any (fun c => decide (c.state = .answered))

/-- The call an EV_CALL_IN tells of. -/
structure CallIn where
  callId : Half
  caller : Nat
  port : Port
  node : Bool
  prec : Nat
  group : Nat
  target : Nat
  tone : Option Nat
  deriving DecidableEq, Repr

/-- EV_CALL_IN (Table 10-11). -/
def State.tellCallIn (s : State) (x : CallIn) (busy : Bool) (r : Nat) : State :=
  s.raise 1 x.caller (x.prec % 4 + 4 * bit x.node + 8 * bit busy + 16 * bit x.tone.isSome) x.group
    (BitVec.ofNat 32 (x.callId.toNat + 65536 * (r % 256) + 16777216 * (x.target % 256)))

/-- A call comes in: a record is created and rings or goes to Listening; a node call during an Answered record is answered busy, and one
that finds no room is counted alone (R297, R299, R302, R304). -/
def State.callIn (s : State) (x : CallIn) : State :=
  if x.node && s.inCall then (s.tellCallIn x true 0xFF).callAckOut x.port x.callId x.caller 2
  else
    let s := s.makeRoom
    match s.freeRec with
    | none => (s.tellCallIn x false 0xFF).bump F.CALL_STATUS.dropped
    | some r =>
      let was := s.ringingRec
      let c : CallRec :=
        { callId := x.callId, caller := x.caller, port := x.port, node := x.node, prec := x.prec, group := x.group, target := x.target,
          state := if !x.node && s.autoListens x.prec x.group then .listening else .ringing, stamp := s.call.stamp, own := false,
          tone := x.tone, answeredBy := none, eot := false, quiet := 0, unleased := 0,
          rings := s.on F.CALL_RING_CTL.ring_en && decide (s.rf F.CALL_RING_CTL.min_prec ≤ x.prec), phrase := none, callSent := false, cmd := none,
          acked := false }
      let s := { s with call := { s.call with stamp := s.call.stamp + 1 } }
      ((s.setCall r (some c)).tellCallIn x false r).reRing was

/-- Record `r` is answered (R303); its speaker admission follows at the next symbol 0 (R298). -/
def State.answerCall (s : State) (r : Nat) (who : Answerer) : State :=
  match s.callRec r with
  | some c =>
    if c.state = .ringing ∨ c.state = .listening then
      let was := s.ringingRec
      let s := s.callAckOut c.port c.callId c.caller 0
      let s := (s.setCall r (some { c with state := .answered, answeredBy := some who })).reRing was
      (s.requestForCall r).answerWakes
    else s
  | none => s

/-- Record `r`, Ringing, is declined (R304). -/
def State.declineCall (s : State) (r : Nat) : State :=
  match s.callRec r with
  | some c => (if c.node then s.callAckOut c.port c.callId c.caller 1 else s).endCall r 4
  | none => s

/-- RING_TIMEOUT (R299, Table 7-3). -/
def execRingTimeout (r : Fin 8) (s : State) : Host.Outcome State Fault Refusal :=
  .next (match s.callRec r with
    | some c =>
      if c.state = .ringing ∧ c.rings ∧ s.ccUp then
        let s := s.bump F.CALL_STATUS.missed
        let was := s.ringingRec
        if !c.node && s.autoListens c.prec c.group then (s.setCall r (some { c with state := .listening })).reRing was else s.endCall r 5
      else s
    | none => s)

/-- Cycles of silence or lease absence that end a record (Table 7-10). -/
def State.endHold (s : State) : Nat := max 500 (s.rf F.CALL_CTL.end_hold)

/-- CALL_END_HOLD (R305). -/
def execCallEndHold (r : Fin 8) (s : State) : Host.Outcome State Fault Refusal :=
  .next (match s.callRec r with
    | some c =>
      if !s.ccUp then s
      else if c.eot ∧ s.endHold ≤ c.quiet then s.endCall r 0
      else if c.tone.isNone ∧ s.endHold ≤ c.unleased then s.endCall r 1
      else s
    | none => s)

/-- Every record ends (R305 with the line down). -/
def State.endAllCalls (s : State) (reason : Nat) : State := (List.range 8).foldl (fun t r => t.endCall r reason) s

/-! ### Keys (R304, R307, R319) -/

/-- The records a key or a voice may answer. -/
def CallRec.open (c : CallRec) : Bool := decide (c.state = .ringing) || decide (c.state = .listening)

/-- A short press of TALK_KEY acts. -/
def State.talkKey (s : State) : State :=
  match s.bestCall CallRec.open with
  | some r => s.answerCall r .talkKey
  | none => match s.bestCall (fun c => decide (c.state = .answered)) with
    | some r => s.endCall r 2
    | none => s

/-- TALK_KEY_PRESS (R307, R314); in a warm restart the press waits for its end (R319). The key
wakes a sleeping node where PWR_WAKE_EN lets it (Table 13-5). -/
def execTalkKeyPress (s : State) : Host.Outcome State Fault Refusal :=
  let s := s.wakeBy 32
  .next (if s.cfg.restarting then { s with call := { s.call with keyLatched := true } } else if s.ccUp then s.talkKey else s)

/-- A press of the decline key acts. -/
def State.declineKey (s : State) : State :=
  if !s.on F.CALL_KEY_CTL.decline_en then s
  else match s.bestCall (fun c => decide (c.state = .ringing)) with
    | some r => s.declineCall r
    | none => s

/-- DECLINE_KEY (R304, R319). -/
def execDeclineKey (s : State) : Host.Outcome State Fault Refusal :=
  let s := s.wakeBy 64
  .next (if s.cfg.restarting then { s with call := { s.call with declineLatched := true } } else if s.ccUp then s.declineKey else s)

/-- Push-to-talk asks for a lease on the standing profile, unless it has asked already or the line cannot carry it. -/
def State.askPtt (s : State) : State :=
  let p := s.link.standing
  if s.lineShut || s.link.held.any (fun h => decide (h.owner = .ptt)) || s.link.reqs.any (fun q => decide (q.owner = .ptt)) then s
  else s.requestLease .a .ptt true p.group p.format p.prec 0

/-- PUSH_TO_TALK_START (R307). -/
def execPushToTalkStart (s : State) : Host.Outcome State Fault Refusal :=
  let s := State.wakeBy { s with pins := { s.pins with talkKey := true } } 32
  .next (if !s.coreOn || s.pins.resetHeld then s
    else
      let s := { s with call := { s.call with ptt := true } }
      if s.ccUp then s.askPtt else s)

/-- PUSH_TO_TALK_RELEASE (R307). -/
def execPushToTalkRelease (s : State) : Host.Outcome State Fault Refusal :=
  let s := { s with pins := { s.pins with talkKey := false }, call := { s.call with ptt := false } }
  .next (if s.ccUp then s.dropTalk .a .ptt else s)

/-- What a warm restart held back acts at its end: the keys first, in the order of R314 (R319). -/
def State.actLatchedKeys (s : State) : State :=
  let key := s.call.keyLatched
  let decline := s.call.declineLatched
  let s := { s with call := { s.call with keyLatched := false, declineLatched := false } }
  let s := if key then s.talkKey else s
  let s := if decline then s.declineKey else s
  if s.call.ptt then s.askPtt else s.dropTalk .a .ptt

/-! ### Placed calls (R306, R308, R356, R357, R449) -/

/-- A call is placed: an Answered record of the node's own, its lease request and its CALL, which leaves once the request is answered. The
request is a bell when it is for the standing profile as it stands (R97, R98). None when no record is free. -/
def State.placeCall (s : State) (cmd : Option (Nat × Half)) (who : Answerer) (node : Bool) (group target prec catchup : Nat)
    (phrase : Option Dword) : Option State :=
  let s := s.makeRoom
  match s.freeRec with
  | none => none
  | some r =>
    let p := s.link.standing
    let c : CallRec :=
      { callId := s.call.nextId, caller := (s.addr .a).getD 0xFF, port := .a, node := node, prec := prec, group := group, target := target, state := .answered,
        stamp := s.call.stamp, own := true, tone := none, answeredBy := some who, eot := false, quiet := 0, unleased := 0, rings := false,
        phrase := phrase, callSent := false, cmd := cmd, acked := false }
    let s := { s with call := { s.call with stamp := s.call.stamp + 1, nextId := s.call.nextId + 1 } }
    let bell := decide (p.group = group) && decide (p.prec = prec) && decide (p.catchup = catchup)
    let s := (s.setCall r (some c)).requestLease .a (.call r) bell group p.format prec catchup
    some (s.post .a (newMsg s.lpc 0xFF tyCall (toBe 28 0) (.call r)))

/-- The record a placed call has taken. -/
def State.newestRec (s : State) : Nat := ((List.range 8).find? (fun r => match s.callRec r with | some c => decide (c.stamp + 1 = s.call.stamp) | none => false)).getD 0

/-- The first lease answer of record `r` is still out, so that its CALL waits (R449). -/
def State.callWaits (s : State) (r : Nat) : Bool :=
  s.link.reqs.any (fun q => decide (q.owner = .call r) && (match q.phase with | .queued _ => false | _ => true))

/-- The history plan of Listing 8-2: history_start, live_first, cu_first; none leaves catch-up out. -/
def State.historyPlan (s : State) (phrase : Option Dword) (start : Word) (n : Nat) : Option (Dword × Dword × Word) :=
  match phrase, s.wake.range with
  | some p, some (oldest, _) =>
    let liveFirst := s.plt.lpc - (s.lpc - start).setWidth 64 - 4
    let first := (p.toNat - 4800) / 16
    let hs := if first * 16 < oldest.toNat then (oldest.toNat + 15) / 16 else first
    if n = 0 ∨ liveFirst.toNat ≤ hs then none else some (BitVec.ofNat 64 hs, liveFirst, s.lpc)
  | _, _ => none

/-- The format-4 slots held for record `r` are released in the next frame (R357, R133). -/
def State.releaseCatchUp (s : State) (r : Nat) : State :=
  let mine (h : HeldLease) : Bool := decide (h.owner = .call r) && decide (h.format = 4)
  let ks := (s.link.held.filter mine).map (fun h => h.slot)
  if ks.isEmpty then s
  else (s.modLnk .a (fun l => { l with held := l.held.map (fun h => if mine h then { h with owner := .unasked } else h) })).queueRelease .a ks .none

/-- The CALL of record `r` is composed and sent: its 28 bytes, and the state with the command that asked for it complete (Table 3-7, R356,
R357, R449). -/
def State.composeCall (s : State) (r : Nat) : State × List Byte :=
  match s.callRec r with
  | none => (s, toBe 28 0)
  | some c =>
    let mine := s.link.held.filter (fun h => decide (h.owner = .call r))
    let live := mine.filter (fun h => decide (h.format ≠ 4) && decide (h.format ≠ 3))
    let slot := slotOr (live.map (fun h => h.slot))
    let cus := (mine.filter (fun h => decide (h.format = 4))).map (fun h => h.slot)
    let plan := match live with | h :: _ => s.historyPlan c.phrase h.start cus.length | [] => none
    let cu (b : Bool) : List Byte :=
      if b then [BitVec.ofNat 8 cus.length, BitVec.ofNat 8 (slotOr cus), BitVec.ofNat 8 (slotOr (cus.drop 1))] else [0, 0xFF, 0xFF]
    let tail := match plan with
      | some (hs, lf, cf) => toBe 4 (hs.toNat % 2 ^ 32) ++ toBe 4 (lf.toNat % 2 ^ 32) ++ toBe 4 cf.toNat
      | none => toBe 12 0
    let payload := toBe 2 c.callId.toNat ++ [BitVec.ofNat 8 c.caller, BitVec.ofNat 8 (bit c.node + 2 * (c.prec % 4) + 8 * bit plan.isSome),
        BitVec.ofNat 8 c.group, BitVec.ofNat 8 (if c.node then c.target else 0xFF), BitVec.ofNat 8 slot] ++ cu plan.isSome
        ++ toBe 2 (s.rf F.MIX_ROOM.room_id) ++ tail ++ toBe 4 0
    let s := s.setCall r (some { c with callSent := true, cmd := none })
    let s := match plan with
      | some (hs, lf, _) => { s with wake := { s.wake with sending := some (hs.setWidth 32, (lf - 1).setWidth 32, cus.length) } }
      | none => s.releaseCatchUp r
    let s := match c.cmd with
      | some (k, _) => s.finishWhere k (placesCall r) .ok (BitVec.ofNat 32 (c.callId.toNat + 65536 * r + 16777216 * slot)) 0
      | none => s
    (s, payload)

/-- A wake event lies within the last 2,500 cycles (R449). -/
def State.recentPhrase (s : State) : Option Dword :=
  match s.wake.lastAt with
  | some at_ => if (s.plt.lpc - at_).toNat ≤ 2500 then some s.wake.lastStart else none
  | none => none

/-- CALL_SEND. -/
def State.doCallSend (s : State) (c j : Nat) (d : Desc) : State :=
  let history := bitOf (d.byte 24) 0
  if s.inCall then s.finish c j .busy 0 0
  else if history && s.muted then s.finish c j .muted 0 0
  else if s.lineShut then s.finish c j .lineDown 0 0
  else
    match s.placeCall (some (c, d.id)) .host (decide (d.byte 20 = 1)) (d.byte 21) (d.byte 22) (d.byte 23)
        (if history then s.link.standing.catchup else 0) (if history then s.recentPhrase else none) with
    | some t => t.setPhase c j (.callSend t.newestRec)
    | none => s.finish c j .busy 0 0

/-- CALL_SEND (R449). -/
def execCallSend (c : Client) (s : State) : Host.Outcome State Fault Refusal :=
  .next (s.command c 0x30 [] (fun s j d => s.doCallSend c j d))

/-- Who answered, as CALL_ANSWER reports it of a record answered before (R450). -/
def answeredCode : Option Answerer → Nat
  | some .talkKey => 1
  | some .voice => 2
  | some .host => 3
  | none => 0

/-- CALL_ANSWER (R303 to R305, R314). -/
def State.doCallAnswer (s : State) (c j : Nat) (d : Desc) : State :=
  let is (r : Nat) : Bool := match s.callRec r with
    | some x => decide (x.callId.toNat = d.num 22 2) && decide (x.caller = d.byte 24)
    | none => false
  match (List.range 8).find? is with
  | none => s.finish c j .mismatch 0 0
  | some r => match s.callRec r with
    | none => s.finish c j .mismatch 0 0
    | some x =>
      let who := BitVec.ofNat 32 (if x.state = .answered then answeredCode x.answeredBy else 0)
      match d.byte 20 with
      | 0 => (s.finish c j .ok who 0).answerCall r .host
      | 1 => if x.state = .ringing then (s.finish c j .ok 0 0).declineCall r else s.finish c j .refused 0 0
      | _ => (s.finish c j .ok who 0).endCall r 2

/-- CALL_ANSWER (R450). -/
def execCallAnswer (c : Client) (s : State) : Host.Outcome State Fault Refusal :=
  .next (s.command c 0x31 [] (fun s j d => s.doCallAnswer c j d))

/-! ### Voice (R306) -/

/-- A wake event with its phrase start reaches the call block. -/
def State.voice (s : State) (start : Dword) : State :=
  match s.bestCall CallRec.open with
  | some r => if s.on F.CALL_CTL.voice_answer then s.answerCall r .voice else s
  | none =>
    if s.on F.CALL_CTL.voice_call && !s.inCall && !s.lineShut then
      let p := s.link.standing
      (s.placeCall none .voice false p.group 0xFF (s.rf F.CALL_CTL.place_prec) p.catchup (some start)).getD s
    else s

/-! ### Tone detectors (R310 to R312, Table 7-6) -/

/-- Detector `n`. -/
def State.toneSt (s : State) (n : Nat) : Tone := s.call.tones.getD n ⟨0, 0, false⟩

/-- Replace detector `n`. -/
def State.setTone (s : State) (n : Nat) (t : Tone) : State := { s with call := { s.call with tones := s.call.tones.set n t } }

/-- Detector `n` has an input and a frequency it can measure. -/
def State.toneActive (s : State) (n : Nat) : Bool :=
  let f := s.rf (F.CALL_TONE_CTL0.freq_hz n)
  let i := s.rf (F.CALL_TONE_CTL0.input n)
  decide (1 ≤ i) && decide (i ≤ 5) && decide (100 ≤ f) && decide (f ≤ 7000)

/-- Detector `n`'s partner lets it start (R311). -/
def State.tonePartner (s : State) (n : Nat) : Bool :=
  let p := s.rf (F.CALL_TONE_CTL1.partner n)
  !s.on (F.CALL_TONE_CTL1.pair_en n) || (decide (p ≠ n) && decide (s.rf (F.CALL_TONE_CTL0.input p) = s.rf (F.CALL_TONE_CTL0.input n)) && (s.toneSt p).started)

/-- The counts of one cycle. -/
def State.toneCycle (s : State) (on : BitVec 16) : State :=
  (List.range 16).foldl (fun t n =>
    let x := t.toneSt n
    if !t.toneActive n then t.setTone n { x with onRun := 0, offRun := 0 }
    else t.setTone n { x with onRun := if on.getLsbD n then x.onRun + 1 else 0, offRun := if on.getLsbD n then 0 else x.offRun + 1 }) s

/-- EV_TONE for an edge of detector `n`. -/
def State.toneEvent (s : State) (n edge : Nat) : State := if s.on (F.CALL_TONE_CTL0.act_ev n) then s.raise 19 n edge 0 0 else s

/-- TONE_DETECTOR_START. -/
def execToneDetectorStart (n : Fin 16) (s : State) : Host.Outcome State Fault Refusal :=
  let x := s.toneSt n
  .next (if !x.started && s.ccUp && s.toneActive n && s.tonePartner n && decide (max 1 (s.rf (F.CALL_TONE_CTL1.on_cycles n)) ≤ x.onRun) then
      let s := (s.setTone n { x with started := true }).toneEvent n 1
      if s.on (F.CALL_TONE_CTL0.act_call n) ∧ s.rf (F.CALL_TONE_CTL0.input n) = 1 then
        s.callIn { callId := 0, caller := 0xFF, port := .a, node := false, prec := s.rf (F.CALL_TONE_CTL1.prec n), group := s.rf (F.CALL_TONE_CTL1.group n),
                   target := 0xFF, tone := some n.val }
      else s
    else s)

/-- A started detector ends: its own gap, or its partner's end (R310, R311). -/
def State.toneEnds (s : State) (n : Nat) : Bool :=
  let x := s.toneSt n
  x.started && (!s.toneActive n || decide (s.rf (F.CALL_TONE_CTL1.gap_cycles n) < x.offRun)
    || (s.on (F.CALL_TONE_CTL1.pair_en n) && !(s.toneSt (s.rf (F.CALL_TONE_CTL1.partner n))).started))

/-- The records detector `n` raised wait for their end from now on. -/
def State.toneOver (s : State) (n : Nat) : State :=
  { s with call := { s.call with recs := s.call.recs.map (fun (c : Option CallRec) => c.map (fun x => if x.tone = some n then { x with eot := true, quiet := 0 } else x)) } }

/-- TONE_DETECTOR_END. -/
def execToneDetectorEnd (n : Fin 16) (s : State) : Host.Outcome State Fault Refusal :=
  .next (if s.ccUp && s.toneEnds n then ((s.setTone n { onRun := 0, offRun := 0, started := false }).toneEvent n 0).toneOver n else s)

/-! ### Every cycle -/

/-- Slots of a record's talker in its group in the cycle that ended: received ones of the caller, or the node's own. -/
def State.slotsOfCall (s : State) (c : CallRec) : List RxSlot :=
  if c.own then s.phy.tx.filterMap (fun b => match b with
    | .slot .a _ h p _ => if (parseSlot .a h p).group = c.group then some (parseSlot .a h p) else none
    | _ => none)
  else (List.range 64).filterMap (fun k => match s.rxSlot k with
    | some x => if x.source = c.caller ∧ x.group = c.group then some x else none
    | none => none)

/-- A lease of the record's talker in its group exists. -/
def State.callerLeased (s : State) (c : CallRec) : Bool :=
  if c.own then s.link.held.any (fun h => decide (h.group = c.group))
  else (List.range 64).any (fun k =>
    if s.mastering c.port then (match (s.mst c.port).lease k with | some (l : MLease) => decide (l.holder = c.caller) && decide (l.group = c.group) | none => false)
    else match Cells.get (fun _ => none) (s.lnk c.port).table k with | some (l : LeaseRow) => decide (l.holder = c.caller) && decide (l.group = c.group) | none => false)

/-- One cycle of a record's end conditions (R305). A tone record has no caller; its count runs from its detector's end. -/
def State.trackCall (s : State) (c : CallRec) : CallRec :=
  if c.tone.isSome then { c with quiet := if c.eot then c.quiet + 1 else 0 }
  else
    let xs := s.slotsOfCall c
    let sound := xs.any (fun x => decide (1 ≤ x.format) && decide (x.format ≤ 4))
    let eot := xs.any (fun x => x.endOfTalk)
    { c with
      eot := eot || (c.eot && !sound)
      quiet := if sound || !c.eot then 0 else c.quiet + 1
      unleased := if s.callerLeased c then 0 else c.unleased + 1 }

/-- Active slots of the received cycle (R240, R313). -/
def State.activeSlots (s : State) : List (Nat × RxSlot) :=
  (List.range 64).filterMap (fun k => match s.rxSlot k with | some x => if s.slotActive x then some (k, x) else none | none => none)

/-- Bits 32 w to 32 w + 31 of a set of numbers below 64. -/
def wordOf (ns : List Nat) (w : Nat) : Nat := (ns.filter (fun n => decide (n / 32 = w))).foldl (fun m n => Nat.lor m (2 ^ (n % 32))) 0

/-- The talk-activity map latches (R313). -/
def State.latchActivity (s : State) : State :=
  let xs := s.activeSlots
  [0, 1].foldl (fun t w =>
    let g := wordOf (xs.map (fun x => x.2.group)) w
    ((t.wr (F.CALL_ACT_GRP.groups w) g).wr (F.CALL_ACT_SLOT.slots w) (wordOf (xs.map (fun x => x.1)) w)).wr
      (F.CALL_ACT_SEEN.groups w) (Nat.lor (t.rf (F.CALL_ACT_SEEN.groups w)) g)) s

/-- Rank of the CALL_LED pattern that applies (Table 7-5). -/
def State.ledRank (s : State) : Nat :=
  let some' (st : CallState) : Bool := s.liveCalls.any (fun c => decide (c.state = st))
  if s.pwr.state = 5 then 7
  else match s.ringingRec.bind s.callRec with
    | some c => if 2 ≤ c.prec then 1 else 2
    | none =>
      if some' .answered then 3 else if some' .listening then 4 else if s.on F.TAG_STATUS.expired then 5
      else if s.on F.CALL_STATUS.missed then 6 else 7

/-- CALL_LED shows the pattern that applies, restarted when it changes (R309). -/
def State.showLed (s : State) : State :=
  if s.ledRank = s.pins.callLed then s else { s with pins := { s.pins with callLed := s.ledRank, callLedSince := s.lpc } }

/-- The call block's work at a cycle boundary, over the slots of the cycle that ended. -/
def State.callCycle (s : State) (toneOn : BitVec 16) : State :=
  if !s.coreOn then s.showLed
  else
    let s := { s with call := { s.call with recs := s.call.recs.map (fun (c : Option CallRec) => c.map s.trackCall) } }
    let open_ (r : Nat) : Bool := match s.callRec r with | some c => decide (c.state = .listening) || decide (c.state = .answered) | none => false
    let s := { s with call := { s.call with admitted := (List.range 8).filter open_ } }
    ((s.latchActivity).toneCycle toneOn).showLed

end Sys2Proof.Machine
end

