-- ==== Sys2Proof/Machine/Mic.lean ====
section
/-! DEFINITION. Microphones, the privacy mute, the stuck-stream detector with its wire probe, and the wake engine (R322 to R369). -/

namespace Sys2Proof.Machine

/-! ### Modes (R325 to R329) -/

/-- A host capture tap on a beam or on the talk signal is open (R326). -/
def State.tapsMic (s : State) : Bool :=
  s.hif.streams.any (fun x => match x with | some y => decide (y.kind = 0) && decide (3 ≤ y.tap) && decide (y.tap ≤ 5) | none => false)

/-- A talk session whose source includes a beam holds or has requested a lease (R326). -/
def State.beamTalk (s : State) : Bool :=
  (List.range 8).any (fun n => match s.session n with
    | some x => beamSource x.source && (!(s.slotsFor .a (.session n)).isEmpty || s.link.reqs.any (fun q => decide (q.owner = .session n)))
    | none => false)

/-- A wake event occurred within the last idle_cycles (R326). -/
def State.wokeLately (s : State) : Bool :=
  s.wake.thisCycle.isSome || (match s.wake.lastAt with
    | some c => decide ((s.plt.lpc - c).toNat ≤ s.rf F.MIC_MODE_CTL.idle_cycles)
    | none => false)

/-- The active mode is needed (R326). -/
def State.needsActive (s : State) : Bool :=
  s.beamTalk || s.tapsMic || s.inCall || s.call.ptt || s.wokeLately || decide (s.rf F.MIC_MODE_CTL.force = 1)

/-- Wake is armed (R326, R348). -/
def State.wakeArmed (s : State) : Bool := s.on F.WAKE_CTL.en && s.on F.WAKE_MODEL.loaded

/-- The mode the conditions ask for: 0 off, 1 listening, 2 active (Table 8-1, R327). -/
def State.micWanted (s : State) : Nat :=
  match s.rf F.MIC_MODE_CTL.force with
  | 2 => 1
  | 3 => 0
  | _ =>
    let stays := decide (s.rf F.MIC_STATUS.mode = 2) && decide (s.mic.needAbsent < s.rf F.MIC_MODE_CTL.idle_cycles)
    if s.needsActive || stays then 2 else if s.wakeArmed then 1 else 0

/-- Probes in progress are abandoned, and the detector starts afresh (R364). -/
def State.dropProbes (s : State) : State := { s with mic := { s.mic with probes := [], windowBad := true } }

/-- Power and clock start: start_cycles cycles of 0, then the ramp (R328). -/
def State.startMics (s : State) : State :=
  let n := max 1 (s.rf F.MIC_MODE_CTL.start_cycles)
  ({ s with mic := { s.mic with settleLeft := n, bridging := false, validFrom := sampleIndex (s.plt.lpc + BitVec.ofNat 64 n) } }).put F.MIC_STATUS.settling true

/-- The clock changes rate and a bridge runs, unless a start is still under way (R329). -/
def State.bridgeMics (s : State) : State :=
  if s.on F.MIC_STATUS.settling && !s.mic.bridging then s
  else ({ s with mic := { s.mic with settleLeft := max 1 (s.rf F.MIC_MODE_CTL.settle_cycles), bridging := true } }).put F.MIC_STATUS.settling true

/-- The microphones stop: nothing settles, and the history is emptied (R354). -/
def State.stopMics (s : State) : State :=
  (({ s with mic := { s.mic with settleLeft := 0, bridging := false } }).put F.MIC_STATUS.settling false).historyLost

/-- MIC_MODE_CHANGE (R327 to R329, R354, R364): a mute is not lifted by it. -/
def execMicModeChange (s : State) : Host.Outcome State Fault Refusal :=
  let was := s.rf F.MIC_STATUS.mode
  let want := s.micWanted
  .next (if !s.coreOn || decide (was = 3) || decide (was = want) then s
    else
      let s := s.dropProbes.wr F.MIC_STATUS.mode want
      if want = 0 then s.stopMics else if was = 0 then s.startMics else s.bridgeMics)

/-- MIC_START_END (R328). -/
def execMicStartEnd (s : State) : Host.Outcome State Fault Refusal :=
  .next (if s.on F.MIC_STATUS.settling ∧ !s.mic.bridging ∧ s.mic.settleLeft = 0 then s.put F.MIC_STATUS.settling false else s)

/-- MIC_BRIDGE_END (R329). -/
def execMicBridgeEnd (s : State) : Host.Outcome State Fault Refusal :=
  .next (if s.on F.MIC_STATUS.settling ∧ s.mic.bridging ∧ s.mic.settleLeft = 0 then
      ({ s with mic := { s.mic with bridging := false } }).put F.MIC_STATUS.settling false else s)

/-- The samples the talk slots of this cycle carry lie before the end of the ramp that follows a mute (R328, R340). -/
def State.talkUnramped (s : State) : Bool :=
  !(decide (s.rf F.MIC_STATUS.mode = 1) || decide (s.rf F.MIC_STATUS.mode = 2)) || decide (sampleIndex (s.plt.lpc - 4) < s.mic.validFrom + 32)

/-- source_muted is set in a talk slot with a beam in it (R259, R340). -/
def State.talkMuted (s : State) : Bool := s.muted || (s.mic.unmuting && s.talkUnramped)

/-- The microphones' counts over the cycle that ends (R327, R329, R342, R344). -/
def State.micCycle (s : State) : State :=
  if !s.coreOn then { s with pins := { s.pins with muteLed := s.muted } }
  else
    let s := if s.mic.bridging ∧ 0 < s.mic.settleLeft then s.bump F.MIC_ERR.bridged else s
    { s with
      pins := { s.pins with muteLed := s.muted }
      mic := { s.mic with
        needAbsent := if s.needsActive then 0 else s.mic.needAbsent + 1
        unmuting := s.mic.unmuting && s.talkUnramped
        windowBad := s.mic.windowBad || s.muted || decide (0 < s.mic.settleLeft)
        settleLeft := s.mic.settleLeft - 1
        probes := s.mic.probes.map (fun (x : Nat × Nat × Nat) => (x.1, x.2.1 - 1, x.2.2)) } }

/-! ### Privacy mute (R336 to R341, R561, R363) -/

/-- EV_MUTE_CHANGED: at once with CORE on, otherwise at the exit to S0, with cycle 0 in S4 and S5 (R341, R561). -/
def State.tellMute (s : State) (on : Bool) : State :=
  if s.coreOn then s.raise 8 (bit on) 0 0 (BitVec.ofNat 32 (s.rf F.MIC_MUTE_STATUS.mute_count))
  else { s with mic := { s.mic with muteEvents := s.mic.muteEvents ++ [(on, if 4 ≤ s.pwr.state then 0 else s.lpc)] } }

/-- A wake event of this cycle is discarded (R362). -/
def State.discardWake (s : State) : State :=
  if s.wake.thisCycle.isSome then ({ s with wake := { s.wake with thisCycle := none } }).bump F.WAKE_ERR.mute_discard else s

/-- MUTE_ON. -/
def execMuteOn (s : State) : Host.Outcome State Fault Refusal :=
  let s := { s with pins := { s.pins with muteLed := true } }
  let s := s.put F.MIC_MUTE_STATUS.sw_level true
  .next (if s.muted || s.pins.resetHeld then s
    else
      let s := (s.put F.MIC_MUTE_STATUS.muted true).bump F.MIC_MUTE_STATUS.mute_count
      let s := (s.stim 10 1).discardWake
      let s := (s.dropProbes.wr F.MIC_STATUS.mode 3).stopMics
      let s := { s with wake := { s.wake with sending := none } }
      let s := (List.range 8).foldl (fun t r => t.releaseCatchUp r) s
      (s.tellMute true).wakeBy 128)

/-- MUTE_OFF (R340): the mode returns from off, and the LED falls at the next symbol 0; with the clocks of S4 and S5 stopped, at once. -/
def execMuteOff (s : State) : Host.Outcome State Fault Refusal :=
  .next (if !s.muted || s.pins.resetHeld then s
    else
      let s := (s.put F.MIC_MUTE_STATUS.sw_level false).put F.MIC_MUTE_STATUS.muted false
      let s : State := { (s.stim 10 0).wr F.MIC_STATUS.mode 0 with mic := { s.mic with unmuting := true } }
      let s := if 4 ≤ s.pwr.state then { s with pins := { s.pins with muteLed := false } } else s
      (s.tellMute false).wakeBy 128)

/-! ### Stuck streams and the wire probe (R342 to R347) -/

/-- Cause of channel `n` (Table 8-4). -/
def State.micCause (s : State) (n : Nat) : Nat := s.rf F.MIC_FAULT_CAUSE.cause / 4 ^ n % 4

/-- Set the cause of channel `n`; it is faulted while the cause is not 0. -/
def State.setCause (s : State) (n v : Nat) : State :=
  let old := s.rf F.MIC_FAULT_CAUSE.cause
  let s := s.wr F.MIC_FAULT_CAUSE.cause (old - s.micCause n * 4 ^ n + v * 4 ^ n)
  if v = 0 then
    (if bitOf (s.rf F.MIC_FAULT_STATUS.faulted) n then s.wr F.MIC_FAULT_STATUS.faulted (s.rf F.MIC_FAULT_STATUS.faulted - 2 ^ n) else s)
  else s.setBit F.MIC_FAULT_STATUS.faulted n

/-- Channels given new causes; EV_MIC_FAULT tells the ones that changed, once (R345). -/
def State.setCauses (s : State) (xs : List (Nat × Nat)) : State :=
  let changed := xs.filter (fun x => decide (s.micCause x.1 ≠ x.2))
  if changed.isEmpty then s
  else
    let s := changed.foldl (fun t x => t.setCause x.1 x.2) s
    s.raise 9 (changed.foldl (fun m x => Nat.lor m (2 ^ x.1)) 0) 0 0 (BitVec.ofNat 32 (s.rf F.MIC_FAULT_CAUSE.cause))

/-- Channel `n` is enabled. -/
def State.chanOn (s : State) (n : Nat) : Bool := bitOf (s.rf F.MIC_CHAN_CTL.chan_en) n

/-- Cycles for which channel `n` has been flagged in no window. -/
def State.cleanFor (s : State) (n : Nat) : Nat := Cells.get (fun _ => 0) s.mic.clean n

/-- Faulted channels of wire `w` that have run clean for 250 cycles and were last found driven return to the healthy set (R346). -/
def State.recover (s : State) (w : Nat) : State :=
  s.setCauses (([2 * w, 2 * w + 1].filter (fun n => bitOf (s.rf F.MIC_FAULT_STATUS.faulted) n && decide (250 ≤ s.cleanFor n) && s.mic.driven.getLsbD n)).map
    (fun n => (n, 0)))

/-- A probe of wire `w` starts in the next cycle and runs 4 cycles (R343, R344). -/
def State.startProbe (s : State) (w flagged : Nat) : State :=
  if s.mic.probes.any (fun x => decide (x.1 = w)) then s
  else ({ s with mic := { s.mic with probes := s.mic.probes ++ [(w, 5, flagged)] } }).bump F.MIC_ERR.probes

/-- The microphones deliver real output. -/
def State.micLive (s : State) : Bool :=
  s.coreOn && (decide (s.rf F.MIC_STATUS.mode = 1) || decide (s.rf F.MIC_STATUS.mode = 2)) && !s.on F.MIC_STATUS.settling

/-- Flagged channels of wire `w` in a set of channels. -/
def onWire (flagged w : Nat) : List Nat := [2 * w, 2 * w + 1].filter (fun n => bitOf flagged n)

/-- STUCK_WINDOW: `constant` are the channels whose bits were all alike (R342, R343). A window that overlaps muted or settling cycles is
skipped. A wire whose flagged channels are all faulted already is left to its retry (R346). -/
def execStuckWindow (constant : BitVec 8) (s : State) : Host.Outcome State Fault Refusal :=
  .next (if s.mic.windowBad || !s.micLive then { s with mic := { s.mic with windowBad := false } }
    else
      let flagged := ((List.range 8).filter (fun n => constant.getLsbD n && s.chanOn n)).foldl (fun m n => m + 2 ^ n) 0
      let s := s.wr F.MIC_FAULT_STATUS.stuck flagged
      let clean := (List.range 8).foldl (fun (m : Cells Nat) n =>
        Cells.set (fun _ => 0) m n (if bitOf flagged n || !s.chanOn n then 0 else s.cleanFor n + 4)) []
      let s := { s with mic := { s.mic with clean := clean } }
      if s.on F.MIC_PROBE_CTL.en then
        (List.range 4).foldl (fun t w =>
          if (onWire flagged w).any (fun n => !bitOf (t.rf F.MIC_FAULT_STATUS.faulted) n) then t.startProbe w flagged else t) s
      else s.setCauses (((List.range 8).filter (fun n => bitOf flagged n && decide (s.micCause n = 0))).map (fun n => (n, 3))))

/-- Causes Table 8-2 gives the channels of wire `w`, the flagged ones being `flagged`. -/
def probeCauses (w flagged : Nat) (a b : Bool) : List (Nat × Nat) :=
  let stuck (n : Nat) : List (Nat × Nat) := if bitOf flagged n then [(n, 3)] else []
  match a, b with
  | true, true => [(2 * w, 2), (2 * w + 1, 2)]
  | true, false => [(2 * w, 1)] ++ stuck (2 * w + 1)
  | false, true => [(2 * w + 1, 1)] ++ stuck (2 * w)
  | false, false => stuck (2 * w) ++ stuck (2 * w + 1)

/-- PROBE_DECISION (R344 to R347). -/
def execProbeDecision (w : Fin 4) (aFollows bFollows : Bool) (s : State) : Host.Outcome State Fault Refusal :=
  .next (match s.mic.probes.find? (fun x => decide (x.1 = w.val) && decide (x.2.1 = 0)) with
    | none => s
    | some (_, _, flagged) =>
      let found := BitVec.ofNat 8 (bit (!aFollows) * 4 ^ w.val + bit (!bFollows) * 2 * 4 ^ w.val)
      let both := BitVec.ofNat 8 (3 * 4 ^ w.val)
      let s := { s with mic := { s.mic with probes := s.mic.probes.filter (fun x => decide (x.1 ≠ w.val)),
                                            driven := (s.mic.driven &&& ~~~both) ||| found } }
      let s := s.setCauses ((probeCauses w.val flagged aFollows bFollows).filter (fun x => s.chanOn x.1))
      s.recover w)

/-- PROBE_RETRY (R346). -/
def execProbeRetry (w : Fin 4) (s : State) : Host.Outcome State Fault Refusal :=
  .next (if !s.micLive then s
    else
      let s := s.recover w
      if s.on F.MIC_PROBE_CTL.en ∧ (onWire (s.rf F.MIC_FAULT_STATUS.faulted) w) ≠ [] then s.startProbe w (s.rf F.MIC_FAULT_STATUS.stuck) else s)

/-! ### Wake engine (R349 to R351, R362, R366, R367) -/

/-- WAKE_EVENT: the model's score reaches the threshold. The event acts at the end of its cycle, so that a mute beginning in the cycle
discards it (R362); within the refractory time it is only counted (R351). -/
def execWakeEvent (start : Dword) (score : Byte) (s : State) : Host.Outcome State Fault Refusal :=
  .next (if !s.wakeArmed || s.muted || !s.coreOn || s.halted 2 || decide (score.toNat < s.rf F.WAKE_CTL.threshold)
        || !(decide (s.rf F.MIC_STATUS.mode = 1) || decide (s.rf F.MIC_STATUS.mode = 2)) then s
    else
      let early := s.wake.thisCycle.isSome || (match s.wake.lastAt with
        | some c => decide ((s.plt.lpc - c).toNat ≤ s.rf F.WAKE_CTL.refractory_cycles)
        | none => false)
      if early then s.bump F.WAKE_ERR.refractory else { s with wake := { s.wake with thisCycle := some (start, score) } })

/-- A wake event is told and reaches the call block (R350, R306). -/
def State.actWake (s : State) (start : Dword) (score : Byte) (cycle : Word) : State :=
  let s := s.raiseAt cycle 7 score.toNat (s.rf F.WAKE_CTL.beam) 0 (start.setWidth 32)
  if s.ccUp then s.voice start else s

/-- The wake event of the cycle that ends, whose count was `c`: registers, trace, and its effect, or its hold over a warm restart. -/
def State.wakeCycle (s : State) (c : Dword) : State :=
  match s.wake.thisCycle with
  | none => s
  | some (start, score) =>
    let cycle : Word := c.setWidth 32
    let s := { s with wake := { s.wake with thisCycle := none, lastStart := start, lastAt := some c } }
    let s := ((s.setReg F.WAKE_LAST_START_LO.start_lo.off (start.setWidth 32)).setReg F.WAKE_LAST_CYCLE.cycle.off cycle).stim 6 (start.toNat % 2 ^ 32)
    if s.cfg.restarting then { s with wake := { s.wake with held := some (start, score, cycle) } } else s.actWake start score cycle

/-- The wake event a warm restart held acts at its end (R367). -/
def State.actHeldWake (s : State) : State :=
  match s.wake.held with
  | some (start, score, cycle) => ({ s with wake := { s.wake with held := none } }).actWake start score cycle
  | none => s

/-- AE1's reset: a wake event not yet raised is discarded; catch-up playback stops (R366, R317). -/
def State.resetWake (s : State) : State := ({ s with wake := { s.wake with thisCycle := none, held := none } }).endPlayback

end Sys2Proof.Machine
end

