-- ==== Sys2Proof/Machine/RegWrite.lean ====
section
/-! DEFINITION. Reading and writing a register from outside: the access codes, the setup lock, the stageable fields, what follows when a
field changes, and the accesses by BAR0 and by the standby port (R11 to R15, R416, R417, R632 to R649). -/

namespace Sys2Proof.Machine

/-! ### GPIO outputs (R34, R49, R616) -/

/-- An element of the cross-trigger mask is halted (R616). -/
def State.maskHalted (s : State) : Bool := (List.range 4).any (fun e => bitOf (s.rf F.DBG_HALT_CTL.mask) e && s.halted e)

/-- Strobe `u` is enabled on pin `g` (R49). -/
def State.strobeOn (s : State) (u g : Nat) : Bool := s.on (F.PLT_STROBE_CTL.en u) && decide (s.rf (F.PLT_STROBE_CTL.gpio u) = g)

/-- Pin `g` is driven high: by a strobe's pulse, or, where no strobe is enabled, by the trigger output. -/
def State.gpioLevel (s : State) (g : Nat) : Bool :=
  if s.strobeOn 0 g || s.strobeOn 1 g then
    (s.strobeOn 0 g && s.plt.strobes.getD 0 false) || (s.strobeOn 1 g && s.plt.strobes.getD 1 false)
  else s.on F.DBG_HALT_CTL.xtrig_out_en && decide (s.rf F.DBG_HALT_CTL.xtrig_out_gpio = g) && s.maskHalted

/-- The GPIO outputs follow what drives them. -/
def State.showGpio (s : State) : State :=
  { s with pins := { s.pins with gpioHigh := ((List.range 8).filter s.gpioLevel).foldl (fun m g => m ||| (1 <<< g)) 0 } }

/-! ### Setup lock and restarts -/

/-- Effective quotas from H15 downward, `over` descriptors too many (R384). -/
def cutQuotas (s : State) (excess : Nat) : Nat → State
  | 0 => s
  | n + 1 =>
    let q := s.rf (F.HIF_QUOTA.quota n)
    cutQuotas (s.modClient n (fun c => { c with effQuota := some (q - excess) })) (excess - q) n

/-- The sum of the quotas of H0 to H15. -/
def State.quotaSum (s : State) : Nat := ((List.range 16).map (fun n => s.rf (F.HIF_QUOTA.quota n))).foldl (· + ·) 0

/-- The setup lock is set; the effective quotas are fixed (R576, R384). -/
def State.setLock (s : State) : State :=
  if s.setupLocked then s else cutQuotas (s.put F.GLB_SETUP.lock true) (s.quotaSum - 127) 16

/-- A request whose message is lost has its response timeout run from now (R586, R110). -/
def TalkReq.lost (now : Word) (q : TalkReq) : TalkReq := if q.phase = .unsent then { q with phase := .sent, sentAt := now } else q

/-- The ledger messages CC held queued are lost (R586). -/
def State.loseMessages (s : State) : State :=
  let drop (l : Link) : Link := { l with urgent := [], routine := [], reqs := l.reqs.map (TalkReq.lost s.lpc) }
  let s := (s.modLnk .a drop).modLnk .b drop
  { s with master := { s.master with ckptSending := false }, way := { s.way with masterB := { s.way.masterB with ckptSending := false } } }

/-- An element runs again, from its reset, with cause 0 (R627). -/
def State.freeElem (s : State) (e : Nat) : State :=
  ({ s with dbg := { s.dbg with elems := s.dbg.elems.modify e (fun x => { x with cause := 0, steps := 0 }) } }).showGpio

/-- A CC warm restart starts (R584, Table 14-8): CC stops, its generation counts, its queued messages and unapplied settings are lost. -/
def State.startWarm (s : State) : State :=
  if s.cfg.restarting || s.pins.resetHeld then s
  else
    let s := ((s.bumpGen F.CFG_GEN0.cc 0).bump F.CFG_RESET_CAUSE.warm_restarts).freeElem 0
    { s.loseMessages with cfg := { s.cfg with restarting := true }, mix := { s.mix with changes := [] } }

/-- The trace buffer is emptied and the sink starts afresh (R622, R624). -/
def State.restartTrace (s : State) : State :=
  let s := { s with dbg := { s.dbg with trace := [], seq := 0, lost := 0, post := none } }
  ((s.wr F.DBG_TRACE_STATUS.write_index 0).put F.DBG_TRACE_STATUS.wrapped false).put F.DBG_TRACE_STATUS.stopped false

/-! ### What follows a change -/

/-- The declared class has changed (R582): a class below the admitted one takes the loads and the P57 down with it (R204). -/
def State.classDeclared (s : State) : State :=
  let d := classOf (s.rf F.CFG_NODE.declared_class)
  (if d < s.intake.admitted then s.ownClass d else s).statusDue .a

/-- Tone detector `n`'s settings have changed: its counts restart (R312). -/
def State.toneRestart (s : State) (n : Nat) : State := s.setTone n { s.toneSt n with onRun := 0, offRun := 0 }

/-- HIF_Cn_RING_CTL has changed (R378, R410). -/
def State.ringChanged (s : State) (n : Nat) (old new : Word) : State :=
  if old.getLsbD 8 = new.getLsbD 8 then s else if new.getLsbD 8 then s.enableRing n else s.disableRing n

/-- The RW or RWL fields of the register at `o` have changed from `old` to `new`. -/
def State.regChanged (s : State) (o : Nat) (old new : Word) : State :=
  let diff := old ^^^ new
  if o = F.MIX_LISTEN0.groups.off ∨ o = F.MIX_LISTEN1.groups.off ∨ o = F.MIX_ROOM.room_id.off ∨ o = F.LINE_ROLE.master_en.off then s.statusDue .a
  else if o = F.ECH_AEC_CTL.en.off then
    if diff &&& 0x1E ≠ 0 ∨ (diff.getLsbD 0 ∧ new.getLsbD 0) then s.startReconv else s
  else if o = F.ECH_REF0_CTL.bulk.off ∨ o = F.ECH_REF1_CTL.bulk.off then s.startReconv
  else if o = F.MIX_CTL.aec_ref_tdm.off then if diff.getLsbD 4 then s.startReconv else s
  else if o = F.WAKE_HIST_CTL.depth.off then s.historyLost
  else if 0x3840 ≤ o ∧ o < 0x38C0 then s.toneRestart ((o - 0x3840) / 8)
  else if o = F.CFG_NODE.declared_class.off then s.classDeclared
  else if o = F.PWR_CTL.max_depth.off then s.checkEntry
  else if 0x1000 ≤ o ∧ o < 0x1400 ∧ o % 0x40 = 0x10 then s.ringChanged ((o - 0x1000) / 0x40) old new
  else if o = F.DBG_HALT_CTL.mask.off ∨ o = (F.PLT_STROBE_CTL.en 0).off ∨ o = (F.PLT_STROBE_CTL.en 1).off then s.showGpio
  else s

/-- new = (old AND NOT mask) OR (value AND mask) in the register at `o`, and what follows (R571). -/
def State.setMasked (s : State) (o : Nat) (m v : Word) : State :=
  let old := s.writerMask o (s.reg o)
  let new := (old &&& ~~~m) ||| (v &&& m)
  if new = old then s else (s.setReg o (s.writerMask o new)).regChanged o old new

/-! ### Stageable fields (Table 14-5) -/

/-- The RWL bits of the register at `o`. -/
def State.rwlAt (s : State) (o : Nat) : Word := match rowAt o with | some r => r.acc s.isB .rwl | none => 0

/-- The bits of the register at `o` that group `g` holds. -/
def State.stageMask (s : State) (g : CfgGroup) (o : Nat) : Word :=
  match g with
  | .atomic =>
    if o = F.MIX_CTL.en.off then 0x16
    else if (F.MIX_LISTEN0.groups.off ≤ o ∧ o ≤ F.MIX_CU_CTL.sil_dbfs.off) ∨ ((F.MIX_TDM_MAP.func 0).off ≤ o ∧ o < F.MIX_STATUS.top_prec.off)
      ∨ (F.CALL_CTL.voice_answer.off ≤ o ∧ o < (F.CALL_ACT_GRP.groups 0).off) then s.rwlAt o
    else 0
  | .ech => if (F.ECH_MICPOS.x 0).off ≤ o ∧ o < F.ECH_STATUS.reconv.off then s.rwlAt o else 0
  | .micWake =>
    if o = F.MIC_CHAN_CTL.chan_en.off ∨ o = F.MIC_MODE_CTL.force.off ∨ ((F.MIC_TRIM.gain 0).off ≤ o ∧ o < F.MIC_MUTE_STATUS.muted.off)
      ∨ o = F.MIC_PROBE_CTL.en.off ∨ o = F.WAKE_CTL.en.off ∨ o = F.WAKE_HIST_CTL.depth.off then s.rwlAt o
    else 0
  | .tdm => if o = F.MIX_CTL.en.off then 0x8 else if o = F.MIX_TDM_CTL.format.off then s.rwlAt o else 0
  | .eq => if o = F.LINE_EQ_CTL.dd_adapt.off ∨ o = F.LINE_BELL_CTL.min_level.off then s.rwlAt o else 0
  | .pclass => if o = F.CFG_NODE.declared_class.off then 3 else 0

/-- The groups, in the order of the info nibbles (Table 14-5). -/
def cfgGroups : List CfgGroup := [.atomic, .ech, .micWake, .tdm, .eq, .pclass]

/-- The bits of the register at `o` that any group holds. -/
def State.stageable (s : State) (o : Nat) : Word := cfgGroups.foldl (fun m g => m ||| s.stageMask g o) 0

/-- The part of an entry that group `g` takes. -/
def State.partFor (s : State) (g : CfgGroup) (e : StageEntry) : StageEntry := { e with mask := e.mask &&& s.stageMask g e.off }

/-- The entries of `es` that change something of group `g`, cut to it. -/
def State.entriesFor (s : State) (g : CfgGroup) (es : List StageEntry) : List StageEntry :=
  (es.map (s.partFor g)).filter (fun e => decide (e.mask ≠ 0))

/-- The declared class that entries leave. -/
def State.classAfter (s : State) (es : List StageEntry) : Nat :=
  classOf (es.foldl (fun (w : Word) e => (w &&& ~~~e.mask) ||| (e.value &&& e.mask)) (s.reg F.CFG_NODE.declared_class.off)).toNat

/-- Application cycle of group `g`'s entries for apply cycle `a` (Table 14-5). -/
def State.groupCycle (s : State) (g : CfgGroup) (es : List StageEntry) (a : Word) : Word :=
  match g with
  | .atomic => a
  | .ech | .micWake | .eq => a + 1
  | .tdm => if a.getLsbD 0 then a + 1 else a + 2
  | .pclass => if s.classAfter es < s.intake.admitted then a + 2 else a + 1

/-- The groups that entries fall into, each with its application cycle for apply cycle `a`. -/
def State.groupsOf (s : State) (es : List StageEntry) (a : Word) : List PendingGroup :=
  (cfgGroups.map (fun g => (PendingGroup.mk g (s.entriesFor g es) (s.groupCycle g (s.entriesFor g es) a)))).filter (fun x => !x.entries.isEmpty)

/-- A group takes its entries whole, in staging order (R578, R579); the TDM group's change silences the port for 2 cycles (R266). -/
def State.takeEntries (s : State) (x : PendingGroup) : State :=
  let s := x.entries.foldl (fun t e => t.setMasked e.off e.mask e.value) s
  if x.group = .tdm then
    { s with mix := { s.mix with tdmFormat := (s.reg F.MIX_TDM_CTL.format.off).setWidth 6, tdmHold := 2 } }
  else s

/-! ### One register, one word -/

/-- What writes may change in the register that row `r` describes: RWL fields only before the lock (R634). -/
def RegRow.writable (r : RegRow) (b bound : Bool) : Word := r.acc b .rw ||| (if bound then 0 else r.acc b .rwl)

/-- The WO fields of the register at `o` act (Table 0-5). -/
def State.actWo (s : State) (p : Path) (o : Nat) (v : Word) : State :=
  if o = F.SBY_HOST_WAKE.test.off then if v.getLsbD 1 then s.put F.SBY_HOST_WAKE.active true else s
  else if o = F.CFG_CTL.warm_restart.off then if v.getLsbD 0 && !s.setupLocked then s.startWarm else s
  else
    let n := (o - 0x5800) / 0x100
    if o = (F.TOLL_CMD.mode n).off then s.tollCmd p n v.toNat
    else if o = (F.TOLL_DATA8.data n).off then s.tollData p n (toLe 1 v.toNat)
    else if o = (F.TOLL_DATA16.data n).off then s.tollData p n (toLe 2 v.toNat)
    else if o = (F.TOLL_DATA32.data n).off then s.tollData p n (toLe 4 v.toNat)
    else s

/-- The W1S fields of the register at `o` act. -/
def State.actW1s (s : State) (o : Nat) (v : Word) : State :=
  if o = F.GLB_SETUP.lock.off then if v.getLsbD 0 then s.setLock else s
  else if o = F.SBY_HOST_WAKE.req_wake_n.off then if v.getLsbD 2 then s.reqWakeN else s
  else s

/-- Fields of Table 14-5 that a monitor write changes wait for their group's point, for an apply cycle of the next cycle (R608). -/
def State.direct (s : State) (o : Nat) (m v : Word) : State :=
  { s with cfg := { s.cfg with direct := s.cfg.direct ++ s.groupsOf [{ off := o, mask := m, value := v }] (s.lpc + 1) } }

/-- A word is written by path `p` to the register at `o`, which it has reached (R11 to R15, R517, R633, R634). -/
def State.writeWord (s : State) (p : Path) (o : Nat) (v : Word) : State :=
  match rowAt o with
  | none => s.bump F.GLB_ACCESS_ERR.reserved_writes
  | some r =>
    let bound := s.lockBinds p
    let toll := decide (o / 0x800 = 11)
    let s := if bound && (toll || decide (o = F.CFG_CTL.warm_restart.off) || decide (r.acc s.isB .rwl ≠ 0)) then s.countLocked else s
    if bound && toll then s
    else
      let m := r.writable s.isB bound
      let wait := if p = .mon then m &&& s.stageable o else 0
      let s := if wait = 0 then s else s.direct o wait v
      let s := s.setMasked o (m &&& ~~~wait) v
      let s := if o = F.DBG_TRACE_CTL.en.off ∧ m.getLsbD 0 ∧ v.getLsbD 0 then s.restartTrace else s
      let clr := v &&& r.acc s.isB .w1c
      let s := if clr = 0 then s else s.setReg o (s.reg o &&& ~~~clr)
      (s.actWo p o v).actW1s o v

/-- Two registers at `o` read as a pair: the read of the first latches the second (R48, R350, R354, R487). -/
def State.latchRead (s : State) (o : Nat) : State :=
  if o = F.PLT_LPC_CYCLE.cycle.off then
    (s.wr F.PLT_LPC_SYM.symbol s.plt.sym).wr F.PLT_LPC_CYCLE_HI.cycle_hi (s.plt.lpc.toNat / 2 ^ 32)
  else if o = F.WAKE_HIST_OLDEST_LO.index_lo.off then s.wr F.WAKE_HIST_OLDEST_HI.index_hi (s.histOldest.toNat / 2 ^ 32)
  else if o = F.WAKE_LAST_START_LO.start_lo.off then s.wr F.WAKE_LAST_START_HI.start_hi (s.wake.lastStart.toNat / 2 ^ 32)
  else if o = F.TAG_SERIAL_LO.serial_lo.off then s.wr F.TAG_SERIAL_HI.serial_hi (s.tag.serial.toNat / 2 ^ 32)
  else s

/-- A read of the register at `o` completes: its latch, and its RC fields when `clear` (R14, R650). Clearing the missed calls stops their
LED pattern (R309). -/
def State.readDone (s : State) (o : Nat) (clear : Bool) : State :=
  let s := s.latchRead o
  match rowAt o with
  | none => s
  | some r =>
    let rc := r.acc s.isB .rc
    if !clear || decide (s.reg o &&& rc = 0) then s
    else
      let s := s.setReg o (s.reg o &&& ~~~rc)
      if o = F.CALL_STATUS.missed.off then s.showLed else s

/-! ### Accesses by BAR0 (R632, R633, R635) -/

/-- A BAR0 access of another size or alignment is counted (R632). -/
def State.badSize (s : State) : State := if s.barOpen then s.bump F.GLB_ACCESS_ERR.bad_size else s

/-- A word written through BAR0. -/
def State.barWrite (s : State) (o : Nat) (v : Word) : State :=
  if (rowAt o).isNone then (if s.barOpen then s.writeWord .bar0 o v else s)
  else match s.reach .bar0 o with
    | some t => t.writeWord .bar0 o v
    | none => s

/-- A word read through BAR0. -/
def State.barRead (s : State) (o : Nat) : State :=
  if (rowAt o).isNone then s
  else match s.reach .bar0 o with
    | some t => t.readDone o true
    | none => s

/-- REGISTER_WRITE. -/
def execRegisterWrite (off : Half) (size : AccSize) (v : Dword) (s : State) : Host.Outcome State Fault Refusal :=
  let o := off.toNat
  .next (match size with
    | .b4 => if o % 4 = 0 then s.barWrite o (v.setWidth 32) else s.badSize
    | .b8 => if o % 8 = 0 then (s.barWrite o (v.setWidth 32)).barWrite (o + 4) ((v >>> 32).setWidth 32) else s.badSize
    | .other => s.badSize)

/-- READ_CLEAR_READ. -/
def execReadClearRead (off : Half) (size : AccSize) (s : State) : Host.Outcome State Fault Refusal :=
  let o := off.toNat
  .next (match size with
    | .b4 => if o % 4 = 0 then s.barRead o else s.badSize
    | .b8 => if o % 8 = 0 then (s.barRead o).barRead (o + 4) else s.badSize
    | .other => s.badSize)

/-- A read that reaches the register at `o` latches its pair. -/
def State.latchCommand (s : State) (o : Nat) : State :=
  if s.pins.resetHeld || !s.domainOn (domainOf o) || decide (s.pwr.state = 5) then s else s.latchRead o

/-- PLT_LPC_CYCLE_READ (R48). -/
def execPltLpcCycleRead (s : State) : Host.Outcome State Fault Refusal := .next (s.latchCommand F.PLT_LPC_CYCLE.cycle.off)

/-- WAKE_HIST_OLDEST_LO_READ (R354). -/
def execWakeHistOldestLoRead (s : State) : Host.Outcome State Fault Refusal := .next (s.latchCommand F.WAKE_HIST_OLDEST_LO.index_lo.off)

/-- WAKE_LAST_START_LO_READ (R350). -/
def execWakeLastStartLoRead (s : State) : Host.Outcome State Fault Refusal := .next (s.latchCommand F.WAKE_LAST_START_LO.start_lo.off)

/-- TAG_SERIAL_LO_READ (R487). -/
def execTagSerialLoRead (s : State) : Host.Outcome State Fault Refusal := .next (s.latchCommand F.TAG_SERIAL_LO.serial_lo.off)

/-- SETUP_LOCK (R576). -/
def execSetupLock (p : Path) (s : State) : Host.Outcome State Fault Refusal :=
  .next (match s.reach p F.GLB_SETUP.lock.off with
    | some t => t.setLock
    | none => s)

/-- WARM_RESTART_REQUEST (R584, R634). -/
def execWarmRestartRequest (s : State) : Host.Outcome State Fault Refusal :=
  .next (if s.pins.resetHeld || !s.coreOn then s else if s.setupLocked then s.countLocked else s.startWarm)

/-- TRACE_ENABLE (R624). -/
def execTraceEnable (p : Path) (s : State) : Host.Outcome State Fault Refusal :=
  .next (match s.reach p F.DBG_TRACE_CTL.en.off with
    | some t => if t.lockBinds p then t.countLocked else (t.put F.DBG_TRACE_CTL.en true).restartTrace
    | none => s)

/-! ### Accesses by the standby port (R416, R417, R640 to R642) -/

/-- The offset of word `i` of a transfer that starts at `a` (R640). -/
def sbOffset (a : Half) (i : Nat) : Nat := (a.toNat / 4 * 4 + 4 * i) % 0x10000

/-- A word read by the standby port, and what it reads. -/
def State.sbRead (s : State) (o : Nat) : State × Word :=
  match s.reach .sb o with
  | some t => (t.readDone o true, t.value o)
  | none => (s, 0)

/-- A word written by the standby port. -/
def State.sbWrite (s : State) (o : Nat) (v : Word) : State :=
  match s.reach .sb o with
  | some t => t.writeWord .sb o v
  | none => s

/-- SB_REGISTER_READ: the words appear on SB_MISO after the status byte, low byte first (Table 9-6). -/
def execSbRegisterRead (addr : Half) (words : Nat) (s : State) : Host.Outcome State Fault Refusal :=
  .next (if s.pins.resetHeld then s
    else
      let (t, bytes) := (List.range words).foldl (fun (x : State × List Byte) i =>
        let (t, v) := x.1.sbRead (sbOffset addr i)
        (t, x.2 ++ toLe 4 v.toNat)) (s, [])
      { t with sby := { t.sby with miso := bytes } })

/-- SB_REGISTER_WRITE: each word acts as its last bit is clocked (R642). -/
def execSbRegisterWrite (addr : Half) (ws : List Word) (s : State) : Host.Outcome State Fault Refusal :=
  .next (if s.pins.resetHeld then s
    else (ws.foldl (fun (x : State × Nat) v => (x.1.sbWrite (sbOffset addr x.2) v, x.2 + 1)) (s, 0)).1)

end Sys2Proof.Machine
end

