-- ==== Sys2Proof/Machine/Staging.lean ====
section
/-! DEFINITION. Staged configuration: CONFIG_STAGE, CONFIG_APPLY, and the groups at their application cycles (R266, R435, R458, R459,
R578 to R582, R587, R591, R620). -/

namespace Sys2Proof.Machine

/-! ### CONFIG_STAGE (R458, R578) -/

/-- The entries a buffer spells: offset, mask, value, 12 bytes each (R458). -/
def parseEntries (b : List Byte) (n : Nat) : List StageEntry :=
  (List.range n).map (fun i => { off := leAt b (12 * i) 4, mask := BitVec.ofNat 32 (leAt b (12 * i + 4) 4), value := BitVec.ofNat 32 (leAt b (12 * i + 8) 4) })

/-- The bits of the register at `o` that some field takes. -/
def usedBits (o : Nat) : Word := match rowAt o with | some r => r.mask (fun _ => true) | none => 0

/-- An entry breaks the form of R578: its offset, its mask over reserved bits, or its value outside its mask. -/
def StageEntry.malformed (e : StageEntry) : Bool :=
  decide (e.off % 4 ≠ 0) || decide (e.mask &&& ~~~(usedBits e.off) ≠ 0) || decide (e.value &&& ~~~e.mask ≠ 0)

/-- What an entry completes its CONFIG_STAGE with, if it may not be staged: the status and the info word. -/
def State.entryFails (s : State) (e : StageEntry) : Option (Status × Word) :=
  if e.malformed then some (.badDesc, 0)
  else if e.mask &&& ~~~(s.stageable e.off) ≠ 0 then some (.refused, BitVec.ofNat 32 e.off)
  else none

/-- CONFIG_STAGE. -/
def State.doConfigStage (s : State) (c j : Nat) (d : Desc) (buf : List Byte) : State :=
  if s.on F.GLB_STATUS.epoch_mixed then s.finish c j .epochMixed 0 0
  else if s.cfg.owner.isSome ∧ s.cfg.owner ≠ some c then s.finish c j .busy 0 0
  else if d.byte 20 = 1 then ({ s with cfg := { s.cfg with staging := [], owner := none } }).finish c j .ok 0 0
  else
    let es := parseEntries buf (d.bufLen / 12)
    match es.findSome? s.entryFails with
    | some (st, info) => s.finish c j st 0 info
    | none =>
      let all := s.cfg.staging ++ es
      if 256 < all.length then s.finish c j .busy 0 0
      else ({ s with cfg := { s.cfg with staging := all, owner := some c } }).finish c j .ok (BitVec.ofNat 32 all.length) 0

/-- CONFIG_STAGE (R458). -/
def execConfigStage (c : Client) (buf : List Byte) (s : State) : Host.Outcome State Fault Refusal :=
  .next (s.command c 0x90 buf (fun s j d => s.doConfigStage c j d (s.bufferOf c d buf)))

/-! ### CONFIG_APPLY (R435, R459, R579, R580) -/

/-- Number of a group's info nibble (Table 14-5). -/
def nibbleOf : CfgGroup → Nat | .atomic => 0 | .ech => 1 | .micWake => 2 | .tdm => 3 | .eq => 4 | .pclass => 5

/-- The field that shows a group's epoch (Table 14-10). -/
def vecField : CfgGroup → Field
  | .atomic => F.CFG_EPOCH_VEC0.atomic
  | .ech => F.CFG_EPOCH_VEC0.ech
  | .micWake => F.CFG_EPOCH_VEC0.mic_wake
  | .tdm => F.CFG_EPOCH_VEC0.tdm
  | .eq => F.CFG_EPOCH_VEC1.eq
  | .pclass => F.CFG_EPOCH_VEC1.pclass

/-- A group takes the epoch in force. -/
def State.takeEpoch (s : State) (g : CfgGroup) : State := s.wr (vecField g) (s.rf F.CFG_EPOCH.current % 256)

/-- The info nibble of group `g`. -/
def State.nibble (s : State) (g : CfgGroup) : Nat := bitsOf s.cfg.nibbles.toNat (4 * nibbleOf g) 4

/-- Put a group's info nibble. -/
def State.setNibble (s : State) (g : CfgGroup) (v : Nat) : State :=
  { s with cfg := { s.cfg with nibbles := (Field.mk 0 (4 * nibbleOf g) 4).set s.cfg.nibbles v } }

/-- A CONFIG_APPLY waits for its last group. -/
def awaitsApply (id : Half) (x : InFlight) : Bool := decide (x.phase = .configApply) && decide (x.desc.id = id)

/-- With no group left pending the epoch is whole: the command completes and the event is raised (R580). -/
def State.epochDone (s : State) : State :=
  if !s.cfg.groups.isEmpty || !s.on F.GLB_STATUS.epoch_mixed then s
  else
    let s := s.put F.GLB_STATUS.epoch_mixed false
    let s := match s.cfg.apply with
      | some (c, id, a) => ({ s with cfg := { s.cfg with apply := none } }).finishWhere c (awaitsApply id) .ok a s.cfg.nibbles
      | none => s
    s.raise 21 0 0 0 (BitVec.ofNat 32 (s.rf F.CFG_EPOCH.current))

/-- a:0 of a CONFIG_APPLY: the epoch moves on, the set leaves staging, its groups are pending, the others take the epoch (R579). -/
def State.beginApply (s : State) (a : Word) : State :=
  let s := s.wrapInc F.CFG_EPOCH.current
  let gs := s.groupsOf s.cfg.staging a
  let s := { s with cfg := { s.cfg with staging := [], owner := none, groups := gs, nibbles := 0x00FFFFFF } }
  let s := (s.put F.GLB_STATUS.epoch_mixed true).wr F.CFG_APPLY_CYCLE.cycle a.toNat
  let s := s.stim 3 (s.rf F.CFG_EPOCH.current)
  ((cfgGroups.filter (fun g => !gs.any (fun x => decide (x.group = g)))).foldl (fun t g => t.takeEpoch g) s).epochDone

/-- CONFIG_APPLY: at its due cycle the set applies from this symbol 0, otherwise from the next. -/
def State.doConfigApply (s : State) (c j : Nat) (d : Desc) (atDue : Bool) : State :=
  if s.on F.GLB_STATUS.epoch_mixed then s.finish c j .epochMixed 0 0
  else if s.cfg.staging.isEmpty ∨ s.cfg.owner ≠ some c then s.finish c j .mismatch 0 0
  else
    let a := if atDue then s.lpc else s.lpc + 1
    let s := { s.setPhase c j .configApply with cfg := { s.cfg with apply := some (c, d.id, a) } }
    if atDue then s.beginApply a else s

/-- CONFIG_APPLY (R459). -/
def execConfigApply (c : Client) (s : State) : Host.Outcome State Fault Refusal :=
  .next (s.command c 0x91 [] (fun s j d => s.doConfigApply c j d false))

/-! ### Groups (R266, R579, R582, R587, R592, R620) -/

/-- The element that applies a group; none where the group applies at its own point in every case (R620). -/
def groupElem : CfgGroup → Option Nat
  | .ech => some 1
  | .micWake => some 2
  | .pclass => some 0
  | .atomic | .tdm | .eq => none

/-- A pending group is due: its application cycle has come, no warm restart runs, its element runs, and a TDM group finds an even cycle. -/
def State.groupDue (s : State) (x : PendingGroup) : Bool :=
  !later x.at_ s.lpc && decide (s.plt.sym = 0) && s.coreOn && !s.cfg.restarting && !s.pins.resetHeld
    && (match groupElem x.group with | some e => !s.halted e | none => true)
    && (decide (x.group ≠ .tdm) || !s.lpc.getLsbD 0)

/-- Group `x` applies: its entries whole, its epoch, its nibble, and the end of the epoch's mixture (R579, R580). -/
def State.applyGroup (s : State) (x : PendingGroup) : State :=
  let s := { s with cfg := { s.cfg with groups := s.cfg.groups.filter (fun y => decide (y.group ≠ x.group)) } }
  let s := (s.takeEntries x).takeEpoch x.group
  let s := if s.nibble x.group = 14 then s else s.setNibble x.group ((s.lpc - s.reg F.CFG_APPLY_CYCLE.cycle.off).toNat % 16)
  (s.stim 3 (s.rf F.CFG_EPOCH.current + 65536 * nibbleOf x.group)).epochDone

/-- Group `g` applies if it is pending and due. -/
def State.groupPoint (s : State) (g : CfgGroup) : State :=
  match s.cfg.groups.find? (fun x => decide (x.group = g)) with
  | some x => if s.groupDue x then s.applyGroup x else s
  | none => s

/-- CONFIG_GROUP_APPLY (R579). -/
def execConfigGroupApply (g : CfgGroup) (s : State) : Host.Outcome State Fault Refusal :=
  .next ((s.groupPoint g).settleAll)

/-- The format that MIX_TDM_CTL holds. -/
def State.tdmWanted (s : State) : BitVec 6 := (s.reg F.MIX_TDM_CTL.format.off).setWidth 6

/-- TDM_SAFE_POINT (R266): a pending TDM group applies, or a format written before the lock takes effect. -/
def execTdmSafePoint (s : State) : Host.Outcome State Fault Refusal :=
  .next (if s.cfg.groups.any (fun x => decide (x.group = .tdm)) then (s.groupPoint .tdm).settleAll
    else if s.tdmWanted ≠ s.mix.tdmFormat ∧ s.lpc.getLsbD 0 = false ∧ s.plt.sym = 0 ∧ s.coreOn then
      { s with mix := { s.mix with tdmFormat := s.tdmWanted, tdmHold := 2 } }
    else s)

/-! ### Symbol 0 and rebase -/

/-- Changes written by the monitor whose point has come take effect (R608, R630, R647). -/
def State.applyDirect (s : State) : State :=
  let due := s.cfg.direct.filter (fun x => !later x.at_ s.lpc)
  let s := { s with cfg := { s.cfg with direct := s.cfg.direct.filter (fun x => later x.at_ s.lpc) } }
  due.foldl (fun t x => t.takeEntries x) s

/-- A class about to be lowered takes its loads down one cycle before the P57 is written (R204, R582). -/
def State.shedLoads (s : State) : State :=
  match (s.cfg.groups ++ s.cfg.direct).find? (fun x => decide (x.group = .pclass) && decide (x.at_ = s.lpc + 1)) with
  | some x =>
    let c := s.classAfter x.entries
    if c < s.intake.loads ∧ c < s.intake.admitted ∧ !s.halted 0 ∧ !s.cfg.restarting then { s with intake := { s.intake with loads := c } } else s
  | none => s

/-- What the configuration block does at symbol 0: the monitor's writes, then a CONFIG_APPLY whose apply cycle this is (R579, R647). -/
def State.configCycle (s : State) : State :=
  let s := s.applyDirect.shedLoads
  match s.cfg.apply with
  | some (_, _, a) => if !s.on F.GLB_STATUS.epoch_mixed && !later a s.lpc && !s.cfg.staging.isEmpty then s.beginApply a else s
  | none => s

/-- A group moved by a rebase: its new application cycle (R591). -/
def movedCycle (now : Word) : CfgGroup → Word
  | .tdm => if now.getLsbD 0 then now + 1 else now + 2
  | _ => now + 1

/-- A rebase moves each pending group to the first symbol 0 after it, the TDM group to the first even cycle (R591). -/
def State.moveGroups (s : State) : State :=
  let move (x : PendingGroup) : PendingGroup := { x with at_ := movedCycle s.lpc x.group }
  let moved := s.cfg.groups
  let s := { s with cfg :=
    { s.cfg with
      groups := moved.map move
      direct := s.cfg.direct.map move
      apply := s.cfg.apply.map (fun (x : Nat × Half × Word) => if moved.isEmpty then (x.1, x.2.1, s.lpc + 1) else x) } }
  moved.foldl (fun t x => t.setNibble x.group 14) s

end Sys2Proof.Machine
end

