-- ==== Sys2Proof/Machine/LineTime.lean ====
section
/-! DEFINITION. Line time: the beacons a node accepts, misses and loses, its lock, rebases and holdover, the election it may start, and the
firmware compare units, scheduled descriptors and strobes that line time drives (R22 to R49, R67, R139 to R159, R171, R180, R678). -/

namespace Sys2Proof.Machine

/-! ### Rebase (R45, R23) -/

/-- Cycle positions that a queue or an exchange keeps move with the cycle numbering, so that what has started goes on (R467). -/
def Link.shift (l : Link) (d : Word) : Link :=
  { l with
    urgent := l.urgent.map (fun m => { m with queued := m.queued + d })
    routine := l.routine.map (fun m => { m with queued := m.queued + d })
    recent := l.recent.map (fun (x : Nat × Half × Word) => (x.1, x.2.1, x.2.2 + d))
    joinSent := l.joinSent.map (fun c => c + d)
    held := l.held.map (fun h => { h with start := h.start + d })
    reqs := l.reqs.map (fun q => { q with sentAt := q.sentAt + d }) }

/-- The same for a master's tables (the port-B master numbers its cycles as port A does, R180). -/
def Master.shift (m : Master) (d : Word) : Master :=
  { m with
    leases := m.leases.map (fun (x : Nat × Option MLease) => (x.1, x.2.map (fun l => { l with sentAt := l.sentAt.map (fun c => c + d) })))
    roster := m.roster.map (fun r => { r with pollSent := r.pollSent.map (fun c => c + d), stalePoll := r.stalePoll.map (fun c => c + d) })
    collisions := m.collisions.map (fun c => c + d)
    quietAt := m.quietAt.map (fun c => c + d)
    horn := m.horn.map (fun c => c + d)
    snapshot := m.snapshot.map (fun c => c + d)
    repeats := m.repeats.map (fun r => { r with first := r.first + d })
    relays := m.relays.map (fun r => { r with cycle := r.cycle + d })
    takeover := m.takeover.map (fun c => c + d) }

/-- A command in flight keeps its cycle positions. -/
def Phase.shift (d : Word) : Phase → Phase
  | .ledgerSend c => .ledgerSend (c + d)
  | x => x

/-- Every kept cycle position moves by `d`. -/
def State.shiftCycles (s : State) (d : Dword) : State :=
  let w : Word := d.setWidth 32
  { s with
    link := s.link.shift w
    way := { s.way with linkB := s.way.linkB.shift w, masterB := s.way.masterB.shift w }
    cfg := { s.cfg with restartEnd := s.cfg.restartEnd.map (fun c => c + d) }
    tag := { s.tag with insertAt := s.tag.insertAt.map (fun c => c + d) }
    wake := { s.wake with lastAt := s.wake.lastAt.map (fun c => c + d) }
    pwr := { s.pwr with entrySince := s.pwr.entrySince.map (fun c => c + w), bellUntil := s.pwr.bellUntil.map (fun c => c + w) }
    mix := { s.mix with changes := s.mix.changes.map (fun (x : Nat × Half × Word × SettingChange) => (x.1, x.2.1, x.2.2.1 + w, x.2.2.2)) }
    dbg := { s.dbg with frags := s.dbg.frags.map (fun f => { f with cycle := f.cycle + w }) }
    phy := { s.phy with ownSeen := s.phy.ownSeen.map (fun c => c + w) }
    hif := { s.hif with clients := s.hif.clients.map (fun c => { c with flight := c.flight.map (fun x => { x with phase := x.phase.shift w }) }) } }

/-- The count a rebase to cycle `c` gives: the upper half increments when the node has ever been locked (R23). -/
def State.rebasedCount (s : State) (c : Word) : Dword :=
  ((s.plt.lpc >>> 32).setWidth 32 + (if s.on F.PLT_LPC_STATUS.ever_locked then 1 else 0) : Word) ++ c

/-- Every firmware compare unit that is armed is flagged, and every deadline given up (R45, R33). -/
def State.dropUnits (s : State) : State :=
  let armed := (List.range 6).filter (fun i => (s.plt.units.getD i none).isSome)
  let s := armed.foldl (fun t i => (t.setBit F.PLT_CMP_STATUS.rebased i).clrBit F.PLT_CMP_STATUS.armed i) s
  { s with plt := { s.plt with units := List.replicate 6 none, waiting := [] } }

/-- The LPC takes cycle `c` by a rebase (R45, R467, R591, R354). -/
def State.rebaseTo (s : State) (c : Word) : State :=
  let new := s.rebasedCount c
  let s := (s.shiftCycles (new - s.plt.lpc)).dropUnits
  let s := ({ s with plt := { s.plt with lpc := new } }).wrapInc F.PLT_LPC_STATUS.rebase_count
  let s := s.finishEvery (fun _ x => x.phase.isScheduled) .aborted
  s.moveGroups.historyLost

/-! ### The beacon a node accepts -/

/-- The node searches every symbol (R678, R47). -/
def State.searches (s : State) : Bool :=
  (!s.locked && !s.on F.PLT_LPC_STATUS.ever_locked) || decide (3 ≤ s.rf F.PLT_LPC_STATUS.missed_beacons) || s.lineDown || s.plt.firstBeacon
    || s.plt.lpcInvalid

/-- How a beacon places the LPC. -/
structure Placing where
  /-- Its master_uid differs from that of the master followed (R144, R159). -/
  newMaster : Bool
  /-- It rebases the node (R45, R47). -/
  rebase : Bool
  /-- It is mismatched (R144). -/
  mismatch : Bool
  /-- It arrived as predicted, or counts so (R26). -/
  predicted : Bool
  deriving DecidableEq, Repr

/-- The judgement of beacon `x` that arrives `d` symbols after the node's symbol 0 (R26, R28, R45 to R47, R144). -/
def State.place (s : State) (x : Beacon) (d : Int) : Placing :=
  let differs := match s.link.beacon with | some b => decide (b.masterUid ≠ x.masterUid) | none => false
  let first := s.plt.firstBeacon || s.plt.lpcInvalid
  let moved := decide (x.cycle ≠ s.lpc) || decide (4 < d.natAbs)
  let quiet := decide (s.lineState .a ≠ 0)
  let mismatch := !first && !differs && !quiet && moved
  let rebase :=
    if s.plt.lpcInvalid then true
    else if first then moved
    else if differs then decide (x.cycle ≠ s.lpc)
    else decide (cycleDiff x.cycle s.lpc < 0)
  { newMaster := differs, rebase := rebase, mismatch := mismatch, predicted := !moved || (differs && !rebase) }

/-- A mismatched beacon is counted early or late (R144). -/
def State.countMismatch (s : State) (d : Int) : State :=
  if d < -4 then s.bump F.LINE_LINK_ERR.cycle_short else if 4 < d then s.bump F.LINE_LINK_ERR.cycle_long else s

/-- The LPC takes the beacon's cycle: by a rebase, or forward with the 64-bit count (R45, R144). A rebasing beacon of a different master makes
the node give up its address (R159). -/
def State.adoptCycle (s : State) (x : Beacon) (j : Placing) : State :=
  if j.rebase then
    let s := s.rebaseTo x.cycle
    if j.newMaster then s.giveUpAddress .a 4 else s
  else { s with plt := { s.plt with lpc := s.plt.lpc + (x.cycle - s.lpc).setWidth 64 } }

/-- The run toward lock (R26). -/
def State.lockStep (s : State) (j : Placing) : State :=
  let s := if j.rebase then s.put F.PLT_LPC_STATUS.locked false else s
  let run := if j.rebase || j.mismatch || !(j.predicted || decide (s.plt.lockRun = 0)) then 1 else min 3 (s.plt.lockRun + 1)
  if s.locked then s
  else
    let s := { s with plt := { s.plt with lockRun := run } }
    if run = 3 then (s.put F.PLT_LPC_STATUS.locked true).put F.PLT_LPC_STATUS.ever_locked true else s

/-- Three consecutive mismatched beacons (R145). -/
def State.mismatchStep (s : State) (j : Placing) (d : Int) : State :=
  if !j.mismatch then { s with plt := { s.plt with mismatchRun := 0 } }
  else
    let s := s.countMismatch d
    if s.plt.mismatchRun + 1 < 3 then { s with plt := { s.plt with mismatchRun := s.plt.mismatchRun + 1 } }
    else
      let n := s.link.held.length
      let s := (s.raise 12 0 n 0 0).loseAll .a 7
      let s := (s.put F.PLT_LPC_STATUS.locked false).bump F.LINE_LINK_ERR2.mismatch_events
      { s with plt := { s.plt with mismatchRun := 0, lockRun := 1 } }

/-- Holdover ends (R27, R44). -/
def State.endHoldover (s : State) : State :=
  let s := ((s.put F.PLT_LPC_STATUS.holdover false).put F.PLT_LPC_STATUS.line_down false).wr F.PLT_LPC_STATUS.missed_beacons 0
  { s with plt := { s.plt with beaconOk := true, syncOk := true, silent := 0, holdCount := 0, firstBeacon := false, lpcInvalid := false } }

/-- The line state a beacon shows is followed; the reserved value keeps the last one (R68, R139, R143). A line that was down comes back with
an event of its own. -/
def State.followState (s : State) (x : Beacon) (wasDown : Bool) : State :=
  if x.lineState = 3 then s
  else if wasDown ∧ s.lineState .a = x.lineState then s.raise 10 x.lineState 0 0 0
  else s.setLineState .a x.lineState

/-- The role of a follower: rearguard when the beacon names it (R166). -/
def State.followRole (s : State) (x : Beacon) : State :=
  s.wr F.LINE_MASTER_STATUS.role (if x.rearguardPresent && decide (s.addr .a = some x.rearguardAddr) && s.masterCapable then 2 else 0)

/-- The journal holds a message of type `typ` received since cycle `c`. -/
def Rearguard.holdsSince (r : Rearguard) (c : Word) (typ : Nat) : Bool :=
  r.journal.any (fun e => decide (e.2.1.toNat = typ) && !later c e.1)

/-- A beacon's epochs are explained by the journal, or leave a gap (R171). `since` is the cycle of the last beacon. -/
def State.checkEpochs (s : State) (x : Beacon) (since : Word) : State :=
  if !s.isRearguard then { s with rear := { s.rear with epochs := none } }
  else
    let gap := match s.rear.epochs with
      | none => false
      | some (l, r) => (decide (l ≠ x.leaseEpoch) && !s.rear.holdsSince since tyLeaseGrant) || (decide (r ≠ x.rosterEpoch) && !s.rear.holdsSince since tyRoster)
    let s := { s with rear := { s.rear with epochs := some (x.leaseEpoch, x.rosterEpoch) } }
    if gap then ({ s with rear := { s.rear with gap := some x.cycle } }).put F.LINE_CKPT_ERR.journal_gap true else s

/-- The groups of the listen set that leases of node `a` carry, in the node's copy of the lease table. -/
def State.groupsOfHolder (s : State) (a : Nat) : List Nat :=
  (List.range 64).filter (fun g => s.listens g && (List.range 64).any (fun k =>
    match Cells.get (fun _ => none) s.link.table k with | some (r : LeaseRow) => decide (r.holder = a) && decide (r.group = g) | none => false))

/-- The node follows another master now (R111, R159, R175, R183, R191). `old` is the last beacon of the one before. -/
def State.changeMaster (s : State) (x old : Beacon) (rebased : Bool) : State :=
  let s := if old.priority = 0 then (s.groupsOfHolder old.masterAddr).foldl (fun t g => t.routeLost .a 1 g) s else s
  let s := { s with rear := Rearguard.reset }
  let s := s.raise 11 x.masterAddr 0 (s.rf F.LINE_MASTER_STATUS.role) (BitVec.ofNat 32 (x.masterUid.toNat % 2 ^ 32))
  let s := s.statusDue .a
  if rebased || (s.addr .a).isNone then s
  else (s.modLnk .a (fun l => { l with reRange := some x.cycle, reRangeRung := false })).put F.LINE_MASTER_STATUS.re_ranging true

/-- An unaddressed, locked node counts an open cycle of its backoff (Listing 3-1). -/
def State.joinCycle (s : State) (x : Beacon) : State :=
  if s.joining .a && x.joinOpen && decide (s.link.joinWindow ≠ 0) && s.link.joinSent.isNone then
    s.modLnk .a (fun l => { l with joinWait := l.joinWait - 1 })
  else s

/-! ### A waystation's port B (R180 to R183, L64B) -/

/-- The node is set up as a waystation. -/
def State.isWay (s : State) : Bool := s.isB && s.on F.LINE_ROLE.way_en && s.on F.LINE_PORT_CTL.b_en

/-- The port-B role becomes `n`; standing by and depth exceeded are told (R181). -/
def State.setBRole (s : State) (n : Nat) : State :=
  if s.rf F.LINE_WAY_STATUS.b_role = n then s
  else
    let s := s.wr F.LINE_WAY_STATUS.b_role n
    if n = 2 then s.routeLost .b 4 0xFF else if n = 3 then s.routeLost .b 3 0xFF else s

/-- The node's own roster row on a port it masters (R156, R164). -/
def State.ownRow (s : State) (p : Port) (admitted : Nat) : MasterRow :=
  { row := { addr := (s.addr p).getD 0, uid := s.dev.uid, room := BitVec.ofNat 16 (s.rf F.MIX_ROOM.room_id),
             flags := rosterFlags admitted s.masterCapable false s.isB (s.on F.GLB_STATUS.manifest_defaulted) false (s.on F.LINE_ROLE.rearguard_en) }
    rtd := 0, profile := ⟨0, 1, 0, 0⟩, declared := classOf (s.rf F.CFG_NODE.declared_class), admitted := admitted
    prio := some (s.rf F.LINE_ROLE.priority), sleeping := false, listen := s.reg64 F.MIX_LISTEN0.groups.off F.MIX_LISTEN1.groups.off
    unheard := 0, polls := 0, pollReason := none, pollSent := none, stalePoll := none }

/-- The master keeps the address it held on the port, or takes address 0 (R156). -/
def State.takeAddr (s : State) (p : Port) : State :=
  if (s.addr p).isSome then s
  else ((s.put (lkF p F.LINE_ADDR.assigned) true).wr (lkF p F.LINE_ADDR.addr) 0).wr (lkF p F.LINE_ADDR.rtd) 0

/-- The master admits its own class beside the roster's and enters itself (R156, R163, R164). A waystation's class is port A's. -/
def State.enterSelf (s : State) (p : Port) : State :=
  let s := s.takeAddr p
  let own := (s.addr p).getD 0
  let others := ((s.mst p).roster.filter (fun r => decide (r.row.addr ≠ own))).map (fun r => classLimit r.admitted)
  let c := s.grantClass (others.foldl (· + ·) 0) (classOf (s.rf F.CFG_NODE.declared_class))
  let s := s.modMst p (fun m => { m with roster := insertRow (s.ownRow p c) m.roster })
  match p with
  | .a => (s.ownClass c).showAdmitted p
  | .b => s

/-- A LEASE_AUDIT is queued; its contents are formed when it is sent. -/
def State.postAudit (s : State) (p : Port) (part : Nat) (demand empty : Bool) : State :=
  s.post p (newMsg s.lpc 0xFF tyLeaseAudit [] (.audit part demand empty))

/-- Cold start of enumeration: an audit with no holders, a full roster with no entries (R177). -/
def State.coldStart (s : State) (p : Port) : State :=
  let s := (s.postAudit p 0 true true).postAudit p 1 true true
  (s.post p (newMsg s.lpc 0xFF tyRoster (rosterPayload 0 0 1 (s.mst p).rosterEpoch []) .none)).bump F.LINE_CKPT_ERR.cold_starts

/-- The waystation starts mastering port B (R180, R182). -/
def State.startB (s : State) : State :=
  match s.link.beacon with
  | none => s
  | some a =>
    let s := { s with way := { s.way with bTree := some (a.rootLineId, a.hop + 1), linkB := Link.reset, masterB := Master.reset } }
    let s := (s.setBRole 1).enterSelf .b
    match s.way.bBeacon with
    | some b => if 1 ≤ b.priority then s.coldStart .b else s
    | none => s

/-- The waystation stops mastering port B: role `n` follows. -/
def State.stopB (s : State) (n : Nat) : State :=
  let s := (s.way.proxies.filter (fun x => decide (x.src = .b))).foldl (fun t x => t.dropTalk .a (.proxy x.id)) s
  { (s.setBRole n).put F.LINE_WAY_STATUS.island false with
    way := { s.way with masterB := Master.reset, linkB := Link.reset, proxies := [], callMap := [], plans := [] } }

/-- After each beacon accepted on port A: the tree of port B follows it, and mastering starts or stops (R180, R181, R183). -/
def State.wayStep (s : State) (x : Beacon) : State :=
  if !s.isWay then (if s.mastering .b then s.stopB 0 else s)
  else if 7 ≤ x.hop then (if s.mastering .b then s.stopB 3 else s.setBRole 3)
  else if s.mastering .b then { s.put F.LINE_WAY_STATUS.island false with way := { s.way with bTree := some (x.rootLineId, x.hop + 1) } }
  else if s.rf F.LINE_WAY_STATUS.b_role = 2 then s
  else if s.locked then s.startB else s

/-! ### BEACON_ACCEPTED -/

/-- The first Active beacon after a Quiet one starts the count of each standing request that has been rung (R441). -/
def Link.restartCounts (l : Link) (now : Word) : Link :=
  { l with reqs := l.reqs.map (fun q => if q.standing ∧ q.phase = .sent then { q with sentAt := now } else q) }

/-- What a follower does with a beacon it accepts. -/
def State.acceptBeacon (s : State) (x : Beacon) (d : Int) : State :=
  let old := s.link.beacon
  let wasDown := s.lineDown
  let since := match old with | some b => b.cycle | none => x.cycle
  let j := s.place x d
  let s := (s.mismatchStep j d).adoptCycle x j
  let s := ((s.lockStep j).endHoldover).modLnk .a (fun l => { l with beacon := some x })
  let s := { s with plt := { s.plt with sym := 224 } }
  let s := (s.wr F.PLT_CLK_ERR.freq_err (Config.freqErr s.free)).takeFree 1
  let s := (s.wr F.LINE_MASTER_STATUS.hop x.hop).followRole x
  let s := (s.followState x wasDown).checkEpochs x since
  let s := match old with
    | some b => if j.newMaster then s.changeMaster x b j.rebase else s
    | none => s
  let woken := match old with | some b => decide (b.lineState ≠ 0) && decide (x.lineState = 0) | none => false
  let s := if woken then s.modLnk .a (fun l => l.restartCounts s.lpc) else s
  (s.joinCycle x).wayStep x

/-- This master's own beacon as others judge it. -/
def State.ownBeacon (s : State) (p : Port) : Option Beacon :=
  match (s.mst p).last with
  | some b => some b
  | none => (s.mst p).next

/-- A master that hears beacon `x` yields to it (R157). -/
def State.yields (s : State) (own x : Beacon) : Bool :=
  let tree := decide (x.rootLineId = own.rootLineId) && decide (x.cycle = s.lpc)
  let better := betterBeacon x own
  (better && !(tree && decide (x.priority ≠ 0))) || (tree && !better && decide (own.priority ≠ 0))

/-- A beacon on port A (R67, R155, R157, R678): at most one is accepted in a cycle. -/
def State.beaconOnA (s : State) (b : BeaconBurst) : State :=
  let s := if 60 ≤ b.syncMatches then { s with plt := { s.plt with syncOk := true } } else s
  if !beaconGood b then (s.bump F.LINE_RX_ERR0.beacon_crc).stim 8 (256 * s.rf F.PLT_LPC_STATUS.missed_beacons)
  else
    let x := parseBeacon b.body
    if s.mastering .a then
      match s.ownBeacon .a with
      | some own => if s.yields own x then (s.stepDown .a).acceptBeacon x b.displacement else s
      | none => (s.stepDown .a).acceptBeacon x b.displacement
    else if s.plt.beaconOk || (!s.searches && decide (64 < b.displacement.natAbs)) then s
    else
      let s := if s.rf F.LINE_MASTER_STATUS.role = 3 then s.stepDown .a else s
      s.acceptBeacon x b.displacement

/-- A beacon on port B: of another master, or of one the waystation stands by for (R157, R181). -/
def State.beaconOnB (s : State) (b : BeaconBurst) : State :=
  if !beaconGood b then (s.bump (rxF .b F.LINE_RX_ERR0.beacon_crc)).stim 8 1
  else
    let x := parseBeacon b.body
    let s := { s with way := { s.way with bBeacon := some x, bMissing := 0 } }
    if s.mastering .b then
      match s.ownBeacon .b with
      | some own => if s.yields own x then s.stopB 2 else s
      | none => s
    else
      let sameTree := match s.link.beacon with | some a => decide (a.rootLineId = x.rootLineId) | none => false
      if s.isWay && decide (x.priority = 0) && sameTree then s.setBRole 2 else s

/-- BEACON_ACCEPTED (R67). The command follows the CYCLE_BOUNDARY that begins the beacon's cycle on the node's own LPC. -/
def execBeaconAccepted (b : BeaconBurst) (s : State) : Host.Outcome State Fault Refusal :=
  .next (if !s.hears b.port then s
    else match b.port with
      | .a => s.beaconOnA b
      | .b => s.beaconOnB b)

/-! ### BEACON_MISSING, LINE_DOWN -/

/-- A beacon is expected on port A in this cycle (R678, R28, R541, R542). -/
def State.expectsBeacon (s : State) : Bool :=
  s.phyOn && s.phy.on && !s.mastering .a && !s.plt.firstBeacon && !s.plt.lpcInvalid && !s.pins.resetHeld
    && (decide (s.lineState .a = 0) || quietBeaconCycle s.lpc) && (decide (s.pwr.state ≠ 3) || decide (s.phy.watch = some s.lpc))

/-- BEACON_MISSING (R678): the search window has closed without an accepted beacon, and the node holds over (R27, R26). On port B the
waystation counts the beacon it stands by for (R181). -/
def execBeaconMissing (p : Port) (s : State) : Host.Outcome State Fault Refusal :=
  .next (match p with
    | .a =>
      if !s.expectsBeacon || s.plt.beaconOk then s
      else
        let s := (s.put F.PLT_LPC_STATUS.holdover true).bump F.PLT_LPC_STATUS.missed_beacons
        let n := if s.pwr.state = 3 ∧ s.lineState .a = 0 then 8 else 1
        { s with plt := { s.plt with holdCount := s.plt.holdCount + n, lockRun := if s.locked then s.plt.lockRun else 0 } }
    | .b => if s.isB ∧ s.rf F.LINE_WAY_STATUS.b_role = 2 then { s with way := { s.way with bMissing := s.way.bMissing + 1 } } else s)

/-- Cycles or beacons of holdover before the line is declared down (R44, Table 1-16). -/
def State.downLimit (s : State) : Nat :=
  if s.lineState .a = 0 then max 16 (s.rf F.PLT_HOLD_CTL.active_down_cycles) else max 4 (s.rf F.PLT_HOLD_CTL.quiet_down_beacons)

/-- A waystation whose port A is down goes on as an island (R183): its own leases on port B, the proxies, lose their
routes. -/
def State.islandStep (s : State) : State :=
  if !s.mastering .b then s
  else
    let own := s.addr .b
    let gs := (List.range 64).filter (fun g => s.listens g && (List.range 64).any (fun k =>
      match s.way.masterB.lease k with | some l => decide (own = some l.holder) && decide (l.group = g) | none => false))
    gs.foldl (fun t g => t.routeLost .b 2 g) (s.put F.LINE_WAY_STATUS.island true)

/-- LINE_DOWN (R44): on port A; nothing follows on port B, which no node of this part follows. -/
def execLineDown (p : Port) (s : State) : Host.Outcome State Fault Refusal :=
  .next (if p = .a ∧ !s.mastering .a ∧ !s.lineDown ∧ s.on F.PLT_LPC_STATUS.holdover ∧ s.downLimit ≤ s.plt.holdCount then
      let s := if s.pwr.state = 3 then s.wakeBy 1 else s
      let s := (s.put F.PLT_LPC_STATUS.line_down true).put F.PLT_LPC_STATUS.locked false
      let s := { s with plt := { s.plt with lockRun := 0 } }
      ((s.raise 10 3 0 0 0).endAllCalls 3).islandStep
    else s)

/-- WAYSTATION_STANDBY_EXPIRY (R181): the beacon it stood by for has been missing for 64 cycles. -/
def execWaystationStandbyExpiry (s : State) : Host.Outcome State Fault Refusal :=
  .next (if s.isWay ∧ s.rf F.LINE_WAY_STATUS.b_role = 2 ∧ 64 ≤ s.way.bMissing then
      let s := ({ s with way := { s.way with bMissing := 0, bBeacon := none } }).wr F.LINE_WAY_STATUS.b_role 0
      if s.locked then s.startB else s
    else s)

/-! ### Compare units, scheduled descriptors, strobes (R33 to R36, R49, R554) -/

/-- FIRMWARE_COMPARE_FIRE (R33): the unit's position has come; in S2 and S3 it wakes the node in the cycle before (R554). -/
def execFirmwareCompareFire (u : Fin 6) (s : State) : Host.Outcome State Fault Refusal :=
  .next (match s.plt.units.getD u.val none with
    | none => s
    | some d =>
      if !s.phyOn || s.pins.resetHeld then s
      else if 2 ≤ s.pwr.state then (if later (d.cycle - 1) s.lpc then s else (s.stim 14 u.val).wakeBy 4096)
      else if later d.cycle s.lpc then s
      else
        let late := later s.lpc d.cycle
        let s := s.stim 14 (u.val + 256 * bit late)
        let s := if late then s.setBit F.PLT_CMP_STATUS.late u.val else s
        let s := ({ s with plt := { s.plt with units := s.plt.units.set u.val none } }).clrBit F.PLT_CMP_STATUS.armed u.val
        (s.armUnits 6).wakeBy 4096)

/-- A scheduled descriptor whose due cycle has come, and what it carries. -/
def State.dueDescriptor (s : State) (c : Nat) : Option (Nat × InFlight × List Byte) :=
  let fl := (s.client c).flight
  (List.range fl.length).findSome? (fun j => match fl[j]? with
    | some x => match x.phase with
      | .scheduled due buf => if later due s.lpc || !s.runsFor c x then none else some (j, x, buf)
      | _ => none
    | none => none)

/-- The effect of a scheduled descriptor at symbol 0 of its due cycle (R433, R434). -/
def State.startDue (s : State) (c j : Nat) (d : Desc) (buf : List Byte) : State :=
  match d.opcode with
  | 0x01 => s.doNop c j
  | 0x10 => s.doListenSet c j d true
  | 0x11 => s.doTalkOpen c j d
  | 0x12 => s.doTalkClose c j d
  | 0x13 => s.doPrecedenceSet c j d true
  | 0x14 => s.doRoomSet c j d true
  | 0x30 => s.doCallSend c j d
  | 0x40 => s.doLedgerSend c j d buf
  | 0x91 => s.doConfigApply c j d true
  | _ => s

/-- SCHEDULED_DESCRIPTOR_START (R35): at symbol 0, in the order of the client's ring. -/
def execScheduledDescriptorStart (c : Client) (s : State) : Host.Outcome State Fault Refusal :=
  .next (if s.plt.sym ≠ 0 then s
    else match s.dueDescriptor c with
      | none => s
      | some (j, x, buf) =>
        let s := (s.dropDeadlines (fun d => decide (d.client = c.val) && decide (d.id = x.desc.id))).stim 5 (x.desc.id.toNat + 65536 * c.val)
        (s.startDue c j x.desc buf).settle c)

/-- STROBE_PULSE_START (R34): at the programmed symbol of a cycle whose number is a multiple of the period; not while the LPC is invalid (R47). -/
def execStrobePulseStart (u : Fin 2) (s : State) : Host.Outcome State Fault Refusal :=
  let at_ := s.rf (F.PLT_STROBE_CTL.symbol u.val)
  let period := s.rf (F.PLT_STROBE_CTL.period u.val)
  .next (if s.on (F.PLT_STROBE_CTL.en u.val) ∧ at_ ≤ 15624 ∧ period ≠ 0 ∧ s.lpc.toNat % period = 0 ∧ s.plt.sym ≤ at_ ∧ !s.plt.lpcInvalid
        ∧ !s.pins.resetHeld then
      ({ s with plt := { s.plt with sym := at_, strobes := s.plt.strobes.set u.val true } }).showGpio
    else s)

/-- STROBE_PULSE_END (R34). -/
def execStrobePulseEnd (u : Fin 2) (s : State) : Host.Outcome State Fault Refusal :=
  .next ({ s with plt := { s.plt with strobes := s.plt.strobes.set u.val false } }).showGpio

end Sys2Proof.Machine
end

