-- ==== Sys2Proof/Machine/Mastery.lean ====
section
/-! DEFINITION. The line master's own time: elections, the beacons it commits and sends, collisions, the horn and the Quiet line, its periodic
messages, checkpoints, lapses and the takeover of a rearguard (R127 to R129, R138 to R142, R151 to R182, R190 to R193). -/

namespace Sys2Proof.Machine

/-! ### The beacon (Table 2-5, R127, R161) -/

/-- Slots that are leased: those whose LEASE_GRANT has been sent. -/
def Master.leased (m : Master) : List MLease := (List.range 64).filterMap m.inForce

/-- The line state a beacon of cycle `c` shows (R138, R141, Table 3-12). -/
def State.stateFor (s : State) (p : Port) (c : Word) : Nat :=
  let m := s.mst p
  match m.horn with
  | some h => if later (h + 3) c then 2 else 0
  | none => match m.quietAt with
    | some q => if later q c then s.lineState p else 1
    | none => s.lineState p

/-- Root line ID and hop of the beacons: those in use, or the node's own at hop 0 (R156, R173, R180). -/
def State.treeOf (s : State) (p : Port) : Word × Nat :=
  match p with
  | .b => s.way.bTree.getD (0, 0)
  | .a => match s.master.last with
    | some b => (b.rootLineId, b.hop)
    | none => (if s.on F.LINE_ROOT_ID.line_id then s.reg F.LINE_ROOT_ID.line_id.off else s.dev.uid.setWidth 32, 0)

/-- The join window of cycle `c` is open (R114, R140). -/
def State.joinOpenIn (s : State) (p : Port) (c : Word) : Bool :=
  if s.stateFor p c = 0 then (match (s.mst p).takeover with | some t => !later (t + 64) c | none => true)
  else s.on (lkF p F.LINE_QUIET_CTL.join_in_quiet)

/-- What CC supplies for the beacon of cycle `c` (Table 2-5, R127). -/
def State.compose (s : State) (p : Port) (c : Word) : Beacon :=
  let m := s.mst p
  let ls := m.leased
  let owner := if s.stateFor p c = 0 then m.owner else none
  { cycle := c, rootLineId := (s.treeOf p).1, masterAddr := (s.addr p).getD 0, hop := (s.treeOf p).2, lineState := s.stateFor p c,
    joinOpen := s.joinOpenIn p c, rearguardPresent := m.rearguard.isSome, emergency := ls.any (fun l => decide (l.prec = 3)),
    ledgerOwner := owner.getD 0, noOwner := owner.isNone, rearguardAddr := m.rearguard.getD 0, priority := s.priority p, masterUid := s.dev.uid,
    leaseEpoch := m.leaseEpoch, rosterEpoch := m.rosterEpoch, freeSlots := 64 - ls.length, topPrecedence := (ls.map (fun l => l.prec)).foldl max 0 }

/-- Cycle `c` carries no beacon: it falls in a horn, or between the Quiet beacons (R65, Table 3-12). -/
def State.noBeacon (s : State) (p : Port) (c : Word) : Bool :=
  match (s.mst p).horn with
  | some h => !later h c && later (h + 3) c || (decide (s.stateFor p c ≠ 0) && !quietBeaconCycle c)
  | none => decide (s.stateFor p c ≠ 0) && !quietBeaconCycle c

/-- BEACON_COMMIT (R161): at symbol 15,000 the contents CC has supplied, or LS's repeat of the previous ones. -/
def execBeaconCommit (p : Port) (ccReady : Bool) (s : State) : Host.Outcome State Fault Refusal :=
  .next (if !s.mastering p || !s.hears p then s
    else
      let s := { s with plt := { s.plt with sym := max s.plt.sym 15000 } }
      let c := s.lpc + 1
      if s.noBeacon p c then s.modMst p (fun m => { m with next := none, owner := none })
      else if ccReady && s.ccLink then
        let b := s.compose p c
        s.modMst p (fun m => { m with next := some b, stalled := false, owner := none })
      else s.modMst p (fun m => { m with next := m.last.map (fun b => { b with cycle := c, noOwner := true }), stalled := true, owner := none }))

/-- The master is established: it has sent beacons for 64 consecutive cycles (R156). -/
def State.established (s : State) (p : Port) : Bool :=
  match p with | .a => s.on F.LINE_MASTER_STATUS.established | .b => decide (64 ≤ s.way.masterB.sentRun)

/-- What sending a beacon does to the master's own line time: it is locked to its own LPC (R93), and its node follows its own line state. -/
def State.ownTime (s : State) (p : Port) (b : Beacon) : State :=
  let s := (s.modLnk p (fun l => { l with beacon := some b })).setLineState p b.lineState
  match p with
  | .b => s
  | .a =>
    let s := ((s.put F.PLT_LPC_STATUS.locked true).put F.PLT_LPC_STATUS.ever_locked true).endHoldover
    let s := s.wr F.LINE_MASTER_STATUS.hop b.hop
    let s := if 64 ≤ s.master.sentRun then s.put F.LINE_MASTER_STATUS.established true else s
    s.wayStep b

/-- D of R155. -/
def State.startDelay (s : State) : Nat :=
  16 * s.priority .a + (toBe 6 s.dev.uid.toNat).foldl (fun x b => Nat.xor x b.toNat) 0 % 16

/-- A beacon collision (R158, Table 4-2, R192). -/
def State.collide (s : State) (p : Port) (draw : Nat) : State :=
  let s := s.bump F.LINE_MASTER_STATUS.collisions
  if (s.mst p).takeover.isSome then
    let s := (s.stepDown p).wr F.LINE_MASTER_STATUS.role 2
    let s := (s.put F.LINE_MASTER_STATUS.re_ranging false).modLnk p (fun l => { l with beacon := s.rear.followed })
    { s with rear := { s.rear with followed := none } }
  else if s.priority p = 0 then
    (if s.established p then s else s.modMst p (fun m => { m with backoff := some (draw + 1), sentRun := 0 }))
  else if s.established p then
    let near := s.lpc :: (s.mst p).collisions.filter (fun c => decide ((s.lpc - c).toNat < 64))
    if 3 ≤ near.length then s.stepDown p else s.modMst p (fun m => { m with collisions := near })
  else
    let d := s.startDelay + 64
    ((s.stepDown p).wr F.LINE_MASTER_STATUS.role 3).modMst p (fun m => { m with delay := some d })

/-- BEACON_SEND (R156): at symbol 0, the contents committed for this cycle. A waystation sends on port B while port A is locked or it is an
island (R180, R183). `differing` body symbols were off level (R158). -/
def execBeaconSend (p : Port) (differing : Nat) (draw : Fin 16) (s : State) : Host.Outcome State Fault Refusal :=
  let m := s.mst p
  .next (match m.next with
    | none => s
    | some b =>
      if !s.mastering p || !s.hears p || decide (b.cycle ≠ s.lpc) || m.backoff.isSome || s.sentBeacon p
          || (decide (p = .b) && !s.locked && !s.on F.LINE_WAY_STATUS.island) then s
      else
        let run := match m.last with | some l => if l.cycle + 1 = b.cycle ∨ 64 ≤ m.sentRun then m.sentRun + 1 else 1 | none => 1
        let back := b.lineState = 0
        let s := s.modMst p (fun m => { m with next := none, last := some b, sentRun := run, horn := if back then none else m.horn,
                                               idle := if back ∧ m.horn.isSome then 0 else m.idle })
        let s := (s.drive (.beacon p (beaconBody b))).ownTime p b
        if 4 ≤ differing then s.collide p draw.val else s)

/-- COLLISION_BACKOFF_EXPIRY (R158): the drawn cycles are over. -/
def execCollisionBackoffExpiry (p : Port) (s : State) : Host.Outcome State Fault Refusal :=
  .next (if s.mastering p ∧ (s.mst p).backoff = some 0 then s.modMst p (fun m => { m with backoff := none }) else s)

/-! ### Election (R154 to R156) -/

/-- listen_cycles; values below 1,100 act as 1,100 (Table 4-10). -/
def State.listenCycles (s : State) : Nat := max 1100 (s.rf F.LINE_ELECT_CTL.listen_cycles)

/-- ELECTION_START (R154, R193). -/
def execElectionStart (s : State) : Host.Outcome State Fault Refusal :=
  let role := s.rf F.LINE_MASTER_STATUS.role
  let silent := role = 0 ∧ s.plt.firstBeacon = true ∧ s.listenCycles ≤ s.plt.silent
  .next (if s.masterCapable ∧ s.hears .a ∧ s.ccLink ∧ (role = 0 ∨ role = 2) ∧ (silent ∨ s.lineDown) then
      { (s.wr F.LINE_MASTER_STATUS.role 3) with master := { Master.reset with delay := some s.startDelay }, rear := Rearguard.reset }
    else s)

/-- ELECTION_DELAY_EXPIRY (R156, R161): the delay counts as ending at symbol 0 of the first cycle whose beacon CC has supplied. The node
continues its own LPC, or starts at cycle 0. -/
def execElectionDelayExpiry (s : State) : Host.Outcome State Fault Refusal :=
  .next (if s.rf F.LINE_MASTER_STATUS.role = 3 ∧ s.master.delay = some 0 ∧ s.ccLink ∧ s.hears .a then
      let s := if s.on F.PLT_LPC_STATUS.ever_locked then s else { s with plt := { s.plt with lpc := 0, sym := 0 } }
      let s := (s.loseAll .a 2).modLnk .a (fun l => { l with reRange := none, table := [], roster := [], parts := none })
      let s := { (s.wr F.LINE_MASTER_STATUS.role 1) with master := Master.reset }
      let s := (s.wr (lkF .a F.LINE_LINK_STATUS.line_state) 0).enterSelf .a
      s.modMst .a (fun m => { m with next := some (s.compose .a s.lpc) })
    else s)

/-! ### Horn and Quiet line (R89, R138, R141 to R143) -/

/-- Horn length in periods (R142). -/
def State.hornPeriods (s : State) (p : Port) : Nat := min 585 (max 391 (s.rf (lkF p F.LINE_QUIET_CTL.horn_periods)))

/-- HORN_START (R141). -/
def execHornStart (p : Port) (s : State) : Host.Outcome State Fault Refusal :=
  .next (if s.mastering p ∧ s.hears p ∧ (s.mst p).horn = some s.lpc ∧ !s.phy.hornOn then
      let s := { s with phy := { s.phy with hornOn := true } }
      s.drive (.horn (s.hornPeriods p))
    else s)

/-- HORN_END (R89). -/
def execHornEnd (p : Port) (s : State) : Host.Outcome State Fault Refusal :=
  .next (if s.mastering p then { s with phy := { s.phy with hornOn := false } } else s)

/-- HORN_DETECTED (R143): a node whose PHY is on treats the line as Active. -/
def execHornDetected (s : State) : Host.Outcome State Fault Refusal :=
  .next (if s.hears .a && !s.mastering .a then s.setLineState .a 0 else s)

/-- No lease stands on port `p`. -/
def State.noLeases (s : State) (p : Port) : Bool := decide ((s.mst p).freeList.length = 64)

/-- QUIET_ENTRY (R138): the directive is queued; its quiet_cycle is set when it is sent. -/
def execQuietEntry (p : Port) (s : State) : Host.Outcome State Fault Refusal :=
  let m := s.mst p
  let after := s.rf (lkF p F.LINE_QUIET_CTL.quiet_after_s)
  .next (if s.mastering p ∧ s.ccLink ∧ s.lineState p = 0 ∧ after ≠ 0 ∧ 1000 * after ≤ m.idle ∧ s.noLeases p ∧ m.queue.isEmpty ∧ m.quietAt.isNone
        ∧ m.horn.isNone ∧ m.takeover.isNone ∧ !(s.lnk p).urgent.any (fun x => decide (x.owner = .quiet)) then
      s.post p (newMsg s.lpc 0xFF tyPowerDirective [] .quiet)
    else s)

/-- QUIET_CYCLE (R138): from quiet_cycle on the line is Quiet; no snapshot is taken while it is (R168). -/
def execQuietCycle (p : Port) (s : State) : Host.Outcome State Fault Refusal :=
  .next (match (s.mst p).quietAt with
    | some q => if s.mastering p ∧ !later q s.lpc then
        (s.modMst p (fun m => { m with quietAt := none, owner := none })).setLineState p 1 else s
    | none => s)

/-! ### Periodic messages (R112, R129) -/

/-- The master's CC works on an Active line. -/
def State.works (s : State) (p : Port) : Bool := s.mastering p && s.ccLink && decide (s.lineState p = 0) && (s.mst p).horn.isNone

/-- ROSTER_FULL_PART (R112): the parts in turn; after a takeover not before t + 64 (Table 4-5). -/
def execRosterFullPart (p : Port) (s : State) : Host.Outcome State Fault Refusal :=
  .next (if s.works p && (s.mst p).takeover.isNone then
      let i := (s.mst p).rosterPart % rosterParts (s.mst p)
      (s.rosterPart p i).modMst p (fun m => { m with rosterPart := (i + 1) % rosterParts m })
    else s)

/-- TIME payload (Table 3-8). -/
def timePayload (cycle : Word) (utc : Dword) (offset : Half) (valid : Bool) : List Byte :=
  toBe 4 cycle.toNat ++ toBe 8 utc.toNat ++ toBe 2 offset.toNat ++ [0, BitVec.ofNat 8 (bit valid)]

/-- TIME_PERIODIC (R112): also after every change of the time source. -/
def execTimePeriodic (p : Port) (utc : Dword) (offset : Half) (valid : Bool) (s : State) : Host.Outcome State Fault Refusal :=
  .next (if s.works p then s.post p (newMsg s.lpc 0xFF tyTime (timePayload s.lpc utc offset valid) .none) else s)

/-- LEASE_AUDIT_PERIODIC (R129): both parts. -/
def execLeaseAuditPeriodic (p : Port) (s : State) : Host.Outcome State Fault Refusal :=
  .next (if s.works p then (s.postAudit p 0 false false).postAudit p 1 false false else s)

/-! ### Checkpoints (R168, R169) -/

/-- CHECKPOINT_SNAPSHOT (R168): 100 cycles after the previous snapshot, and after its last part. -/
def execCheckpointSnapshot (p : Port) (s : State) : Host.Outcome State Fault Refusal :=
  let m := s.mst p
  let due := match m.snapshot with | none => true | some c => decide (100 ≤ (s.lpc - c).toNat) && !m.ckptSending
  .next (match m.rearguard with
    | none => s
    | some r =>
      if !s.works p || m.takeover.isSome || !due then s
      else
        let n := m.ckptNumber + 1
        let data := s.ckptData p
        let stream := data ++ toBe 4 (ckptCrc n data)
        let count := (stream.length + 151) / 152
        let s := s.modMst p (fun m => { m with ckptNumber := n, snapshot := some s.lpc, ckptSending := true })
        s.postParts p r n count stream 0 count)

/-! ### Lapses, expiries -/

/-- The waystation's own lease on port B ends: its route is lost to its own clients (R183). -/
def State.ownRouteEnds (s : State) (p : Port) (l : MLease) : State :=
  if p = .b ∧ s.addr .b = some l.holder ∧ s.listens l.group then s.routeLost .b 0 l.group else s

/-- LEASE_LAPSE (R128, Table 3-10). -/
def execLeaseLapse (p : Port) (k : Fin 64) (s : State) : Host.Outcome State Fault Refusal :=
  .next (match (s.mst p).lease k.val with
    | some l => if s.works p ∧ 8 ≤ l.missed then
        ((s.leaseChange p (fun m => m.freeSlots [k.val] 5)).bump (lkF p F.LINE_LINK_ERR2.leases_lapsed)).ownRouteEnds p l else s
    | none => s)

/-- The roster loses the node of address `a` (R162, R165, R166). -/
def State.removeNode (s : State) (p : Port) (r : MasterRow) : State :=
  let s := s.modMst p (fun m => { m with roster := m.roster.filter (fun x => decide (x.row.addr ≠ r.row.addr)),
                                         queue := m.queue.filter (fun q => decide (q.addr ≠ r.row.addr)) })
  let s := s.rosterDelta p [{ r.row with flags := r.row.flags ||| 0x40 }]
  let s := s.untrain p r.row.addr
  (s.offerClasses p).nameRear p

/-- ROSTER_ENTRY_EXPIRY (R162). -/
def execRosterEntryExpiry (p : Port) (a : Fin 128) (s : State) : Host.Outcome State Fault Refusal :=
  .next (match (s.mst p).rowOf a.val with
    | some r => if s.works p ∧ 196608 ≤ r.unheard ∧ s.addr p ≠ some a.val then s.removeNode p r else s
    | none => s)

/-! ### Takeover (R172 to R177) -/

/-- A row of the checkpoint's roster (Table 4-4, R165). -/
def ckptRow (d : List Byte) (o : Nat) : MasterRow :=
  let flags : Byte := BitVec.ofNat 8 (byteAt d (o + 9))
  let g := byteAt d (o + 12)
  let f := byteAt d (o + 13)
  { row := { addr := byteAt d o % 128, uid := BitVec.ofNat 48 (beAt d (o + 1) 6), room := BitVec.ofNat 16 (beAt d (o + 7) 2), flags := flags }
    rtd := beAt d (o + 10) 2, profile := ⟨g % 64, f % 8, g / 64, f / 8 % 4⟩, declared := classOf flags.toNat, admitted := classOf flags.toNat
    prio := none, sleeping := flags.getLsbD 3, listen := 0, unheard := 0, polls := 0, pollReason := none, pollSent := none, stalePoll := none }

/-- The master's state as a checkpoint holds it (Table 4-4); every missed count restarts at 0 (R173). -/
def rebuild (d : List Byte) (snapshot : Word) : Master :=
  let n := byteAt d 24
  let q := 288 + 14 * n
  let leases := (List.range 64).foldl (fun (m : Master) k =>
    let o := 32 + 4 * k
    if byteAt d o = 0xFF then m
    else m.setLease k (some { holder := byteAt d o, group := byteAt d (o + 1) % 64, prec := byteAt d (o + 1) / 64, format := byteAt d (o + 2),
                              missed := 0, held := true, heard := false, stamp := 0, sentAt := some snapshot })) Master.reset
  { leases with
    leaseEpoch := BitVec.ofNat 16 (beAt d 12 2), rosterEpoch := BitVec.ofNat 16 (beAt d 14 2), served3 := byteAt d 16, served5 := byteAt d 17
    idle := 1000 * beAt d 20 4
    roster := (List.range n).map (fun i => ckptRow d (288 + 14 * i))
    queue := (List.range (byteAt d 25)).map (fun j =>
      let o := q + 8 * j
      { addr := byteAt d o, group := byteAt d (o + 1), format := byteAt d (o + 2), prec := byteAt d (o + 3), catchup := byteAt d (o + 4),
        reqId := BitVec.ofNat 16 (beAt d (o + 6) 2) })
    stamp := 1 }

/-- A queued request that an entry answers. -/
def queuedFor (e : GrantEntry) (q : MReq) : Bool := decide (q.addr = e.holder) && decide (q.reqId = e.reqId)

/-- One LEASE_GRANT entry of the journal (R171). -/
def Master.replayEntry (m : Master) (at_ : Word) (e : GrantEntry) : Master :=
  let drop (m : Master) : Master := { m with queue := m.queue.eraseP (queuedFor e) }
  match e.code with
  | 0 => (drop m).setLease e.slot (some { holder := e.holder, group := e.group, prec := e.prec, format := e.format, missed := 0, held := false,
                                          heard := false, stamp := m.stamp, sentAt := some at_ })
  | 1 => if m.queue.any (queuedFor e) then m
         else { m with queue := insertReq { addr := e.holder, group := e.group, format := e.format, prec := e.prec, catchup := 0, reqId := e.reqId } m.queue }
  | 3 | 6 => drop m
  | _ => if e.slot < 64 then m.setLease e.slot none else m

/-- One journal entry applied (R171, R172). -/
def Master.replay (m : Master) (e : Word × Byte × List Byte) : Master :=
  let d := e.2.2
  let typ := e.2.1.toNat
  if typ = tyLeaseGrant then
    let m' := (grantEntries d).foldl (fun m x => m.replayEntry e.1 x) m
    { m' with leaseEpoch := if m'.leases = m.leases then m.leaseEpoch else m.leaseEpoch + 1, stamp := m.stamp + 1 }
  else if typ = tyAddressAssign then
    let a := byteAt d 9
    match byteAt d 8 with
    | 0 =>
      let c := classOf (byteAt d 12)
      let old := m.rowOf a
      let row : MasterRow := { ckptRow [] 0 with
        row := { addr := a, uid := BitVec.ofNat 48 (beAt d 0 6), room := (match old with | some r => r.row.room | none => 0),
                 flags := (match old with | some r => (r.row.flags &&& 0xFC) | none => 0) ||| BitVec.ofNat 8 c },
        rtd := beAt d 10 2, declared := c, admitted := c, profile := (match old with | some r => r.profile | none => ⟨0, 1, 0, 0⟩) }
      { m with roster := insertRow row m.roster }
    | 1 => m.modRow a (fun r => { r with rtd := beAt d 10 2 })
    | 3 => { m with roster := m.roster.filter (fun r => decide (r.row.addr ≠ a)) }
    | _ => m
  else if typ = tyRoster then
    let rows := (List.range (byteAt d 3)).map (rosterRowAt d)
    let m := rows.foldl (fun m r =>
      if r.flags.getLsbD 6 then { m with roster := m.roster.filter (fun x => decide (x.row.addr ≠ r.addr)) }
      else match m.rowOf r.addr with
        | some _ => m.modRow r.addr (fun x => { x with row := r, sleeping := r.flags.getLsbD 3, admitted := classOf r.flags.toNat })
        | none => { m with roster := insertRow { ckptRow [] 0 with row := r, sleeping := r.flags.getLsbD 3, admitted := classOf r.flags.toNat,
                                                                   declared := classOf r.flags.toNat, profile := ⟨0, 1, 0, 0⟩ } m.roster }) m
    { m with rosterEpoch := BitVec.ofNat 16 (beAt d 4 2) }
  else if typ = tyPowerDirective then
    (if byteAt d 0 = 0 then { m with quietAt := some (BitVec.ofNat 32 (beAt d 4 4)) }
     else m.modRow (byteAt d 1) (fun r => { r with admitted := classOf (byteAt d 2), row := { r.row with flags := (r.row.flags &&& 0xFC) ||| BitVec.ofNat 8 (classOf (byteAt d 2)) } }))
  else m

/-- The promoted checkpoint, unless a gap has made it unusable (R171, R177). -/
def Rearguard.usable (r : Rearguard) : Option Ckpt := if r.gap.isSome then none else r.promoted

/-- TAKEOVER (R172 to R174, R177): after 3 missing beacons of a locked line the rearguard is master; on a Quiet line it starts with the horn. -/
def execTakeover (s : State) : Host.Outcome State Fault Refusal :=
  .next (match s.link.beacon with
    | none => s
    | some old =>
      if !(s.isRearguard && s.masterCapable && s.locked && !s.lineDown && s.hears .a && s.ccLink && decide (3 ≤ s.rf F.PLT_LPC_STATUS.missed_beacons)) then s
      else
        let quiet := decide (s.lineState .a ≠ 0)
        let t := if quiet then s.lpc + 4 else s.lpc + 1
        let cold := s.rear.usable.isNone
        let m : Master := match s.rear.usable with
          | some k => (s.rear.journal.filter (fun e => !later k.snapshot e.1)).foldl (fun m e => m.replay e) (rebuild k.data k.snapshot)
          | none => { Master.reset with leaseEpoch := old.leaseEpoch, rosterEpoch := old.rosterEpoch }
        let q := match m.quietAt with | some c => if later c t && !quiet then some c else none | none => none
        let m := { m with takeover := some t, quietAt := q, horn := if quiet then some (s.lpc + 1) else none, sentRun := 0,
                          last := some { old with masterAddr := (s.addr .a).getD 0, masterUid := s.dev.uid, cycle := t - 1, rearguardPresent := false,
                                                  noOwner := true, priority := s.priority .a } }
        let s := { s with master := m, rear := { s.rear with fill := none, followed := some old } }
        let s := ((s.wr F.LINE_MASTER_STATUS.role 1).put F.LINE_MASTER_STATUS.established false).put F.LINE_MASTER_STATUS.re_ranging true
        let s := (s.bump F.LINE_MASTER_STATUS.takeovers).modLnk .a (fun l => { l with reRange := none })
        let s := if quiet then s.wr (lkF .a F.LINE_LINK_STATUS.line_state) 2 else s
        let s := s.enterSelf .a
        let s := if cold then s.coldStart .a else (s.postAudit .a 0 true false).postAudit .a 1 true false
        if quiet then s else s.modMst .a (fun m => { m with next := some (s.compose .a t) }))

/-- TAKEOVER_RECLAIM (Table 4-5): at t + 17 and t + 18 the holders the audit part listed and nobody has heard lose their slots. -/
def execTakeoverReclaim (p : Port) (part : Fin 2) (s : State) : Host.Outcome State Fault Refusal :=
  let m := s.mst p
  .next (match m.takeover with
    | none => s
    | some t =>
      if !s.works p || later (t + 17 + BitVec.ofNat 32 part.val) s.lpc then s
      else
        let listed := m.audited.filter (fun x => decide (x.1 / 32 = part.val))
        let gone := listed.filter (fun x => !m.heard.contains x.2 && decide (s.addr p ≠ some x.2)
          && (match m.lease x.1 with | some l => decide (l.holder = x.2) | none => false))
        (s.modMst p (fun m => { m with audited := m.audited.filter (fun x => decide (x.1 / 32 ≠ part.val)) })).leaseChange p
          (fun m => if gone.isEmpty then (m, []) else m.freeSlots (gone.map (fun x => x.1)) 5))

/-- RANGE_POLL to node `a` (Table 3-5), unless it left four polls unanswered and has not reported since (R118). -/
def State.pollNode (s : State) (p : Port) (a reason : Nat) : State :=
  match (s.mst p).rowOf a with
  | none => s
  | some r =>
    if 4 ≤ r.polls then s
    else
    let s := s.modMst p (fun m => m.modRow a (fun r => { r with pollReason := some reason, pollSent := none }))
    s.post p (newMsg s.lpc a tyRangePoll (toBe 6 r.row.uid.toNat ++ [BitVec.ofNat 8 reason, 0]) .none)

/-- ADDRESS_ASSIGN payload (Table 3-4). -/
def assignPayload (uid : Uid) (nonce : Half) (status addr rtd cls : Nat) : List Byte :=
  toBe 6 uid.toNat ++ toBe 2 nonce.toNat ++ [BitVec.ofNat 8 status, BitVec.ofNat 8 addr] ++ toBe 2 rtd ++ [BitVec.ofNat 8 cls, 0]

/-- RANGING_BELL_RECEIVED (R176): the cycle and the position name the address; the arrival, in 1/16 symbol, is its RTD. -/
def execRangingBellReceived (p : Port) (position : Fin 16) (arrival : Nat) (s : State) : Host.Outcome State Fault Refusal :=
  let m := s.mst p
  let a := 8 * position.val + s.lpc.toNat % 8
  .next (match m.takeover, m.rowOf a with
    | some t, some r =>
      if !s.mastering p || !s.hears p || !s.ccLink || !later (t + 64) s.lpc || later t s.lpc || decide (704 < arrival) || decide (s.addr p = some a) then s
      else
        let s := s.modMst p (fun m =>
          { m.modRow a (fun r => { r with rtd := arrival, unheard := 0 }) with
            heard := if m.heard.contains a then m.heard else a :: m.heard
            ranged := if m.ranged.contains a then m.ranged else a :: m.ranged
            rangedNow := a :: m.rangedNow })
        s.post p (newMsg s.lpc 0xFF tyAddressAssign (assignPayload r.row.uid 0 1 a arrival r.admitted) .none)
    | _, _ => s)

/-- RE_RANGING_END (R175, Table 4-5): a follower rings as before; the new master polls every node not yet ranged, names its rearguard, and its
checkpoints and roster parts resume. -/
def execReRangingEnd (s : State) : Host.Outcome State Fault Refusal :=
  .next (match s.link.reRange, s.master.takeover with
    | some t, _ => if later (t + 64) s.lpc then s
        else (s.modLnk .a (fun l => { l with reRange := none })).put F.LINE_MASTER_STATUS.re_ranging false
    | none, some t =>
      if later (t + 64) s.lpc || !s.mastering .a || !s.ccLink then s
      else
        let rest := (s.master.roster.filter (fun r => !s.master.ranged.contains r.row.addr && decide (s.addr .a ≠ some r.row.addr))).map (fun r => r.row.addr)
        let s := ({ s with master := { s.master with takeover := none, audited := [], heard := [], ranged := [] }, rear := Rearguard.reset }).put
          F.LINE_MASTER_STATUS.re_ranging false
        (rest.foldl (fun t a => t.pollNode .a a 2) s).nameRear .a
    | none, none => s)

end Sys2Proof.Machine
end

