-- ==== Sys2Proof/Machine/Cascade.lean ====
section
/-! DEFINITION. The cascade and the stack of an L64B: a waystation's proxy leases, the slots, CALLs and CALL_ACKs it forwards, and the frames
of the stack link (R184 to R190). -/

namespace Sys2Proof.Machine

/-! ### What a waystation forwards (R184, R185) -/

/-- The other line port. -/
def otherPort : Port → Port | .a => .b | .b => .a

/-- Leases on port `p` as the waystation knows them: its own table as master, its copy of the master's otherwise. -/
def State.leaseRows (s : State) (p : Port) : List (Nat × LeaseRow) :=
  (List.range 64).filterMap (fun k =>
    if s.mastering p then ((s.mst p).inForce k).map (fun (l : MLease) =>
      (k, ({ holder := l.holder, group := l.group, prec := l.prec, format := l.format } : LeaseRow)))
    else (Cells.get (fun _ => none) (s.lnk p).table k).map (fun (r : LeaseRow) => (k, r)))

/-- Group `g`, received on port `p`, is forwarded (R184, Table 4-15). -/
def State.forwards (s : State) (p : Port) (g : Nat) : Bool :=
  match p with
  | .a => (s.reg64 (F.LINE_WAY_DOWN.groups 0).off (F.LINE_WAY_DOWN.groups 1).off).getLsbD g
  | .b => (s.reg64 (F.LINE_WAY_UP.groups 0).off (F.LINE_WAY_UP.groups 1).off).getLsbD g

/-- The node is at work as a waystation. -/
def State.wayOn (s : State) : Bool := s.isWay && s.mastering .b

/-- The leases on port `p` that have proxies: holders other than the waystation, groups of the map (R185). -/
def State.proxySources (s : State) (p : Port) : List (Nat × LeaseRow) :=
  (s.leaseRows p).filter (fun x => decide (s.addr p ≠ some x.2.holder) && s.forwards p x.2.group)

/-- Slots held for proxy `x`, the live ones or the catch-up ones, in rising order. -/
def State.proxySlots (s : State) (x : Proxy) (catchup : Bool) : List Nat :=
  (List.range 64).filter (fun k => (s.lnk (otherPort x.src)).held.any (fun h =>
    decide (h.slot = k) && decide (h.owner = .proxy x.id) && decide (h.format = 4) == catchup))

/-- The master of port `p` is the waystation itself, and frees slots `ks`, which it holds, after this cycle (R185). -/
def State.freeOwn (s : State) (p : Port) (ks : List Nat) : State :=
  (s.modLnk p (fun l => { l with held := l.held.map (fun h => if ks.contains h.slot then { h with last := true } else h) })).leaseChange p
    (fun m => m.freeSlots ks 4)

/-- Leases of a proxy end: on a port it masters at once, otherwise by LEASE_RELEASE (R131). -/
def State.releaseProxy (s : State) (x : Proxy) (ks : List Nat) : State :=
  let p := otherPort x.src
  if ks.isEmpty then s
  else if s.mastering p then s.freeOwn p ks
  else s.queueRelease p ks .none

/-- The source leases of proxy `x` have ended: it forwards what they last carried, and then ends too (R185). -/
def State.endProxy (s : State) (x : Proxy) : State :=
  let s := { s with way := { s.way with proxies := s.way.proxies.map (fun y => if y = x then { x with ended := true } else y) } }
  (s.releaseProxy x (s.proxySlots x false ++ s.proxySlots x true)).cancelReqs (otherPort x.src) (.proxy x.id)

/-- Source slots of proxy `x` that still stand. -/
def Proxy.standing (x : Proxy) (rows : List (Nat × LeaseRow)) (ks : List Nat) : List Nat :=
  ks.filter (fun k => rows.any (fun r => decide (r.1 = k) && decide (r.2.holder = x.holder) && decide (r.2.group = x.group)))

/-- A proxy follows its source leases: it ends with the live ones, and gives up a catch-up slot for each that has ended. -/
def State.followProxy (s : State) (rows : List (Nat × LeaseRow)) (x : Proxy) : State :=
  if (x.standing rows x.live).isEmpty then s.endProxy x
  else
    let cus := x.standing rows x.cus
    if cus = x.cus then s
    else
      let y := { x with cus := cus }
      ({ s with way := { s.way with proxies := s.way.proxies.map (fun z => if z = x then y else z) } }).releaseProxy y ((s.proxySlots x true).drop cus.length)

/-- A proxy is asked for: one request for a talker's leases in one group, bonded when they are a pair (R185, R124). -/
def State.startProxy (s : State) (p : Port) (row : LeaseRow) (live cus : List Nat) : State :=
  let q := otherPort p
  let x : Proxy := { src := p, holder := row.holder, group := row.group, prec := row.prec, id := (s.lnk q).nextReq, live := live, cus := cus, ended := false }
  let s := { s with way := { s.way with proxies := s.way.proxies ++ [x] } }
  s.requestLease q (.proxy x.id) false row.group (if live.length = 2 then 2 else 1) row.prec (min 2 cus.length)

/-- Slot `k` of port `p` has a proxy. -/
def State.hasProxy (s : State) (p : Port) (k : Nat) : Bool :=
  s.way.proxies.any (fun x => decide (x.src = p) && !x.ended && (x.live.contains k || x.cus.contains k))

/-- A new source lease gets its proxy; a low half takes its high half along, and the talker's catch-up slots in the group (R146, R185). -/
def State.coverSlot (s : State) (p : Port) (rows : List (Nat × LeaseRow)) (k : Nat) (row : LeaseRow) : State :=
  if s.hasProxy p k || decide (3 ≤ row.format) then s
  else
    let same (f : Nat) (r : Nat × LeaseRow) : Bool :=
      decide (r.2.holder = row.holder) && decide (r.2.group = row.group) && decide (r.2.format = f) && !s.hasProxy p r.1
    let high := if row.format = 2 then ((rows.filter (same 3)).filter (fun r => decide (r.1 = k + 1))).map (fun r => r.1) else []
    s.startProxy p row (k :: high) ((rows.filter (same 4)).map (fun r => r.1))

/-- The other port can carry a proxy's request. -/
def State.takesProxies (s : State) (p : Port) : Bool := match p with | .a => !s.lineShut | .b => s.mastering .b

/-- The proxies of leases on port `p` follow them (R185). -/
def State.proxyPort (s : State) (p : Port) : State :=
  let mine := s.way.proxies.filter (fun x => decide (x.src = p) && !x.ended)
  if !s.takesProxies (otherPort p) then mine.foldl (fun t x => t.endProxy x) s
  else
    let rows := s.proxySources p
    let s := mine.foldl (fun t x => t.followProxy rows x) s
    rows.foldl (fun t r => t.coverSlot p rows r.1 r.2) s

/-- The waystation's proxies follow the leases of both ports. -/
def State.proxyUpdate (s : State) : State := if s.wayOn then (s.proxyPort .a).proxyPort .b else s

/-! ### Slots forwarded (R186) -/

/-- A slot received on port `p` is kept for the next cycle. -/
def State.keepSlot (s : State) (k : Nat) (x : RxSlot) : State :=
  match x.port with
  | .a => { s with way := { s.way with curA := Cells.set (fun _ => none) s.way.curA k (some x) } }
  | .b => { s with way := { s.way with curB := Cells.set (fun _ => none) s.way.curB k (some x) } }

/-- The cycle ends: what it received is sent in the next one, and a proxy that has ended and holds nothing any more is gone. -/
def State.wayShift (s : State) : State :=
  { s with
    way := { s.way with
      prevA := s.way.curA, prevB := s.way.curB, curA := [], curB := []
      proxies := s.way.proxies.filter (fun x => !x.ended || !(s.proxySlots x false ++ s.proxySlots x true).isEmpty) } }

/-- The proxy that lease owner `o` on port `p` serves. -/
def State.proxyOf (s : State) (p : Port) (o : LeaseOwner) : Option Proxy :=
  s.way.proxies.find? (fun x => decide (x.src = otherPort p) && decide (o = .proxy x.id))

/-- History cycle that R134 expects at catch-up position `i` of a slot received in cycle `c`, when it lies in the plan. -/
def CuPlan.expected (q : CuPlan) (c : Word) (i : Nat) : Option Word :=
  let e := q.histStart + BitVec.ofNat 32 q.count * (c - q.cuFirst) + BitVec.ofNat 32 i
  if cycleDiff e q.histStart < 0 ∨ cycleDiff q.liveFirst e ≤ 0 then none else some e

/-- A slot the waystation has nothing to forward in: format 0. -/
def State.emptyForward (s : State) (p : Port) (h : HeldLease) : RxSlot :=
  { port := p, source := (s.addr p).getD 0, group := h.group, seq := (s.lpc.toNat + 252) % 256, format := 0, raised := false, tone := false,
    endOfTalk := false, muted := false, payload := [] }

/-- What the waystation sends in slot `h` of port `p` for proxy `x`: the slot received in the previous cycle, or concealed audio (R186). Its
audio has passed the hop filter, whose arithmetic is not given; only a format-0 payload goes on as it is. -/
def State.forwardSlot (s : State) (p : Port) (h : HeldLease) (x : Proxy) : RxSlot :=
  let cu := decide (h.format = 4)
  let i := (s.proxySlots x cu).idxOf h.slot
  let src := (if cu then x.cus else x.live)[i]?
  let prev := match x.src with | .a => s.way.prevA | .b => s.way.prevB
  let got := (src.bind (fun k => Cells.get (fun _ => none) prev k)).filter (fun (y : RxSlot) => decide (s.addr x.src ≠ some y.source))
  let base := s.emptyForward p h
  match got with
  | some y =>
    { base with
      format := if h.format = 1 then min 1 y.format else y.format
      seq := if y.format = 4 then (y.seq + 1) % 256 else base.seq
      raised := y.raised, tone := y.tone, endOfTalk := y.endOfTalk, muted := y.muted, payload := y.payload }
  | none =>
    if src.isNone || x.ended then base
    else if cu then
      match (s.way.plans.find? (fun q => decide (q.port = x.src) && decide (q.caller = x.holder))).bind (fun q => q.expected (s.lpc - 1) i) with
      | some e => { base with format := 4, seq := (e.toNat + 1) % 256 }
      | none => base
    else { base with format := 1 }

/-! ### CALL and CALL_ACK forwarded (R187) -/

/-- A CALL received on port `p`: its catch-up plan is kept, and the waystation forwards it when its group lies in the map. -/
def State.forwardCall (s : State) (p : Port) (payload : List Byte) : State :=
  let caller := byteAt payload 2
  if !s.wayOn || !s.forwards p (byteAt payload 4 % 64) || decide (s.addr p = some caller) then s
  else
    let plan : CuPlan :=
      { port := p, caller := caller, histStart := BitVec.ofNat 32 (beAt payload 12 4), liveFirst := BitVec.ofNat 32 (beAt payload 16 4),
        cuFirst := BitVec.ofNat 32 (beAt payload 20 4), count := byteAt payload 7 }
    let others := s.way.plans.filter (fun q => decide (q.port ≠ p) || decide (q.caller ≠ caller))
    let id := s.call.nextId
    let s := { s with
      call := { s.call with nextId := id + 1 }
      way := { s.way with
        plans := if bitOf (byteAt payload 3) 3 then plan :: others else others
        callMap := (p, caller, BitVec.ofNat 16 (beAt payload 0 2), id) :: s.way.callMap } }
    s.post (otherPort p) (newMsg s.lpc 0xFF tyCall (toBe 2 id.toNat ++ payload.drop 2) (.forward p caller))

/-- The request of the proxy for a CALL is not answered yet, so that the CALL waits. -/
def State.forwardWaits (s : State) (src : Port) (caller : Nat) : Bool :=
  (s.lnk (otherPort src)).reqs.any (fun q => (match q.phase with | .queued _ => false | _ => true)
    && s.way.proxies.any (fun x => decide (x.src = src) && decide (x.holder = caller) && decide (q.owner = .proxy x.id)))

/-- The forwarded CALL as it is sent: the waystation is its caller, its slots are the proxy's, and every cycle lies one later (R187). -/
def State.composeForward (s : State) (src : Port) (caller : Nat) (d : List Byte) : State × List Byte :=
  let q := otherPort src
  let x := s.way.proxies.find? (fun x => !x.ended && decide (x.src = src) && decide (x.holder = caller) && decide (x.group = byteAt d 4))
  let live := match x with | some x => s.proxySlots x false | none => []
  let cus := match x with | some x => s.proxySlots x true | none => []
  let n := byteAt d 7
  let present := bitOf (byteAt d 3) 3
  let fits := present && decide (n ≤ cus.length)
  let at_ (o : Nat) : List Byte := toBe 4 ((beAt d o 4 + 1) % 2 ^ 32)
  let payload := d.take 2 ++ [BitVec.ofNat 8 ((s.addr q).getD 0), BitVec.ofNat 8 (byteAt d 3 % 8 + 8 * bit fits)] ++ bytesAt d 4 2
    ++ [BitVec.ofNat 8 (slotOr live)]
    ++ (if fits then [BitVec.ofNat 8 n, BitVec.ofNat 8 (slotOr (cus.take n)), BitVec.ofNat 8 (slotOr ((cus.take n).drop 1))] else [0, 0xFF, 0xFF])
    ++ bytesAt d 10 2 ++ (if fits then at_ 12 ++ at_ 16 ++ at_ 20 else toBe 12 0) ++ toBe 4 0
  (match x with | some x => if present && !fits then s.releaseProxy x cus else s | none => s, payload)

/-- A CALL_ACK received on port `p` for a CALL that the waystation forwarded there goes back to the caller's port (R187). -/
def State.forwardAck (s : State) (p : Port) (d : List Byte) : State :=
  if !s.wayOn || decide (s.addr p ≠ some (byteAt d 2)) then s
  else match s.way.callMap.find? (fun x => decide (x.1 = otherPort p) && decide (x.2.2.2.toNat = beAt d 0 2)) with
    | some (src, caller, id, _) =>
      s.post src (newMsg s.lpc 0xFF tyCallAck (toBe 2 id.toNat ++ [BitVec.ofNat 8 caller, BitVec.ofNat 8 ((s.addr src).getD 0)] ++ bytesAt d 4 1 ++ [0, 0, 0]) .none)
    | none => s

/-! ### Stack link (R188 to R190) -/

/-- The stack link runs on this part. -/
def State.stackOn (s : State) : Bool := s.isB && s.on F.STK_CTL.en && s.coreOn && !s.pins.resetHeld

/-- Bytes with a closing CRC-32 over those before it (Table 4-6). -/
def stackCrcOk (bytes : List Byte) (n : Nat) : Bool := decide (bytes.length = n + 4) && decide (beAt bytes n 4 = crcOf crc32 (bytes.take n))

/-- STACK_HEADER: the master's header at a member (R188, R189). -/
def execStackHeader (bytes : List Byte) (s : State) : Host.Outcome State Fault Refusal :=
  let me := s.rf F.STK_CTL.member_id
  .next (if !s.stackOn || decide (me = 0) || !stackCrcOk bytes 60 then s
    else
      let gens := leAt bytes 5 4
      let differs := match s.link.beacon with | some b => decide (b.rootLineId.toNat ≠ beAt bytes 9 4) | none => true
      let s := if gens = s.rf F.STK_GEN.gen then s else (s.wr F.STK_GEN.gen gens).put F.GLB_BLOCK_RESET.stack true
      let s := (s.wr F.STK_STATUS.present (byteAt bytes 4)).wr F.STK_STATUS.tree_mismatch (if differs then 2 ^ me else 0)
      { s with stack := { s.stack with header := some bytes } })

/-- Member `n` is absent: what it was to do completes ST_PEER_RESET (R190, R426). -/
def State.memberGone (s : State) (n : Nat) : State :=
  let s := { s.clrBit F.STK_STATUS.present n with stack := { s.stack with audio := s.stack.audio.set n none } }
  s.finishEvery (fun _ x => decide (x.phase = .forwarded n)) .peerReset

/-- The status at place `n` of Table 10-3. -/
def statusAt (n : Nat) : Status :=
  ([.ok, .partialDone, .busy, .aborted, .peerReset, .noLease, .badDesc, .quota, .tagContended, .mismatch, .epochMixed, .muted, .lineDown, .timeout,
    .refused, .unsupported] : List Status).getD n .ok

/-- One entry a member returns is written for its client (R189). -/
def State.stackEntry (s : State) (n : Nat) (e : StackEntry) : State :=
  let c := e.client.val
  if s.boundMember c ≠ some n ∨ !(s.client c).running then s
  else
    let out (id : Half) (notify : Bool) : Entry :=
      { id := id, status := statusAt e.status.val, event := e.event, notify := notify, result := e.result, cycle := e.cycle, info := e.info }
    if e.event then s.eventTo (out 0xFFFF false) c
    else match s.findFlight c (fun x => decide (x.phase = .forwarded n) && decide (x.desc.id = e.id)) with
      | some j =>
        let left := match (s.client c).flight[j]? with | some x => x.chainLeft | none => 0
        let s := s.modClient c (fun cl => { cl with
          flight := dropFlight j cl.flight
          waiting := cl.waiting ++ [out e.id (match cl.flight[j]? with | some x => x.desc.flags.getLsbD 1 | none => false)] })
        if (statusAt e.status.val).good then s else s.abortRun c j left
      | none => s

/-- STACK_WINDOW: the window of member `n` at the stack master (R189, R190). -/
def execStackWindow (n : Fin 4) (bytes : List Byte) (entries : List StackEntry) (s : State) : Host.Outcome State Fault Refusal :=
  .next (if !s.stackOn || decide (s.rf F.STK_CTL.member_id ≠ 0) || decide (n.val = 0) then s
    else if stackCrcOk bytes 1916 then
      let s := (s.setBit F.STK_STATUS.present n.val).setBit F.STK_STATUS.present 0
      let s := { s with stack := { s.stack with crcRun := s.stack.crcRun.set n.val 0, audio := s.stack.audio.set n.val (some (bytes.take 256)) } }
      entries.foldl (fun t e => t.stackEntry n.val e) s
    else
      let run := s.stack.crcRun.getD n.val 0 + 1
      let s := { s.bump F.STK_STATUS.window_crc with stack := { s.stack with crcRun := s.stack.crcRun.set n.val run } }
      if 3 ≤ run then s.memberGone n.val else s)

end Sys2Proof.Machine
end

