-- ==== Sys2Proof/Machine/Resets.lean ====
section
/-! DEFINITION. Start-up, halts and resets: the manifest and its records, the boot of Table 14-1, the CC warm restart, element resets, the
full reset, and the halts that stand in their place (R563 to R577, R583 to R595, R613 to R618, R627, R675). -/

namespace Sys2Proof.Machine

/-! ### Flash -/

/-- Byte of flash at `a`; an erased byte reads 0xFF. -/
def erasedByte (_ : Nat) : Byte := 0xFF

/-- `n` bytes of flash from `a`. -/
def State.flashBytes (s : State) (a n : Nat) : List Byte := Cells.getList erasedByte s.mem.flash a n

/-! ### Manifest (R568 to R573) -/

/-- `n` rounded up to a multiple of 4. -/
def pad4 (n : Nat) : Nat := (n + 3) / 4 * 4

/-- A record: its type and its value. -/
structure Record where
  typ : Nat
  value : List Byte
  deriving DecidableEq, Repr

/-- The records in the bytes from offset 16 on, none when they do not end where the bytes do (R569, R570); `n` bounds their number. -/
def parseRecords : Nat → List Byte → Option (List Record)
  | _, [] => some []
  | 0, _ => none
  | n + 1, b =>
    let len := leAt b 2 2
    if b.length < 4 + pad4 len then none
    else (parseRecords n (b.drop (4 + pad4 len))).map (fun rs => { typ := leAt b 0 2, value := bytesAt b 4 len } :: rs)

/-- What reading the manifest finds: its cause of rejection (Table 14-10), or its flags and records. -/
inductive Manifest where
  | rejected (err : Nat)
  | found (flags : Nat) (records : List Record)
  deriving DecidableEq, Repr

/-- Read and check the manifest at flash offset 0. -/
def State.manifest (s : State) : Manifest :=
  if s.mem.flashSize = 0 then .rejected 1
  else
    let h := s.flashBytes 0 16
    let len := leAt h 8 4
    if leAt h 0 4 ≠ 0x4D515844 then .rejected 2
    else if leAt h 4 2 ≠ 1 then .rejected 3
    else if len < 16 ∨ 16380 < len ∨ len % 4 ≠ 0 then .rejected 4
    else
      let b := s.flashBytes 0 len
      if leNat (s.flashBytes len 4) ≠ crcOf crc32 b then .rejected 5
      else match parseRecords 4096 (b.drop 16) with
        | some rs => .found (leAt h 12 4) rs
        | none => .rejected 6

/-- A record's value length fits its type (Table 14-3). -/
def Record.fits (r : Record) : Bool :=
  match r.typ with
  | 1 => decide (r.value.length % 12 = 0)
  | 2 => decide (r.value.length = 8)
  | 3 => decide (r.value.length = 4)
  | 4 | 5 => decide (r.value.length = 16)
  | _ => false

/-- The records in force, and how many are skipped: those of a reserved type, second ones of a type other than REG, those of a wrong
length (R572). -/
def inForce (rs : List Record) : List Record × Nat :=
  rs.foldl (fun (acc : List Record × Nat) r =>
    if r.fits && (decide (r.typ = 1) || !acc.1.any (fun x => decide (x.typ = r.typ))) then (acc.1 ++ [r], acc.2) else (acc.1, acc.2 + 1)) ([], 0)

/-- The records in force of the manifest in flash. -/
def State.records (s : State) : List Record := match s.manifest with | .found _ rs => (inForce rs).1 | .rejected _ => []

/-- The value of the record of type `t`. -/
def State.record (s : State) (t : Nat) : Option (List Byte) := (s.records.find? (fun r => decide (r.typ = t))).map (fun r => r.value)

/-- A REG entry may be applied (R571): every bit of its mask is an RW or RWL field of this part, and its value keeps to its mask. -/
def State.regEntryOk (s : State) (e : StageEntry) : Bool :=
  match rowAt e.off with
  | some r => decide (e.mask &&& ~~~(r.writable s.isB false) = 0) && decide (e.value &&& ~~~e.mask = 0)
  | none => false

/-- A REG entry applies or is skipped. -/
def State.applyReg (s : State) (e : StageEntry) : State :=
  if s.regEntryOk e then
    let old := s.writerMask e.off (s.reg e.off)
    s.setReg e.off (s.writerMask e.off ((old &&& ~~~e.mask) ||| (e.value &&& e.mask)))
  else s.bump F.CFG_BOOT_STATUS.reg_skipped

/-- One record applies (R571, Table 14-3); images are checked by the steps that read them. -/
def State.applyRecord (s : State) (r : Record) : State :=
  match r.typ with
  | 1 => (parseEntries r.value (r.value.length / 12)).foldl (fun t e => t.applyReg e) s
  | 2 => { s with hif := { s.hif with ids := (List.range 4).map (fun i => BitVec.ofNat 16 (leAt r.value (2 * i) 2)) } }
  | _ => s

/-- The records apply in manifest order; blocks whose controls they set start from them (R571). -/
def State.applyRecords (s : State) : State :=
  let s := s.records.foldl (fun t r => t.applyRecord r) s
  let s := { s with mix := { s.mix with tdmFormat := s.tdmWanted } }
  ((List.range 16).foldl (fun t n => if t.on (F.HIF_RING_CTL.en n) then t.enableRing n else t) s).showGpio

/-! ### Patch image and wake model (R574, R575) -/

/-- Why an image record fails, 0 when it does not: 3 its length or range, 1 its check, 2 its ROM revision (Table 14-10). -/
def State.imageErr (s : State) (v : List Byte) (limit : Nat) (rom : Bool) : Nat :=
  let o := leAt v 0 4
  let n := leAt v 4 4
  if n < 4 ∨ limit < n ∨ s.mem.flashSize < o + n then 3
  else if crcOf crc32 (s.flashBytes o n) ≠ leAt v 12 4 then 1
  else if rom ∧ leAt v 8 2 ≠ s.dev.rom.toNat then 2
  else 0

/-- The patch image is checked: an accepted one runs, a refused one does not, and without a record nothing is set (R574). -/
def State.checkPatch (s : State) : State :=
  match s.cfg.patch with
  | none => (s.wr F.CFG_BOOT_STATUS.patch_err 0).put F.GLB_STATUS.patch_rejected false |>.put F.GLB_STATUS.patch_running false
  | some v =>
    let e := s.imageErr v 131072 true
    ((s.wr F.CFG_BOOT_STATUS.patch_err e).put F.GLB_STATUS.patch_rejected (decide (e ≠ 0))).put F.GLB_STATUS.patch_running (decide (e = 0))

/-- The wake model is checked and loaded in the background (R348, R575). -/
def State.loadModel (s : State) : State :=
  match s.cfg.wakeRec with
  | none => s
  | some v =>
    if s.imageErr v 98304 false ≠ 0 then s.put F.CFG_BOOT_STATUS.wake_model_rejected true
    else
      let n := leAt v 4 4
      let s := { s with wake := { s.wake with model := some (leAt v 0 4, n, byteAt v 8) } }
      ((s.put F.WAKE_MODEL.loaded true).wr F.WAKE_MODEL.size_kb ((n + 1023) / 1024)).wr F.WAKE_MODEL.max_phrase (byteAt v 8)

/-! ### The boot (R564 to R567, Table 14-1) -/

/-- The P57 registers are written from their reset values and fresh is cleared, posting and counting nothing (R566). -/
def State.bootP57 (s : State) : State :=
  let s := s.put F.PWR_INTAKE_STATUS.pg s.p57.pg
  if s.p57.pg then { s with p57 := { s.p57 with cls := 1, percent := 90, hornCtl := 0x41, srcCtl := 0x01, causeEn := 0x7F, fresh := false } } else s

/-- The manifest is read and checked; its FLASH, PATCH and WAKE_MODEL records are kept for the reads that follow (R568, R573, R575). -/
def State.bootManifest (s : State) : State :=
  let s := { s with cfg := { s.cfg with patch := s.record 4, wakeRec := s.record 5, flashMode := (match s.record 3 with | some v => v.map (fun (b : Byte) => b.toNat) | none => [0, 3, 12, 0]) } }
  match s.manifest with
  | .rejected e => s.wr F.CFG_BOOT_STATUS.manifest_err e
  | .found _ rs => s.wr F.CFG_BOOT_STATUS.rec_skipped (min 255 (inForce rs).2)

/-- Records applied, flags set, the lock set when flagged, PHY enabled. -/
def State.bootApply (s : State) : State :=
  let s := match s.manifest with
    | .rejected _ => s.put F.GLB_STATUS.manifest_defaulted true
    | .found flags _ => if bitOf flags 0 then s.applyRecords.setLock else s.applyRecords
  { s with phy := { s.phy with on := true } }

/-- The cartridge found at the end of the boot: its identity is read, and a power-on with line_ok counts an insertion (R486, R487). -/
def State.bootTag (s : State) : State :=
  if !s.pins.cartDet then s
  else
    let s := s.put F.TAG_STATUS.present true
    if s.tag.ops.isEmpty then s.queueTag (.identity (s.on F.CFG_RESET_CAUSE.power_on && s.p57.lineOk)) else s.tryTag

/-- The end of step `n` + 1 of Table 14-1. -/
def State.bootStep (s : State) : Nat → State
  | 0 => (s.wr F.PWR_PERF.in_force 1).relevel
  | 1 => s
  | 2 => s.bootP57
  | 3 => s.bootManifest
  | 4 => s.checkPatch
  | 5 => s.bootApply
  | 6 => ((if s.pins.perst then s else s.trainLink).bootTag).settleAll
  | _ => s.loadModel

/-- BOOT_STEP_DONE. -/
def execBootStepDone (s : State) : Host.Outcome State Fault Refusal :=
  .next (if s.pins.resetHeld || s.cfg.restarting || decide (8 ≤ s.cfg.boot) || decide (s.pwr.state ≠ 0) then s
    else { s with cfg := { s.cfg with boot := s.cfg.boot + 1 } }.bootStep s.cfg.boot)

/-! ### Full reset (R563, R583, R643, Tables 14-7 and 16-7) -/

/-- Registers a full reset keeps: the RTC pair, except at power-on. -/
def keptInReset (powerOn : Bool) (o : Nat) : Bool :=
  !powerOn && (decide (o = F.PWR_RTC.seconds.off) || decide (o = F.PWR_RTC_ALARM.seconds.off))

/-- A full reset with cause `f`: what lies outside the L64 and the levels on its input pins stay, the banks lose their contents. -/
def State.fullResetBy (s : State) (f : Field) (powerOn held : Bool) : State :=
  let r := State.reset
  let t : State :=
    { r with
      dev := s.dev
      mem := s.mem
      pins := { s.pins with resetHeld := held, wakeN := false, gpioHigh := 0, muteLed := true, callLed := 7, callLedSince := 0 }
      regs := s.regs.filter (fun c => keptInReset powerOn c.1)
      p57 := s.p57
      cart := s.cart
      hif := { Hif.reset s.dev.variant with d3cold := s.pins.perst }
      free := s.free
      pending := s.pending }
  let t := (List.range 12).foldl (fun t b => t.loseBank b) t
  ({ t with pwr := Pwr.reset }).put f true

/-- FULL_RESET (R563): the node is held in reset until RESET_RELEASE. -/
def execFullReset (powerOn : Bool) (s : State) : Host.Outcome State Fault Refusal :=
  .next (s.fullResetBy (if powerOn then F.CFG_RESET_CAUSE.power_on else F.CFG_RESET_CAUSE.reset_pin) powerOn true)

/-- VIN33_LOSS (R675): the restart is one from power-on. -/
def execVin33Loss (s : State) : Host.Outcome State Fault Refusal := .next (s.fullResetBy F.CFG_RESET_CAUSE.power_on true true)

/-- RESET_RELEASE (R564): the boot starts. -/
def execResetRelease (s : State) : Host.Outcome State Fault Refusal := .next { s with pins := { s.pins with resetHeld := false } }

/-! ### CC warm restart (R584 to R587, R412, R506, R526) -/

/-- A control command of a client. -/
def isControl (x : InFlight) : Bool := !x.isStream

/-- What control commands in flight held is given back as they complete ST_PEER_RESET: units, tag transactions, unanswered sessions,
compare units, calls to be placed, and a CONFIG_APPLY's claim on its completion. -/
def State.endControl (s : State) : State :=
  let all := s.hif.clients.flatMap (fun c => c.flight)
  let s := all.foldl (fun t x => t.releaseJob x) s
  let s := all.foldl (fun t x => match x.phase with | .talkOpen n => (t.dropTalk .a (.session n)).setSession n none | _ => t) s
  let s := (s.dropDeadlines (fun _ => true))
  let s := { s with
    tag := { s.tag with ops := s.tag.ops.filter (fun o => match o with | .host _ _ => false | _ => true) }
    call := { s.call with recs := s.call.recs.map (fun (r : Option CallRec) => r.map (fun (c : CallRec) => { c with cmd := none })) }
    cfg := { s.cfg with apply := none } }
  s.finishEvery (fun _ x => isControl x) .peerReset

/-- WARM_RESTART_END: the patch image in flash is read, checked and started; commands complete, latched doorbells, keys and the held wake
event act, deferred life events are appended, fetching resumes. -/
def execWarmRestartEnd (s : State) : Host.Outcome State Fault Refusal :=
  .next (if !s.cfg.restarting then s
    else
      let found := match s.manifest with | .found _ _ => true | .rejected _ => false
      let s := { s with cfg :=
        { s.cfg with restarting := false, restartEnd := some s.plt.lpc, patch := if found then s.record 4 else s.cfg.patch } }
      let s := s.checkPatch.endControl
      let s := (List.range 16).foldl (fun t n => t.unlatch n) s
      let s := s.actHeldWake.actLatchedKeys
      let s := if s.tag.deferred.isEmpty && s.tag.ops.isEmpty then s else s.tryTag
      s.settleAll)

/-- WARM_RESTART_OVERRUN: a restart of more than 500 ms is a full reset. -/
def execWarmRestartOverrun (s : State) : Host.Outcome State Fault Refusal :=
  .next (if s.cfg.restarting then s.fullResetBy F.CFG_RESET_CAUSE.warm_overrun false false else s)

/-- Fewer than 10 s have passed since the restart that the watchdog caused (R585). -/
def State.watched (s : State) : Bool :=
  s.cfg.wdtOnce && (s.cfg.restarting || (match s.cfg.restartEnd with | some c => decide ((s.plt.lpc - c).toNat < 10000) | none => false))

/-- WATCHDOG_EXPIRY: it does not count while CC is halted (R617). -/
def execWatchdogExpiry (s : State) : Host.Outcome State Fault Refusal :=
  .next (if s.pins.resetHeld || s.halted 0 || !s.coreOn then s
    else if s.watched then s.fullResetBy F.CFG_RESET_CAUSE.watchdog false false
    else
      let s := (s.bump F.CFG_WDT.expiries).startWarm
      { s with cfg := { s.cfg with wdtOnce := true } })

/-! ### Element resets (R275, R316, R317, R366, R426, R525, R588, R592) -/

/-- A capture buffer on a tap that AE0 forms: its beams or its talk signal. -/
def State.onAe0 (s : State) (x : InFlight) : Bool :=
  match x.phase with
  | .streamBuf i => match s.stream i with | some y => decide (y.kind = 0) && decide (3 ≤ y.tap) && decide (y.tap ≤ 5) | none => false
  | _ => false

/-- A tag transaction of a client. -/
def Phase.isTag : Phase → Bool | .tag _ => true | _ => false

/-- A check job. -/
def Phase.isJob : Phase → Bool | .job _ _ _ _ _ => true | _ => false

/-- Reset of a block: its generation counts, what it held is cleared, commands outstanding at it complete ST_PEER_RESET. -/
def State.resetBlock (s : State) : ResetBlock → State
  | .ae0 =>
    let s := ((s.bumpGen F.CFG_GEN0.ae0 1).freeElem 1).resetEcho
    let s := s.bump F.MIX_ERR.concealed
    (s.finishEvery (fun _ x => s.onAe0 x) .peerReset).settleAll
  | .ae1 => (((s.bumpGen F.CFG_GEN0.ae1 2).freeElem 2).resetWake).bump F.MIX_ERR.concealed
  | .tag =>
    let s := s.bumpGen F.CFG_GEN1.tag 6
    let s := { s with tag := { s.tag with ops := s.tag.ops.filter (fun o => match o with | .host _ _ => false | _ => true) } }
    (s.finishEvery (fun _ x => x.phase.isTag) .peerReset).settleAll
  | .toll => (((s.bumpGen F.CFG_GEN1.toll 7).tollReset).finishEvery (fun _ x => x.phase.isJob) .peerReset).settleAll

/-- LS starts again as a follower, out of lock, transmitting nothing (R618). -/
def State.lsRestart (s : State) : State :=
  let s := (s.stepDown .a).stepDown .b
  { s.put F.PLT_LPC_STATUS.locked false with plt := { s.plt with lockRun := 0, beaconOk := false, syncOk := false } }

/-! ### Halts (R613 to R618) -/

/-- What halting element `e` ends at once: LS stops driving; with AE1 a catch-up playback ends (Table 15-7). -/
def State.onHalt (s : State) (e : Nat) : State :=
  if e = 2 then s.endPlayback else if e = 3 then { s with phy := { s.phy with tx := [], hornOn := false } } else s

/-- The element that owns bank `b` (Table 15-5). -/
def bankOwner (b : Nat) : Nat := if b ≤ 2 ∨ b = 10 ∨ b = 11 then 0 else if b = 6 ∨ b = 7 then 1 else 2

/-- Bank `b` holds what firmware left there: no byte of it is known. -/
def State.stirBank (s : State) (b : Nat) : State :=
  { s with
    mem := { s.mem with sram := s.mem.sram.filter (fun c => decide (c.1 / 0x20000 ≠ b)), lostAt := s.mem.lostAt.set b (s.free + 1) }
    free := s.free + 1 }

/-- The visible state of an element as its firmware left it, halted with cause `c`: its words are known to no rule (R18). -/
def frozen (free c : Nat) : ElemSt :=
  { pc := Config.elemWord free, status := Config.elemWord (free + 1), g := (List.range 16).map (fun i => Config.elemWord (free + 2 + i)),
    cause := c, steps := 0 }

/-- Element `e` halts with cause `c`; one already halted keeps its cause (R626). -/
def State.haltOne (s : State) (c e : Nat) : State :=
  if s.halted e then s
  else
    let s := ({ s with dbg := { s.dbg with elems := s.dbg.elems.set e (frozen s.free c) } }).takeFree 18
    let s := ((List.range 12).filter (fun b => decide (bankOwner b = e))).foldl (fun t b => t.stirBank b) s
    (s.bump F.DBG_HALT_STATUS.halts).onHalt e

/-- The elements of a mask. -/
def elemsIn (mask : Nat) : List Nat := (List.range 4).filter (fun e => bitOf mask e)

/-- The bits of elements. -/
def maskOf (es : List Nat) : Nat := es.foldl (fun m e => m + 2 ^ e) 0

/-- The halt causes, one nibble per element (Table 15-9). -/
def State.causes (s : State) : Nat := ((List.range 4).map (fun e => 16 ^ e * ((s.elem e).cause % 16))).foldl (· + ·) 0

/-- The elements of `mask` halt with cause `c`; causes 1, 3 and 4 of an element in the cross-trigger mask halt the rest of it with cause 2
(R614). The halts are one trace packet. -/
def State.haltElems (s : State) (mask c : Nat) : State :=
  let named := (elemsIn mask).filter (fun e => !s.halted e)
  let xmask := s.rf F.DBG_HALT_CTL.mask
  let crossed := if named.any (fun e => bitOf xmask e) ∧ c ≠ 5 then (elemsIn xmask).filter (fun e => !s.halted e && !named.contains e) else []
  if named.isEmpty then s
  else
    let s := named.foldl (fun t e => t.haltOne c e) s
    let s := crossed.foldl (fun t e => t.haltOne 2 e) s
    (s.traceAny 1 (maskOf (named ++ crossed)) (BitVec.ofNat 32 s.causes)).showGpio

/-- Number of an element (Table 15-4). -/
def elemNum : Elem → Nat | .cc => 0 | .ae0 => 1 | .ae1 => 2 | .ls => 3

/-- The reset that an internal fault of a running element brings (Table 14-6, R588). -/
def State.faultReset (s : State) : Elem → State
  | .cc => s.startWarm
  | .ae0 => s.resetBlock .ae0
  | .ae1 => s.resetBlock .ae1
  | .ls => (s.bumpGen F.CFG_GEN0.ls 3).lsRestart

/-- ELEMENT_INTERNAL_FAULT (R613, Table 15-6). -/
def execElementInternalFault (e : Elem) (s : State) : Host.Outcome State Fault Refusal :=
  .next (if s.pins.resetHeld || s.halted (elemNum e) || !(if e = .ls then s.phyOn else s.coreOn) then s
    else if s.on F.DBG_HALT_CTL.halt_on_fault then s.haltElems (2 ^ elemNum e) 3
    else s.faultReset e)

end Sys2Proof.Machine
end

