-- ==== Sys2Proof/Machine/Debug.lean ====
section
/-! DEFINITION. The Etush monitor: its packets, transports, sessions and commands, and the trace sinks (R596 to R631). -/

namespace Sys2Proof.Machine

/-! ### Packets (Table 15-2, R597, R602) -/

/-- The sync byte before a packet on the UART (R597). -/
def monSync : Byte := 0xE7

/-- The check of a packet: CRC-16 over bytes 0 to 5 and the payload. -/
def monCheck (head payload : List Byte) : Nat := crcOf crc16 (head ++ payload)

/-- The packet of a command or reply. -/
def monPacket (first cmd : Nat) (tag : Byte) (status : Nat) (payload : List Byte) : List Byte :=
  let head := [BitVec.ofNat 8 first, BitVec.ofNat 8 cmd, tag, BitVec.ofNat 8 status] ++ toLe 2 payload.length
  head ++ toLe 2 (monCheck head payload) ++ payload

/-- A request: its command, tag and payload; none when the packet is discarded (R602). -/
def parseRequest (b : List Byte) : Option (Nat × Byte × List Byte) :=
  let n := leAt b 4 2
  if b.length < 8 ∨ b.length ≠ 8 + n ∨ 1024 < n ∨ byteAt b 0 ≠ 1 then none
  else if leAt b 6 2 ≠ monCheck (b.take 6) (b.drop 8) then none
  else some (byteAt b 1, b.getD 2 0, b.drop 8)

/-- Codes of Table 15-3. -/
def MonStatus.code : MonStatus → Nat
  | .ok => 0 | .unknown => 1 | .badArg => 2 | .notHalted => 3 | .noResident => 4 | .busy => 5 | .domainOff => 6 | .refused => 7 | .flashErr => 8

/-! ### Replies (R598, R600, R603) -/

/-- Pieces of at most `k` bytes; `n` bounds their number. -/
def piecesOf (k : Nat) : Nat → List Byte → List (List Byte)
  | 0, _ => []
  | n + 1, b => if b.length ≤ k then [b] else b.take k :: piecesOf k n (b.drop k)

/-- The MONITOR payload of fragment `i` (Table 3-9). -/
def fragment (session : Nat) (reply last : Bool) (i : Nat) (b : List Byte) : List Byte :=
  [BitVec.ofNat 8 session, BitVec.ofNat 8 (bit reply + 2 * bit last), BitVec.ofNat 8 i, 0] ++ b

/-- A reply goes to node `a` in MONITOR messages with the reply bit set (R600). -/
def State.postReply (s : State) (a session : Nat) (bytes : List Byte) : State :=
  let ps := piecesOf 156 7 bytes
  (ps.mapIdx (fun i b => fragment session true (decide (i + 1 = ps.length)) i b)).foldl (fun t b => t.post .a (newMsg t.lpc a tyMonitor b .none)) s

/-- A MONITOR_CMD waits for its reply. -/
def awaitsReply (x : InFlight) : Bool := decide (x.phase = .monitor)

/-- The reply limit of a MONITOR_CMD (R460, R598). -/
def replyLimit (c : Nat) (d : Desc) : Nat := if c = clientSB then min 256 (d.num 20 2) else d.num 20 2

/-- A reply is written for client `c`'s MONITOR_CMD, cut at its limit (R460). -/
def State.answerCmd (s : State) (c : Nat) (bytes : List Byte) : State :=
  match s.findFlight c awaitsReply with
  | none => s
  | some j => match (s.client c).flight[j]? with
    | none => s
    | some x =>
      let n := min bytes.length (replyLimit c x.desc)
      s.deliver c j (bytes.take n) (if n < bytes.length then .partialDone else .ok) (BitVec.ofNat 32 n) 0

/-- The one reply to a request (R603). -/
def State.sendReply (s : State) (r : MonReq) (cmd : Nat) (st : MonStatus) (payload : List Byte) : State :=
  let s := { s with dbg := { s.dbg with reply := some { via := r.via, cmd := cmd, tag := r.tag, status := st, payload := payload } } }
  let bytes := monPacket 0x11 cmd r.tag st.code payload
  match r.via with
  | .uart => { s with dbg := { s.dbg with tx := (monSync :: bytes) :: s.dbg.tx } }
  | .sb => s.answerCmd clientSB bytes
  | .pcie c => s.answerCmd c bytes
  | .line a n => s.postReply a n bytes

/-! ### Sessions (R601, R606) -/

/-- A transport that is a line session. -/
def onLine : Transport → Bool | .line _ _ => true | _ => false

/-- The session of a transport is open from its first command served in S0 or S1; every line session counts (R601, R606). -/
def State.openSession (s : State) (t : Transport) : State :=
  if s.dbg.sessions.contains t || !(s.coreOn || onLine t) then s else { s with dbg := { s.dbg with sessions := s.dbg.sessions ++ [t] } }

/-- A session ends. -/
def State.closeSession (s : State) (t : Transport) : State :=
  { s with dbg := { s.dbg with sessions := s.dbg.sessions.filter (fun x => decide (x ≠ t)) } }

/-- A fifth line session is asked for (R601). -/
def State.linesFull (s : State) (t : Transport) : Bool :=
  onLine t && !s.dbg.sessions.contains t && decide (4 ≤ (s.dbg.sessions.filter onLine).length)

/-! ### What the commands answer -/

/-- The state after a command, its status and payload; `later` when the reply waits for the end of a STEP. -/
structure MonOut where
  state : State
  status : MonStatus
  payload : List Byte
  later : Bool
  deriving DecidableEq, Repr

/-- Done, with a payload. -/
def monOk (s : State) (payload : List Byte) : MonOut := ⟨s, .ok, payload, false⟩

/-- Not done. -/
def monErr (s : State) (st : MonStatus) : MonOut := ⟨s, st, [], false⟩

/-- The payload has the length a command takes (Table 15-4). -/
def payloadIs (r : MonReq) (n : Nat) : Bool := decide (r.payload.length = n)

/-- PING. -/
def State.monPing (s : State) (r : MonReq) : MonOut :=
  if !payloadIs r 0 then monErr s .badArg
  else monOk s (toLe 6 s.dev.uid.toNat ++ toLe 2 s.dev.rom.toNat ++
    [BitVec.ofNat 8 (bit (s.on F.GLB_STATUS.patch_running) + 2 * bit s.residentUp + 4 * bit (s.on F.GLB_STATUS.manifest_defaulted))])

/-- STATUS. -/
def State.monStatus (s : State) (r : MonReq) : MonOut :=
  if !payloadIs r 0 then monErr s .badArg
  else monOk s (toLe 4 (s.value F.DBG_HALT_STATUS.halted.off).toNat ++ toLe 1 s.pwr.state ++ toLe 4 s.lpc.toNat ++ toLe 2 s.plt.sym)

/-- CLOSE. -/
def State.monClose (s : State) (r : MonReq) : MonOut :=
  if !payloadIs r 0 then monErr s .badArg else monOk (s.closeSession r.via) []

/-- REPLY_FETCH. -/
def State.monFetch (s : State) (r : MonReq) : MonOut :=
  if !payloadIs r 1 then monErr s .badArg
  else monOk s (((s.dbg.stored.find? (fun x => decide (x.1 = byteAt r.payload 0))).map (fun x => x.2)).getD [])

/-- The offsets of `n` words from `o`. -/
def wordOffsets (o n : Nat) : List Nat := (List.range n).map (fun i => o + 4 * i)

/-- Every register at these offsets is in a domain that is on; reserved offsets are in none. -/
def State.allOn (s : State) (os : List Nat) : Bool := os.all (fun o => (rowAt o).isNone || s.domainOn (domainOf o))

/-- REG_READ (R608, R650). -/
def State.monRegRead (s : State) (r : MonReq) : MonOut :=
  let o := leAt r.payload 0 2
  let n := byteAt r.payload 2
  if !payloadIs r 4 || decide (o % 4 ≠ 0) || decide (n = 0) || decide (0x10000 < o + 4 * n) || decide (1 < byteAt r.payload 3) then monErr s .badArg
  else if !s.allOn (wordOffsets o n) then monErr s .domainOff
  else
    let (t, bytes) := (wordOffsets o n).foldl (fun (x : State × List Byte) k =>
      (x.1.readDone k (!bitOf (byteAt r.payload 3) 0), x.2 ++ toLe 4 (x.1.value k).toNat)) (s, [])
    monOk t bytes

/-- REG_WRITE (R608). -/
def State.monRegWrite (s : State) (r : MonReq) : MonOut :=
  let o := leAt r.payload 0 2
  let n := (r.payload.length - 2) / 4
  if r.payload.length < 6 ∨ r.payload.length % 4 ≠ 2 ∨ o % 4 ≠ 0 ∨ 0x10000 < o + 4 * n then monErr s .badArg
  else if !s.allOn (wordOffsets o n) then monErr s .domainOff
  else if !s.cfg.groups.isEmpty && (wordOffsets o n).any (fun k => decide (s.stageable k ≠ 0)) then monErr s .refused
  else monOk ((List.range n).foldl (fun t i => t.writeWord .mon (o + 4 * i) (BitVec.ofNat 32 (leAt r.payload (2 + 4 * i) 4))) s) []

/-- The domain of element `e` is on: LS is in PHY, the others in CORE (Table 1-3). -/
def State.elemOn (s : State) (e : Nat) : Bool := if e = 3 then s.phyOn else s.coreOn

/-- The elements a halt of `mask` reaches, through the cross-trigger too (R614). -/
def State.haltReach (s : State) (mask : Nat) : List Nat :=
  let x := s.rf F.DBG_HALT_CTL.mask
  (List.range 4).filter (fun e => bitOf mask e || (bitOf x e && (elemsIn mask).any (fun n => bitOf x n && !s.halted n)))

/-- The halted mask. -/
def State.haltedMask (s : State) : List Byte := [BitVec.ofNat 8 (maskOf ((List.range 4).filter s.halted))]

/-- HALT (R614, R619, R626). -/
def State.monHalt (s : State) (r : MonReq) : MonOut :=
  let mask := byteAt r.payload 0
  if !payloadIs r 1 || decide (15 < mask) then monErr s .badArg
  else if onLine r.via && ((s.haltReach mask).contains 0 || (s.haltReach mask).contains 3) then monErr s .refused
  else if !(elemsIn mask).all s.elemOn then monErr s .domainOff
  else
    let t := s.haltElems mask 1
    monOk t t.haltedMask

/-- Element `e` runs on; LS comes back as a follower (R615, R618). -/
def State.resumeOne (s : State) (e : Nat) : State :=
  let s := s.freeElem e
  if e = 3 then s.lsRestart else s

/-- RESUME (R615). -/
def State.monResume (s : State) (r : MonReq) : MonOut :=
  let mask := byteAt r.payload 0
  if !payloadIs r 1 || decide (15 < mask) then monErr s .badArg
  else
    let named := (elemsIn mask).filter s.halted
    let t := named.foldl (fun t e => t.resumeOne e) s
    let t := if named.isEmpty then t else (t.traceAny 2 (maskOf named) 0).settleAll
    monOk t t.haltedMask

/-- STEP: the element runs until STEP_DONE (R610, R619, R626). -/
def State.monStep (s : State) (r : MonReq) : MonOut :=
  let e := byteAt r.payload 0
  let n := leAt r.payload 1 2
  if !payloadIs r 3 || decide (3 < e) || decide (n = 0) then monErr s .badArg
  else if e = 3 ∨ (onLine r.via ∧ e = 0) then monErr s .refused
  else if !s.elemOn e then monErr s .domainOff
  else if !s.halted e then monErr s .notHalted
  else
    let t := s.freeElem e
    let t := { t with dbg :=
      { t.dbg with elems := t.dbg.elems.modify e (fun x => { x with steps := n }), stepping := t.dbg.stepping ++ [(e, n, r)] } }
    ⟨t, .ok, [], true⟩

/-- ELEM_READ (R18). -/
def State.monElemRead (s : State) (r : MonReq) : MonOut :=
  let e := byteAt r.payload 0
  if !payloadIs r 1 || decide (3 < e) then monErr s .badArg
  else if !s.elemOn e then monErr s .domainOff
  else if !s.halted e then monErr s .notHalted
  else
    let x := s.elem e
    monOk s (toLe 4 x.pc.toNat ++ toLe 4 x.status.toNat ++ x.g.flatMap (fun w => toLe 4 w.toNat) ++ toLe 1 x.cause)

/-- ELEM_WRITE (R610). -/
def State.monElemWrite (s : State) (r : MonReq) : MonOut :=
  let e := byteAt r.payload 0
  let k := byteAt r.payload 1
  if !payloadIs r 6 || decide (3 < e) || decide (15 < k) then monErr s .badArg
  else if !s.elemOn e then monErr s .domainOff
  else if !s.halted e then monErr s .notHalted
  else
    let v : Word := BitVec.ofNat 32 (leAt r.payload 2 4)
    monOk ({ s with dbg := { s.dbg with elems := s.dbg.elems.modify e (fun x => { x with g := x.g.set k v }) } }.put F.DBG_MON_STATUS.tampered true) []

/-- Why a range of the banks cannot be reached, if it cannot: outside the banks or over a bank's end, its domain off, its owner running
(R609). -/
def State.bankErr (s : State) (a n : Nat) : Option MonStatus :=
  if n = 0 ∨ 0x180000 < a + n ∨ a / 0x20000 ≠ (a + n - 1) / 0x20000 then some .badArg
  else if !s.coreOn then some .domainOff
  else if !s.halted (bankOwner (a / 0x20000)) then some .notHalted
  else none

/-- MEM_READ (R609). -/
def State.monMemRead (s : State) (r : MonReq) : MonOut :=
  let a := leAt r.payload 0 4
  let n := leAt r.payload 4 2
  if !payloadIs r 6 || decide (1024 < n) then monErr s .badArg
  else match s.bankErr a n with
    | some st => monErr s st
    | none => monOk s (Cells.getList (sramByte s.mem.lostAt) s.mem.sram a n)

/-- MEM_WRITE (R609, R610). -/
def State.monMemWrite (s : State) (r : MonReq) : MonOut :=
  let a := leAt r.payload 0 4
  let b := r.payload.drop 4
  if r.payload.length < 5 then monErr s .badArg
  else match s.bankErr a b.length with
    | some .badArg => monErr s .badArg
    | e =>
      if a / 0x20000 ≤ 1 then monErr s .refused
      else match e with
        | some st => monErr s st
        | none => monOk ({ s with mem := { s.mem with sram := Cells.setList (sramByte s.mem.lostAt) s.mem.sram a b } }.put F.DBG_MON_STATUS.tampered true) []

/-- OTP_READ (R20). -/
def State.monOtpRead (s : State) (r : MonReq) : MonOut :=
  let a := leAt r.payload 0 2
  let n := leAt r.payload 2 2
  if !payloadIs r 4 || decide (n = 0) || decide (1024 < n) || decide (4096 < a + n) then monErr s .badArg
  else monOk s (Cells.getList (fun _ => 0) s.dev.otp a n)

/-- The 16 bytes of a trace packet (Table 15-9). -/
def TracePkt.bytes (p : TracePkt) : List Byte :=
  [BitVec.ofNat 8 (64 * p.kind + p.port), BitVec.ofNat 8 p.lost] ++ toLe 2 p.sym ++ toLe 4 p.cycle.toNat ++ toLe 4 p.data.toNat
    ++ toLe 2 p.seq.toNat ++ [0, 0]

/-- The packet with index `i` of the buffer, if it holds one (R623, Table 15-10). -/
def State.tracePacket (s : State) (i : Nat) : Option TracePkt :=
  let n := s.dbg.trace.length
  let back := (s.rf F.DBG_TRACE_STATUS.write_index + 2047 - i % 1024) % 1024
  if back < n then s.dbg.trace[n - 1 - back]? else none

/-- TRACE_READ (R625): packets from an index on, as far as the buffer holds them. -/
def State.monTraceRead (s : State) (r : MonReq) : MonOut :=
  let i := leAt r.payload 0 2
  let n := leAt r.payload 2 2
  if !payloadIs r 4 || decide (1023 < i) || decide (n = 0) || decide (63 < n) then monErr s .badArg
  else if !s.coreOn then monErr s .domainOff
  else
    let ps := ((List.range n).map (fun k => s.tracePacket (i + k))).takeWhile (fun p => p.isSome)
    monOk s (toLe 4 (s.value F.DBG_TRACE_STATUS.write_index.off).toNat ++ (ps.filterMap id).flatMap TracePkt.bytes)

/-- STIM_WRITE (R621, R629). -/
def State.monStim (s : State) (r : MonReq) : MonOut :=
  let p := byteAt r.payload 0
  if !payloadIs r 6 || decide (p < 24) || decide (31 < p) || decide (byteAt r.payload 1 ≠ 0) then monErr s .badArg
  else monOk (s.stim p (leAt r.payload 2 4)) []

/-- FLASH_READ (R611). -/
def State.monFlashRead (s : State) (r : MonReq) : MonOut :=
  let a := leAt r.payload 0 4
  let n := leAt r.payload 4 2
  if !payloadIs r 6 || decide (n = 0) || decide (1024 < n) then monErr s .badArg
  else if s.mem.flashSize < a + n then monErr s .flashErr
  else monOk s (s.flashBytes a n)

/-- FLASH_ERASE (R611): whole 4 KB sectors read erased. -/
def State.monFlashErase (s : State) (r : MonReq) : MonOut :=
  let a := leAt r.payload 0 4
  let n := leAt r.payload 4 2
  if !payloadIs r 6 || decide (a % 4096 ≠ 0) || decide (n = 0) || decide (4096 < n) then monErr s .badArg
  else if s.mem.flashSize < a + 4096 * n then monErr s .flashErr
  else monOk { s with mem := { s.mem with flash := s.mem.flash.filter (fun c => decide (c.1 < a) || decide (a + 4096 * n ≤ c.1)) } } []

/-- What programming `b` leaves in a byte: an erased byte takes it; what a byte already programmed then holds is not given. -/
def programmed (free : Nat) (old b : Byte) : Byte := if old = 0xFF then b else Config.programmedByte free

/-- FLASH_WRITE (R611): bytes within one page. -/
def State.monFlashWrite (s : State) (r : MonReq) : MonOut :=
  let a := leAt r.payload 0 4
  let b := r.payload.drop 4
  if b.isEmpty || decide (256 < b.length) || decide (a / 256 ≠ (a + b.length - 1) / 256) then monErr s .badArg
  else if s.mem.flashSize < a + b.length then monErr s .flashErr
  else
    let new := b.mapIdx (fun i x => programmed (s.free + i) (Cells.get erasedByte s.mem.flash (a + i)) x)
    monOk (({ s with mem := { s.mem with flash := Cells.setList erasedByte s.mem.flash a new } }).takeFree b.length) []

/-- RESET is well-formed and can be carried out; the reset itself follows its reply (R612). -/
def State.monReset (s : State) (r : MonReq) : MonOut :=
  let kind := byteAt r.payload 0
  if !payloadIs r 2 || decide (2 < kind) || (decide (kind = 2) && decide (3 < byteAt r.payload 1)) then monErr s .badArg
  else if kind ≠ 0 ∧ !s.coreOn then monErr s .domainOff
  else monOk s []

/-- A command's answer (Table 15-4). -/
def State.monOp (s : State) (cmd : Nat) (r : MonReq) : MonOut :=
  match cmd with
  | 0x01 => s.monPing r
  | 0x02 => s.monStatus r
  | 0x03 => s.monClose r
  | 0x0C => s.monFetch r
  | 0x10 => s.monRegRead r
  | 0x11 => s.monRegWrite r
  | 0x20 => s.monHalt r
  | 0x21 => s.monResume r
  | 0x22 => s.monStep r
  | 0x23 => s.monElemRead r
  | 0x24 => s.monElemWrite r
  | 0x30 => s.monMemRead r
  | 0x31 => s.monMemWrite r
  | 0x32 => s.monOtpRead r
  | 0x40 => s.monTraceRead r
  | 0x41 => s.monStim r
  | 0x50 => s.monFlashRead r
  | 0x51 => s.monFlashErase r
  | 0x52 => s.monFlashWrite r
  | 0x60 => s.monReset r
  | _ => monErr s .unknown

/-! ### Serving a request (R604 to R607, R612) -/

/-- The block an element reset names (Table 15-4). -/
def resetTarget : Nat → ResetBlock | 0 => .ae0 | 1 => .ae1 | 2 => .tag | _ => .toll

/-- The reset an accepted RESET makes, with its reply: none for a full reset; the reply to the others goes out before the reset, which on the
line means that the restart does not lose it. -/
def State.makeReset (s : State) (r : MonReq) : State :=
  match byteAt r.payload 0 with
  | 0 => s.fullResetBy F.CFG_RESET_CAUSE.monitor false false
  | 1 => if onLine r.via then s.startWarm.sendReply r 0x60 .ok [] else (s.sendReply r 0x60 .ok []).startWarm
  | _ => (s.sendReply r 0x60 .ok []).resetBlock (resetTarget (byteAt r.payload 1))

/-- A resident command (Table 15-4). -/
def isResident (cmd : Nat) : Bool := decide (cmd = 0x50) || decide (cmd = 0x51) || decide (cmd = 0x52)

/-- A resident command wakes a sleeping node whose CC is able to run (R605). -/
def State.wakeResident (s : State) : State :=
  if s.halted 0 || s.cfg.restarting then s else if s.pwr.state = 1 then s.exitToRun else if s.pwr.state = 0 then s else s.wakeBy 2048

/-- The transport's previous command is unfinished (R607). -/
def State.monBusy (s : State) (t : Transport) : Bool := s.dbg.stepping.any (fun x => decide (x.2.2.via = t))

/-- The shell runs, and so does what carries the transport (R604, R605). -/
def State.shellHears (s : State) (t : Transport) : Bool := !s.pins.resetHeld && decide (s.pwr.state ≠ 5) && (!onLine t || s.ccUp)

/-- A request that passed its check runs and is answered. -/
def State.serve (s : State) (cmd : Nat) (r : MonReq) : State :=
  if !s.shellHears r.via then s
  else if s.monBusy r.via || s.linesFull r.via then (s.bump F.DBG_MON_STATUS.busy).sendReply r cmd .busy []
  else
    let s := s.openSession r.via
    let s := if isResident cmd then s.wakeResident else s
    if isResident cmd && !s.residentUp then s.sendReply r cmd .noResident []
    else
      let o := s.monOp cmd r
      if o.later then o.state
      else if cmd = 0x60 ∧ o.status = .ok then o.state.makeReset r
      else o.state.sendReply r cmd o.status o.payload

/-- PING. -/
def execPing (r : MonReq) (s : State) : Host.Outcome State Fault Refusal := .next (s.serve 0x01 r)
/-- STATUS. -/
def execStatus (r : MonReq) (s : State) : Host.Outcome State Fault Refusal := .next (s.serve 0x02 r)
/-- CLOSE. -/
def execClose (r : MonReq) (s : State) : Host.Outcome State Fault Refusal := .next (s.serve 0x03 r)
/-- REPLY_FETCH. -/
def execReplyFetch (r : MonReq) (s : State) : Host.Outcome State Fault Refusal := .next (s.serve 0x0C r)
/-- REG_READ. -/
def execRegRead (r : MonReq) (s : State) : Host.Outcome State Fault Refusal := .next (s.serve 0x10 r)
/-- REG_WRITE. -/
def execRegWrite (r : MonReq) (s : State) : Host.Outcome State Fault Refusal := .next (s.serve 0x11 r)
/-- HALT. -/
def execHalt (r : MonReq) (s : State) : Host.Outcome State Fault Refusal := .next (s.serve 0x20 r)
/-- RESUME. -/
def execResume (r : MonReq) (s : State) : Host.Outcome State Fault Refusal := .next (s.serve 0x21 r)
/-- STEP. -/
def execStep (r : MonReq) (s : State) : Host.Outcome State Fault Refusal := .next (s.serve 0x22 r)
/-- ELEM_READ. -/
def execElemRead (r : MonReq) (s : State) : Host.Outcome State Fault Refusal := .next (s.serve 0x23 r)
/-- ELEM_WRITE. -/
def execElemWrite (r : MonReq) (s : State) : Host.Outcome State Fault Refusal := .next (s.serve 0x24 r)
/-- MEM_READ. -/
def execMemRead (r : MonReq) (s : State) : Host.Outcome State Fault Refusal := .next (s.serve 0x30 r)
/-- MEM_WRITE. -/
def execMemWrite (r : MonReq) (s : State) : Host.Outcome State Fault Refusal := .next (s.serve 0x31 r)
/-- OTP_READ. -/
def execOtpRead (r : MonReq) (s : State) : Host.Outcome State Fault Refusal := .next (s.serve 0x32 r)
/-- TRACE_READ. -/
def execTraceRead (r : MonReq) (s : State) : Host.Outcome State Fault Refusal := .next (s.serve 0x40 r)
/-- STIM_WRITE. -/
def execStimWrite (r : MonReq) (s : State) : Host.Outcome State Fault Refusal := .next (s.serve 0x41 r)
/-- FLASH_READ. -/
def execFlashRead (r : MonReq) (s : State) : Host.Outcome State Fault Refusal := .next (s.serve 0x50 r)
/-- FLASH_ERASE. -/
def execFlashErase (r : MonReq) (s : State) : Host.Outcome State Fault Refusal := .next (s.serve 0x51 r)
/-- FLASH_WRITE. -/
def execFlashWrite (r : MonReq) (s : State) : Host.Outcome State Fault Refusal := .next (s.serve 0x52 r)
/-- RESET. -/
def execReset (r : MonReq) (s : State) : Host.Outcome State Fault Refusal := .next (s.serve 0x60 r)

/-- STEP_DONE (R613, R626): the element has run its count and halts with cause 5, or a cross-trigger has stopped it before, after a number
of instructions that no rule gives; the STEP is answered. -/
def execStepDone (e : Elem) (s : State) : Host.Outcome State Fault Refusal :=
  let k := elemNum e
  .next (match s.dbg.stepping.find? (fun x => decide (x.1 = k)) with
    | none => s
    | some (_, n, r) =>
      let s := { s with dbg := { s.dbg with stepping := s.dbg.stepping.filter (fun x => decide (x.1 ≠ k)) } }
      if s.halted k then
        let m := min n (Config.steppedCount s.free)
        (s.takeFree 1).sendReply r 0x22 .ok (toLe 2 m)
      else (s.haltElems (2 ^ k) 5).sendReply r 0x22 .ok (toLe 2 n))

/-- EXTERNAL_TRIGGER (R49, R613, R631): a rising edge on the pin named, which no strobe drives, halts the mask. -/
def execExternalTrigger (gpio : Fin 8) (s : State) : Host.Outcome State Fault Refusal :=
  .next (if s.on F.DBG_HALT_CTL.xtrig_in_en ∧ s.rf F.DBG_HALT_CTL.xtrig_in_gpio = gpio.val ∧ !s.strobeOn 0 gpio ∧ !s.strobeOn 1 gpio ∧ !s.pins.resetHeld then
      s.haltElems (s.rf F.DBG_HALT_CTL.mask) 4
    else s)

/-! ### Transports -/

/-- A packet as its transport delivers it: it runs, or is discarded and counted (R602). -/
def State.packetIn (s : State) (t : Transport) (b : List Byte) : State :=
  match parseRequest b with
  | some (cmd, tag, payload) => s.serve cmd { via := t, tag := tag, payload := payload }
  | none => s.bump F.DBG_MON_STATUS.crc_errors

/-- The bytes received on the UART: each packet after a sync byte runs; after a failed one the search goes on behind its sync byte; what is
not yet whole stays (R597). -/
def State.uartScan (s : State) : Nat → List Byte → State × List Byte
  | 0, b => (s, b)
  | n + 1, b =>
    match b.dropWhile (fun x => decide (x ≠ monSync)) with
    | [] => (s, [])
    | _ :: r =>
      let len := leAt r 4 2
      if r.length < 8 ∨ (len ≤ 1024 ∧ r.length < 8 + len) then (s, monSync :: r)
      else if (parseRequest (r.take (8 + len))).isSome then (s.packetIn .uart (r.take (8 + len))).uartScan n (r.drop (8 + len))
      else (s.bump F.DBG_MON_STATUS.crc_errors).uartScan n r

/-- UART_PACKET: bytes on MON_RX, sync included. -/
def execUartPacket (bytes : List Byte) (s : State) : Host.Outcome State Fault Refusal :=
  .next (if !s.shellHears .uart then s
    else
      let all := s.dbg.rx ++ bytes
      let (t, rest) := ({ s with dbg := { s.dbg with tx := [], rx := [] } }).uartScan all.length all
      { t with dbg := { t.dbg with rx := rest } })

/-- UART_BYTE_GAP (R597). -/
def execUartByteGap (s : State) : Host.Outcome State Fault Refusal := .next { s with dbg := { s.dbg with rx := [] } }

/-- MONITOR_SESSION_IDLE (R601, R606). -/
def execMonitorSessionIdle (t : Transport) (s : State) : Host.Outcome State Fault Refusal := .next (s.closeSession t)

/-- MONITOR_FRAGMENT_TIMEOUT (R599). -/
def execMonitorFragmentTimeout (addr : Fin 128) (session : Byte) (s : State) : Host.Outcome State Fault Refusal :=
  .next { s with dbg := { s.dbg with frags := s.dbg.frags.filter (fun x =>
    decide (x.addr ≠ addr.val) || decide (x.session ≠ session.toNat) || decide ((s.lpc - x.cycle).toNat < 256)) } }

/-- A line reply is kept, at most one for each of 4 sessions (R600). -/
def State.keepReply (s : State) (session : Nat) (b : List Byte) : State :=
  let others := s.dbg.stored.filter (fun x => decide (x.1 ≠ session))
  { s with dbg := { s.dbg with stored := others.drop (others.length - 3) ++ [(session, b)] } }

/-- A fragment from node `src`: the first starts a packet, one in order joins it, one out of order discards it; the last completes it
(R599, R600). -/
def State.monFragment (s : State) (src : Nat) (p : List Byte) : State :=
  let session := byteAt p 0
  let reply := bitOf (byteAt p 1) 0
  let i := byteAt p 2
  let mine (x : Frag) : Bool := decide (x.addr = src) && decide (x.session = session) && decide (x.reply = reply)
  let before := if i = 0 then some [] else match s.dbg.frags.find? mine with | some x => if x.next = i then some x.bytes else none | none => none
  let s := { s with dbg := { s.dbg with frags := s.dbg.frags.filter (fun x => !mine x) } }
  match before with
  | none => s
  | some b =>
    let b := b ++ p.drop 4
    if bitOf (byteAt p 1) 1 then
      if reply then s.keepReply session b else s.packetIn (.line src session) b
    else { s with dbg := { s.dbg with frags := s.dbg.frags ++ [{ addr := src, session := session, reply := reply, next := i + 1, bytes := b, cycle := s.lpc }] } }

/-! ### MONITOR_CMD (R388, R460, R598) -/

/-- The MONITOR_CMD of client `c` whose turn has come: it needs no CC. -/
def State.monTurn (s : State) (c : Nat) : Option (Nat × InFlight) :=
  let fl := (s.client c).flight
  (List.range fl.length).findSome? (fun j => match fl[j]? with
    | some x => if (s.client c).running ∧ x.desc.opcode = 0xA0 ∧ x.phase = .fetched ∧ mayStart fl j then some (j, x) else none
    | none => none)

/-- The transport of client `c`. -/
def cmdTransport (c : Nat) : Transport := if h : c < 16 then .pcie ⟨c, h⟩ else .sb

/-- The packet runs; one that is discarded has no reply to write. -/
def State.runMonitorCmd (s : State) (c j : Nat) (d : Desc) (packet : List Byte) : State :=
  if c = clientSB ∧ d.num 24 8 ≠ 0 then s.finish c j .badDesc 0 0
  else if (parseRequest packet).isNone then (s.packetIn (cmdTransport c) packet).finish c j .ok 0 0
  else (s.setPhase c j .monitor).packetIn (cmdTransport c) packet

/-- MONITOR_CMD (R460): it runs while CC is halted. -/
def execMonitorCmd (c : Client) (buf : List Byte) (s : State) : Host.Outcome State Fault Refusal :=
  .next (match s.monTurn c with
    | none => s
    | some (j, x) =>
      if s.pins.resetHeld || decide (s.pwr.state = 5) then s
      else
        let s := s.stim 5 (x.desc.id.toNat + 65536 * c.val)
        (match checkDesc c x.desc with
          | some st => s.finish c j st 0 0
          | none => s.runMonitorCmd c j x.desc (s.bufferOf c x.desc buf)).settle c)

/-! ### Trace sink 2 (R623) -/

/-- TRACE_DATA: up to 32 packets leave the buffer on MON_TX. -/
def execTraceData (s : State) : Host.Outcome State Fault Refusal :=
  .next (if s.on F.DBG_TRACE_CTL.en ∧ s.sink = 2 ∧ s.dbg.trace ≠ [] ∧ s.coreOn then
      let ps := s.dbg.trace.take 32
      { s with dbg :=
        { s.dbg with trace := s.dbg.trace.drop 32, tx := (monSync :: monPacket 0x11 0x7F 0 0 (ps.flatMap TracePkt.bytes)) :: s.dbg.tx } }
    else s)

end Sys2Proof.Machine
end

