-- ==== Sys2Proof/Machine/LineRx.lean ====
section
/-! DEFINITION. What a node makes of the bursts other than ledger frames that reach it: talker slots, the pairs at its own bell position, and,
at the master, the bell field and join requests (R71, R79, R84 to R92, R99 to R105, R113 to R116, R128, R140, R191). -/

namespace Sys2Proof.Machine

/-! ### SLOT_RECEIVED -/

/-- The node sends in slot `k` of port `p` in this cycle, and so does not receive there. -/
def State.sendsIn (s : State) (p : Port) (k : Nat) : Bool :=
  s.phy.tx.any (fun b => match b with | .slot q j _ _ _ => decide (q = p) && decide (j = k) | _ => false)

/-- A valid transmission in slot `k` at the master: the lease's count restarts (Table 3-10); after a takeover the source heard replaces the
rebuilt entry, through t + 17 or t + 18 (Table 4-5). -/
def Master.slotHeard (m : Master) (now : Word) (k : Nat) (x : RxSlot) : Master :=
  let m := match m.lease k with
    | some l => if l.holder = x.source ∧ l.sentAt.isSome then m.setLease k (some { l with missed := 0, held := true, heard := true }) else m
    | none => m
  match m.takeover with
  | none => m
  | some t =>
    let m := { m with heard := if m.heard.contains x.source then m.heard else x.source :: m.heard }
    if later now (t + 17 + BitVec.ofNat 32 (k / 32)) then m
    else match m.lease k with
      | some l => if l.holder = x.source then m
          else m.setLease k (some { l with holder := x.source, group := x.group, missed := 0, held := true, heard := true })
      | none => m.setLease k (some { holder := x.source, group := x.group, prec := 0, format := max 1 x.format, missed := 0, held := true, heard := true,
                                     stamp := m.stamp, sentAt := some now })

/-- A slot whose CRC failed: counted, and charged to the holder (R79, R679, Table 15-8 port 9). -/
def State.slotFailed (s : State) (p : Port) (k : Nat) (holder : Option Nat) : State :=
  let s := (s.bump (rxF p F.LINE_RX_ERR0.slot_crc)).modLnk p (fun l => { l with crcSince := min 65535 (l.crcSince + 1) })
  let s := match holder with | some a => s.chargeCrc p a | none => s
  s.stim 9 (k + 256 * portNum p + 65536 * (holder.getD 0x7F % 128))

/-- The source of a slot with a valid CRC beside the holder expected: it trains and credits only the holder's own (R84 to R86, R88), and the
node's own address in a slot it does not hold is a conflict (R92). -/
def State.slotSource (s : State) (p : Port) (k : Nat) (holder : Option Nat) (x : RxSlot) : State :=
  let s := match holder with
    | some a => if x.source = a then (s.creditCrc p a).adaptTaps p a else s.bump (rxF p F.LINE_RX_ERR2.src_mismatch)
    | none => s
  let s := if s.addr p = some x.source ∧ !s.holds p k then s.ownAddrSeen p else s
  if s.mastering p then (s.hearNode p x.source).modMst p (fun m => m.slotHeard s.lpc k x) else s

/-- SLOT_RECEIVED (R79): in S0 and S1 alone (R540, R541). A slot without training, with a failed CRC or of a reserved format is missing; any
other is kept for the mixer (R37) and for forwarding (R186). -/
def execSlotReceived (k : Fin 64) (b : SlotBurst) (s : State) : Host.Outcome State Fault Refusal :=
  let p := b.port
  let x := parseSlot p b.header b.payload
  let holder := s.holderOf p k
  .next (if !s.hears p || !s.coreOn || s.sendsIn p k || !b.trained then s
    else if b.crc.toNat ≠ slotCrc s.lpc k b.header b.payload then s.slotFailed p k holder
    else
      let s := s.slotSource p k holder x
      if 5 ≤ x.format then s.bump (rxF p F.LINE_RX_ERR1.format_reserved)
      else
        let s := if s.wayOn then s.keepSlot k x else s
        if s.mixPort = p then { s with mix := { s.mix with rx := Cells.set (fun _ => none) s.mix.rx k (some x) } } else s)

/-! ### Bells (R71, R72, R99 to R105) -/

/-- The noise floor in use on a port, in 0.25 mV (R90). -/
def State.floorOf (s : State) : Port → Nat | .a => s.rf F.LINE_NOISE.a_noise | .b => s.rf F.LINE_NOISE.b_noise

/-- The pair reads as rung (R71): its peak above min_level, its RMS above the floor raised by 6, 9, 12 or 15 dB. Decibels are compared exactly,
in twentieth powers. -/
def State.rung (s : State) (p : Port) (o : BellObs) : Bool :=
  decide (s.rf F.LINE_BELL_CTL.min_level < o.peak)
    && decide (s.floorOf p ^ 20 * 10 ^ (6 + 3 * s.rf F.LINE_BELL_CTL.margin) < o.rms ^ 20)

/-- The node rings its own position of port `p` in this cycle. -/
def State.ringsOwn (s : State) (p : Port) : Bool :=
  s.phy.tx.any (fun b => match b with | .bell q a _ _ => decide (q = p) && decide (s.addr p = some a) | _ => false)

/-- BELL_RECEIVED (R71, R72): a pair at the node's own position on port A. It wakes a node in S2 (R540), and one in Watch when it is the call
or the ledger-waiting pair, which then waits for the message until cycle b + 16 (R104). -/
def execBellReceived (o : BellObs) (s : State) : Host.Outcome State Fault Refusal :=
  .next (if !s.hears .a || s.mastering .a || decide (s.addr .a ≠ some o.position.val) || s.ringsOwn .a || !s.rung .a o then s
    else if s.pwr.state = 2 then s.wakeBy 1
    else if s.pwr.state = 3 ∧ o.pair.val ≠ 1 then
      let s := s.wakeBy 1
      { s with pwr := { s.pwr with bellUntil := some (s.lpc + 16) } }
    else s)

/-- Addresses at which pair `k` is rung, of those the master knows beside its own (R99), lowest first. -/
def State.ringers (s : State) (p : Port) (os : List BellObs) (k : Nat) : List Nat :=
  (List.range 128).filter (fun a => (s.mst p).knows a && decide (s.addr p ≠ some a)
    && os.any (fun o => decide (o.position.val = a) && decide (o.pair.val = k) && s.rung p o))

/-- A bell from node `a` reaches the master: it is heard, and awake if it slept (R102, R162). -/
def State.bellFrom (s : State) (p : Port) (a : Nat) : State :=
  let s := s.hearNode p a
  match (s.mst p).rowOf a with
  | some r =>
    if r.sleeping then
      let row := { r.row with flags := r.row.flags &&& 0xF7 }
      (s.modMst p (fun m => m.modRow a (fun r => { r with sleeping := false, row := row }))).rosterDelta p [row]
    else s
  | none => s

/-- A request reaches the master: one already queued is answered with its place, any other is served (R121, R124). -/
def State.request (s : State) (p : Port) (q : MReq) : State :=
  match (s.mst p).queue.find? (fun x => decide (x.addr = q.addr) && decide (x.reqId = q.reqId)) with
  | some x => s.grantOut p [{ code := 1, holder := x.addr, slot := 0xFF, group := x.group, prec := x.prec, format := x.format,
                              pos := queuePos (s.mst p).queue x.addr x.reqId, reqId := x.reqId }]
  | none => s.takeRequest p q

/-- A pair-1 bell of node `a`: a request on its standing profile, with the profile's catch-up slots when pair 2 was rung too (R97, R98). -/
def State.bellRequest (s : State) (p : Port) (a : Nat) (with2 : Bool) : State :=
  match (s.mst p).rowOf a with
  | some r => s.request p { addr := a, group := r.profile.group, format := r.profile.format, prec := r.profile.prec,
                            catchup := if with2 then r.profile.catchup else 0, reqId := 0 }
  | none => s

/-- LEASE_REQ of node `a` at the master (R120, R121, R680, Table 3-6). -/
def State.leaseReqFrom (s : State) (p : Port) (a : Nat) (d : List Byte) : State :=
  let group := byteAt d 1
  let format := byteAt d 2
  let prec := byteAt d 3
  let cu := byteAt d 4
  let id : Half := BitVec.ofNat 16 (beAt d 6 2)
  let ok := decide (group ≤ 63) && (decide (format = 1) || decide (format = 2)) && decide (prec ≤ 3) && decide (cu ≤ 2)
  match byteAt d 0 with
  | 0 =>
    if ok then s.request p { addr := a, group := group, format := format, prec := prec, catchup := cu, reqId := id }
    else s.grantOut p [{ code := 3, holder := a, slot := 0xFF, group := group, prec := prec, format := format, pos := 0, reqId := id }]
  | 1 => if ok then s.modMst p (fun m => m.modRow a (fun r => { r with profile := ⟨group, format, prec, cu⟩ })) else s
  | 2 =>
    let s := s.modMst p (fun m => { m with queue := m.queue.filter (fun q => decide (q.addr ≠ a) || decide (q.reqId ≠ id)) })
    s.grantOut p [{ code := 6, holder := a, slot := 0xFF, group := 0, prec := 0, format := 1, pos := 0, reqId := id }]
  | _ => s

/-- The owner of a message learns that it has been sent, or, on a master, has reached it: requests and cancellations (Table 3-11, R442). -/
def State.requestSent (s : State) (p : Port) (o : MsgOwner) : State :=
  match o with
  | .leaseReq id => s.modLnk p (fun l => l.modReq id (fun q => { q with phase := .sent, sentAt := s.lpc }))
  | .cancel c id =>
    match s.findFlight c (fun x => decide (x.desc.id = id) && (match x.phase with | .talkClose _ => true | _ => false)) with
    | some j => match ((s.client c).flight[j]?).map (fun (x : InFlight) => x.phase) with
      | some (.talkClose n) =>
        let result := match s.session n with | some x => x.closeResult | none => 0
        let s := s.modLnk p (fun l => { l with reqs := l.reqs.filter (fun q => decide (q.owner ≠ .session n)) })
        (s.setSession n none).finish c j .ok result 0
      | _ => s
    | none => s
  | _ => s

/-- A standing request that has not been rung yet. -/
def TalkReq.toRing (q : TalkReq) : Bool := q.standing && decide (q.phase = .unsent)

/-- The standing request to be rung goes out: its bells are due no more unless another waits (R97). -/
def State.rangStanding (s : State) (p : Port) : State :=
  match (s.lnk p).reqs.find? TalkReq.toRing with
  | none => s.modLnk p (fun l => { l with ring1 := false, ring12 := false })
  | some q => s.modLnk p (fun l =>
      let l := l.modReq q.reqId (fun x => { x with phase := .sent, sentAt := s.lpc })
      let rest := l.reqs.filter TalkReq.toRing
      { l with ring1 := rest.any (fun x => decide (x.catchup = 0)), ring12 := rest.any (fun x => decide (x.catchup ≠ 0)) })

/-- The master's own requests: a standing one on its own profile, and each LEASE_REQ it has queued, which needs no frame (R121). -/
def State.ownRequests (s : State) (p : Port) : State :=
  match s.addr p with
  | none => s
  | some a =>
    let s := match (s.lnk p).reqs.find? TalkReq.toRing with
      | some q => (s.rangStanding p).request p { addr := a, group := q.group, format := q.format, prec := q.prec, catchup := q.catchup, reqId := 0 }
      | none => s
    let own (m : Msg) : Bool := decide (m.typ.toNat = tyLeaseReq)
    let ms := ((s.lnk p).urgent ++ (s.lnk p).routine).filter own
    ms.foldl (fun t m => (t.leaseReqFrom p a m.payload).requestSent p m.owner) (s.modLnk p (fun l => l.purge own))

/-- Repeats toward sleeping nodes that fall due: they are queued here to be owned in cycles b + 8 and b + 16 (R103). -/
def State.dueRepeats (s : State) (p : Port) : State :=
  let due (r : Repeat) : Bool := decide (s.lpc = r.first + 7) || decide (s.lpc = r.first + 15)
  let rs := (s.mst p).repeats
  let s := (rs.filter due).foldl (fun t r => t.post p r.msg) s
  s.modMst p (fun m => { m with repeats := m.repeats.filter (fun r => later (r.first + 15) s.lpc) })

/-- The lowest address of a list above `last`, wrapping (Table 3-1). -/
def nextServed (last : Nat) (as : List Nat) : Option Nat :=
  match as.find? (fun a => decide (last < a)) with
  | some a => some a
  | none => as.head?

/-- The RANGE_POLL that this cycle's frame carries, by its target (Table 3-1 rule 1): the frame is the master's own and it leads its queue. -/
def State.pollsNow (s : State) (p : Port) : Option Nat :=
  let owns : Bool := match (s.lnk p).beacon with | some b => !b.noOwner && decide (s.addr p = some b.ledgerOwner) | none => false
  match (s.lnk p).head with
  | some m => if owns && decide (m.typ.toNat = tyRangePoll) then some m.destination.toNat else none
  | none => none

/-- The owner of the next ledger frame (R105, Table 3-1), with what each rule served last. -/
def State.chooseOwner (s : State) (p : Port) (rang2 rang0 : List Nat) : State :=
  let m := s.mst p
  let l := s.lnk p
  let own := s.addr p
  let set (o : Option Nat) : State := s.modMst p (fun m => { m with owner := o })
  match s.pollsNow p with
  | some a => set (some a)
  | none =>
    if !l.urgent.isEmpty then set own
    else match nextServed m.served3 rang2 with
      | some a => s.modMst p (fun m => { m with owner := some a, served3 := a })
      | none =>
        if !l.routine.isEmpty ∧ 8 ≤ m.sinceOwned then set own
        else match nextServed m.served5 rang0 with
          | some a => s.modMst p (fun m => { m with owner := some a, served5 := a })
          | none => set (if l.routine.isEmpty then none else own)

/-- BELL_FIELD_READ (R99, R105): at the end of the bell field the master has read the pairs of every position. On a Quiet line, in a cycle that
carries a beacon, a lease request or an urgent pair brings the line back (R140, R141). -/
def execBellFieldRead (p : Port) (os : List BellObs) (s : State) : Host.Outcome State Fault Refusal :=
  .next (if !s.mastering p || !s.hears p || !s.ccLink || !(decide (s.lineState p = 0) || quietBeaconCycle s.lpc) then s
    else
      let s := { s with plt := { s.plt with sym := max s.plt.sym 1024 } }
      let r0 := s.ringers p os 0
      let r1 := s.ringers p os 1
      let r2 := s.ringers p os 2
      let s := ((List.range 128).filter (fun a => r0.contains a || r1.contains a || r2.contains a)).foldl (fun t a => t.bellFrom p a) s
      let s := if r1.isEmpty && r2.isEmpty then s else s.triggerActive p
      let s : State := r1.foldl (fun t a => t.bellRequest p a (r2.contains a)) s
      let s := (s.ownRequests p).dueRepeats p
      if s.lineState p ≠ 0 then s
      else
        let ranged := (List.range 128).filter (fun a => r0.contains a || (s.mst p).rangedNow.contains a)
        s.chooseOwner p r2 ranged)

/-! ### JOIN_REQUEST_RECEIVED (R99, R100, R115, R116, R164, R191) -/

/-- Declared class of a nonce_word: 1 to 3 (Table 2-11). -/
def nonceClass (n : Nat) : Nat := classOf (n / 16)

/-- The row a join request gives its node; a UID in the roster keeps what the master knows of it but its class and flags. -/
def joinRow (old : Option MasterRow) (addr : Nat) (uid : Uid) (nonce rtd admitted : Nat) : MasterRow :=
  { row := { addr := addr, uid := uid, room := (match old with | some r => r.row.room | none => 0),
             flags := rosterFlags admitted (bitOf nonce 2) false (bitOf nonce 1) (bitOf nonce 3) false (bitOf nonce 0) }
    rtd := rtd, profile := (match old with | some r => r.profile | none => ⟨0, 1, 0, 0⟩), declared := nonceClass nonce, admitted := admitted
    prio := old.bind (fun r => r.prio), sleeping := false, listen := (match old with | some r => r.listen | none => 0)
    unheard := 0, polls := 0, pollReason := none, pollSent := none, stalePoll := none }

/-- A node of UID `uid` is given address `a`. -/
def State.admitNode (s : State) (p : Port) (old : Option MasterRow) (a : Nat) (uid : Uid) (nonce rtd : Nat) : State :=
  let m := s.mst p
  let others := m.admittedTotal - (match old with | some r => classLimit r.admitted | none => 0)
  let c := s.grantClass others (nonceClass nonce)
  let r := joinRow old a uid nonce rtd c
  let s := s.modMst p (fun m => { m with roster := insertRow r m.roster })
  let s := s.post p (newMsg s.lpc 0xFF tyAddressAssign (assignPayload uid (BitVec.ofNat 16 nonce) 0 a rtd c) .none)
  (s.rosterDelta p [r.row]).showAdmitted p

/-- A join request that passed its CRC. -/
def State.joinFrom (s : State) (p : Port) (uid : Uid) (nonce rtd : Nat) : State :=
  let m := s.mst p
  let old := m.roster.find? (fun r => decide (r.row.uid = uid))
  let s := (s.modMst p (fun m => { m with idle := 0 })).triggerActive p
  match old with
  | some r =>
    let s := if m.rearguard = some r.row.addr then s.modMst p (fun m => { m with passOver := r.row.addr :: m.passOver }) else s
    (s.admitNode p old r.row.addr uid nonce rtd).nameRear p
  | none => match (List.range 128).find? (fun a => !m.knows a) with
    | some a => (s.admitNode p none a uid nonce rtd).nameRear p
    | none => s.post p (newMsg s.lpc 0xFF tyAddressAssign (assignPayload uid (BitVec.ofNat 16 nonce) 2 0xFF rtd 0) .none)

/-- JOIN_REQUEST_RECEIVED (R81, R82, R115): in an open join window, with its training found within 44 symbols. -/
def execJoinRequestReceived (j : JoinBurst) (s : State) : Host.Outcome State Fault Refusal :=
  let p := j.port
  let open_ := match (s.mst p).last with | some b => b.joinOpen && decide (b.cycle = s.lpc) | none => false
  .next (if !s.mastering p || !s.hears p || !s.ccLink || !open_ || decide (704 < j.arrival) then s
    else
      let s := { s with plt := { s.plt with sym := max s.plt.sym 15480 } }
      if beAt j.body 8 2 ≠ joinCrc s.lpc j.body then s.bump (rxF p F.LINE_RX_ERR2.join_crc)
      else
        let uid : Uid := BitVec.ofNat 48 (beAt j.body 0 6)
        if uid = s.dev.uid then s else s.joinFrom p uid (beAt j.body 6 2) j.arrival)

end Sys2Proof.Machine
end

