-- ==== Sys2Proof/Machine/LedgerIn.lean ====
section
/-! DEFINITION. Ledger messages received: joining and ranging, leases, calls, rosters and checkpoints, time, power, status and services
(R83, R99, R102, R108 to R121, R126 to R129, R136 to R138, R165, R170, R178, R191, R262, R553, R599). -/

namespace Sys2Proof.Machine

/-- Nothing about the message wakes a node in S2 (R540). -/
def wakesNobody (_ : State) : Bool := false

/-- The port's master acts on frames of nodes its roster holds alone (R99). -/
def State.fromMember (s : State) (f : LedgerFrame) : Bool := s.mastering f.port && (s.mst f.port).knows (f.source.toNat % 128)

/-! ### ADDRESS_ASSIGN (R116, Table 3-4) -/

/-- Log2 of the first and of the largest backoff window (Table 3-15). -/
def State.joinFirst (s : State) (p : Port) : Nat := min 10 (s.rf (lkF p F.LINE_JOIN_CTL.join_first_log2))

/-- Log2 of the largest window. -/
def State.joinMax (s : State) (p : Port) : Nat := max (s.joinFirst p) (min 10 (s.rf (lkF p F.LINE_JOIN_CTL.join_max_log2)))

/-- A backoff starts: its window, and the wait that `draw` gives (Listing 3-1). -/
def Link.backoff (l : Link) (window draw : Nat) : Link := { l with joinWindow := window, joinWait := 1 + draw % window, joinSent := none }

/-- The class the master admits applies to the node itself, on the port it draws its power from (R204). -/
def State.takeClass (s : State) (p : Port) (c : Nat) : State :=
  match p with | .a => s.ownClass (classOf c) | .b => s

/-- Status 0: the address is the node's, its advance is `rtd`, and its first NODE_STATUS falls due (R111). -/
def State.takeAddress (s : State) (p : Port) (addr rtd cls : Nat) : State :=
  let s := ((s.put (lkF p F.LINE_ADDR.assigned) true).wr (lkF p F.LINE_ADDR.addr) addr).wr (lkF p F.LINE_ADDR.rtd) rtd
  let s := s.modLnk p (fun l => { l with joinSent := none, joinWindow := 0, joinWait := 0 })
  (s.takeClass p cls).statusDue p

/-- Status 1: a new advance; re-ranging ends (R116, R175). -/
def State.takeTiming (s : State) (p : Port) (rtd cls : Nat) : State :=
  let s := (s.wr (lkF p F.LINE_ADDR.rtd) rtd).takeClass p cls
  if (s.lnk p).reRange.isSome then (s.modLnk p (fun l => { l with reRange := none })).put F.LINE_MASTER_STATUS.re_ranging false else s

/-- An ADDRESS_ASSIGN for this node's UID; status 2 keeps the backoff at its largest window. -/
def State.takeAssign (s : State) (p : Port) (d : List Byte) : State :=
  let joined := decide ((s.lnk p).nonce = some (BitVec.ofNat 16 (beAt d 6 2)))
  let held := (s.addr p).isSome
  match byteAt d 8 with
  | 0 => if joined then s.takeAddress p (byteAt d 9 % 128) (beAt d 10 2) (byteAt d 12) else s
  | 1 => if held then s.takeTiming p (beAt d 10 2) (byteAt d 12) else s
  | 2 => if joined then (s.modLnk p (fun l => l.backoff (2 ^ s.joinMax p) (Config.backoffDraw s.free))).takeFree 1 else s
  | 3 => if held then s.giveUpAddress p 3 else s
  | _ => s

/-- ADDRESS_ASSIGN (R116). -/
def execAddressAssign (f : LedgerFrame) (s : State) : Host.Outcome State Fault Refusal :=
  .next (s.frame f tyAddressAssign wakesNobody (fun s =>
    if beAt f.payload 0 6 = s.dev.uid.toNat then s.takeAssign f.port f.payload else s))

/-! ### RANGE_POLL, RANGE_REPLY (R83, R118) -/

/-- RANGE_POLL (R118): the reply leaves in the frame of the next cycle. -/
def execRangePoll (f : LedgerFrame) (s : State) : Host.Outcome State Fault Refusal :=
  .next (s.frame f tyRangePoll wakesNobody (fun s =>
    if beAt f.payload 0 6 = s.dev.uid.toNat ∧ (s.addr f.port).isSome then
      s.modLnk f.port (fun l => { l with rangeReply := some (BitVec.ofNat 8 (byteAt f.payload 6)) })
    else s))

/-- The master has measured the RTD of node `a`: one that differs from its advance by more than 4 units is sent to it (R118). -/
def State.ranged (s : State) (p : Port) (r : MasterRow) (rtd : Nat) : State :=
  let a := r.row.addr
  let s := s.modMst p (fun m => m.modRow a (fun r => { r with pollReason := none, pollSent := none, polls := 0 }))
  if rtd ≤ r.rtd + 4 ∧ r.rtd ≤ rtd + 4 then s
  else
    (s.modMst p (fun m => m.modRow a (fun r => { r with rtd := rtd }))).post p
      (newMsg s.lpc 0xFF tyAddressAssign (assignPayload r.row.uid 0 1 a rtd r.admitted) .none)

/-- A RANGE_REPLY whose long training block trains every receiver, whoever the frame is for (R83). -/
def State.trainsOn (s : State) (f : LedgerFrame) : Bool :=
  s.hears f.port && decide (s.pwr.state < 3) && decide (f.typ.toNat = tyRangeReply) && decide (f.length.toNat = 160)
    && decide (f.payload.length = 160) && s.frameCrcOk f

/-- RANGE_REPLY (R83, R118). `arrival` is the RTD measured from the frame's training, in 1/16 symbol. -/
def execRangeReply (f : LedgerFrame) (arrival : Nat) (s : State) : Host.Outcome State Fault Refusal :=
  let t := s.frame f tyRangeReply wakesNobody (fun s =>
    match (s.mst f.port).rowOf (f.source.toNat % 128) with
    | some r => if s.mastering f.port ∧ beAt f.payload 0 6 = r.row.uid.toNat then s.ranged f.port r arrival else s
    | none => s)
  .next (if s.trainsOn f then t.trainEq f.port (f.source.toNat % 128) else t)

/-! ### Leases (R121, R126 to R129) -/

/-- LEASE_REQ (R120, R121, R680). -/
def execLeaseReq (f : LedgerFrame) (s : State) : Host.Outcome State Fault Refusal :=
  .next (s.frame f tyLeaseReq wakesNobody (fun s =>
    if s.fromMember f then s.leaseReqFrom f.port (f.source.toNat % 128) f.payload else s))

/-- LEASE_GRANT (R126): it wakes a node that one of its entries names (R540). -/
def execLeaseGrant (f : LedgerFrame) (s : State) : Host.Outcome State Fault Refusal :=
  .next (s.frame f tyLeaseGrant (fun s => (grantEntries f.payload).any (fun e => decide (s.addr f.port = some e.holder))) (fun s =>
    if s.mastering f.port then s else (s.takeGrants f.port f.payload).proxyUpdate))

/-- LEASE_RELEASE (R128, Table 3-10): the slots its source holds. -/
def execLeaseRelease (f : LedgerFrame) (s : State) : Host.Outcome State Fault Refusal :=
  .next (s.frame f tyLeaseRelease wakesNobody (fun s =>
    if s.fromMember f then
      let ks := (releasedSlots f.payload).filter (fun k => match (s.mst f.port).lease k with
        | some l => decide (l.holder = f.source.toNat % 128) | none => false)
      s.leaseChange f.port (fun m => if ks.isEmpty then (m, []) else m.freeSlots ks 4)
    else s))

/-- LEASE_AUDIT (R129, Table 3-11). -/
def execLeaseAudit (f : LedgerFrame) (s : State) : Host.Outcome State Fault Refusal :=
  .next (s.frame f tyLeaseAudit wakesNobody (fun s => if s.mastering f.port then s else (s.takeAudit f.port f.payload).proxyUpdate))

/-! ### Calls (R136, R137, R187, R250) -/

/-- The master passes a message of another node on to the sleeping nodes that must hear it (R137). -/
def State.relay (s : State) (f : LedgerFrame) : State :=
  if s.mastering f.port && !f.flags.getLsbD 1 then
    s.wakeSleepers f.port
      { destination := f.destination, typ := f.typ, payload := f.payload, sequence := some f.sequence, source := some f.source,
        flags := f.flags ||| flagRelayed, owner := .none, queued := s.lpc }
  else s

/-- The call a CALL tells of (Table 3-7). -/
def callOf (p : Port) (d : List Byte) : CallIn :=
  { callId := BitVec.ofNat 16 (beAt d 0 2), caller := byteAt d 2, port := p, node := bitOf (byteAt d 3) 0, prec := byteAt d 3 / 2 % 4,
    group := byteAt d 4 % 64, target := byteAt d 5, tone := none }

/-- The CALL concerns the node (R136). -/
def State.concerned (s : State) (x : CallIn) : Bool :=
  decide (s.addr x.port ≠ some x.caller) && (s.listens x.group || (x.node && decide (s.addr x.port = some x.target)))

/-- The CALL has been seen already, in this or an earlier copy. -/
def State.seenCall (s : State) (x : CallIn) : Bool := (s.lnk x.port).callsSeen.contains (x.caller, x.callId)

/-- A CALL with catch-up present is to be played by a node that hears its group or admits the call, on the port it mixes (R249, R250). -/
def State.playsCall (s : State) (x : CallIn) (d : List Byte) : State :=
  if bitOf (byteAt d 3) 3 ∧ s.mixPort = x.port ∧ (s.listens x.group ∨ s.callAdmits x.caller x.group) then
    s.planPlayback x.caller x.group x.prec (byteAt d 7) (BitVec.ofNat 32 (beAt d 12 4)) (BitVec.ofNat 32 (beAt d 16 4)) (BitVec.ofNat 32 (beAt d 20 4))
  else s

/-- CALL (R136): once for each caller and call_id. -/
def execCall (f : LedgerFrame) (s : State) : Host.Outcome State Fault Refusal :=
  let x := callOf f.port f.payload
  .next (s.frame f tyCall (fun s => s.concerned x && !s.seenCall x) (fun s =>
    let s := s.relay f
    if s.seenCall x then s
    else
      let s := s.modLnk f.port (fun l => { l with callsSeen := (x.caller, x.callId) :: l.callsSeen })
      let s := if s.concerned x then (s.callIn x).playsCall x f.payload else s
      s.forwardCall f.port f.payload))

/-- The record of the node's own call that a CALL_ACK answers. -/
def State.ackedRec (s : State) (p : Port) (d : List Byte) : Option Nat :=
  (List.range 8).find? (fun r => match s.callRec r with
    | some c => c.own && decide (c.port = p) && decide (c.callId.toNat = beAt d 0 2) && decide (s.addr p = some (byteAt d 2))
    | none => false)

/-- The first CALL_ACK with code 0 for a call of the node's own (R136, Table 10-11). -/
def State.callAcked (s : State) (p : Port) (d : List Byte) : State :=
  match s.ackedRec p d with
  | none => s
  | some r => match s.callRec r with
    | none => s
    | some c =>
      if c.acked ∨ byteAt d 4 ≠ 0 then s
      else ((s.setCall r (some { c with acked := true })).raise 2 (byteAt d 3) r 0 (BitVec.ofNat 32 c.callId.toNat)).answerWakes

/-- CALL_ACK (R136, R137, R187). -/
def execCallAck (f : LedgerFrame) (s : State) : Host.Outcome State Fault Refusal :=
  .next (s.frame f tyCallAck wakesNobody (fun s => ((s.relay f).callAcked f.port f.payload).forwardAck f.port f.payload))

/-! ### ROSTER, CHECKPOINT (R112, R170, R178) -/

/-- ROSTER (R178, R87). -/
def execRoster (f : LedgerFrame) (s : State) : Host.Outcome State Fault Refusal :=
  .next (s.frame f tyRoster wakesNobody (fun s => if s.mastering f.port then s else s.takeRoster f.port f.payload))

/-- The fill is abandoned and counted. -/
def State.abandonFill (s : State) : State :=
  ({ s with rear := { s.rear with fill := none } }).bump F.LINE_CKPT_ERR.abandoned

/-- A fill whose last part has come: promoted when its closing CRC holds and its layout is 1; the journal keeps what followed the snapshot,
and a gap before it is healed (R170, R171). -/
def State.promote (s : State) (x : Fill) : State :=
  let n := x.data.length - 4
  let data := x.data.take n
  let snapshot : Word := BitVec.ofNat 32 (beAt data 2 4)
  if x.data.length < 4 ∨ beAt x.data n 4 ≠ ckptCrc x.number data ∨ beAt data 0 2 ≠ 1 then s.abandonFill
  else
    let gap := match s.rear.gap with | some g => if later snapshot g then none else some g | none => none
    let s := { s with
      rear := { s.rear with
        fill := none
        promoted := some { number := x.number, snapshot := snapshot, data := data }
        journal := s.rear.journal.filter (fun e => !later snapshot e.1)
        gap := gap } }
    s.setReg F.LINE_CKPT_STATUS.promoted.off x.number

/-- A part joins the fill, and the last one completes it. -/
def State.fillPart (s : State) (x : Fill) : State :=
  if x.next = x.count then s.promote x else { s with rear := { s.rear with fill := some x } }

/-- A CHECKPOINT part at the rearguard (R170). -/
def State.takePart (s : State) (d : List Byte) : State :=
  let number : Word := BitVec.ofNat 32 (beAt d 0 4)
  let i := byteAt d 4
  if i = 0 then s.fillPart { number := number, next := 1, count := byteAt d 5, data := d.drop 8 }
  else match s.rear.fill with
    | none => s
    | some x =>
      if x.number = number ∧ x.next = i then s.fillPart { x with next := i + 1, data := x.data ++ d.drop 8 } else s.abandonFill

/-- CHECKPOINT (R170). -/
def execCheckpoint (f : LedgerFrame) (s : State) : Host.Outcome State Fault Refusal :=
  .next (s.frame f tyCheckpoint wakesNobody (fun s => if s.isRearguard ∧ f.port = .a then s.takePart f.payload else s))

/-! ### TIME, POWER_DIRECTIVE (R138, R165, R553) -/

/-- TIME (R553): the RTC takes the UTC seconds. -/
def execTime (f : LedgerFrame) (s : State) : Host.Outcome State Fault Refusal :=
  .next (s.frame f tyTime wakesNobody (fun s =>
    if s.on F.PWR_CTL.rtc_from_line ∧ bitOf (beAt f.payload 14 2) 0 then s.wr F.PWR_RTC.seconds (beAt f.payload 4 8) else s))

/-- POWER_DIRECTIVE (R138, R165, R540). -/
def execPowerDirective (f : LedgerFrame) (s : State) : Host.Outcome State Fault Refusal :=
  .next (s.frame f tyPowerDirective (fun _ => true) (fun s =>
    if s.mastering f.port then s
    else match byteAt f.payload 0 with
      | 0 => s.modLnk f.port (fun l => { l with quietAt := some (BitVec.ofNat 32 (beAt f.payload 4 4)) })
      | 1 => if s.addr f.port = some (byteAt f.payload 1) then s.takeClass f.port (byteAt f.payload 2) else s
      | _ => s))

/-! ### NODE_STATUS (R102, R111, R119, R165, R166, R191) -/

/-- What a NODE_STATUS tells the master of a node (Table 3-8). -/
def MasterRow.report (r : MasterRow) (d : List Byte) : MasterRow :=
  let b := byteAt d 1
  let asleep := decide (3 ≤ byteAt d 0)
  { r with
    row := { r.row with room := BitVec.ofNat 16 (beAt d 2 2),
                        flags := (r.row.flags &&& 0x77) ||| BitVec.ofNat 8 (8 * bit asleep + 128 * bit (bitOf b 3)) }
    declared := classOf b, prio := some (b / 16), sleeping := asleep, listen := BitVec.ofNat 64 (beAt d 4 8), polls := 0 }

/-- The sources a stale map names (Table 3-8). -/
def staleSources (d : List Byte) : List Nat := (List.range 128).filter (fun i => bitOf (beAt d 12 16) i)

/-- A source reported Stale is polled, at most once in 256 cycles (R119). -/
def State.pollStale (s : State) (p : Port) (a : Nat) : State :=
  match (s.mst p).rowOf a with
  | none => s
  | some r =>
    let recent : Bool := match r.stalePoll with | some c => decide ((s.lpc - c).toNat < 256) | none => false
    if recent ∨ s.addr p = some a then s
    else (s.pollNode p a 1).modMst p (fun m => m.modRow a (fun r => { r with stalePoll := some s.lpc }))

/-- A NODE_STATUS of node `a` at the master. -/
def State.statusFrom (s : State) (p : Port) (old : MasterRow) (d : List Byte) : State :=
  let a := old.row.addr
  let new := old.report d
  let s := s.modMst p (fun m => { m.modRow a (fun _ => new) with passOver := m.passOver.filter (fun x => decide (x ≠ a)) })
  let s := if new.row = old.row then s else s.rosterDelta p [new.row]
  let s := (staleSources d).foldl (fun t i => t.pollStale p i) s
  (s.offerClasses p).nameRear p

/-- NODE_STATUS (R102). -/
def execNodeStatus (f : LedgerFrame) (s : State) : Host.Outcome State Fault Refusal :=
  .next (s.frame f tyNodeStatus wakesNobody (fun s =>
    if s.mastering f.port then
      match (s.mst f.port).rowOf (f.source.toNat % 128) with
      | some r => s.statusFrom f.port r f.payload
      | none => s
    else s))

/-! ### MONITOR, GROUP_PUSH (R262, R599) -/

/-- A message of type `expect` that the master receives for another node, which it rings and repeats toward that node if it sleeps (R103). -/
def State.passesOn (s : State) (f : LedgerFrame) (expect : Nat) : Bool :=
  s.hears f.port && s.coreOn && s.ccLink && s.mastering f.port && decide (f.typ.toNat = expect) && decide (f.length.toNat ≤ 160)
    && decide (f.length.toNat = f.payload.length) && lengthOk f.typ.toNat f.payload && s.frameCrcOk f && decide (f.destination.toNat < 0x80)
    && decide (s.addr f.port ≠ some f.destination.toNat) && !f.flags.getLsbD 0

/-- MONITOR (R103, R599, R600): a request to more than one node is discarded and counted. -/
def execMonitor (f : LedgerFrame) (s : State) : Host.Outcome State Fault Refusal :=
  let t := s.frame f tyMonitor wakesNobody (fun s =>
    if !bitOf (byteAt f.payload 1) 0 && decide (0x80 ≤ f.destination.toNat) then s.bump F.DBG_MON_STATUS.line_discards
    else s.monFragment (f.source.toNat % 128) f.payload)
  .next (if s.passesOn f tyMonitor then t.relay f else t)

/-- The node obeys a GROUP_PUSH (R262); an op above 2 is none of Table 3-9. -/
def State.obeysPush (s : State) (d : List Byte) : Bool :=
  s.on F.MIX_PUSH_CTL.accept && decide (s.rf F.MIX_PUSH_CTL.min_prec ≤ byteAt d 1) && decide (byteAt d 0 ≤ 2)
    && (decide (beAt d 2 2 = 0) || decide (beAt d 2 2 = s.rf F.MIX_ROOM.room_id))

/-- GROUP_PUSH (R103, R262): it applies at symbol 0 of the next cycle. -/
def execGroupPush (f : LedgerFrame) (s : State) : Host.Outcome State Fault Refusal :=
  let t := s.frame f tyGroupPush (fun s => s.obeysPush f.payload) (fun s =>
    if s.obeysPush f.payload then
      { s with mix := { s.mix with changes := s.mix.changes ++ [(17, 0, s.lpc + 1, .push (byteAt f.payload 0) (BitVec.ofNat 64 (beAt f.payload 4 8)))] } }
    else s)
  .next (if s.passesOn f tyGroupPush then t.relay f else t)

end Sys2Proof.Machine
end

