-- ==== Sys2Proof/Machine/LineCode.lean ====
section
/-! DEFINITION. The symbols of a burst: the 11-bit generator, the training sequences, the scrambler and the symbol maps (R56 to R63, Tables 2-1
to 2-4, 2-6 to 2-8). -/

namespace Sys2Proof.Machine

/-- One step of the generator: the register after it and the next output bit, a(n) = a(n−9) XOR a(n−11). -/
def genStep (r : Nat) : Nat × Bool :=
  let b := Nat.xor (r / 256 % 2) (r / 1024 % 2)
  ((2 * r + b) % 2048, decide (b = 1))

/-- The next `n` output bits and the register after them. -/
def genBits : Nat → Nat → List Bool × Nat
  | 0, r => ([], r)
  | n + 1, r =>
    let (r', b) := genStep r
    let (bs, r'') := genBits n r'
    (b :: bs, r'')

/-- Seeds of Table 2-2. -/
def seedBeacon : Nat := 0x7FF
def seedLedger : Nat := 0x1B7
def seedSlot : Nat := 0x2D3
def seedJoin : Nat := 0x6E1
def seedLong : Nat := 0x4A9

/-- Seed of a PAM-4 burst (R62). -/
def burstSeed (cycle : Word) (code : Nat) : Nat :=
  let x := Nat.xor (cycle.toNat % 2048) (8 * code + 5)
  if x = 0 then 0x7FF else x

/-- The fixed seed of the beacon body (R62). -/
def beaconBodySeed : Nat := 0x5A5

/-- The level of a PAM-2 bit, in units of a third of full level (Table 2-1). -/
def pam2 (b : Bool) : Int := if b then 3 else -3

/-- The level of a pair of PAM-4 bits (Table 2-1). -/
def pam4 (a b : Bool) : Int := match a, b with
  | false, false => -3
  | false, true => -1
  | true, true => 1
  | true, false => 3

/-- The bits of bytes in line order (R57). -/
def lineBits (bs : List Byte) : List Bool := bs.flatMap (fun b => (List.range 8).map (fun i => b.getLsbD (7 - i)))

/-- Bits scrambled from register `r` on, and the register after them (R61). -/
def scramble : Nat → List Bool → List Bool × Nat
  | r, [] => ([], r)
  | r, d :: ds =>
    let (r', b) := genStep r
    let (rest, r'') := scramble r' ds
    (Bool.xor d b :: rest, r'')

/-- The register after `n` steps. -/
def genSkip (n r : Nat) : Nat := (genBits n r).2

/-- Symbols of an even number of PAM-4 bits. -/
def pam4Symbols : List Bool → List Int
  | a :: b :: r => pam4 a b :: pam4Symbols r
  | _ => []

/-- A byte from 8 bits, the first one most significant. -/
def byteOfBits (bs : List Bool) : Byte := BitVec.ofNat 8 (bs.foldl (fun n b => 2 * n + bit b) 0)

/-- Bytes from bits; `n` bytes. -/
def bytesOfBits : Nat → List Bool → List Byte
  | 0, _ => []
  | n + 1, bs => byteOfBits (bs.take 8) :: bytesOfBits n (bs.drop 8)

/-- The 1,024 bits of the long training block as the 128 bytes a RANGE_REPLY carries them in (R60, R63). -/
def longTraining : List Byte := bytesOfBits 128 (genBits 1024 seedLong).1

/-- Training symbols of `n` bits from a seed. -/
def training (seed n : Nat) : List Int := (genBits n seed).1.map pam2

/-- The scrambled PAM-4 symbols of bytes. -/
def scrambled (seed : Nat) (bs : List Byte) : List Int := pam4Symbols (scramble seed (lineBits bs)).1

/-- The PAM-4 part of a ledger frame: a RANGE_REPLY's last 128 payload bytes bypass the scrambler, which steps on (R63). -/
def ledgerSymbols (seed : Nat) (header payload crc : List Byte) : List Int :=
  if byteAt header 2 = tyRangeReply ∧ payload.length = 160 then
    let (front, r) := scramble seed (lineBits (header ++ payload.take 32))
    let block := lineBits (payload.drop 32)
    pam4Symbols (front ++ block ++ (scramble (genSkip block.length r) (lineBits crc)).1)
  else scrambled seed (header ++ payload ++ crc)

/-- The rung pair (R69). -/
def rungPair : List Int := [3, -3]

/-- One horn period (R89). -/
def hornPeriod : List Int := List.replicate 40 3 ++ List.replicate 40 (-3)

/-- The symbols that burst `b`, sent in cycle `c`, drives from its first one on (Tables 2-4 to 2-11). -/
def burstSymbols (c : Word) : Burst → List Int
  | .beacon _ body => training seedBeacon 96 ++ scrambled beaconBodySeed body
  | .bell _ _ _ _ => rungPair
  | .ranging _ => rungPair
  | .ledger _ header payload crc => training seedLedger 32 ++ ledgerSymbols (burstSeed c 64) header payload (toBe 4 crc.toNat)
  | .slot _ k header payload crc => training seedSlot 16 ++ scrambled (burstSeed c k) (toBe 4 header.toNat ++ payload ++ toBe 2 crc.toNat)
  | .join body => training seedJoin 32 ++ scrambled (burstSeed c 65) body
  | .horn periods => (List.replicate periods hornPeriod).flatten

/-- The position of its first symbol in the cycle, in 1/16 symbol, which a bell's advance makes earlier (R64, R101, R175). -/
def burstStart : Burst → Int
  | .beacon _ _ => 0
  | .bell _ position pair advance => 16 * (256 + 6 * position + 2 * pair) - advance
  | .ranging position => 16 * (256 + 48 * position)
  | .ledger _ _ _ _ => 16 * 1024
  | .slot _ k _ _ _ => 16 * (1792 + 212 * k)
  | .join _ => 16 * 15360
  | .horn _ => 0

end Sys2Proof.Machine
end

