-- ==== Sys2Proof/Machine/LineTx.lean ====
section
/-! DEFINITION. What a node sends: bells, its ledger frame, its talk slots, join requests and ranging bells (R76, R93, R95 to R98, R101, R103,
R106, R111, R113, R117, R118, R121, R130 to R133, R138, R140, R175, R186, R259). -/

namespace Sys2Proof.Machine

/-! ### Bells -/

/-- Bells may be rung: on an Active line in every cycle, on a Quiet one in those that carry a beacon (R140). -/
def State.mayRing (s : State) (p : Port) : Bool :=
  s.mayTx p && s.ccLink && s.coreOn && (decide (s.lineState p = 0) || quietBeaconCycle s.lpc)

/-- Drive the pairs `ks` of position `a`. -/
def State.ring (s : State) (p : Port) (a advance : Nat) (ks : List Nat) : State := ks.foldl (fun t k => t.drive (.bell p a k advance)) s

/-- A follower's own pairs: 0 with a message queued, 1 for a standing request, 2 for an urgent head or the profile's catch-up slots
(R95 to R98, R101). -/
def State.ringOwn (s : State) (p : Port) (a : Nat) : State :=
  let l := s.lnk p
  let ask := if l.ring1 || l.ring12 then l.reqs.find? TalkReq.toRing else none
  let urgent := match l.head with | some m => s.isUrgent p m | none => false
  let two := urgent || (match ask with | some q => decide (q.catchup ≠ 0) | none => false)
  let ks := (if l.busy then [0] else []) ++ (if ask.isSome then [1] else []) ++ (if two then [2] else [])
  let s := s.ring p a (s.rf (lkF p F.LINE_ADDR.rtd)) ks
  if ask.isSome then s.rangStanding p else s

/-- The master rings toward the sleeping nodes of each repeated message, in 16 cycles, with no advance (R70, R103). -/
def State.ringSleepers (s : State) (p : Port) : State :=
  ((s.mst p).repeats.filter (fun r => !later r.first s.lpc && later (r.first + 16) s.lpc)).foldl
    (fun t r => r.targets.foldl (fun t a => t.ring p a 0 [r.pair]) t) s

/-- BELL_SEND (R101): not in re-ranging, in which the node rings no bells at its own position (R175). -/
def execBellSend (p : Port) (s : State) : Host.Outcome State Fault Refusal :=
  .next (if !s.mayRing p then s
    else if s.mastering p then s.ringSleepers p
    else match s.addr p with
      | some a => if (s.lnk p).reRange.isSome then s else s.ringOwn p a
      | none => s)

/-- The node's turn for a ranging bell: one cycle of eight of the window, the first in every case, later ones with a message queued (R175). -/
def State.rangesNow (s : State) (a : Nat) : Bool :=
  match s.link.reRange with
  | some t => !later t s.lpc && later (t + 64) s.lpc && decide (s.lpc.toNat % 8 = a % 8) && (!s.link.reRangeRung || s.link.busy)
  | none => false

/-- RANGING_BELL_SEND (R175). -/
def execRangingBellSend (s : State) : Host.Outcome State Fault Refusal :=
  .next (match s.addr .a with
    | some a =>
      if s.mayTx .a && s.ccLink && s.coreOn && !s.mastering .a && s.rangesNow a then
        (s.drive (.ranging (a / 8))).modLnk .a (fun l => { l with reRangeRung := true }) else s
    | none => s)

/-! ### Ledger frame -/

/-- The beacon of this cycle names the node as owner of the frame, and it has not sent one (R105, R106). -/
def State.ownsFrame (s : State) (p : Port) : Bool :=
  s.namedOwner p && !s.phy.tx.any (fun b => match b with | .ledger q _ _ _ => decide (q = p) | _ => false)

/-- The message has to wait: a CALL for the first answer to its lease request (R449, R187). -/
def State.mustWait (s : State) (p : Port) (m : Msg) : Bool :=
  match m.owner with
  | .call r => s.callWaits r
  | .forward src caller => decide (otherPort src = p) && s.forwardWaits src caller
  | _ => false

/-- The first message of the queue that need not wait. -/
def State.sendable (s : State) (p : Port) : Option Msg := ((s.lnk p).urgent ++ (s.lnk p).routine).find? (fun m => !s.mustWait p m)

/-- The queue without the first message equal to `m`. -/
def Link.take (l : Link) (m : Msg) : Link :=
  if l.urgent.contains m then { l with urgent := l.urgent.erase m } else { l with routine := l.routine.erase m }

/-- NODE_STATUS payload (Table 3-8): the power state an entry leads to, 0 while the node stays up (R538). -/
def State.statusPayload (s : State) (p : Port) : List Byte :=
  let n := s.pwr.entering.getD 0
  let stale := ((List.range 128).filter (fun i => decide ((s.eq p i).state = .stale))).foldl (fun n i => n + 2 ^ i) 0
  [BitVec.ofNat 8 (if 3 ≤ n then n else 0),
   BitVec.ofNat 8 (classOf (s.rf F.CFG_NODE.declared_class) + 4 * bit (s.lnk p).conflict + 8 * bit (s.on F.LINE_ROLE.rearguard_en)
     + 16 * s.rf F.LINE_ROLE.priority)]
    ++ toBe 2 (s.rf F.MIX_ROOM.room_id) ++ toBe 8 s.listenSet.toNat ++ toBe 16 stale ++ toBe 2 (s.lnk p).crcSince ++ [0, 0]

/-- quiet_cycle: the first multiple of 1,024 at least 32 cycles after cycle `c` (R138). -/
def quietCycleAfter (c : Word) : Word := BitVec.ofNat 32 ((c.toNat + 32 + 1023) / 1024 * 1024)

/-- What a message carries as it is sent: contents formed at that moment, and the state they leave (Tables 3-6 to 3-9). -/
def State.contents (s : State) (p : Port) (m : Msg) : State × List Byte :=
  match m.owner with
  | .call r => s.composeCall r
  | .forward src caller => s.composeForward src caller m.payload
  | .status => (s, s.statusPayload p)
  | .audit part demand empty => (s, auditPayload (s.mst p) part demand empty)
  | .quiet => (s, [0, 0xFF, 0, 0] ++ toBe 4 (quietCycleAfter s.lpc).toNat)
  | _ => (s, m.payload)

/-- Drive the frame. -/
def State.driveFrame (s : State) (p : Port) (source destination typ : Byte) (sequence flags : Half) (payload : List Byte) : State :=
  let header := ledgerHeader source destination typ (BitVec.ofNat 8 payload.length) sequence flags
  (s.drive (.ledger p header payload (BitVec.ofNat 32 (ledgerCrc s.lpc header payload)))).stim 0
    (typ.toNat + 256 * source.toNat + 65536 * destination.toNat + 2 ^ 24)

/-- RANGE_REPLY comes before every queued message (R118, Table 3-5). -/
def State.sendRangeReply (s : State) (p : Port) (a : Nat) (reason : Byte) : State :=
  let payload := toBe 6 s.dev.uid.toNat ++ [reason, BitVec.ofNat 8 s.pwr.state] ++ toBe 24 0 ++ longTraining
  let q := (s.lnk p).seq
  (s.driveFrame p (BitVec.ofNat 8 a) (BitVec.ofNat 8 (s.masterAddr p)) (BitVec.ofNat 8 tyRangeReply) q 0 payload).modLnk p
    (fun l => { l with seq := q + 1, rangeReply := none })

/-- LEASE_RELEASE has been sent for slots `ks`: this cycle is their last (R131). -/
def State.lastOf (s : State) (p : Port) (ks : List Nat) : State :=
  s.modLnk p (fun l => { l with held := l.held.map (fun h => if ks.contains h.slot then { h with last := true } else h) })

/-- The TALK_CLOSE of session `n` completes with its last cycle: this one, in whose slot it still transmits (R131, R442). -/
def State.talkClosed (s : State) (c : Nat) (id : Half) (n : Nat) : State :=
  let sends := s.link.held.any (fun h => decide (h.owner = .session n) && !later h.start s.lpc)
  let result := match s.session n with | some x => if sends then s.lpc else x.closeResult | none => 0
  (s.setSession n none).finishWhere c (fun (x : InFlight) => decide (x.desc.id = id) && decide (x.phase = .talkClose n)) .ok result 0

/-- NODE_STATUS has been sent: its counts start again, and an entry that waited for it goes on (R111, R539). -/
def State.statusSent (s : State) (p : Port) : State :=
  let n := s.pwr.entering.getD 0
  let s := s.modLnk p (fun l => { l with reported := if 3 ≤ n then n else 0, statusAge := 0, conflict := false, crcSince := 0 })
  let s := s.checkEntry
  match s.pwr.entering with
  | some n => s.enterSleep n
  | none => s

/-- The effect of a sent message on what queued it. -/
def State.ownerSent (s : State) (p : Port) (m : Msg) (sequence : Half) (payload : List Byte) : State :=
  let s := if m.typ.toNat = tyLeaseRelease then s.lastOf p (releasedSlots payload) else s
  match m.owner with
  | .leaseReq _ | .cancel _ _ => s.requestSent p m.owner
  | .release c id n => s.talkClosed c id n
  | .host c id => s.finishWhere c (fun (x : InFlight) => decide (x.desc.id = id) && (match x.phase with | .ledgerSend _ => true | _ => false)) .ok
      (BitVec.ofNat 32 sequence.toNat) 0
  | .checkpointEnd => s.modMst p (fun m => { m with ckptSending := false })
  | .audit part demand _ =>
    if demand then
      let listed (m : Master) : List (Nat × Nat) := (List.range 32).filterMap (fun j => (m.inForce (32 * part + j)).map (fun (l : MLease) => (32 * part + j, l.holder)))
      s.modMst p (fun m => { m with audited := m.audited ++ listed m })
    else s
  | .status => s.statusSent p
  | _ => s

/-- A LEASE_GRANT is sent: its grants run from here, and the lease epoch counts a change of the table (Table 3-10, Table 2-5). -/
def Master.grantsSent (m : Master) (now : Word) (es : List GrantEntry) : Master :=
  let change (e : GrantEntry) : Bool := decide (e.code = 0) || decide (e.code = 2) || decide (e.code = 4) || decide (e.code = 5)
  let m := es.foldl (fun m e => if e.code ≠ 0 then m else match m.lease e.slot with
    | some l => if l.holder = e.holder ∧ l.sentAt.isNone then m.setLease e.slot (some { l with sentAt := some now }) else m
    | none => m) m
  if es.any change then { m with leaseEpoch := m.leaseEpoch + 1 } else m

/-- What a master's own message does to the master itself, which does not receive it. -/
def State.masterSent (s : State) (p : Port) (m : Msg) (sequence : Half) (payload : List Byte) : State :=
  let t := m.typ.toNat
  if t = tyLeaseGrant then
    if m.sequence.isSome then s
    else ((s.modMst p (fun m => m.grantsSent s.lpc (grantEntries payload))).takeGrants p payload).proxyUpdate
  else if t = tyLeaseRelease then
    let own := s.addr p
    let ks := (releasedSlots payload).filter (fun k => match (s.mst p).lease k with | some l => decide (own = some l.holder) | none => false)
    s.leaseChange p (fun m => if ks.isEmpty then (m, []) else m.freeSlots ks 4)
  else if t = tyRangePoll then
    s.modMst p (fun x => { x.modRow m.destination.toNat (fun r => { r with pollSent := some s.lpc }) with owner := some m.destination.toNat })
  else if t = tyAddressAssign ∧ byteAt payload 8 = 0 ∧ m.sequence.isNone then s.pollNode p (byteAt payload 9) 0
  else if t = tyPowerDirective ∧ byteAt payload 0 = 0 ∧ m.owner = .quiet then
    let copy : Msg := { m with payload := payload, sequence := some sequence, source := some (BitVec.ofNat 8 ((s.addr p).getD 0)),
                               flags := m.flags ||| flagRepeat, owner := .none }
    let s := s.modLnk p (fun l => { l with urgent := copy :: copy :: l.urgent })
    s.modMst p (fun x => { x with quietAt := some (BitVec.ofNat 32 (beAt payload 4 4)) })
  else s

/-- Message `m` is sent in the node's frame. -/
def State.sendMsg (s : State) (p : Port) (a : Nat) (m : Msg) : State :=
  let s := s.modLnk p (fun l => l.take m)
  let (s, payload) := s.contents p m
  let sequence := m.sequence.getD (s.lnk p).seq
  let source := m.source.getD (BitVec.ofNat 8 a)
  let flags := if s.isUrgent p { m with payload := payload } then m.flags ||| flagUrgent else m.flags
  let s := if m.sequence.isSome then s else s.modLnk p (fun l => { l with seq := l.seq + 1 })
  let s := s.driveFrame p source m.destination m.typ sequence flags payload
  let s := if s.mastering p then
      let s := s.masterSent p m sequence payload
      if m.sequence.isSome then s
      else s.wakeSleepers p { m with payload := payload, sequence := some sequence, source := some source, flags := flags }
    else s
  s.ownerSent p m sequence payload

/-- LEDGER_FRAME_SEND (R106): the named owner sends at most one message; a poll's reply goes first. -/
def execLedgerFrameSend (p : Port) (s : State) : Host.Outcome State Fault Refusal :=
  .next (match s.addr p with
    | none => s
    | some a =>
      if !s.mayTx p || !s.ccLink || !s.coreOn || decide (s.lineState p ≠ 0) || !s.ownsFrame p then s
      else match (s.lnk p).rangeReply with
        | some reason => s.sendRangeReply p a reason
        | none => match s.sendable p with
          | some m => s.sendMsg p a m
          | none => s)

/-! ### Talk slots -/

/-- What one slot is to carry. -/
structure SlotPlan where
  format : Nat
  seq : Nat
  raised : Bool
  tone : Bool
  muted : Bool
  /-- A payload that is forwarded as it came. -/
  payload : Option (List Byte)
  deriving DecidableEq, Repr

/-- A started detector of the talk signal marks it (Table 7-6). -/
def State.toneFlag (s : State) : Bool :=
  (List.range 16).any (fun n => (s.toneSt n).started && s.on (F.CALL_TONE_CTL0.act_flag n) && decide (s.rf (F.CALL_TONE_CTL0.input n) = 3))

/-- Format 0 with nothing to say (R130). -/
def State.silence (s : State) (muted : Bool) : SlotPlan :=
  { format := 0, seq := (s.lpc.toNat + 252) % 256, raised := false, tone := false, muted := muted, payload := none }

/-- The talk signal of a source runs: AE0 makes it (R275, R316). -/
def State.talkRuns (s : State) : Bool := !s.halted 1 && !s.ech.mutedCycle

/-- A TALK_CLOSE of session `n` waits: its talk is over (Table 3-11). -/
def State.closing (s : State) (n : Nat) : Bool :=
  match s.session n with
  | some x => (s.client x.client).flight.any (fun y => decide (y.phase = .talkClose n))
  | none => true

/-- Live audio in a slot of format `f`, unless the mute or a reset of AE0 keeps it from the line (R76, R259). -/
def State.speak (s : State) (f : Nat) (beam raised : Bool) : SlotPlan :=
  if beam && s.talkMuted then s.silence true
  else if !s.talkRuns then s.silence false
  else { format := f, seq := (s.lpc.toNat + 252) % 256, raised := raised, tone := s.toneFlag, muted := false, payload := none }

/-- History in a catch-up slot: one cycle per slot, the lower slot the earlier one (R133, R357, R363). -/
def State.speakHistory (s : State) (p : Port) (h : HeldLease) : SlotPlan :=
  let i := ((s.lnk p).held.filter (fun x => decide (x.owner = h.owner) && decide (x.format = 4) && decide (x.slot < h.slot))).length
  match s.wake.sending with
  | some (next, last, _) =>
    let c := next + BitVec.ofNat 32 i
    if s.muted then s.silence true
    else if later c last then s.silence false
    else { format := 4, seq := c.toNat % 256, raised := false, tone := false, muted := false, payload := none }
  | none => s.silence s.muted

/-- What the holder sends in slot `h` (R130, R186, R259). -/
def State.slotPlan (s : State) (p : Port) (h : HeldLease) : SlotPlan :=
  match h.owner with
  | .unasked => s.silence s.talkMuted
  | .proxy _ =>
    match s.proxyOf p h.owner with
    | some x =>
      let y := s.forwardSlot p h x
      { format := y.format, seq := y.seq, raised := y.raised, tone := y.tone, muted := y.muted,
        payload := if y.format = 0 ∧ !y.payload.isEmpty then some y.payload else none }
    | none => s.silence false
  | .session n =>
    match s.session n with
    | some x => if s.closing n then s.silence (beamSource x.source && s.talkMuted) else s.speak h.format (beamSource x.source) x.raised
    | none => s.silence false
  | .call r => match s.callRec r with
    | some _ => if h.format = 4 then s.speakHistory p h else s.speak h.format true false
    | none => s.silence s.talkMuted
  | .ptt => if s.call.ptt then s.speak h.format true false else s.silence s.talkMuted

/-- end_of_talk of a slot: its own last one, or the one forwarded. -/
def State.slotEnds (s : State) (p : Port) (h : HeldLease) : Bool :=
  match s.proxyOf p h.owner with
  | some x => (s.forwardSlot p h x).endOfTalk
  | none => h.last

/-- The payload: what is forwarded, the comfort-noise level of format 0, or 32 bytes of audio (Table 2-10). -/
def State.slotPayload (s : State) (x : SlotPlan) : List Byte :=
  match x.payload with
  | some b => b
  | none =>
    if x.format = 0 then toBe 2 (Config.comfortLevel s.free).toNat ++ toBe 30 0
    else (List.range 32).map (fun i => Config.audioByte (s.free + i))

/-- A slot of session `n` has been sent (R437, R442). -/
def State.sessionSent (s : State) (o : LeaseOwner) : State :=
  match o with
  | .session n => match s.session n with
    | some x => (s.setSession n (some { x with lastTx := s.lpc })).raiseDone n .ok
    | none => s
  | _ => s

/-- SLOT_SEND (R130): in S0 and S1, of a lease that has begun, on an Active line. The master's own transmission counts as one it has heard
(Table 3-10). -/
def execSlotSend (p : Port) (k : Fin 64) (s : State) : Host.Outcome State Fault Refusal :=
  .next (match s.addr p, (s.lnk p).held.find? (fun h => decide (h.slot = k.val) && !later h.start s.lpc) with
    | some a, some h =>
      if !s.mayTx p || !s.coreOn || decide (s.lineState p ≠ 0) || s.sendsIn p k then s
      else
        let x := s.slotPlan p h
        let header := slotHeader a h.group x.seq x.format x.raised x.tone (s.slotEnds p h) x.muted
        let payload := s.slotPayload x
        let s := (s.drive (.slot p k header payload (BitVec.ofNat 16 (slotCrc s.lpc k header payload)))).takeFree 32
        let s := if s.mastering p then s.modMst p (fun m => match m.lease k with
            | some l => if l.holder = a then m.setLease k (some { l with missed := 0, held := true, heard := true }) else m
            | none => m) else s
        s.sessionSent h.owner
    | _, _ => s)

/-! ### Join requests -/

/-- nonce_word (Table 2-11). -/
def State.nonceWord (s : State) (nonce : BitVec 10) : Nat :=
  64 * nonce.toNat + 16 * classOf (s.rf F.CFG_NODE.declared_class) + 8 * bit (s.on F.GLB_STATUS.manifest_defaulted) + 4 * bit s.masterCapable
    + 2 * bit s.isB + bit (s.on F.LINE_ROLE.rearguard_en)

/-- JOIN_REQUEST_SEND (R113, R93): in an open cycle, when the backoff has run out (Listing 3-1). -/
def execJoinRequestSend (nonce : BitVec 10) (s : State) : Host.Outcome State Fault Refusal :=
  let l := s.link
  let open_ := match l.beacon with | some b => b.joinOpen | none => false
  .next (if s.joining .a && s.mayTx .a && s.ccLink && s.coreOn && open_ && decide (l.joinWindow ≠ 0) && decide (l.joinWait = 0) && l.joinSent.isNone then
      let body := toBe 6 s.dev.uid.toNat ++ toBe 2 (s.nonceWord nonce)
      (s.drive (.join (body ++ toBe 2 (joinCrc s.lpc body)))).modLnk .a
        (fun l => { l with joinSent := some s.lpc, nonce := some (BitVec.ofNat 16 (s.nonceWord nonce)) })
    else s)

end Sys2Proof.Machine
end

