-- ==== Sys2Proof/Machine/CycleTime.lean ====
section
/-! DEFINITION. What passes with the cycles: the boundary itself and the work of every block at it, response timeouts, the loss of beacons and
the periodic status report (R22, R90, R110, R111, R118, R128, R130, R132, R133, R138, R162, R260, R537, R538, Listing 3-1). -/

namespace Sys2Proof.Machine

/-! ### LEDGER_RESPONSE_TIMEOUT (R110, R118, R132, Listing 3-1) -/

/-- Sixteen cycles have passed since cycle `c`. -/
def State.overdueSince (s : State) (c : Word) : Bool := decide (16 ≤ (s.lpc - c).toNat)

/-- A timeout is counted (Table 3-18). -/
def State.countTimeout (s : State) (p : Port) : State := s.bump (lkF p F.LINE_LINK_ERR2.ledger_timeouts)

/-- A request without an answer is repeated up to 3 times, then reported (R132). -/
def State.repeatReq (s : State) (p : Port) (q : TalkReq) : State :=
  let s := s.countTimeout p
  if 4 ≤ q.attempts + 1 then s.endRequest p q .timeout 5
  else
    let s := s.modLnk p (fun l => l.modReq q.reqId (fun q => { q with phase := .unsent, attempts := q.attempts + 1, sentAt := s.lpc }))
    if q.standing then s.modLnk p (fun l => if q.catchup = 0 then { l with ring1 := true } else { l with ring12 := true })
    else s.post p (newMsg s.lpc (s.masterAddr p) tyLeaseReq (leaseReqPayload 0 q.group q.format q.prec q.catchup q.reqId) (.leaseReq q.reqId))

/-- The oldest request of port `p` that `f` selects and whose time is over; its count runs on an Active line only (R441). -/
def State.lateReq (s : State) (p : Port) (f : TalkReq → Bool) : Option TalkReq :=
  if s.lineState p ≠ 0 then none
  else (s.lnk p).reqs.find? (fun q => f q && decide (q.phase = .sent) && s.overdueSince q.sentAt)

/-- A request's time is over on either port. -/
def State.timeoutReq (s : State) (f : TalkReq → Bool) : State :=
  match s.lateReq .a f with
  | some q => s.repeatReq .a q
  | none => match s.lateReq .b f with
    | some q => s.repeatReq .b q
    | none => s

/-- A poll without a valid reply: up to 3 more, then none until the node reports (R118). -/
def State.timeoutPoll (s : State) (p : Port) (a : Nat) : State :=
  match (s.mst p).rowOf a with
  | none => s
  | some r => match r.pollSent with
    | none => s
    | some c =>
      if !s.mastering p || !s.overdueSince c then s
      else
        let s := (s.countTimeout p).modMst p (fun m => m.modRow a (fun r => { r with polls := r.polls + 1, pollReason := none, pollSent := none }))
        s.pollNode p a (r.pollReason.getD 0)

/-- A join request without an answer: the window doubles up to the largest, and a new wait is drawn (Listing 3-1). -/
def State.timeoutJoin (s : State) (draw : Nat) : State :=
  match s.link.joinSent with
  | none => s
  | some c =>
    if !s.overdueSince c then s
    else
      let s := (s.countTimeout .a).bump F.LINE_LINK_ERR2.join_retries
      let w := s.link.joinWindow
      s.modLnk .a (fun l => l.backoff (if w < 2 ^ s.joinMax .a then 2 * w else w) draw)

/-- LEDGER_RESPONSE_TIMEOUT (R110). -/
def execLedgerResponseTimeout (w : Awaited) (s : State) : Host.Outcome State Fault Refusal :=
  .next (if !s.ccLink || !s.coreOn || s.pins.resetHeld then s
    else match w with
      | .leaseReq id => s.timeoutReq (fun q => !q.standing && decide (q.reqId = id))
      | .standingBell => s.timeoutReq (fun q => q.standing)
      | .rangePoll p a => s.timeoutPoll p a
      | .join draw => s.timeoutJoin draw)

/-! ### LEASE_LOST_NO_BEACON, NODE_STATUS_PERIODIC -/

/-- LEASE_LOST_NO_BEACON (Table 3-11, R130). -/
def execLeaseLostNoBeacon (s : State) : Host.Outcome State Fault Refusal :=
  .next (if !s.mastering .a ∧ 8 ≤ s.plt.silent then s.loseAll .a 2 else s)

/-- NODE_STATUS_PERIODIC (R111): a node in S3 wakes for it. -/
def execNodeStatusPeriodic (s : State) : Host.Outcome State Fault Refusal :=
  .next (if 65536 ≤ s.link.statusAge ∧ (s.addr .a).isSome ∧ !s.mastering .a ∧ s.phyOn ∧ !s.pins.resetHeld then
      (if 2 ≤ s.pwr.state then s.exitToRun else s).statusDue .a
    else s)

/-! ### What a cycle that ends leaves at the line -/

/-- A quiet-interval measurement that holds no burst and no impulse (R90): 50 mV and 250 mV are 200 and 1,000 units of 0.25 mV. -/
def steadyNoise (o : NoiseObs) : Bool := !((decide (200 < o.peak) && decide (6 * o.rms < o.peak)) || decide (1000 < o.rms))

/-- The noise floor of each port that heard the cycle (R90). -/
def State.noiseFloor (s : State) (o : CycleObs) : State :=
  let one (t : State) (p : Port) (f : Field) (n : Option NoiseObs) : State :=
    match n with
    | some x => if t.hears p && steadyNoise x then t.wr f (min x.rms (2 ^ f.width - 1)) else t
    | none => t
  one (one s .a F.LINE_NOISE.a_noise o.noiseA) .b F.LINE_NOISE.b_noise o.noiseB

/-- The missed counts of a cycle: a lease counts from the cycle after its grant; none advances while LS repeats beacons (R128, Table 3-10,
R161). -/
def Master.countLeases (m : Master) (c : Word) : Master :=
  { m with leases := m.leases.map (fun (x : Nat × Option MLease) => (x.1, x.2.map (fun l =>
      if l.sentAt.isNone ∨ l.sentAt = some c then { l with heard := false }
      else { l with missed := if l.heard then 0 else l.missed + 1, heard := false }))) }

/-- The counts a master keeps over the Active cycle `c` that ends (R128, R138, R162). -/
def Master.countCycle (m : Master) (c : Word) (own : Option Nat) : Master :=
  let m := if m.stalled then m else m.countLeases c
  let busy := decide (m.freeList.length < 64) || !m.queue.isEmpty
  { m with
    idle := if busy then 0 else m.idle + 1
    roster := m.roster.map (fun r => if own = some r.row.addr then r else { r with unheard := r.unheard + 1 }) }

/-- Cycle `c` ends for the master of port `p`: its counts on an Active line, its delays, and whether the frame that comes is its own
(R105, R155, R158). -/
def State.masterCycle (s : State) (p : Port) (c : Word) : State :=
  let s := if s.works p then s.modMst p (fun m => m.countCycle c (s.addr p)) else s
  let mine := match (s.mst p).next with | some b => !b.noOwner && decide (s.addr p = some b.ledgerOwner) | none => false
  if !s.mastering p && decide (s.rf F.LINE_MASTER_STATUS.role ≠ 3 ∨ p = .b) then s
  else s.modMst p (fun m =>
    { m with
      sinceOwned := if mine then 0 else m.sinceOwned + 1
      delay := m.delay.map (fun n => n - 1)
      backoff := m.backoff.map (fun n => n - 1)
      rangedNow := [] })

/-- Catch-up slots sent in the cycle that ends carried the next history cycles; with the last one sent they are to be released (R133). -/
def State.advanceHistory (s : State) : State :=
  match s.wake.sending with
  | none => s
  | some (next, last, n) =>
    let next := next + BitVec.ofNat 32 n
    if later next last then (List.range 8).foldl (fun t r => t.releaseCatchUp r) { s with wake := { s.wake with sending := none } }
    else { s with wake := { s.wake with sending := some (next, last, n) } }

/-- Leases whose last cycle it was are over (R131). -/
def Link.endLast (l : Link) : Link := { l with held := l.held.filter (fun h => !h.last) }

/-- What the line's own blocks do as cycle `c` ends, before its number changes. -/
def State.endOfCycle (s : State) (c : Word) (o : CycleObs) : State :=
  let s := ((s.noiseFloor o).masterCycle .a c).masterCycle .b c
  ((s.advanceHistory.modLnk .a Link.endLast).modLnk .b Link.endLast).wayShift

/-- The LPC increments and the marks of the cycle that ended are cleared (R22). -/
def State.advance (s : State) : State :=
  let active := decide (s.lineState .a = 0)
  { s with
    plt := { s.plt with lpc := s.plt.lpc + 1, sym := 0, silent := (if s.plt.beaconOk then 0 else s.plt.silent + 1), beaconOk := false, syncOk := false }
    link := { s.link with statusAge := if active && (s.addr .a).isSome then s.link.statusAge + 1 else s.link.statusAge }
    hif := { s.hif with fired := [] } }

/-! ### What a cycle that begins does -/

/-- quiet_cycle of a directive has come: a follower's line is Quiet (R138). -/
def State.quietFollow (s : State) : State :=
  match s.link.quietAt with
  | none => s
  | some q =>
    if later q s.lpc then s
    else
      let s := s.modLnk .a (fun l => { l with quietAt := none })
      if s.mastering .a then s else s.setLineState .a 1

/-- An unaddressed node that has locked draws its first backoff (Listing 3-1). -/
def State.beginJoin (s : State) (draw : Nat) : State :=
  if s.joining .a && decide (s.link.joinWindow = 0) && s.ccLink then s.modLnk .a (fun l => l.backoff (2 ^ s.joinFirst .a) draw) else s

/-- A master's own row follows its settings; a change is told (R112, R156). -/
def State.syncOwnRow (s : State) (p : Port) : State :=
  match s.mastering p, (s.addr p).bind (s.mst p).rowOf with
  | true, some r =>
    let now := s.ownRow p r.admitted
    let s := s.modMst p (fun m => m.modRow r.row.addr (fun r => { r with row := now.row, declared := now.declared, prio := now.prio, listen := now.listen }))
    if now.row = r.row then s else s.rosterDelta p [now.row]
  | _, _ => s

/-- Settings that take effect at symbol 0: pushes and commands, then the configuration block's (R260, R262, R433, R579). -/
def State.newSettings (s : State) : State :=
  if s.coreOn then ((s.applyChanges.configCycle).syncOwnRow .a).syncOwnRow .b else s

/-- The audio blocks' work at the boundary after cycle count `c` (R236, R281, R313, R350, R354, R445). -/
def State.audioCycle (s : State) (c : Dword) (o : CycleObs) : State :=
  let s := (s.callCycle o.toneOn).echCycle o
  let s := (s.mixCycle (c.setWidth 32) o).micCycle
  let s := s.wakeCycle c
  if s.coreOn then (s.recordHistory (sampleIndex (s.plt.lpc - 4))).streamsCycle s.plt.lpc else s

/-- PRECEDENCE_SETs on sessions that hold no lease any more complete (R437). -/
def State.endRaises (s : State) : State :=
  (List.range 8).foldl (fun t n => if t.link.held.any (fun h => decide (h.owner = .session n)) then t else t.raiseDone n .noLease) s

/-- The power block's counts: holds, time awake, and the wait for a bell's message (R104, R537, R538). A wake that has lasted more than 64
cycles is a change of the reported state. -/
def State.powerCycle (s : State) : State :=
  let s := if s.coreOn then s.holdCycle else s
  let n := s.pwr.awake + 1
  let s := { s with pwr := { s.pwr with awake := n, bellUntil := s.pwr.bellUntil.filter (fun u => !later s.lpc u) } }
  let s := if n = 65 ∧ s.coreOn ∧ s.link.reported ≠ 0 ∧ s.pwr.entering.isNone then s.statusDue .a else s
  s.checkEntry

/-- CYCLE_BOUNDARY (R22): in S4 and S5 the LPC's clock is off (Table 13-2). -/
def State.cycleBoundary (s : State) (o : CycleObs) : State :=
  let c := s.plt.lpc
  let s := (s.endOfCycle (c.setWidth 32) o).advance.quietFollow
  let s := (s.newSettings).audioCycle c o
  let s := { s with phy := { s.phy with tx := [] } }
  let s := (s.endRaises.beginJoin o.joinDraw).proxyUpdate
  s.powerCycle.settleAll

/-- CYCLE_BOUNDARY. -/
def execCycleBoundary (o : CycleObs) (s : State) : Host.Outcome State Fault Refusal :=
  .next (if s.phyOn && !s.pins.resetHeld then s.cycleBoundary o else s)

end Sys2Proof.Machine
end

