-- ==== Sys2Proof/Machine/Dispatch.lean ====
section
/-! DEFINITION. The effect of each command on everything but the queue: one arm for each row of the command table, in its order. -/

namespace Sys2Proof.Machine

/-- What command `i` does in state `s`. -/
def exec (i : Instr) (s : State) : Host.Outcome State Fault Refusal :=
  match i with
  | .cycleBoundary o => Sys2Proof.Machine.execCycleBoundary o s
  | .pltLpcCycleRead => Sys2Proof.Machine.execPltLpcCycleRead s
  | .beaconAccepted b => Sys2Proof.Machine.execBeaconAccepted b s
  | .beaconMissing p => Sys2Proof.Machine.execBeaconMissing p s
  | .lineDown p => Sys2Proof.Machine.execLineDown p s
  | .firmwareCompareFire u => Sys2Proof.Machine.execFirmwareCompareFire u s
  | .scheduledDescriptorStart c => Sys2Proof.Machine.execScheduledDescriptorStart c s
  | .strobePulseStart u => Sys2Proof.Machine.execStrobePulseStart u s
  | .strobePulseEnd u => Sys2Proof.Machine.execStrobePulseEnd u s
  | .slotReceived k b => Sys2Proof.Machine.execSlotReceived k b s
  | .beaconSend p differing draw => Sys2Proof.Machine.execBeaconSend p differing draw s
  | .beaconCommit p ccReady => Sys2Proof.Machine.execBeaconCommit p ccReady s
  | .bellSend p => Sys2Proof.Machine.execBellSend p s
  | .bellReceived o => Sys2Proof.Machine.execBellReceived o s
  | .bellFieldRead p os => Sys2Proof.Machine.execBellFieldRead p os s
  | .ledgerFrameSend p => Sys2Proof.Machine.execLedgerFrameSend p s
  | .slotSend p k => Sys2Proof.Machine.execSlotSend p k s
  | .joinRequestSend nonce => Sys2Proof.Machine.execJoinRequestSend nonce s
  | .joinRequestReceived j => Sys2Proof.Machine.execJoinRequestReceived j s
  | .hornStart p => Sys2Proof.Machine.execHornStart p s
  | .hornEnd p => Sys2Proof.Machine.execHornEnd p s
  | .hornDetected => Sys2Proof.Machine.execHornDetected s
  | .addressAssign f => Sys2Proof.Machine.execAddressAssign f s
  | .rangePoll f => Sys2Proof.Machine.execRangePoll f s
  | .rangeReply f arrival => Sys2Proof.Machine.execRangeReply f arrival s
  | .leaseReq f => Sys2Proof.Machine.execLeaseReq f s
  | .leaseGrant f => Sys2Proof.Machine.execLeaseGrant f s
  | .leaseRelease f => Sys2Proof.Machine.execLeaseRelease f s
  | .leaseAudit f => Sys2Proof.Machine.execLeaseAudit f s
  | .call f => Sys2Proof.Machine.execCall f s
  | .callAck f => Sys2Proof.Machine.execCallAck f s
  | .roster f => Sys2Proof.Machine.execRoster f s
  | .checkpoint f => Sys2Proof.Machine.execCheckpoint f s
  | .time f => Sys2Proof.Machine.execTime f s
  | .powerDirective f => Sys2Proof.Machine.execPowerDirective f s
  | .nodeStatus f => Sys2Proof.Machine.execNodeStatus f s
  | .monitor f => Sys2Proof.Machine.execMonitor f s
  | .groupPush f => Sys2Proof.Machine.execGroupPush f s
  | .ledgerResponseTimeout w => Sys2Proof.Machine.execLedgerResponseTimeout w s
  | .leaseLapse p k => Sys2Proof.Machine.execLeaseLapse p k s
  | .leaseLostNoBeacon => Sys2Proof.Machine.execLeaseLostNoBeacon s
  | .nodeStatusPeriodic => Sys2Proof.Machine.execNodeStatusPeriodic s
  | .rosterFullPart p => Sys2Proof.Machine.execRosterFullPart p s
  | .timePeriodic p utc offset valid => Sys2Proof.Machine.execTimePeriodic p utc offset valid s
  | .leaseAuditPeriodic p => Sys2Proof.Machine.execLeaseAuditPeriodic p s
  | .checkpointSnapshot p => Sys2Proof.Machine.execCheckpointSnapshot p s
  | .quietEntry p => Sys2Proof.Machine.execQuietEntry p s
  | .quietCycle p => Sys2Proof.Machine.execQuietCycle p s
  | .electionStart => Sys2Proof.Machine.execElectionStart s
  | .electionDelayExpiry => Sys2Proof.Machine.execElectionDelayExpiry s
  | .collisionBackoffExpiry p => Sys2Proof.Machine.execCollisionBackoffExpiry p s
  | .rosterEntryExpiry p a => Sys2Proof.Machine.execRosterEntryExpiry p a s
  | .takeover => Sys2Proof.Machine.execTakeover s
  | .rangingBellSend => Sys2Proof.Machine.execRangingBellSend s
  | .rangingBellReceived p position arrival => Sys2Proof.Machine.execRangingBellReceived p position arrival s
  | .takeoverReclaim p part => Sys2Proof.Machine.execTakeoverReclaim p part s
  | .reRangingEnd => Sys2Proof.Machine.execReRangingEnd s
  | .waystationStandbyExpiry => Sys2Proof.Machine.execWaystationStandbyExpiry s
  | .stackHeader bytes => Sys2Proof.Machine.execStackHeader bytes s
  | .stackWindow n bytes entries => Sys2Proof.Machine.execStackWindow n bytes entries s
  | .p57InputRise => Sys2Proof.Machine.execP57InputRise s
  | .p57InputFall => Sys2Proof.Machine.execP57InputFall s
  | .p57RestartDelay inputUp => Sys2Proof.Machine.execP57RestartDelay inputUp s
  | .inrushTimeout => Sys2Proof.Machine.execInrushTimeout s
  | .p57Overload => Sys2Proof.Machine.execP57Overload s
  | .p57PowerWarning avgMw => Sys2Proof.Machine.execP57PowerWarning avgMw s
  | .host5Select => Sys2Proof.Machine.execHost5Select s
  | .host5Deselect => Sys2Proof.Machine.execHost5Deselect s
  | .surgeStart => Sys2Proof.Machine.execSurgeStart s
  | .surgeEnd mj => Sys2Proof.Machine.execSurgeEnd mj s
  | .p57HornDetect levelMv => Sys2Proof.Machine.execP57HornDetect levelMv s
  | .p57ActivityDetect levelMv => Sys2Proof.Machine.execP57ActivityDetect levelMv s
  | .p57CauseWrite v => Sys2Proof.Machine.execP57CauseWrite v s
  | .p57SurgeERead => Sys2Proof.Machine.execP57SurgeERead s
  | .intakeAttention ack => Sys2Proof.Machine.execIntakeAttention ack s
  | .shedStep => Sys2Proof.Machine.execShedStep s
  | .shedExhausted => Sys2Proof.Machine.execShedExhausted s
  | .shedRestore => Sys2Proof.Machine.execShedRestore s
  | .pgFall => Sys2Proof.Machine.execPgFall s
  | .pgRestored ack lowMs => Sys2Proof.Machine.execPgRestored ack lowMs s
  | .brownoutSustained => Sys2Proof.Machine.execBrownoutSustained s
  | .intakeBusRetry ack => Sys2Proof.Machine.execIntakeBusRetry ack s
  | .telemetryCopy m => Sys2Proof.Machine.execTelemetryCopy m s
  | .topPrecHoldExpiry => Sys2Proof.Machine.execTopPrecHoldExpiry s
  | .catchUpPlaybackStart => Sys2Proof.Machine.execCatchUpPlaybackStart s
  | .tdmSafePoint => Sys2Proof.Machine.execTdmSafePoint s
  | .asrcLock => Sys2Proof.Machine.execAsrcLock s
  | .annunciatorOvercurrent => Sys2Proof.Machine.execAnnunciatorOvercurrent s
  | .annunciatorRetry => Sys2Proof.Machine.execAnnunciatorRetry s
  | .pvddSpkLow => Sys2Proof.Machine.execPvddSpkLow s
  | .pvddSpkRestored => Sys2Proof.Machine.execPvddSpkRestored s
  | .chimeEntryEnd => Sys2Proof.Machine.execChimeEntryEnd s
  | .reconvergenceEnd => Sys2Proof.Machine.execReconvergenceEnd s
  | .howlFound freq => Sys2Proof.Machine.execHowlFound freq s
  | .notchRelease n => Sys2Proof.Machine.execNotchRelease n s
  | .howlGainStep => Sys2Proof.Machine.execHowlGainStep s
  | .ringTimeout r => Sys2Proof.Machine.execRingTimeout r s
  | .talkKeyPress => Sys2Proof.Machine.execTalkKeyPress s
  | .pushToTalkStart => Sys2Proof.Machine.execPushToTalkStart s
  | .pushToTalkRelease => Sys2Proof.Machine.execPushToTalkRelease s
  | .declineKey => Sys2Proof.Machine.execDeclineKey s
  | .callEndHold r => Sys2Proof.Machine.execCallEndHold r s
  | .toneDetectorStart n => Sys2Proof.Machine.execToneDetectorStart n s
  | .toneDetectorEnd n => Sys2Proof.Machine.execToneDetectorEnd n s
  | .muteOn => Sys2Proof.Machine.execMuteOn s
  | .muteOff => Sys2Proof.Machine.execMuteOff s
  | .micModeChange => Sys2Proof.Machine.execMicModeChange s
  | .micStartEnd => Sys2Proof.Machine.execMicStartEnd s
  | .micBridgeEnd => Sys2Proof.Machine.execMicBridgeEnd s
  | .stuckWindow constant => Sys2Proof.Machine.execStuckWindow constant s
  | .probeDecision w aFollows bFollows => Sys2Proof.Machine.execProbeDecision w aFollows bFollows s
  | .probeRetry w => Sys2Proof.Machine.execProbeRetry w s
  | .wakeEvent start score => Sys2Proof.Machine.execWakeEvent start score s
  | .historyFetchOverrun stream => Sys2Proof.Machine.execHistoryFetchOverrun stream s
  | .sqTailDoorbell c size v => Sys2Proof.Machine.execSqTailDoorbell c size v s
  | .cqHeadDoorbell c size v => Sys2Proof.Machine.execCqHeadDoorbell c size v s
  | .eventAcknowledge c size v => Sys2Proof.Machine.execEventAcknowledge c size v s
  | .ringEnable c => Sys2Proof.Machine.execRingEnable c s
  | .ringDisable c => Sys2Proof.Machine.execRingDisable c s
  | .clientDrained c => Sys2Proof.Machine.execClientDrained c s
  | .descriptorFetch c => Sys2Proof.Machine.execDescriptorFetch c s
  | .descriptorFetchCompletion c r => Sys2Proof.Machine.execDescriptorFetchCompletion c r s
  | .completionWrite c => Sys2Proof.Machine.execCompletionWrite c s
  | .vectorFire c => Sys2Proof.Machine.execVectorFire c s
  | .functionLevelReset => Sys2Proof.Machine.execFunctionLevelReset s
  | .perstNAssert => Sys2Proof.Machine.execPerstNAssert s
  | .perstNDeassert => Sys2Proof.Machine.execPerstNDeassert s
  | .linkDown => Sys2Proof.Machine.execLinkDown s
  | .busMasterEnableChange bme => Sys2Proof.Machine.execBusMasterEnableChange bme s
  | .dStateChange d3hot => Sys2Proof.Machine.execDStateChange d3hot s
  | .linkPowerStateChange l => Sys2Proof.Machine.execLinkPowerStateChange l s
  | .sbRegisterRead addr words => Sys2Proof.Machine.execSbRegisterRead addr words s
  | .sbRegisterWrite addr ws => Sys2Proof.Machine.execSbRegisterWrite addr ws s
  | .sbMailboxWrite bytes => Sys2Proof.Machine.execSbMailboxWrite bytes s
  | .sbCompletionRead clocked => Sys2Proof.Machine.execSbCompletionRead clocked s
  | .sbBufferWrite off data => Sys2Proof.Machine.execSbBufferWrite off data s
  | .sbBufferRead off n => Sys2Proof.Machine.execSbBufferRead off n s
  | .sbyHostWakeActive => Sys2Proof.Machine.execSbyHostWakeActive s
  | .sbyHostWakeTest => Sys2Proof.Machine.execSbyHostWakeTest s
  | .sbyReqWakeN => Sys2Proof.Machine.execSbyReqWakeN s
  | .nop c => Sys2Proof.Machine.execNop c s
  | .fence c => Sys2Proof.Machine.execFence c s
  | .listenSet c => Sys2Proof.Machine.execListenSet c s
  | .talkOpen c => Sys2Proof.Machine.execTalkOpen c s
  | .talkClose c => Sys2Proof.Machine.execTalkClose c s
  | .precedenceSet c => Sys2Proof.Machine.execPrecedenceSet c s
  | .roomSet c => Sys2Proof.Machine.execRoomSet c s
  | .streamOpen c => Sys2Proof.Machine.execStreamOpen c s
  | .streamBuf c buf => Sys2Proof.Machine.execStreamBuf c buf s
  | .streamClose c => Sys2Proof.Machine.execStreamClose c s
  | .callSend c => Sys2Proof.Machine.execCallSend c s
  | .callAnswer c => Sys2Proof.Machine.execCallAnswer c s
  | .eventSubscribe c => Sys2Proof.Machine.execEventSubscribe c s
  | .ledgerSend c buf => Sys2Proof.Machine.execLedgerSend c buf s
  | .ledgerSendWithdraw c => Sys2Proof.Machine.execLedgerSendWithdraw c s
  | .tagRead c => Sys2Proof.Machine.execTagRead c s
  | .tagWrite c buf => Sys2Proof.Machine.execTagWrite c buf s
  | .tagLifePost c => Sys2Proof.Machine.execTagLifePost c s
  | .checkJob c buf => Sys2Proof.Machine.execCheckJob c buf s
  | .powerVote c => Sys2Proof.Machine.execPowerVote c s
  | .perfRequest c => Sys2Proof.Machine.execPerfRequest c s
  | .historyFetch c => Sys2Proof.Machine.execHistoryFetch c s
  | .configStage c buf => Sys2Proof.Machine.execConfigStage c buf s
  | .configApply c => Sys2Proof.Machine.execConfigApply c s
  | .configGroupApply g => Sys2Proof.Machine.execConfigGroupApply g s
  | .monitorCmd c buf => Sys2Proof.Machine.execMonitorCmd c buf s
  | .diag c buf => Sys2Proof.Machine.execDiag c buf s
  | .cartridgePresent image => Sys2Proof.Machine.execCartridgePresent image s
  | .cartridgeAbsent => Sys2Proof.Machine.execCartridgeAbsent s
  | .lineOkRise => Sys2Proof.Machine.execLineOkRise s
  | .tagTransactionRetry => Sys2Proof.Machine.execTagTransactionRetry s
  | .tagBudgetExpiry => Sys2Proof.Machine.execTagBudgetExpiry s
  | .deferredRetry => Sys2Proof.Machine.execDeferredRetry s
  | .tagArbitrationLoss byte bit => Sys2Proof.Machine.execTagArbitrationLoss byte bit s
  | .tagWiredRead addr n => Sys2Proof.Machine.execTagWiredRead addr n s
  | .tagWiredWrite addr data => Sys2Proof.Machine.execTagWiredWrite addr data s
  | .tagAppend data => Sys2Proof.Machine.execTagAppend data s
  | .contactlessRead page => Sys2Proof.Machine.execContactlessRead page s
  | .contactlessWrite page data => Sys2Proof.Machine.execContactlessWrite page data s
  | .tagLockRelease => Sys2Proof.Machine.execTagLockRelease s
  | .contactlessSessionLimit => Sys2Proof.Machine.execContactlessSessionLimit s
  | .tollStart p n mode => Sys2Proof.Machine.execTollStart p n mode s
  | .tollFinish p n => Sys2Proof.Machine.execTollFinish p n s
  | .tollAbort p n => Sys2Proof.Machine.execTollAbort p n s
  | .tollData8 p n v => Sys2Proof.Machine.execTollData8 p n v s
  | .tollData16 p n v => Sys2Proof.Machine.execTollData16 p n v s
  | .tollData32 p n v => Sys2Proof.Machine.execTollData32 p n v s
  | .s1Entry => Sys2Proof.Machine.execS1Entry s
  | .s1Exit => Sys2Proof.Machine.execS1Exit s
  | .sleepHoldExpiry => Sys2Proof.Machine.execSleepHoldExpiry s
  | .sleepEntryAbort => Sys2Proof.Machine.execSleepEntryAbort s
  | .wakeSource bits => Sys2Proof.Machine.execWakeSource bits s
  | .watchCycle => Sys2Proof.Machine.execWatchCycle s
  | .rtcTick => Sys2Proof.Machine.execRtcTick s
  | .rtcAlarm => Sys2Proof.Machine.execRtcAlarm s
  | .perfLevelChangeDone => Sys2Proof.Machine.execPerfLevelChangeDone s
  | .refusalReport => Sys2Proof.Machine.execRefusalReport s
  | .watchdogExpiry => Sys2Proof.Machine.execWatchdogExpiry s
  | .fullReset powerOn => Sys2Proof.Machine.execFullReset powerOn s
  | .vin33Loss => Sys2Proof.Machine.execVin33Loss s
  | .bootStepDone => Sys2Proof.Machine.execBootStepDone s
  | .setupLock p => Sys2Proof.Machine.execSetupLock p s
  | .warmRestartRequest => Sys2Proof.Machine.execWarmRestartRequest s
  | .warmRestartEnd => Sys2Proof.Machine.execWarmRestartEnd s
  | .warmRestartOverrun => Sys2Proof.Machine.execWarmRestartOverrun s
  | .elementInternalFault e => Sys2Proof.Machine.execElementInternalFault e s
  | .uartPacket bytes => Sys2Proof.Machine.execUartPacket bytes s
  | .uartByteGap => Sys2Proof.Machine.execUartByteGap s
  | .monitorSessionIdle t => Sys2Proof.Machine.execMonitorSessionIdle t s
  | .monitorFragmentTimeout addr session => Sys2Proof.Machine.execMonitorFragmentTimeout addr session s
  | .ping r => Sys2Proof.Machine.execPing r s
  | .status r => Sys2Proof.Machine.execStatus r s
  | .close r => Sys2Proof.Machine.execClose r s
  | .replyFetch r => Sys2Proof.Machine.execReplyFetch r s
  | .regRead r => Sys2Proof.Machine.execRegRead r s
  | .regWrite r => Sys2Proof.Machine.execRegWrite r s
  | .halt r => Sys2Proof.Machine.execHalt r s
  | .resume r => Sys2Proof.Machine.execResume r s
  | .step r => Sys2Proof.Machine.execStep r s
  | .stepDone e => Sys2Proof.Machine.execStepDone e s
  | .elemRead r => Sys2Proof.Machine.execElemRead r s
  | .elemWrite r => Sys2Proof.Machine.execElemWrite r s
  | .memRead r => Sys2Proof.Machine.execMemRead r s
  | .memWrite r => Sys2Proof.Machine.execMemWrite r s
  | .otpRead r => Sys2Proof.Machine.execOtpRead r s
  | .traceRead r => Sys2Proof.Machine.execTraceRead r s
  | .stimWrite r => Sys2Proof.Machine.execStimWrite r s
  | .flashRead r => Sys2Proof.Machine.execFlashRead r s
  | .flashErase r => Sys2Proof.Machine.execFlashErase r s
  | .flashWrite r => Sys2Proof.Machine.execFlashWrite r s
  | .reset r => Sys2Proof.Machine.execReset r s
  | .externalTrigger gpio => Sys2Proof.Machine.execExternalTrigger gpio s
  | .traceData => Sys2Proof.Machine.execTraceData s
  | .traceEnable p => Sys2Proof.Machine.execTraceEnable p s
  | .wakeHistOldestLoRead => Sys2Proof.Machine.execWakeHistOldestLoRead s
  | .wakeLastStartLoRead => Sys2Proof.Machine.execWakeLastStartLoRead s
  | .tagSerialLoRead => Sys2Proof.Machine.execTagSerialLoRead s
  | .registerWrite off size v => Sys2Proof.Machine.execRegisterWrite off size v s
  | .inrushEnd => Sys2Proof.Machine.execInrushEnd s
  | .p57Thermal => Sys2Proof.Machine.execP57Thermal s
  | .asrcLockLoss => Sys2Proof.Machine.execAsrcLockLoss s
  | .rtcCrystalLoss => Sys2Proof.Machine.execRtcCrystalLoss s
  | .resetRelease => Sys2Proof.Machine.execResetRelease s
  | .readClearRead off size => Sys2Proof.Machine.execReadClearRead off size s
  | .bufferTransferCompletion c id ok moved => Sys2Proof.Machine.execBufferTransferCompletion c id ok moved s
  | .hostWriteRefused c => Sys2Proof.Machine.execHostWriteRefused c s

end Sys2Proof.Machine
end

