-- ==== Sys2Proof/Machine/Step.lean ====
section
/-! DEFINITION. One step: the command at the front of the queue acts; with none waiting the line clock runs (notes/assumptions/1.md). -/

namespace Sys2Proof.Machine

/-- The last symbol index of a cycle (R22). -/
def lastSymbol : Nat := 15624

/-- One symbol passes with no command waiting: the symbol index advances and waits at the end of the cycle for CYCLE_BOUNDARY. -/
def State.tick (s : State) : State := { s with plt := { s.plt with sym := min lastSymbol (s.plt.sym + 1) } }

/-- One step of the block. -/
def step (s : State) : Host.Outcome State Fault Refusal :=
  match s.pending with
  | [] => .next s.tick
  | c :: rest => exec c { s with pending := rest }

/-- `s` with the command that a word spells at the front of its queue; `s` where the word spells none. -/
def State.withFetchWord (s : State) (nbits w : Nat) : State :=
  match decodeTableWord nbits w with
  | some c => { s with pending := c :: s.pending }
  | none => s

end Sys2Proof.Machine
end

