-- ==== Sys2Proof/Safety.lean ====
section
/-! DEFINITION. The terms the statements use: the parts of the state, what a command leaves as it was, the canonical form of every addressed
store, and a step that goes on. -/

namespace Sys2Proof.Machine

/-! ### What is left unchanged -/

/-- The parts of the state, one for each field of `State`. -/
inductive Part where
  | dev | mem | pins | regs | plt | phy | link | master | rear | way | stack | p57 | intake | mix | ech | call | mic | wake | hif | sby
  | tag | cart | toll | pwr | cfg | dbg | free | pending
  deriving DecidableEq, Repr

/-- Part `p` is the same in both states. -/
def Part.same (p : Part) (s t : State) : Prop :=
  match p with
  | .dev => t.dev = s.dev
  | .mem => t.mem = s.mem
  | .pins => t.pins = s.pins
  | .regs => t.regs = s.regs
  | .plt => t.plt = s.plt
  | .phy => t.phy = s.phy
  | .link => t.link = s.link
  | .master => t.master = s.master
  | .rear => t.rear = s.rear
  | .way => t.way = s.way
  | .stack => t.stack = s.stack
  | .p57 => t.p57 = s.p57
  | .intake => t.intake = s.intake
  | .mix => t.mix = s.mix
  | .ech => t.ech = s.ech
  | .call => t.call = s.call
  | .mic => t.mic = s.mic
  | .wake => t.wake = s.wake
  | .hif => t.hif = s.hif
  | .sby => t.sby = s.sby
  | .tag => t.tag = s.tag
  | .cart => t.cart = s.cart
  | .toll => t.toll = s.toll
  | .pwr => t.pwr = s.pwr
  | .cfg => t.cfg = s.cfg
  | .dbg => t.dbg = s.dbg
  | .free => t.free = s.free
  | .pending => t.pending = s.pending

/-- From `s` to `t` only the parts in `w` may have changed. -/
def OnlyChanges (w : List Part) (s t : State) : Prop := ∀ p, p ∉ w → p.same s t

/-- From `s` to `t` only the registers at the offsets in `l` may have changed. -/
def OnlyRegs (l : List Nat) (s t : State) : Prop := ∀ o, o ∉ l → t.reg o = s.reg o

/-- From `s` to `t` only the parts in `w` may have changed, and of the registers only those at the offsets in `l`. -/
def OnlyThese (w : List Part) (l : List Nat) (s t : State) : Prop := OnlyChanges w s t ∧ OnlyRegs l s t

/-- The registers that count dropped events: HIF_EVCNT of H0 to H15 and SBY_STATUS (R393). -/
def dropCounts : List Nat :=
  [0x1028, 0x1068, 0x10A8, 0x10E8, 0x1128, 0x1168, 0x11A8, 0x11E8, 0x1228, 0x1268, 0x12A8, 0x12E8, 0x1328, 0x1368, 0x13A8, 0x13E8, 0x1808]

/-- The node is in S0. -/
def State.inS0 (s : State) : Prop := s.pwr.state = 0

/-! ### Events and completions -/

/-- From `s` to `t` event `code` has been raised in the cycle of `s`: every enabled client whose mask holds it and whose backlog has room
has the entry last of what waits (R392, R462). -/
def Told (s t : State) (code a b c : Nat) (arg : Word) : Prop :=
  ∀ i, i < 17 → (s.client i).running = true → (s.client i).mask.getLsbD code = true → (s.client i).backlog < 32 →
    (t.client i).waiting = (s.client i).waiting ++ [eventEntry s.lpc code a b c arg]

/-- The completion entry of descriptor `d` in the cycle of `s` (Table 10-2). -/
def doneEntry (s : State) (d : Desc) (st : Status) (result info : Word) : Entry :=
  { id := d.id, status := st, event := false, notify := d.flags.getLsbD 1, result := result, cycle := s.lpc, info := info }

/-- In `t` descriptor `d` of client `c`, which ran from `s`, has completed: its entry waits to be written. -/
def Answered (s t : State) (c : Nat) (d : Desc) (st : Status) (result info : Word) : Prop :=
  doneEntry s d st result info ∈ (t.client c).waiting

/-- The command of client `c` with opcode `op` whose turn has come is `x`, at place `j` in flight: it breaks no rule of Tables 10-1 and 10-4, is
not to be armed for a later cycle, and its client has not been closed since (R388, R430, R35). -/
structure Ready (s : State) (c op j : Nat) (x : InFlight) : Prop where
  turn : s.startable c op = some (j, x)
  sound : checkDesc c x.desc = none
  now : (x.desc.scheduled && s.isAhead x.desc.due) = false
  live : x.stale = false

/-- The registers that completing, tracing and arming descriptors may touch: HIF_ERR, CFG_ERR, DBG_TRACE_STATUS and PLT_CMP_STATUS. -/
def clientRegs : List Nat := [F.HIF_ERR.stale_reply.off, F.DBG_TRACE_STATUS.overflow.off, F.CFG_ERR.peer_resets.off, F.PLT_CMP_STATUS.armed.off]

/-- `s` with the start of descriptor `d` of client `c` traced, before it has any effect (Table 15-8, port 5). -/
def State.started (s : State) (c : Nat) (d : Desc) : State := s.stim 5 (d.id.toNat + 65536 * c)

/-- A monitor request is taken up: the shell hears its transport, the transport's previous command has finished, a line session has room, and
`u` is the state with its session open (R601, R604 to R607). -/
structure Heard (s : State) (r : MonReq) (u : State) : Prop where
  hears : s.shellHears r.via = true
  free : s.monBusy r.via = false
  room : s.linesFull r.via = false
  opened : s.openSession r.via = u

/-- As `Heard`, for a resident command in S0 with CC able to run it (R605). -/
structure HeardByResident (s : State) (r : MonReq) (u : State) : Prop where
  heard : Heard s r u
  run : u.pwr.state = 0
  up : u.residentUp = true

/-- The commands by which a ledger frame `f` arrives, one for each type of Table 3-3. -/
def ledgerCommands (f : LedgerFrame) (arrival : Nat) : List Instr :=
  [.addressAssign f, .rangePoll f, .rangeReply f arrival, .leaseReq f, .leaseGrant f, .leaseRelease f, .leaseAudit f, .call f, .callAck f, .roster f,
    .checkpoint f, .time f, .powerDirective f, .nodeStatus f, .monitor f, .groupPush f]

/-- `s` with the checks of frame `f` done and its message journaled, before its destination is looked at (R75, R92, R171). -/
def State.checkedFrame (s : State) (f : LedgerFrame) : State := (s.frameReceived f).1.journalFrame f

/-- `v` with the source and sequence of frame `f` remembered for 64 cycles and its arrival traced (R109, Table 15-8). -/
def State.takenUp (v : State) (f : LedgerFrame) : State :=
  (v.modLnk f.port (fun l =>
    { l with recent := (f.source.toNat % 128, f.sequence, v.lpc) :: l.recent.filter (fun x => decide ((v.lpc - x.2.2).toNat ≤ 64)) })).stim 0
      (f.typ.toNat + 256 * f.source.toNat + 65536 * f.destination.toNat)

/-- A ledger frame of type `ty` is accepted by a node that is awake, and `u` is the state in which its message takes effect: the frame has a
length of Table 3-3 and a valid CRC, CC runs, the node is among its destinations and has not processed it in the last 64 cycles (R75, R108, R109). -/
structure Accepted (s : State) (f : LedgerFrame) (ty : Nat) (u : State) : Prop where
  hears : s.hears f.port = true
  awake : s.pwr.state < 2
  calm : s.pwr.bellUntil = none
  run : s.ccLink = true
  short : f.length.toNat ≤ 160
  crc : s.frameCrcOk f = true
  mine : (s.checkedFrame f).forMe f.port f.destination = true
  sized : lengthOk f.typ.toNat f.payload = true
  whole : f.length.toNat = f.payload.length
  typ : f.typ.toNat = ty
  fresh : (s.checkedFrame f).isDup f.port (f.source.toNat % 128) f.sequence = false
  opened : u = (s.checkedFrame f).takenUp f

/-! ### Canonical stores -/

/-- Every addressed store of the block is in its canonical form: numbers strictly rising, and no entry that an unlisted place reads as. The
registers, the SRAM, the flash, the standby buffer and the cartridge's memory. -/
structure State.Canon (s : State) : Prop where
  regs : Cells.wf regReset s.regs = true
  sram : Cells.wf (sramByte s.mem.lostAt) s.mem.sram = true
  flash : Cells.wf erasedByte s.mem.flash = true
  buf : Cells.wf (fun _ => (0 : Byte)) s.sby.buf = true
  cart : Cells.wf tagFactory s.cart.mem = true

/-! ### Going on -/

/-- A step of the block goes on. -/
def State.goesOn (s : State) : Prop := ∃ t, step s = .next t

end Sys2Proof.Machine
end

