-- ==== Sys2Proof/Certificates/Slice0/Obligations.lean ====
section
/-! DEFINITION. The statements for the provers, family by family. Each docstring names the rules it comes from. -/

open Sys2Proof Sys2Proof.Machine

/-- The command at the front of the queue runs on the state with the queue's rest, whatever it is (the row's cut). -/
def Obligations.StepRunsFrontCommand : Prop :=
  ∀ (c : Instr) (q : List Instr) (s : State), step { s with pending := c :: q } = exec c { s with pending := q }

/-- With no command waiting one symbol passes: the symbol index advances up to 15,624, and nothing else changes (R22 gives the range; that the
empty queue is the line clock is the model's own choice, log 1). -/
def Obligations.EmptyQueueIsASymbol : Prop :=
  ∀ s : State, s.pending = [] → step s = .next { s with plt := { s.plt with sym := min 15624 (s.plt.sym + 1) } }

/-- The P57's start and stop (R199, R200, R203, Table 5-2): the input's rise, the end of inrush, the restart delay, the inrush timeout, the
overload and the input's fall each have the effect the manual gives in the phase they apply to, and none in another. -/
def Obligations.P57StartsAndStops : Prop :=
  (∀ s : State, s.p57.phase = .off → exec .p57InputRise s = .next { s with p57 := { s.p57 with phase := .inrush } }) ∧
  (∀ s : State, s.p57.phase ≠ .off → exec .p57InputRise s = .next s) ∧
  (∀ s : State, s.p57.phase = .inrush →
    exec .inrushEnd s = .next { s with p57 := { s.p57 with phase := .on, pg := true, lineOk := true, ilim := false } }) ∧
  (∀ s : State, s.p57.phase ≠ .inrush → exec .inrushEnd s = .next s) ∧
  (∀ s : State, s.p57.phase = .inrush →
    exec .inrushTimeout s = .next { s with p57 := { s.p57 with phase := .restartWait, cause := s.p57.cause ||| 0x04 } }) ∧
  (∀ s : State, s.p57.phase ≠ .inrush → exec .inrushTimeout s = .next s) ∧
  (∀ s : State, s.p57.phase = .on → exec .p57Overload s =
    .next { s with p57 := { s.p57 with phase := .overloadWait, pg := false, ilim := true, cause := s.p57.cause ||| 0x04 } }) ∧
  (∀ s : State, s.p57.phase ≠ .on → exec .p57Overload s = .next s) ∧
  (∀ s : State, s.p57.phase = .restartWait →
    exec (.p57RestartDelay true) s = .next { s with p57 := { s.p57 with phase := .inrush } } ∧
    exec (.p57RestartDelay false) s = .next { s with p57 := { s.p57 with phase := .off } }) ∧
  (∀ s : State, s.p57.phase = .overloadWait →
    exec (.p57RestartDelay true) s = .next { s with p57 := { s.p57 with phase := .on, pg := true, lineOk := true, ilim := false } } ∧
    exec (.p57RestartDelay false) s = .next { s with p57 := { s.p57 with phase := .off } }) ∧
  (∀ s : State, s.p57.phase = .on → s.p57.srcHost = true →
    exec .p57InputFall s = .next { s with p57 := { s.p57 with phase := .off, lineOk := false, ilim := false, cause := s.p57.cause ||| 0x20 } }) ∧
  (∀ s : State, s.p57.phase = .on → s.p57.srcHost = false → ∃ t, exec .p57InputFall s = .next t ∧
    t = { s with p57 := t.p57 } ∧ t.p57.phase = .off ∧ t.p57.pg = false ∧ t.p57.lineOk = false ∧ t.p57.fifo = [] ∧ t.p57.fresh = true)

/-- Sources, surges and causes of the P57 (R208, R213 to R217, R227, Table 5-5): each change of source is a cause, and one that ends the last source
takes PG down; a surge's energy joins the FIFO in mJ, saturating, or the newest entry of a full one, which sets overflow; heat is a cause; a 1
written to a cause clears it; a read takes the oldest energy. -/
def Obligations.P57SourcesAndSurges : Prop :=
  (∀ s : State, s.p57.srcCtl.getLsbD 0 = true → s.p57.srcCtl.getLsbD 1 = false → s.p57.srcHost = false →
    exec .host5Select s = .next { s with p57 := { s.p57 with srcHost := true, pg := true, cause := s.p57.cause ||| 0x08 } }) ∧
  (∀ s : State, s.p57.srcHost = true → s.p57.phase = .on →
    exec .host5Deselect s = .next { s with p57 := { s.p57 with srcHost := false, cause := s.p57.cause ||| 0x08 } }) ∧
  (∀ s : State, s.p57.srcHost = true → s.p57.phase ≠ .on → ∃ t, exec .host5Deselect s = .next t ∧
    t = { s with p57 := t.p57 } ∧ t.p57.phase = s.p57.phase ∧ t.p57.pg = false ∧ t.p57.srcHost = false ∧ t.p57.fresh = true) ∧
  (∀ s : State, exec .surgeStart s = .next { s with p57 := { s.p57 with surging := true } }) ∧
  (∀ (s : State) (mj : Nat), s.p57.surging = true → s.p57.fifo.length < 4 → exec (.surgeEnd mj) s =
    .next { s with p57 := { s.p57 with surging := false, fifo := s.p57.fifo ++ [min 65535 mj], cause := s.p57.cause ||| 0x01 } }) ∧
  (∀ (s : State) (mj : Nat) (l : List Nat) (x : Nat), s.p57.surging = true → s.p57.fifo = l ++ [x] → l.length = 3 →
    exec (.surgeEnd mj) s = .next { s with p57 :=
      { s.p57 with surging := false, fifo := l ++ [min 65535 (x + mj)], overflow := true, cause := s.p57.cause ||| 0x01 } }) ∧
  (∀ s : State, exec .p57Thermal s = .next { s with p57 := { s.p57 with hot := true, cause := s.p57.cause ||| 0x10 } }) ∧
  (∀ (s : State) (v : Byte), exec (.p57CauseWrite v) s = .next { s with p57 :=
    { s.p57 with cause := s.p57.cause &&& ~~~v, hornWake := s.p57.hornWake && decide (s.p57.cause &&& ~~~v &&& 0xC0 ≠ 0) } }) ∧
  (∀ s : State, exec .p57SurgeERead s = .next { s with p57 := { s.p57 with fifo := s.p57.fifo.drop 1 } })

/-- The P57's power warning and its two detectors (R202, R211, R212, R213): the warning rises above its percentage of P_class and falls 5
points below it; a detector raises HORN_WAKE and its cause, and wakes a node that sleeps in S4; the L64 clears the cause once the intake bus is
free. That it does so in the same step when the bus is free is the model's own choice (log 61). -/
def Obligations.P57WarnsAndDetects : Prop :=
  (∀ (s : State) (mw : Nat), s.p57.pwarn = false → classMw s.p57.cls.toNat * s.p57.warnPercent < 100 * mw →
    exec (.p57PowerWarning mw) s = .next { s with p57 := { s.p57 with pwarn := true, cause := s.p57.cause ||| 0x02 } }) ∧
  (∀ (s : State) (mw : Nat), s.p57.pwarn = true → 100 * mw ≤ classMw s.p57.cls.toNat * (s.p57.warnPercent - 5) →
    exec (.p57PowerWarning mw) s =
      .next { s with p57 := { s.p57 with pwarn := false }, intake := { s.intake with shedding := false, exhausted := false } }) ∧
  (∀ (s : State) (mv : Nat), s.p57.lineOk = true → s.p57.hornCtl.getLsbD 0 = true → s.p57.hornLevel ≤ mv → s.pwr.state < 4 →
    exec (.p57HornDetect mv) s = .next { s with p57 := if s.intakeFree then
      { s.p57 with cause := s.p57.cause &&& 0xBF, hornWake := decide (s.p57.cause &&& 0x80 ≠ 0) }
      else { s.p57 with cause := s.p57.cause ||| 0x40, hornWake := true } }) ∧
  (∀ (s : State) (mv : Nat), s.p57.lineOk = true → s.p57.hornCtl.getLsbD 0 = true → s.p57.hornLevel ≤ mv → s.pwr.state = 4 → s.intakeFree = true →
    ∃ t, exec (.p57HornDetect mv) s = .next t ∧ t.pwr.state = 0 ∧ t.p57.cause = s.p57.cause &&& 0xBF) ∧
  (∀ (s : State) (mv : Nat), s.p57.lineOk = true → s.p57.hornCtl.getLsbD 1 = true → s.p57.hornLevel ≤ mv → s.pwr.state < 4 →
    exec (.p57ActivityDetect mv) s = .next { s with p57 := if s.intakeFree then
      { s.p57 with cause := s.p57.cause &&& 0x7F, hornWake := decide (s.p57.cause &&& 0x40 ≠ 0) }
      else { s.p57 with cause := s.p57.cause ||| 0x80, hornWake := true } }) ∧
  (∀ (s : State) (mv : Nat), s.p57.lineOk = true → s.p57.hornCtl.getLsbD 1 = true → s.p57.hornLevel ≤ mv → s.pwr.state = 4 → s.intakeFree = true →
    ∃ t, exec (.p57ActivityDetect mv) s = .next t ∧ t.pwr.state = 0 ∧ t.p57.cause = s.p57.cause &&& 0x7F)

/-- Shedding (R220 to R222): a step adds one to the step in force, a restore takes one away, and the sequence's exhaustion is told once. Steps
5 and 6 cap the performance level at PL2 and PL3. -/
def Obligations.SheddingMovesByOneStep : Prop :=
  (∀ s : State, s.intake.shedding = true → s.p57.pwarn = true → s.rf F.PWR_SHED_STATUS.step < 6 → ∃ t, exec .shedStep s = .next t ∧
    t.rf F.PWR_SHED_STATUS.step = s.rf F.PWR_SHED_STATUS.step + 1 ∧
    (s.rf F.PWR_SHED_STATUS.step = 5 → t.rf F.PWR_PERF.cap = 3) ∧
    OnlyThese [.regs, .pwr, .dbg] [F.PWR_PERF.cap.off, F.PWR_SHED_STATUS.step.off, F.DBG_TRACE_STATUS.overflow.off] s t) ∧
  (∀ s : State, s.p57.pwarn = false → 0 < s.rf F.PWR_SHED_STATUS.step → ∃ t, exec .shedRestore s = .next t ∧
    t.rf F.PWR_SHED_STATUS.step = s.rf F.PWR_SHED_STATUS.step - 1 ∧
    (s.intake.brownout = false → s.rf F.PWR_SHED_STATUS.step = 6 → t.rf F.PWR_PERF.cap = 2) ∧
    OnlyThese [.regs, .pwr, .dbg] [F.PWR_PERF.cap.off, F.PWR_SHED_STATUS.step.off, F.DBG_TRACE_STATUS.overflow.off] s t) ∧
  (∀ s : State, s.rf F.PWR_SHED_STATUS.step = 6 → s.p57.pwarn = true → s.intake.exhausted = false → ∃ t, exec .shedExhausted s = .next t ∧
    t.intake = { s.intake with exhausted := true } ∧ Told s t 17 2 6 0 0 ∧ OnlyThese [.regs, .intake, .hif] dropCounts s t) ∧
  (∀ s : State, s.intake.exhausted = true → exec .shedExhausted s = .next s)

/-- The intake master's transactions (R218, R219, R228): an answered attention reads and clears the causes and empties the surge FIFO, one
that is not answered is tried again, a third failure gives the bus up, and telemetry is copied in S0 and S1 only. -/
def Obligations.IntakeMasterTransacts : Prop :=
  (∀ s : State, s.p57.surgeN = true → s.intakeFree = true → ∃ t, exec (.intakeAttention true) s = .next t ∧
    t.p57 = { s.p57 with cause := s.p57.cause &&& 0xC0, fifo := [], overflow := false, hornWake := s.p57.hornWake && decide (s.p57.cause &&& 0xC0 ≠ 0) }) ∧
  (∀ s : State, s.p57.surgeN = true → s.intakeFree = true →
    exec (.intakeAttention false) s = .next { s with intake := { s.intake with retry := some (none, 0) } }) ∧
  (∀ (s : State) (w : Option Nat) (n : Nat), s.intake.retry = some (w, n) → n < 2 →
    exec (.intakeBusRetry false) s = .next { s with intake := { s.intake with retry := some (w, n + 1) } }) ∧
  (∀ (s : State) (w : Option Nat) (n : Nat), s.intake.retry = some (w, n) → 2 ≤ n → ∃ t, exec (.intakeBusRetry false) s = .next t ∧
    t.intake = { s.intake with retry := none, waiting := true } ∧
    t.rf F.PWR_INTAKE_STATUS.bus_err = min (s.rf F.PWR_INTAKE_STATUS.bus_err + 1) 255 ∧
    OnlyThese [.regs, .intake, .hif] (F.PWR_INTAKE_STATUS.bus_err.off :: dropCounts) s t) ∧
  (∀ (s : State) (n : Nat), s.intake.retry = some (none, n) → s.p57.surgeN = true → s.intake.brownout = false → s.intake.waiting = false →
    s.pins.resetHeld = false → exec (.intakeBusRetry true) s = exec (.intakeAttention true) { s with intake := { s.intake with retry := none } }) ∧
  (∀ (s : State) (m : P57Telem), s.pwr.state ≤ 1 → s.intakeFree = true → ∃ t, exec (.telemetryCopy m) s = .next t ∧
    t.p57 = { s.p57 with telem := m } ∧ t.rf F.PWR_INTAKE_TELEM0.vin = m.vin.toNat ∧ t.rf F.PWR_INTAKE_TELEM0.iin = m.iin.toNat ∧
    t.rf F.PWR_INTAKE_TELEM1.pin = m.pin.toNat ∧ t.rf F.PWR_INTAKE_TELEM1.vsys = m.vsys.toNat ∧
    t.rf F.PWR_INTAKE_STATUS.telem_stale = 0 ∧
    OnlyThese [.regs, .p57] [F.PWR_INTAKE_STATUS.pg.off, F.PWR_INTAKE_TELEM0.vin.off, F.PWR_INTAKE_TELEM1.pin.off] s t) ∧
  (∀ (s : State) (m : P57Telem), 1 < s.pwr.state → exec (.telemetryCopy m) s = .next { s with p57 := { s.p57 with telem := m } })

/-- Brownout (R224 to R226): PG's fall puts the actions in force and caps the level at PL3; PG restored, answered, ends them and is told;
a P57 that lost its own power is written again; a fall that lasts is told once. -/
def Obligations.BrownoutBeginsAndEnds : Prop :=
  (∀ s : State, s.intake.brownout = false → ∃ t, exec .pgFall s = .next t ∧ t.p57 = { s.p57 with pg := false } ∧
    t.intake = { s.intake with brownout := true, sustained := false } ∧ t.rf F.PWR_INTAKE_STATUS.pg = 0 ∧ t.rf F.PWR_PERF.cap = 3 ∧
    OnlyThese [.regs, .p57, .intake, .pwr] [F.PWR_INTAKE_STATUS.pg.off, F.PWR_PERF.cap.off] s t) ∧
  (∀ (s : State) (ms : Nat), s.pwr.state = 0 → s.intake.brownout = true → s.p57.fresh = false → ∃ t, exec (.pgRestored true ms) s = .next t ∧
    t.p57 = { s.p57 with pg := true } ∧
    t.intake = { s.intake with brownout := false, sustained := false, waiting := false, retry := none } ∧
    t.rf F.PWR_INTAKE_STATUS.pg = 1 ∧ Told s t 17 0 (s.rf F.PWR_SHED_STATUS.step) 0 (BitVec.ofNat 32 ms)) ∧
  (∀ (s : State) (ms : Nat), s.pwr.state = 0 → s.p57.fresh = true → ∃ t, exec (.pgRestored true ms) s = .next t ∧
    t.p57 = { s.p57 with pg := true, cls := BitVec.ofNat 2 s.intake.admitted, percent := 90, hornCtl := 0x41, srcCtl := 0x01, causeEn := 0x7F,
                         fresh := false } ∧
    t.rf F.PWR_INTAKE_STATUS.p57_gen = (s.rf F.PWR_INTAKE_STATUS.p57_gen + 1) % 256 ∧ t.rf F.GLB_BLOCK_RESET.p57 = 1) ∧
  (∀ (s : State) (ms : Nat), s.pwr.state = 0 → ∃ t, exec (.pgRestored false ms) s = .next t ∧
    t.p57 = { s.p57 with pg := true } ∧ t.intake = { s.intake with retry := some (some ms, 0) }) ∧
  (∀ s : State, s.intake.brownout = true → s.intake.sustained = false → ∃ t, exec .brownoutSustained s = .next t ∧
    t.intake = { s.intake with sustained := true } ∧ Told s t 17 1 (s.rf F.PWR_SHED_STATUS.step) 0 0 ∧
    OnlyThese [.regs, .intake, .hif] dropCounts s t)

/-- Entering and abandoning sleep (R536, R537, R539): with no NODE_STATUS owed the deepest state whose hold is over is entered; with one
owed the entry waits for it; 64 cycles without it abandon the entry; S1 is entered from S0 and left for S0. -/
def Obligations.SleepIsEntered : Prop :=
  (∀ (s : State) (n : Nat), s.coreOn = true → s.pwr.entering = none → s.pins.resetHeld = false → s.awaitsBell = false → s.dueState = some n →
    s.mustReport n = false → ∃ t, exec .sleepHoldExpiry s = .next t ∧ t.pwr.state = n ∧ t.pwr.entering = none ∧ t.pwr.holds = [0, 0, 0, 0] ∧
      t.phy.tx = [] ∧ t.plt.beaconOk = false ∧ (4 ≤ n → t.plt.lpcInvalid = true)) ∧
  (∀ (s : State) (n : Nat), s.coreOn = true → s.pwr.entering = none → s.pins.resetHeld = false → s.awaitsBell = false → s.dueState = some n →
    s.mustReport n = true → ∃ t, exec .sleepHoldExpiry s = .next t ∧ t.pwr.state = s.pwr.state ∧ t.pwr.entering = some n ∧
      t.pwr.entrySince = some s.lpc) ∧
  (∀ (s : State) (e : Word), s.pwr.entrySince = some e → 64 ≤ (s.lpc - e).toNat → exec .sleepEntryAbort s =
    .next { s with pwr := { s.pwr with entering := none, entrySince := none, holds := [0, 0, 0, 0] } }) ∧
  (∀ s : State, s.pwr.state = 0 → 1 ≤ s.allowedDepth → s.pwr.entering = none → ∃ t, exec .s1Entry s = .next t ∧
    t.pwr = { s.pwr with state := 1 } ∧ OnlyThese [.regs, .pwr, .dbg] [F.DBG_TRACE_STATUS.overflow.off] s t) ∧
  (∀ s : State, s.pwr.state = 1 → ∃ t, exec .s1Exit s = .next t ∧
    t.pwr = { s.pwr with state := 0 } ∧ OnlyThese [.regs, .pwr, .dbg] [F.DBG_TRACE_STATUS.overflow.off] s t)

/-- Wake sources and the real-time clock (R541, R552, R553, R676): a source that fires in S0 adds its bit to PWR_WAKE_CAUSE; one that wakes from the
state the node is in ends in S0; the clock counts while its crystal runs, and its alarm fires once. That any source that fires ends an entry is
the model's reading (log 98). -/
def Obligations.WakeSourcesAct : Prop :=
  (∀ (s : State) (bits : BitVec 13), s.pins.resetHeld = false → s.pwr.state = 0 → s.firing bits.toNat ≠ 0 → ∃ t,
    exec (.wakeSource bits) s = .next t ∧ t.pwr.state = 0 ∧
    (∀ i, i < 13 → bitOf (t.rf F.PWR_WAKE_CAUSE.cause) i = (bitOf (s.rf F.PWR_WAKE_CAUSE.cause) i || bitOf (s.firing bits.toNat) i)) ∧
    OnlyThese [.regs, .pwr, .dbg] [F.PWR_WAKE_CAUSE.cause.off, F.PWR_ENTRY_STAT.aborted.off, F.DBG_TRACE_STATUS.overflow.off] s t) ∧
  (∀ (s : State) (bits : BitVec 13) (i : Nat), s.pins.resetHeld = false → i < 13 → bitOf (s.firing bits.toNat) i = true →
    (wakeRange i).1 ≤ s.pwr.state → s.pwr.state ≤ (wakeRange i).2 → ∃ t, exec (.wakeSource bits) s = .next t ∧ t.pwr.state = 0) ∧
  (∀ s : State, s.pwr.state = 3 → s.watchDue = true →
    exec .watchCycle s = .next { s with phy := { s.phy with watch := some s.lpc } }) ∧
  (∀ s : State, s.pins.rtcCrystal = true → ∃ t, exec .rtcTick s = .next t ∧
    t.rf F.PWR_RTC.seconds = (s.rf F.PWR_RTC.seconds + 1) % 2 ^ 32 ∧ OnlyThese [.regs] [F.PWR_RTC.seconds.off] s t) ∧
  (∀ s : State, exec .rtcCrystalLoss s = .next { s with pins := { s.pins with rtcCrystal := false } }) ∧
  (∀ s : State, s.pins.rtcCrystal = false → exec .rtcTick s = .next s ∧ exec .rtcAlarm s = .next s) ∧
  (∀ s : State, s.pins.rtcCrystal = true → s.rf F.PWR_RTC_ALARM.seconds ≠ 0 → s.rf F.PWR_RTC.seconds = s.rf F.PWR_RTC_ALARM.seconds →
    s.pwr.state = 0 → ∃ t, exec .rtcAlarm s = .next t ∧ t.rf F.PWR_RTC_ALARM.seconds = 0 ∧ OnlyThese [.regs, .pwr, .dbg]
      [F.PWR_RTC_ALARM.seconds.off, F.PWR_WAKE_CAUSE.cause.off, F.PWR_ENTRY_STAT.aborted.off, F.DBG_TRACE_STATUS.overflow.off] s t) ∧
  (∀ s : State, s.pins.rtcCrystal = true → s.rf F.PWR_RTC_ALARM.seconds ≠ 0 → s.rf F.PWR_RTC.seconds = s.rf F.PWR_RTC_ALARM.seconds →
    s.wakeEnabled 2 = true → 1 ≤ s.pwr.state → s.pwr.state ≤ 5 → ∃ t, exec .rtcAlarm s = .next t ∧ t.pwr.state = 0)

/-- The performance level and refused votes (R531, R551, R562): a change of level ends with the target in force and shown, whatever waits for
it completes; a report tells the refuser with the lowest code. -/
def Obligations.LevelsAndRefusalsAreTold : Prop :=
  (∀ s : State, s.coreOn = true → s.pwr.changing = true → ∃ t, exec .perfLevelChangeDone s = .next t ∧
    t.rf F.PWR_PERF.in_force = s.targetLevel ∧ t.pwr = { s.pwr with changing := false } ∧ OnlyThese [.regs, .hif, .pwr, .dbg]
      [F.PWR_PERF.in_force.off, F.HIF_ERR.stale_reply.off, F.CFG_ERR.peer_resets.off, F.DBG_TRACE_STATUS.overflow.off] s t) ∧
  (∀ (s : State) (r : RefusedVote), (s.refreshRefusals).pwr.refused.find? (fun x => !x.reported) = some r → ∃ t,
    exec .refusalReport s = .next t ∧ t.pwr.refusals = 0 ∧
    Told (s.refreshRefusals) t 16 (r.refusers.foldl min 31) r.asked 0 (BitVec.ofNat 32 (s.refreshRefusals).pwr.refusals) ∧
    OnlyChanges [.regs, .hif, .pwr] s t) ∧
  (∀ s : State, (s.refreshRefusals).pwr.refused.find? (fun x => !x.reported) = none → exec .refusalReport s = .next (s.refreshRefusals))

/-- A Tollgate unit (R508 to R515): a start claims a free unit, data bytes from the holder are fed in the order of the register, a finish leaves the
value and compares it in mode 3, an abort frees the unit. Bytes from another path are counted and have no effect; a start of a unit that a job
holds sets claim_refused. That a start by another path takes the unit is the model's reading (log 82). -/
def Obligations.TollgateUnitsCompute : Prop :=
  (∀ (s : State) (p : Path) (n : Fin 4) (m : BitVec 2), s.reach p (F.TOLL_CMD.mode n).off = some s → s.lockBinds p = false →
    s.on (F.TOLL_STATUS.job n) = true → exec (.tollStart p n m) s = .next (s.put (F.TOLL_STATUS.claim_refused n) true)) ∧
  (∀ (s : State) (p : Path) (n : Fin 4) (m : BitVec 2), s.reach p (F.TOLL_CMD.mode n).off = some s → s.lockBinds p = false →
    s.on (F.TOLL_STATUS.job n) = false → n < s.toll.length → ∃ t, exec (.tollStart p n m) s = .next t ∧
      t.rf (F.TOLL_STATUS.holder n) = holderCode p ∧ t.rf (F.TOLL_COUNT.bytes n) = 0 ∧ t.rf (F.TOLL_STATUS.done n) = 0 ∧
      t.tollUnit n = { mode := m.toNat, tail := [] } ∧
      OnlyThese [.regs, .toll] [(F.TOLL_STATUS.holder n).off, (F.TOLL_COUNT.bytes n).off, (F.TOLL_RAW.raw n).off] s t) ∧
  (∀ (s : State) (p : Path) (n : Fin 4) (v : Byte), s.reach p (F.TOLL_CMD.mode n).off = some s → s.lockBinds p = false →
    s.rf (F.TOLL_STATUS.holder n) = holderCode p → (s.tollUnit n).mode ≠ 2 → (s.tollUnit n).tail = [] → exec (.tollData8 p n v) s = .next
      (((s.wr (F.TOLL_RAW.raw n) (crcFeed (s.tollRegs n).params (s.rf (F.TOLL_RAW.raw n)) [v])).wr (F.TOLL_COUNT.bytes n)
        (s.rf (F.TOLL_COUNT.bytes n) + 1)).setToll n { mode := (s.tollUnit n).mode, tail := [] })) ∧
  (∀ (s : State) (p : Path) (n : Fin 4) (v : Half), s.reach p (F.TOLL_CMD.mode n).off = some s → s.lockBinds p = false →
    s.rf (F.TOLL_STATUS.holder n) = holderCode p → (s.tollUnit n).mode ≠ 2 → (s.tollUnit n).tail = [] → exec (.tollData16 p n v) s = .next
      (((s.wr (F.TOLL_RAW.raw n) (crcFeed (s.tollRegs n).params (s.rf (F.TOLL_RAW.raw n)) [v.setWidth 8, (v >>> 8).setWidth 8])).wr
        (F.TOLL_COUNT.bytes n) (s.rf (F.TOLL_COUNT.bytes n) + 2)).setToll n { mode := (s.tollUnit n).mode, tail := [] })) ∧
  (∀ (s : State) (p : Path) (n : Fin 4) (v : Word), s.reach p (F.TOLL_CMD.mode n).off = some s → s.lockBinds p = false →
    s.rf (F.TOLL_STATUS.holder n) = holderCode p → (s.tollUnit n).mode ≠ 2 → (s.tollUnit n).tail = [] → exec (.tollData32 p n v) s = .next
      (((s.wr (F.TOLL_RAW.raw n) (crcFeed (s.tollRegs n).params (s.rf (F.TOLL_RAW.raw n))
        [v.setWidth 8, (v >>> 8).setWidth 8, (v >>> 16).setWidth 8, (v >>> 24).setWidth 8])).wr
        (F.TOLL_COUNT.bytes n) (s.rf (F.TOLL_COUNT.bytes n) + 4)).setToll n { mode := (s.tollUnit n).mode, tail := [] })) ∧
  (∀ (s : State) (p : Path) (n : Fin 4), s.reach p (F.TOLL_CMD.mode n).off = some s → s.lockBinds p = false →
    s.rf (F.TOLL_STATUS.holder n) = holderCode p → n < s.toll.length → ∃ t, exec (.tollFinish p n) s = .next t ∧
      t.rf (F.TOLL_STATUS.done n) = 1 ∧ t.rf (F.TOLL_STATUS.holder n) = 0 ∧ t.tollUnit n = { mode := 0, tail := [] } ∧
      ((s.tollUnit n).mode = 3 → t.rf (F.TOLL_STATUS.match n) = bit (decide (s.rf (F.TOLL_EXPECT.expect n) =
        crcValue (s.tollRegs n).params (crcFeed (s.tollRegs n).params (s.rf (F.TOLL_RAW.raw n)) (if (s.tollRegs n).foldAfter then (s.tollRegs n).fold else []))))) ∧
      OnlyChanges [.regs, .toll, .hif] s t) ∧
  (∀ (s : State) (p : Path) (n : Fin 4), s.reach p (F.TOLL_CMD.mode n).off = some s → s.lockBinds p = false →
    s.rf (F.TOLL_STATUS.holder n) = holderCode p →
      exec (.tollAbort p n) s = .next ((s.wr (F.TOLL_STATUS.holder n) 0).setToll n { mode := 0, tail := [] })) ∧
  (∀ (s : State) (p : Path) (n : Fin 4) (v : Byte), s.reach p (F.TOLL_CMD.mode n).off = some s → s.lockBinds p = false →
    (s.rf (F.TOLL_STATUS.holder n) = 0 → exec (.tollData8 p n v) s = .next (s.bump (F.TOLL_ERR.idle_writes n))) ∧
    (s.rf (F.TOLL_STATUS.holder n) ≠ 0 → s.rf (F.TOLL_STATUS.holder n) ≠ holderCode p →
      exec (.tollData8 p n v) s = .next (s.bump (F.TOLL_ERR.foreign_writes n)) ∧
      exec (.tollFinish p n) s = .next (s.bump (F.TOLL_ERR.foreign_writes n)) ∧
      exec (.tollAbort p n) s = .next (s.bump (F.TOLL_ERR.foreign_writes n)))) ∧
  (∀ (s : State) (p : Path) (n : Fin 4) (m : BitVec 2), s.reach p (F.TOLL_CMD.mode n).off = some s → s.lockBinds p = true →
    exec (.tollStart p n m) s = .next (s.bump F.GLB_ACCESS_ERR.locked_writes))

/-- The tag's two sides (R472 to R474, R490 to R492, R495): a transaction of a side that the lock admits acts, takes the lock, and answers; a store
changes the bytes it is given and no other; one that the lock turns away leaves the memory alone. That the lock's release also ends the time in
which the tag ignores contactless commands is the model's reading (log 96). -/
def Obligations.TagSidesTakeTurns : Prop :=
  (∀ (s : State) (a : BitVec 11) (n : Nat), s.pins.cartDet = true → s.cart.lock ≠ .contactless → ∃ t, exec (.tagWiredRead a n) s = .next t ∧
    t = { s with cart := t.cart } ∧ t.cart.mem = s.cart.mem ∧ t.cart.lock = .wired ∧ t.cart.acked = true ∧
    t.cart.answer = Cart.bytes { s.cart with lock := .wired, ignoring := false } a.toNat n) ∧
  (∀ (s : State) (a : BitVec 11) (d : List Byte), s.pins.cartDet = true → s.cart.lock ≠ .contactless → 0x240 ≤ a.toNat → a.toNat < 0x640 →
    d ≠ [] → a.toNat % 16 + d.length ≤ 16 → ∃ t, exec (.tagWiredWrite a d) s = .next t ∧ t = { s with cart := t.cart } ∧ t.cart.lock = .wired ∧
      t.cart.acked = true ∧ (∀ i, i < d.length → t.cart.get (a.toNat + i) = d.getD i 0) ∧
      ∀ x, (x < a.toNat ∨ a.toNat + d.length ≤ x) → t.cart.get x = s.cart.get x) ∧
  (∀ (s : State) (d : List Byte), s.pins.cartDet = true → s.cart.lock ≠ .contactless → d.length = 16 → leAt d 2 4 = s.cart.next → ∃ t,
    exec (.tagAppend d) s = .next t ∧ t = { s with cart := t.cart } ∧ t.cart.lock = .wired ∧ t.cart.acked = true ∧
      (∀ i, i < 16 → t.cart.get (0x040 + 16 * (s.cart.next % 32) + i) = d.getD i 0) ∧ leNat ((List.range 4).map (fun i => t.cart.get (0x644 + i))) = (s.cart.next + 1) % 2 ^ 32 ∧
      ∀ x, (x < 0x040 + 16 * (s.cart.next % 32) ∨ 0x050 + 16 * (s.cart.next % 32) ≤ x) → (x < 0x644 ∨ 0x648 ≤ x) → t.cart.get x = s.cart.get x) ∧
  (∀ (s : State) (d : List Byte), s.pins.cartDet = true → s.cart.lock ≠ .contactless → 6 ≤ d.length → leAt d 2 4 ≠ s.cart.next → ∃ t,
    exec (.tagAppend d) s = .next t ∧ t = { s with cart := t.cart } ∧ t.cart.acked = false ∧ t.cart.mem = s.cart.mem) ∧
  (∀ (s : State) (d : List Byte), s.pins.cartDet = true → s.cart.lock ≠ .contactless → d.length < 16 → (d.length < 6 ∨ leAt d 2 4 = s.cart.next) → ∃ t,
    exec (.tagAppend d) s = .next t ∧ t = { s with cart := t.cart } ∧ t.cart.acked = true ∧ t.cart.mem = s.cart.mem) ∧
  (∀ (s : State) (p : Byte), s.pins.cartDet = true → s.cart.ignoring = false → s.cart.lock = .contactless → p.toNat ≤ 163 → ∃ t,
    exec (.contactlessRead p) s = .next t ∧ t = { s with cart := t.cart } ∧ t.cart.mem = s.cart.mem ∧ t.cart.lock = .contactless ∧
      t.cart.acked = true ∧ t.cart.answer = (List.range 16).map (fun i => s.cart.pageByte (4 * p.toNat + i))) ∧
  (∀ (s : State) (p : Byte) (d : List Byte), s.pins.cartDet = true → s.cart.ignoring = false → s.cart.lock = .contactless → 20 ≤ p.toNat →
    p.toNat ≤ 147 → d.length = 4 → ∃ t, exec (.contactlessWrite p d) s = .next t ∧ t = { s with cart := t.cart } ∧ t.cart.lock = .contactless ∧
      t.cart.acked = true ∧ (∀ i, i < 4 → t.cart.get (0x240 + 4 * (p.toNat - 20) + i) = d.getD i 0) ∧
      ∀ x, (x < 0x240 + 4 * (p.toNat - 20) ∨ 0x244 + 4 * (p.toNat - 20) ≤ x) → t.cart.get x = s.cart.get x) ∧
  (∀ (s : State) (a : BitVec 11) (n : Nat), s.pins.cartDet = true → s.cart.lock = .contactless →
    exec (.tagWiredRead a n) s = .next { s with cart := { s.cart with answer := [], acked := false } }) ∧
  (∀ (s : State) (p : Byte), s.pins.cartDet = true → s.cart.lock = .wired →
    exec (.contactlessRead p) s = .next { s with cart := { s.cart with answer := [], acked := false } }) ∧
  (∀ s : State, exec .tagLockRelease s = .next { s with cart := { s.cart with lock := .none, ignoring := false } }) ∧
  (∀ s : State, s.cart.lock = .contactless →
    exec .contactlessSessionLimit s = .next { s with cart := { s.cart with lock := .none, ignoring := true } })

/-- The L64's transactions with the tag (R493, R496, R498, R501): one that finds the contactless lock stays queued and lock_seen says so; the
budget's end counts and fails the oldest; a free tag takes the deferred queue in; a lost arbitration is recorded. That an identity read goes on
being tried is the model's reading (log 95). -/
def Obligations.TagTransactionsWaitAndRetry : Prop :=
  (∀ s : State, s.tag.ops ≠ [] → s.tagMaster = true → s.pins.cartDet = true → s.cart.lock = .contactless → ∃ t,
    exec .tagTransactionRetry s = .next t ∧ t.rf F.TAG_STATUS.lock_seen = 1 ∧
    OnlyThese [.regs, .dbg] [F.TAG_STATUS.lock_seen.off, F.DBG_TRACE_STATUS.overflow.off] s t) ∧
  (∀ s : State, s.tag.ops = [] → exec .tagTransactionRetry s = .next s) ∧
  (∀ s : State, s.tag.ops ≠ [] → s.tagMaster = true → s.pins.cartDet = true → s.cart.lock ≠ .contactless → ∃ t,
    exec .tagTransactionRetry s = .next t ∧ t.cart.lock = .wired) ∧
  (∀ (s : State) (i : Identity), s.tag.deferred ≠ [] → s.tag.ops = [] → s.tag.identity = some i → s.tagMaster = true → s.pins.cartDet = true →
    s.cart.lock ≠ .contactless → ∃ t, exec .deferredRetry s = .next t ∧ t.tag = { s.tag with deferred := [], lost := 0 } ∧
      t.cart.lock = .wired) ∧
  (∀ (s : State) (c : Nat) (id : Half) (rest : List TagOp) (j : Nat), s.tag.ops = .host c id :: rest →
    s.findFlight c (fun x => decide (x.desc.id = id) && (decide (x.desc.opcode = 0x50) || decide (x.desc.opcode = 0x51))) = some j →
    exec .tagBudgetExpiry s =
      .next (State.finish { s.bump F.TAG_ERR.contended with tag := { s.tag with ops := rest } } c j .tagContended 0 0)) ∧
  (∀ (s : State) (ins : Bool) (rest : List TagOp), s.tag.ops = .identity ins :: rest →
    exec .tagBudgetExpiry s = .next { s.bump F.TAG_ERR.contended with tag := { s.tag with ops := rest ++ [.identity ins] } }) ∧
  (∀ (s : State) (b : Byte) (i : Fin 8), ∃ t, exec (.tagArbitrationLoss b i) s = .next t ∧ t.rf F.TAG_ARB.byte = b.toNat ∧
    t.rf F.TAG_ARB.bit = i ∧ t.rf F.TAG_ARB.losses = min (s.rf F.TAG_ARB.losses + 1) 255 ∧ OnlyThese [.regs] [F.TAG_ARB.byte.off] s t)

/-- The socket (R470, R486, R488, R504): a cartridge's arrival brings its contents and owes an identity read; its removal empties the socket, clears
what the registers showed of it, and is told; LINE_OK's rise counts an insertion once the last is 2 s old. That a cartridge's arrival sets its
wake cause in the running node too is the model's reading (log 98). -/
def Obligations.SocketFillsAndEmpties : Prop :=
  (∀ (s : State) (img : List (Nat × Byte)), s.pwr.state = 0 → s.booted 7 = false → ∃ t, exec (.cartridgePresent img) s = .next t ∧
    t.pins = { s.pins with cartDet := true } ∧ t.rf F.TAG_STATUS.present = 1 ∧ t.tag = { s.tag with ops := s.tag.ops ++ [.identity true] } ∧
    t.cart = { Cart.reset with mem := t.cart.mem } ∧ OnlyThese [.pins, .regs, .tag, .cart, .pwr, .dbg]
      [F.TAG_STATUS.present.off, F.PWR_WAKE_CAUSE.cause.off, F.PWR_ENTRY_STAT.aborted.off, F.DBG_TRACE_STATUS.overflow.off] s t) ∧
  (∀ (s : State) (img : List (Nat × Byte)), s.pwr.state = 0 → s.booted 7 = true → s.tagMaster = true → ∃ t,
    exec (.cartridgePresent img) s = .next t ∧ t.pins = { s.pins with cartDet := true } ∧ t.cart.lock = .wired) ∧
  (∀ s : State, s.pwr.state = 0 → s.tag.ops = [] → ∃ t, exec .cartridgeAbsent s = .next t ∧ t.pins = { s.pins with cartDet := false } ∧
    t.cart = .reset ∧ t.tag = { s.tag with identity := none } ∧ t.rf F.TAG_STATUS.present = 0 ∧ t.rf F.TAG_STATUS.identity_ok = 0 ∧
    t.rf F.TAG_STATUS.expired = 0 ∧ t.rf F.TAG_STATUS.life_pct = 0xFF ∧ Told s t 15 1 0 0 (s.tag.serial.setWidth 32)) ∧
  (∀ s : State, s.pins.cartDet = false → exec .lineOkRise s = .next { s with p57 := { s.p57 with lineOk := true } }) ∧
  (∀ s : State, s.pwr.state = 0 → s.pins.cartDet = true → s.insertionDue = true → ∃ t, exec .lineOkRise s = .next t ∧
    t.p57 = { s.p57 with lineOk := true } ∧ t.tag.insertAt = some s.plt.lpc)

/-- A descriptor whose turn has come and that breaks a rule completes with that rule's status before it has any effect; one that may be scheduled
and whose due cycle lies ahead is armed and not started (R35, R388, R428 to R430). -/
def Obligations.DescriptorsAreCheckedBeforeTheyStart : Prop :=
  (∀ (s : State) (c op j : Nat) (x : InFlight) (st : Status) (buf : List Byte) (f : State → Nat → Desc → State),
    s.startable c op = some (j, x) → x.stale = false → checkDesc c x.desc = some st →
      Answered s (s.command c op buf f) c x.desc st 0 0 ∧ OnlyThese [.regs, .plt, .hif, .dbg] clientRegs s (s.command c op buf f)) ∧
  (∀ (s : State) (c op j : Nat) (x : InFlight) (buf : List Byte) (f : State → Nat → Desc → State),
    s.startable c op = some (j, x) → checkDesc c x.desc = none → x.desc.scheduled = true → later x.desc.due s.lpc = true →
      s.command c op buf f = (s.schedule c j x.desc (s.bufferOf c x.desc buf)).settle c)

/-- Commands that act when they start (R390, R432, R451, R456, R533, R549): NOP and FENCE complete ST_OK with nothing else done; EVENT_SUBSCRIBE
sets, adds to or takes from the client's mask the codes 1 to 22 that it names and answers with the mask; POWER_VOTE records the client's vote and
completes with the vote it replaces; PERF_REQUEST records the client's request, 0xFF taking it back. -/
def Obligations.PlainCommandsComplete : Prop :=
  (∀ (s : State) (c : Client) (j : Nat) (x : InFlight), Ready s c 0x01 j x → ∃ t, exec (.nop c) s = .next t ∧ Answered s t c x.desc .ok 0 0 ∧
    OnlyThese [.regs, .plt, .hif, .dbg] clientRegs s t) ∧
  (∀ (s : State) (c : Client) (j : Nat) (x : InFlight), Ready s c 0x02 j x → ∃ t, exec (.fence c) s = .next t ∧ Answered s t c x.desc .ok 0 0 ∧
    OnlyThese [.regs, .plt, .hif, .dbg] clientRegs s t) ∧
  (∀ (s : State) (c : Client) (j : Nat) (x : InFlight) (m : Dword), Ready s c 0x32 j x →
    m = (match x.desc.byte 20 with
      | 0 => BitVec.ofNat 64 (x.desc.num 24 8) &&& 0x7FFFFE
      | 1 => (s.client c).mask ||| (BitVec.ofNat 64 (x.desc.num 24 8) &&& 0x7FFFFE)
      | _ => (s.client c).mask &&& ~~~(BitVec.ofNat 64 (x.desc.num 24 8) &&& 0x7FFFFE)) →
    ∃ t, exec (.eventSubscribe c) s = .next t ∧ (t.client c).mask = m ∧
      Answered s t c x.desc .ok (m.setWidth 32) ((m >>> 32).setWidth 32) ∧ OnlyThese [.regs, .plt, .hif, .dbg] clientRegs s t) ∧
  (∀ (s : State) (c : Client) (j : Nat) (x : InFlight), Ready s c 0x70 j x → ∃ t, exec (.powerVote c) s = .next t ∧
    Answered s t c x.desc .ok (BitVec.ofNat 32 (s.oldVote c)) 0 ∧ (c.val ≠ clientSB → (t.client c).vote = some (x.desc.byte 20)) ∧
    OnlyChanges [.regs, .plt, .hif, .pwr, .dbg] s t) ∧
  (∀ (s : State) (c : Client) (j : Nat) (x : InFlight), Ready s c 0x71 j x → ∃ t, exec (.perfRequest c) s = .next t ∧
    (t.client c).perf = (if x.desc.byte 20 = 0xFF then none else some (x.desc.byte 20)) ∧
    OnlyThese [.regs, .plt, .hif, .pwr, .dbg] (F.PWR_PERF.in_force.off :: clientRegs) s t)

/-- The setting commands wait for the next symbol 0 (R433, R436 to R438): LISTEN_SET, ROOM_SET and PRECEDENCE_SET of receive floors join the
changes of the next cycle, with nothing applied yet; PRECEDENCE_SET of a session with a slot raises its flag at once and waits for the slot. -/
def Obligations.SettingsWaitForSymbolZero : Prop :=
  (∀ (s : State) (c : Client) (j : Nat) (x : InFlight), Ready s c 0x10 j x → ∃ t, exec (.listenSet c) s = .next t ∧
    t.mix = { s.mix with changes := s.mix.changes ++ [(c.val, x.desc.id, s.lpc + 1, x.desc.listenChange)] } ∧
    OnlyThese [.regs, .plt, .mix, .hif, .dbg] clientRegs s t) ∧
  (∀ (s : State) (c : Client) (j : Nat) (x : InFlight), Ready s c 0x14 j x → ∃ t, exec (.roomSet c) s = .next t ∧
    t.mix = { s.mix with changes := s.mix.changes ++ [(c.val, x.desc.id, s.lpc + 1, .room (BitVec.ofNat 16 (x.desc.num 20 2)))] } ∧
    OnlyThese [.regs, .plt, .mix, .hif, .dbg] clientRegs s t) ∧
  (∀ (s : State) (c : Client) (j : Nat) (x : InFlight), Ready s c 0x13 j x → x.desc.byte 20 = 0 → ∃ t, exec (.precedenceSet c) s = .next t ∧
    t.mix = { s.mix with changes :=
      s.mix.changes ++ [(c.val, x.desc.id, s.lpc + 1, .floors (x.desc.byte 21) (BitVec.ofNat 64 (x.desc.num 24 8)))] } ∧
    OnlyThese [.regs, .plt, .mix, .hif, .dbg] clientRegs s t) ∧
  (∀ (s : State) (c : Client) (j : Nat) (x : InFlight) (y : Session), Ready s c 0x13 j x → x.desc.byte 20 = 1 → s.session (x.desc.byte 22) = some y →
    y.client = c → s.slotsFor .a (.session (x.desc.byte 22)) ≠ [] → ∃ t, exec (.precedenceSet c) s = .next t ∧
    t.session (x.desc.byte 22) = some { y with raised := decide (x.desc.byte 21 = 1) } ∧
    OnlyThese [.regs, .plt, .hif, .dbg] clientRegs s t)

/-- Talk sessions (R439 to R442): TALK_OPEN on an open line takes a free session and asks for its lease; on a line that is shut it completes
ST_LINE_DOWN; TALK_CLOSE of a session with no slot and an unsent request frees the session and completes with its last cycle; of a session that
is not the client's it completes ST_MISMATCH. -/
def Obligations.TalkSessionsOpenAndClose : Prop :=
  (∀ (s : State) (c : Client) (j n : Nat) (x : InFlight), Ready s c 0x11 j x → streamSource (x.desc.byte 23) = false → s.lineShut = false →
    (List.range 8).find? (fun k => (s.session k).isNone) = some n → n < s.hif.sessions.length → ∃ t, exec (.talkOpen c) s = .next t ∧
      t.session n = some { client := c, group := x.desc.byte 20, format := x.desc.byte 21, prec := x.desc.byte 22, source := x.desc.byte 23,
                           feed := x.desc.byte 24, raised := false, lastTx := 0 } ∧
      (∃ q, t.link.reqs = s.link.reqs ++ [q] ∧ q.owner = .session n ∧ q.group = x.desc.byte 20 ∧ q.format = x.desc.byte 21 ∧
        q.prec = x.desc.byte 22 ∧ q.phase = .unsent)) ∧
  (∀ (s : State) (c : Client) (j : Nat) (x : InFlight), Ready s c 0x11 j x → streamSource (x.desc.byte 23) = false → s.lineShut = true →
    ∃ t, exec (.talkOpen c) s = .next t ∧ Answered s t c x.desc .lineDown 0 0 ∧ OnlyThese [.regs, .plt, .hif, .dbg] clientRegs s t) ∧
  (∀ (s : State) (c : Client) (j : Nat) (x : InFlight) (y : Session) (q : TalkReq), Ready s c 0x12 j x → s.session (x.desc.byte 20) = some y →
    y.client = c → s.slotsFor .a (.session (x.desc.byte 20)) = [] →
    s.link.reqs.find? (fun q => decide (q.owner = .session (x.desc.byte 20))) = some q → q.phase = .unsent →
    ∃ t, exec (.talkClose c) s = .next t ∧ t.session (x.desc.byte 20) = none ∧ Answered s t c x.desc .ok y.lastTx 0) ∧
  (∀ (s : State) (c : Client) (j : Nat) (x : InFlight) (y : Session), Ready s c 0x12 j x → s.session (x.desc.byte 20) = some y → y.client ≠ c →
    ∃ t, exec (.talkClose c) s = .next t ∧ Answered s t c x.desc .mismatch 0 0 ∧ t.session (x.desc.byte 20) = some y)

/-- Streams (R443 to R447, R457, R361): STREAM_OPEN takes the lowest free number and completes with it; STREAM_BUF queues its buffer on the
client's stream; STREAM_CLOSE marks the stream closing; HISTORY_FETCH completes with the first index it will deliver; an overrun ends its
fetch and is counted. -/
def Obligations.StreamsOpenFillAndClose : Prop :=
  (∀ (s : State) (c : Client) (j n : Nat) (x : InFlight), Ready s c 0x20 j x → x.desc.byte 20 ≠ 2 →
    (List.range 32).find? (fun k => (s.stream k).isNone) = some n → n < s.hif.streams.length → ∃ t, exec (.streamOpen c) s = .next t ∧
      Answered s t c x.desc .ok (BitVec.ofNat 32 n) 0 ∧ (∃ y, t.stream n = some y ∧ y.client = c.val ∧ y.kind = x.desc.byte 20 ∧
        y.tap = x.desc.byte 21 ∧ y.frame = x.desc.num 24 2 ∧ y.since = s.lpc + 1 ∧ y.closing = false ∧ y.ended = false) ∧
      OnlyThese [.regs, .plt, .hif, .dbg] clientRegs s t) ∧
  (∀ (s : State) (c : Client) (j : Nat) (x : InFlight) (y : Stream) (buf : List Byte), Ready s c 0x21 j x → s.stream (x.desc.byte 20) = some y →
    y.client = c → y.ended = false → y.kind = 0 → y.tap ≠ 6 → ∃ t, exec (.streamBuf c buf) s = .next t ∧
      t = (((s.started c x.desc).setStream (x.desc.byte 20) (some { y with bufs := y.bufs ++
        [{ id := x.desc.id, len := x.desc.bufLen, got := 0, first := 0, count := 0, consumed := 0, dropped := 0, live := false, muted := false,
           concealed := false, gap := false }] })).setPhase c j (.streamBuf (x.desc.byte 20))).settle c ∧
      OnlyThese [.regs, .plt, .hif, .dbg] clientRegs s t) ∧
  (∀ (s : State) (c : Client) (j : Nat) (x : InFlight) (y : Stream), Ready s c 0x22 j x → s.stream (x.desc.byte 20) = some y →
    y.client = c → ∃ t, exec (.streamClose c) s = .next t ∧ (∃ z, t.stream (x.desc.byte 20) = some z ∧ z.closing = true ∧ z.client = c.val) ∧
      OnlyThese [.regs, .plt, .hif, .dbg] clientRegs s t) ∧
  (∀ (s : State) (c : Client) (j : Nat) (x : InFlight) (y : Stream) (lo hi : Dword), Ready s c 0x80 j x → s.stream (x.desc.byte 20) = some y →
    y.client = c → y.kind = 0 → y.tap = 6 → s.fetchOf (x.desc.byte 20) = none → s.muted = false → s.wake.range = some (lo, hi) →
    lo ≤ BitVec.ofNat 64 (x.desc.num 24 8) → ∃ t, exec (.historyFetch c) s = .next t ∧
      t = ((((({ s.started c x.desc with wake := { s.wake with fetches :=
            s.wake.fetches ++ [(x.desc.byte 20, x.desc.byte 21, BitVec.ofNat 64 (x.desc.num 24 8))] } } : State).setStream (x.desc.byte 20)
          (some { y with ended := false })).finish c j .ok ((BitVec.ofNat 64 (x.desc.num 24 8)).setWidth 32)
          ((BitVec.ofNat 64 (x.desc.num 24 8) >>> 32).setWidth 32)).serveFetch (x.desc.byte 20)).settle c) ∧
      OnlyThese [.regs, .plt, .wake, .hif, .dbg, .free] clientRegs s t) ∧
  (∀ (s : State) (n : Fin 32) (ch : Nat) (next lo hi : Dword), s.fetchOf n = some (n.val, ch, next) → s.wake.range = some (lo, hi) → next < lo →
    ∃ t, exec (.historyFetchOverrun n) s = .next t ∧ t.fetchOf n = none ∧
      t.rf F.WAKE_ERR.fetch_overrun = min (s.rf F.WAKE_ERR.fetch_overrun + 1) (2 ^ F.WAKE_ERR.fetch_overrun.width - 1))

/-- Messages and diagnostics of a client (R452, R461, R414): LEDGER_SEND queues a MONITOR or GROUP_PUSH message behind the routine ones and refuses
any other; the withdrawal takes the message back and completes ST_TIMEOUT; DIAG 0 gives the buffer back; the end of a transfer completes its
descriptor with what was held for it, a failed one with ST_ABORTED and the bytes moved, counted in HIF_ERR.buf_dma. That DIAG gives result 0 is
the model's reading (log 100). -/
def Obligations.MessagesAndTransfersComplete : Prop :=
  (∀ (s : State) (c : Client) (j : Nat) (x : InFlight) (buf : List Byte), Ready s c 0x40 j x → x.desc.byte 21 = tyMonitor ∨ x.desc.byte 21 = tyGroupPush →
    lengthOk (x.desc.byte 21) ((s.bufferOf c x.desc buf).take x.desc.bufLen) = true → x.desc.bufLen ≤ (s.bufferOf c x.desc buf).length →
    s.lineShut = false → ∃ t, exec (.ledgerSend c buf) s = .next t ∧
      t.link.routine = s.link.routine ++ [newMsg s.lpc (x.desc.byte 20) (x.desc.byte 21) ((s.bufferOf c x.desc buf).take x.desc.bufLen) (.host c x.desc.id)] ∧
      t.link.urgent = s.link.urgent ∧ OnlyChanges [.regs, .plt, .link, .master, .hif, .dbg] s t) ∧
  (∀ (s : State) (c : Client) (j : Nat) (x : InFlight) (buf : List Byte), Ready s c 0x40 j x → x.desc.byte 21 ≠ tyMonitor → x.desc.byte 21 ≠ tyGroupPush →
    ∃ t, exec (.ledgerSend c buf) s = .next t ∧ Answered s t c x.desc .refused 0 0 ∧ OnlyThese [.regs, .plt, .hif, .dbg] clientRegs s t) ∧
  (∀ (s : State) (c : Client) (j : Nat) (x : InFlight), s.findFlight c s.overdue = some j → (s.client c).flight[j]? = some x → x.stale = false →
    ∃ t, exec (.ledgerSendWithdraw c) s = .next t ∧ Answered s t c x.desc .timeout 0 0 ∧
      (∀ m, m ∈ t.link.urgent ∨ m ∈ t.link.routine → m.owner ≠ .host c x.desc.id) ∧ OnlyThese [.regs, .plt, .link, .hif, .dbg] clientRegs s t) ∧
  (∀ (s : State) (c : Client) (j : Nat) (x : InFlight) (buf : List Byte), Ready s c 0xF0 j x → x.desc.byte 20 = 0 → ∃ t, exec (.diag c buf) s = .next t ∧
    (c.val = clientSB → Answered s t c x.desc .ok 0 0) ∧
    (c.val ≠ clientSB → t = ((s.started c x.desc).setPhase c j (.writing ((buf.take x.desc.bufLen).take x.desc.bufLen) .ok
      0 0)).settle c) ∧ OnlyThese [.regs, .plt, .hif, .sby, .dbg] clientRegs s t) ∧
  (∀ (s : State) (c : Client) (id : Half) (moved j : Nat) (x : InFlight) (b : List Byte) (st : Status) (r i : Word),
    s.findFlight c (movesBuffer id) = some j → (s.client c).flight[j]? = some x → x.stale = false → x.isStream = false →
    x.phase = .writing b st r i → ∃ t, exec (.bufferTransferCompletion c id true moved) s = .next t ∧ Answered s t c x.desc st r i ∧
      OnlyThese [.regs, .plt, .hif, .dbg] clientRegs s t) ∧
  (∀ (s : State) (c : Client) (id : Half) (moved j : Nat) (x : InFlight) (b : List Byte) (st : Status) (r i : Word),
    s.findFlight c (movesBuffer id) = some j → (s.client c).flight[j]? = some x → x.stale = false → x.isStream = false →
    x.phase = .writing b st r i → ∃ t, exec (.bufferTransferCompletion c id false moved) s = .next t ∧
      Answered s t c x.desc .aborted (BitVec.ofNat 32 moved) 0 ∧
      t = ((s.bump F.HIF_ERR.buf_dma).finish c j .aborted (BitVec.ofNat 32 moved) 0).settle c)

/-- The cartridge and the check units at a client's hand (R453, R454, R476, R455, R519 to R523): TAG_READ, TAG_WRITE and TAG_LIFE_POST queue
their work for the tag, or are refused without a cartridge or outside the service pages; CHECK_JOB of a host holds its free unit with the
outcome of the job over its buffer; on a unit that is claimed it completes ST_BUSY. -/
def Obligations.TagAndCheckCommandsAct : Prop :=
  (∀ (s : State) (c : Client) (j : Nat) (x : InFlight), Ready s c 0x50 j x → s.pins.cartDet = true → ∃ t, exec (.tagRead c) s = .next t ∧
    t = (((s.started c x.desc).setPhase c j (.tag [])).queueTag (.host c x.desc.id)).settle c) ∧
  (∀ (s : State) (c : Client) (j : Nat) (x : InFlight), Ready s c 0x50 j x → s.pins.cartDet = false → ∃ t, exec (.tagRead c) s = .next t ∧
    Answered s t c x.desc .refused 0 2 ∧ OnlyThese [.regs, .plt, .hif, .dbg] clientRegs s t) ∧
  (∀ (s : State) (c : Client) (j : Nat) (x : InFlight) (buf : List Byte), Ready s c 0x51 j x → hostMayWrite (x.desc.num 20 2) x.desc.bufLen = true →
    s.pins.cartDet = true → ∃ t, exec (.tagWrite c buf) s = .next t ∧
      t = (((s.started c x.desc).setPhase c j (.tag ((s.bufferOf c x.desc buf).take x.desc.bufLen))).queueTag (.host c x.desc.id)).settle c) ∧
  (∀ (s : State) (c : Client) (j : Nat) (x : InFlight) (buf : List Byte), Ready s c 0x51 j x → hostMayWrite (x.desc.num 20 2) x.desc.bufLen = false →
    ∃ t, exec (.tagWrite c buf) s = .next t ∧ Answered s t c x.desc .refused 0 1 ∧ OnlyThese [.regs, .plt, .hif, .dbg] clientRegs s t) ∧
  (∀ (s : State) (c : Client) (j : Nat) (x : InFlight), Ready s c 0x52 j x → 0x10 ≤ x.desc.byte 20 → x.desc.byte 20 ≤ 0x1F →
    s.tag.identity.isSome = true → (s.started c x.desc).tagMaster = true → ∃ t, exec (.tagLifePost c) s = .next t ∧
      t = (((s.started c x.desc).setPhase c j (.tag [])).queueTag (.life
        { serial := s.tag.serial, kind := x.desc.byte 20, amount := x.desc.num 24 4, stamp := (s.started c x.desc).stampNow.1,
          rtc := (s.started c x.desc).stampNow.2 } (some (c.val, x.desc.id)) false)).settle c) ∧
  (∀ (s : State) (c : Client) (j : Nat) (x : InFlight), Ready s c 0x52 j x → x.desc.byte 20 < 0x10 ∨ 0x1F < x.desc.byte 20 →
    ∃ t, exec (.tagLifePost c) s = .next t ∧ Answered s t c x.desc .refused 0 0 ∧ OnlyThese [.regs, .plt, .hif, .dbg] clientRegs s t) ∧
  (∀ (s : State) (c : Client) (j : Nat) (x : InFlight) (buf : List Byte), Ready s c 0x60 j x → c.val ≠ clientSB → x.desc.byte 20 < 4 →
    (s.started c x.desc).jobBad x.desc = false → s.rf (F.TOLL_STATUS.holder (x.desc.byte 20)) = 0 → s.jobWaits (x.desc.byte 20) x.order = false →
    ∃ t, exec (.checkJob c buf) s = .next t ∧ t.rf (F.TOLL_STATUS.job (x.desc.byte 20)) = 1 ∧
      ∀ o, o = ((s.started c x.desc).jobSet x.desc).job (x.desc.byte 21) (x.desc.num 24 4) (buf.take x.desc.bufLen) →
        t = (((s.started c x.desc).put (F.TOLL_STATUS.job (x.desc.byte 20)) true).setPhase c j
          (.job (x.desc.byte 20) o.append o.status (BitVec.ofNat 32 o.value) (BitVec.ofNat 32 o.info))).settle c) ∧
  (∀ (s : State) (c : Client) (j : Nat) (x : InFlight) (buf : List Byte), Ready s c 0x60 j x → (s.started c x.desc).jobBad x.desc = false →
    x.desc.byte 20 < 4 → s.rf (F.TOLL_STATUS.holder (x.desc.byte 20)) ≠ 0 → ∃ t, exec (.checkJob c buf) s = .next t ∧
      Answered s t c x.desc .busy 0 0 ∧ OnlyThese [.regs, .plt, .hif, .dbg] clientRegs s t)

/-- Staged configuration (R458, R459, R578, R579, R266): CONFIG_STAGE adds its entries, or with discard empties the staging; CONFIG_APPLY of
the staging's owner sets the cycle after this one as a:0; a pending group that is due applies at its point and no other does; a TDM format
written before the lock takes effect at symbol 0 of an even cycle. -/
def Obligations.ConfigurationIsStagedAndApplied : Prop :=
  (∀ (s : State) (c : Client) (j : Nat) (x : InFlight) (buf : List Byte), Ready s c 0x90 j x → s.on F.GLB_STATUS.epoch_mixed = false →
    s.cfg.owner = none ∨ s.cfg.owner = some c.val → x.desc.byte 20 = 1 → ∃ t, exec (.configStage c buf) s = .next t ∧
      t.cfg = { s.cfg with staging := [], owner := none } ∧ Answered s t c x.desc .ok 0 0 ∧ OnlyThese [.regs, .plt, .hif, .cfg, .dbg] clientRegs s t) ∧
  (∀ (s : State) (c : Client) (j : Nat) (x : InFlight) (buf : List Byte) (es : List StageEntry), Ready s c 0x90 j x →
    s.on F.GLB_STATUS.epoch_mixed = false → s.cfg.owner = none ∨ s.cfg.owner = some c.val → x.desc.byte 20 ≠ 1 →
    parseEntries (s.bufferOf c x.desc buf) (x.desc.bufLen / 12) = es → es.findSome? (s.started c x.desc).entryFails = none →
    (s.cfg.staging ++ es).length ≤ 256 → ∃ t, exec (.configStage c buf) s = .next t ∧
      t.cfg = { s.cfg with staging := s.cfg.staging ++ es, owner := some c.val } ∧
      Answered s t c x.desc .ok (BitVec.ofNat 32 (s.cfg.staging ++ es).length) 0 ∧ OnlyThese [.regs, .plt, .hif, .cfg, .dbg] clientRegs s t) ∧
  (∀ (s : State) (c : Client) (j : Nat) (x : InFlight), Ready s c 0x91 j x → s.on F.GLB_STATUS.epoch_mixed = false → s.cfg.staging ≠ [] →
    s.cfg.owner = some c.val → ∃ t, exec (.configApply c) s = .next t ∧ t.cfg = { s.cfg with apply := some (c.val, x.desc.id, s.lpc + 1) } ∧
      OnlyThese [.regs, .plt, .hif, .cfg, .dbg] clientRegs s t) ∧
  (∀ (s : State) (c : Client) (j : Nat) (x : InFlight), Ready s c 0x91 j x → s.on F.GLB_STATUS.epoch_mixed = false → s.cfg.owner ≠ some c.val →
    ∃ t, exec (.configApply c) s = .next t ∧ Answered s t c x.desc .mismatch 0 0 ∧ OnlyThese [.regs, .plt, .hif, .dbg] clientRegs s t) ∧
  (∀ (s : State) (g : CfgGroup) (x : PendingGroup), s.cfg.groups.find? (fun x => decide (x.group = g)) = some x →
    (s.groupDue x = true → exec (.configGroupApply g) s = .next (s.applyGroup x).settleAll) ∧
    (s.groupDue x = false → exec (.configGroupApply g) s = .next s.settleAll)) ∧
  (∀ s : State, s.cfg.groups = [] → s.tdmWanted ≠ s.mix.tdmFormat → s.lpc.getLsbD 0 = false → s.plt.sym = 0 → s.coreOn = true →
    exec .tdmSafePoint s = .next { s with mix := { s.mix with tdmFormat := s.tdmWanted, tdmHold := 2 } }) ∧
  (∀ (s : State) (x : PendingGroup), s.cfg.groups.find? (fun x => decide (x.group = .tdm)) = some x → s.groupDue x = true →
    exec .tdmSafePoint s = .next (s.applyGroup x).settleAll)

/-- The end of a record (R299, R302, R305, Table 7-3): a ring that times out counts as missed, and its record goes on listening where it may or ends;
a record whose caller has been silent after end_of_talk, or without a lease, for the hold ends; the record is then free, and EV_CALL_END tells
the reason, the record and the call. How silence is counted is the model's reading (log 109). -/
def Obligations.CallRecordsEnd : Prop :=
  (∀ (s : State) (r : Fin 8) (c : CallRec), s.callRec r = some c → c.state = .ringing → c.rings = true → s.ccUp = true → c.cmd = none →
    (!c.node && (s.bump F.CALL_STATUS.missed).autoListens c.prec c.group) = false → ∃ t, exec (.ringTimeout r) s = .next t ∧ t.callRec r = none ∧
      Told s t 3 5 r c.caller (BitVec.ofNat 32 c.callId.toNat)) ∧
  (∀ (s : State) (r : Fin 8) (c : CallRec), s.callRec r = some c → c.state = .ringing → c.rings = true → s.ccUp = true → c.node = false →
    (s.bump F.CALL_STATUS.missed).autoListens c.prec c.group = true → ∃ t, exec (.ringTimeout r) s = .next t ∧
      t.callRec r = some { c with state := .listening } ∧ t.rf F.CALL_STATUS.missed = min (s.rf F.CALL_STATUS.missed + 1) (2 ^ F.CALL_STATUS.missed.width - 1) ∧
      OnlyThese [.regs, .mix, .call, .dbg] [F.CALL_STATUS.missed.off, F.DBG_TRACE_STATUS.overflow.off] s t) ∧
  (∀ (s : State) (r : Fin 8) (c : CallRec), s.callRec r = some c → s.ccUp = true → c.cmd = none → c.eot = true → s.endHold ≤ c.quiet →
    ∃ t, exec (.callEndHold r) s = .next t ∧ t.callRec r = none ∧ Told s t 3 0 r c.caller (BitVec.ofNat 32 c.callId.toNat) ∧
      OnlyChanges [.regs, .link, .master, .way, .mix, .call, .wake, .hif, .dbg] s t) ∧
  (∀ (s : State) (r : Fin 8) (c : CallRec), s.callRec r = some c → s.ccUp = true → c.cmd = none → c.eot = false → c.tone = none →
    s.endHold ≤ c.unleased → ∃ t, exec (.callEndHold r) s = .next t ∧ t.callRec r = none ∧
      Told s t 3 1 r c.caller (BitVec.ofNat 32 c.callId.toNat)) ∧
  (∀ (s : State) (r : Fin 8) (c : CallRec), s.callRec r = some c → c.quiet < s.endHold → c.unleased < s.endHold →
    exec (.callEndHold r) s = .next s)

/-- The keys (R300, R303, R304, R307, R319): a press answers the record of highest rank that is open, in the state its wake leaves, or is held
through a warm restart; the decline key ends the ringing one; push-to-talk asks for a lease while the line carries it, and its release withdraws
it. The wake bits of the keys are the model's reading (log 66). -/
def Obligations.KeysActOnCalls : Prop :=
  (∀ (s u : State) (r : Nat) (c : CallRec), s.wakeBy 32 = u → u.cfg.restarting = false → u.ccUp = true → u.bestCall CallRec.open = some r →
    u.callRec r = some c → c.open = true → ∃ t, exec .talkKeyPress s = .next t ∧
      t.callRec r = some { c with state := .answered, answeredBy := some .talkKey }) ∧
  (∀ s u : State, s.wakeBy 32 = u → u.cfg.restarting = true → exec .talkKeyPress s = .next { u with call := { u.call with keyLatched := true } }) ∧
  (∀ (s u : State) (r : Nat), s.wakeBy 64 = u → u.cfg.restarting = false → u.ccUp = true → u.on F.CALL_KEY_CTL.decline_en = true →
    u.bestCall (fun c => decide (c.state = .ringing)) = some r → ∃ t, exec .declineKey s = .next t ∧ t.callRec r = none) ∧
  (∀ s u : State, s.wakeBy 64 = u → u.cfg.restarting = true → exec .declineKey s = .next { u with call := { u.call with declineLatched := true } }) ∧
  (∀ s u : State, s.wakeBy 64 = u → u.cfg.restarting = false → u.ccUp = true → u.on F.CALL_KEY_CTL.decline_en = false →
    exec .declineKey s = .next u) ∧
  (∀ s u : State, State.wakeBy { s with pins := { s.pins with talkKey := true } } 32 = u → u.coreOn = true → u.pins.resetHeld = false →
    u.ccUp = true → u.lineShut = false → u.link.held.any (fun h => decide (h.owner = .ptt)) = false →
    u.link.reqs.any (fun q => decide (q.owner = .ptt)) = false → ∃ t, exec .pushToTalkStart s = .next t ∧ t.call = { u.call with ptt := true } ∧
      ∃ q, t.link.reqs = u.link.reqs ++ [q] ∧ q.owner = .ptt ∧ q.phase = .unsent ∧ q.group = u.link.standing.group) ∧
  (∀ s : State, s.ccUp = false → exec .pushToTalkRelease s =
    .next { s with pins := { s.pins with talkKey := false }, call := { s.call with ptt := false } }) ∧
  (∀ s : State, s.ccUp = true → ∃ t, exec .pushToTalkRelease s = .next t ∧ t.pins = { s.pins with talkKey := false } ∧
    t.call = { s.call with ptt := false } ∧ OnlyThese [.pins, .regs, .link, .master, .way, .call] [0x2084, 0x20C4] s t)

/-- Placed calls, answers and tones (R303, R304, R308, R310 to R312, R449, R450): CALL_SEND takes a free record as an Answered one of the
node's own and asks for its lease, and is turned away on a line that is shut; CALL_ANSWER answers or ends the record it names; a detector
starts and ends, telling EV_TONE where it is to. -/
def Obligations.CallsArePlacedAndAnswered : Prop :=
  (∀ (s : State) (c : Client) (j r : Nat) (x : InFlight), Ready s c 0x30 j x → s.inCall = false → bitOf (x.desc.byte 24) 0 = false →
    s.lineShut = false → s.freeRec = some r → r < s.call.recs.length → ∃ t, exec (.callSend c) s = .next t ∧
      (∃ y, t.callRec r = some y ∧ y.state = .answered ∧ y.own = true ∧ y.callId = s.call.nextId ∧ y.node = decide (x.desc.byte 20 = 1) ∧
        y.group = x.desc.byte 21 ∧ y.target = x.desc.byte 22 ∧ y.prec = x.desc.byte 23 ∧ y.answeredBy = some .host ∧
        y.cmd = some (c.val, x.desc.id)) ∧
      (∃ q, t.link.reqs = s.link.reqs ++ [q] ∧ q.owner = .call r ∧ q.group = x.desc.byte 21 ∧ q.prec = x.desc.byte 23)) ∧
  (∀ (s : State) (c : Client) (j : Nat) (x : InFlight), Ready s c 0x30 j x → s.inCall = false → bitOf (x.desc.byte 24) 0 = false →
    s.lineShut = true → ∃ t, exec (.callSend c) s = .next t ∧ Answered s t c x.desc .lineDown 0 0 ∧
      OnlyThese [.regs, .plt, .hif, .dbg] clientRegs s t) ∧
  (∀ (s : State) (c : Client) (j r : Nat) (x : InFlight) (y : CallRec), Ready s c 0x31 j x → x.desc.byte 20 = 0 →
    (List.range 8).find? (fun r => match s.callRec r with
      | some z => decide (z.callId.toNat = x.desc.num 22 2) && decide (z.caller = x.desc.byte 24)
      | none => false) = some r → s.callRec r = some y → y.open = true → ∃ t, exec (.callAnswer c) s = .next t ∧
      t.callRec r = some { y with state := .answered, answeredBy := some .host } ∧ Answered s t c x.desc .ok 0 0) ∧
  (∀ (s : State) (c : Client) (j : Nat) (x : InFlight), Ready s c 0x31 j x →
    (List.range 8).find? (fun r => match s.callRec r with
      | some z => decide (z.callId.toNat = x.desc.num 22 2) && decide (z.caller = x.desc.byte 24)
      | none => false) = none → ∃ t, exec (.callAnswer c) s = .next t ∧
      Answered s t c x.desc .mismatch 0 0 ∧ OnlyThese [.regs, .plt, .hif, .dbg] clientRegs s t) ∧
  (∀ (s : State) (n : Fin 16), (s.toneSt n).started = false → s.ccUp = true → s.toneActive n = true → s.tonePartner n = true →
    max 1 (s.rf (F.CALL_TONE_CTL1.on_cycles n)) ≤ (s.toneSt n).onRun → s.rf (F.CALL_TONE_CTL0.input n) ≠ 1 → n < s.call.tones.length →
    ∃ t, exec (.toneDetectorStart n) s = .next t ∧ t.toneSt n = { s.toneSt n with started := true } ∧
      (s.on (F.CALL_TONE_CTL0.act_ev n) = true → Told s t 19 n 1 0 0) ∧ OnlyThese [.regs, .call, .hif] dropCounts s t) ∧
  (∀ (s : State) (n : Fin 16), (s.toneSt n).started = true → exec (.toneDetectorStart n) s = .next s) ∧
  (∀ (s : State) (n : Fin 16), s.ccUp = true → s.toneEnds n = true → n < s.call.tones.length → ∃ t, exec (.toneDetectorEnd n) s = .next t ∧
    t.toneSt n = { onRun := 0, offRun := 0, started := false } ∧ (s.on (F.CALL_TONE_CTL0.act_ev n) = true → Told s t 19 n 0 0 0) ∧
    OnlyThese [.regs, .call, .hif] dropCounts s t) ∧
  (∀ (s : State) (n : Fin 16), s.toneEnds n = false → exec (.toneDetectorEnd n) s = .next s)

/-- Doorbells of a running client that the host may reach (R375, R376, R379, R381, R382, R400, R412, R552): each is a wake source, and with the host
link on after it a tail or head in its range is published and nothing else changes; one that is not faults the client with code 1; an acknowledgement arms the client's vector; a
doorbell of another size than 4 bytes is counted; in a warm restart the word is latched. That a doorbell sets its wake cause in the running node
too, and one of another size does not, is the model's reading (log 98). -/
def Obligations.DoorbellsPublishAndArm : Prop :=
  (∀ (s u : State) (c : Fin 16) (v : Word), s.barOpen = true → s.wakeBy 16 = u → u.hostOn = true → u.cfg.restarting = false →
    (u.client c).running = true → v.toNat % 4096 < u.sqSize c →
    u.published c + (v.toNat % 4096 + u.sqSize c - (u.client c).sqTail) % u.sqSize c < u.sqSize c →
    exec (.sqTailDoorbell c .b4 v) s = .next (u.modClient c (fun x => { x with sqTail := v.toNat % 4096 }))) ∧
  (∀ (s u : State) (c : Fin 16) (v : Word), s.barOpen = true → s.wakeBy 16 = u → u.hostOn = true → u.cfg.restarting = false →
    (u.client c).running = true → u.sqSize c ≤ v.toNat % 4096 → exec (.sqTailDoorbell c .b4 v) s = .next (u.clientFault c 1)) ∧
  (∀ (s u : State) (c : Fin 16) (v : Word), s.barOpen = true → s.wakeBy 16 = u → u.hostOn = true → u.cfg.restarting = false →
    (u.client c).running = true → v.toNat % 4096 < u.cqSize c →
    (v.toNat % 4096 + u.cqSize c - (u.client c).cqHead) % u.cqSize c ≤ ((u.client c).cqTail + u.cqSize c - (u.client c).cqHead) % u.cqSize c →
    exec (.cqHeadDoorbell c .b4 v) s = .next (u.modClient c (fun x => { x with cqHead := v.toNat % 4096 }))) ∧
  (∀ (s u : State) (c : Fin 16) (v : Word), s.barOpen = true → s.wakeBy 16 = u → u.hostOn = true → u.cfg.restarting = false →
    (u.client c).running = true → v.getLsbD 0 = true → (u.client c).cqHead = (u.client c).cqTail →
    exec (.eventAcknowledge c .b4 v) s = .next (u.modClient c (fun x => { x with armed := true, written := 0 }))) ∧
  (∀ (s u : State) (c : Fin 16) (v : Word), s.barOpen = true → s.wakeBy 16 = u → u.hostOn = true → u.cfg.restarting = false →
    (u.client c).running = true → v.getLsbD 0 = true → (u.client c).cqHead ≠ (u.client c).cqTail →
    exec (.eventAcknowledge c .b4 v) s = .next ((u.modClient c (fun x => { x with armed := true, written := 0 })).fireClient c)) ∧
  (∀ (s : State) (c : Fin 16) (n : AccSize) (v : Word), s.barOpen = true → s.hostOn = true → n ≠ .b4 →
    exec (.sqTailDoorbell c n v) s = .next (s.bump F.HIF_ERR.bad_access) ∧ exec (.cqHeadDoorbell c n v) s = .next (s.bump F.HIF_ERR.bad_access) ∧
    exec (.eventAcknowledge c n v) s = .next (s.bump F.HIF_ERR.bad_access)) ∧
  (∀ (s u : State) (c : Fin 16) (v : Word), s.barOpen = true → s.wakeBy 16 = u → u.hostOn = true → u.cfg.restarting = true →
    exec (.sqTailDoorbell c .b4 v) s = .next (u.modClient c (fun x => { x with latched := x.latched.set 0 (some v) })) ∧
    exec (.cqHeadDoorbell c .b4 v) s = .next (u.modClient c (fun x => { x with latched := x.latched.set 1 (some v) })) ∧
    exec (.eventAcknowledge c .b4 v) s = .next (u.modClient c (fun x => { x with latched := x.latched.set 2 (some v) }))) ∧
  (∀ (s : State) (c : Fin 16) (n : AccSize) (v : Word), s.barOpen = false → exec (.sqTailDoorbell c n v) s = .next s ∧
    exec (.cqHeadDoorbell c n v) s = .next s ∧ exec (.eventAcknowledge c n v) s = .next s)

/-- Rings (R377, R378, R410, Table 9-5): enabling a client whose ring is well formed starts it with empty rings, its vector armed and no mask;
one that is not faults with code 4; an enabled ring is left as it is; disabling closes the client, which is drained when nothing of it is in
flight. -/
def Obligations.RingsAreEnabledAndDrained : Prop :=
  (∀ (s : State) (c : Fin 16), s.reach .bar0 (F.HIF_RING_CTL.en c).off = some s → s.on (F.HIF_RING_CTL.en c) = false → s.ringOk c = true →
    c < s.hif.clients.length → ∃ t, exec (.ringEnable c) s = .next t ∧ t.on (F.HIF_RING_CTL.en c) = true ∧ t.rf (F.HIF_FAULT.cause c) = 0 ∧
      t.client c = { s.client c with
        sqHead := 0, sqTail := 0, cqHead := 0, cqTail := 0, phase := true, running := true, enabled := true, faulted := false,
        armed := true, written := 0, fetching := 0, badChain := false, waiting := [], mask := 0, vote := none, perf := none } ∧
      ∀ i, i ≠ c.val → t.client i = s.client i) ∧
  (∀ (s : State) (c : Fin 16), s.reach .bar0 (F.HIF_RING_CTL.en c).off = some s → s.on (F.HIF_RING_CTL.en c) = false → s.ringOk c = false →
    exec (.ringEnable c) s = .next (((s.put (F.HIF_RING_CTL.en c) true).wr (F.HIF_FAULT.cause c) 0).clientFault c 4)) ∧
  (∀ (s : State) (c : Fin 16), s.reach .bar0 (F.HIF_RING_CTL.en c).off = some s → s.on (F.HIF_RING_CTL.en c) = true →
    exec (.ringEnable c) s = .next s) ∧
  (∀ (s : State) (c : Fin 16), s.reach .bar0 (F.HIF_RING_CTL.en c).off = some s → (s.client c).running = true → ∃ t,
    exec (.ringDisable c) s = .next t ∧ (t.client c).running = false ∧ (t.client c).waiting = [] ∧ (t.client c).mask = 0) ∧
  (∀ (s : State) (c : Fin 16), s.reach .bar0 (F.HIF_RING_CTL.en c).off = some s → (s.client c).running = false →
    exec (.ringDisable c) s = .next (s.put (F.HIF_RING_CTL.en c) false)) ∧
  (∀ (s : State) (c : Fin 16), (s.client c).running = false → (s.client c).inFlight = 0 →
    exec (.clientDrained c) s = .next (s.modClient c (fun x => { x with enabled := false }))) ∧
  (∀ (s : State) (c : Fin 16), (s.client c).running = true ∨ (s.client c).inFlight ≠ 0 → exec (.clientDrained c) s = .next s)

/-- Fetching and writing (R380, R383 to R386, R392, R398, R413, R419): the client whose turn it is has up to 8 descriptors read, and the turn
passes on; one that is read and fits its quota leaves the ring and is in flight; a failed read faults the client with code 2, a refused write
with code 3; the oldest entry that waits is written at the tail, or placed in SB's free slot; the timer fires the vector of an armed client
with entries written. -/
def Obligations.DescriptorsAndEntriesMove : Prop :=
  (∀ (s : State) (c : Fin 16), s.busOpen = true → s.coreOn = true → s.cfg.restarting = false → s.fetchTurn = some c.val → ∃ t, exec (.descriptorFetch c) s = .next t ∧
    t = (State.modClient { s with hif := { s.hif with turn := (c.val + 1) % 16 } } c (fun x => { x with fetching := min 8 (s.published c) }))) ∧
  (∀ (s : State) (c : Fin 16), s.busOpen = false ∨ s.fetchTurn ≠ some c.val → exec (.descriptorFetch c) s = .next s) ∧
  (∀ (s : State) (c : Fin 16) (b : List Byte), (s.client c).fetching ≠ 0 → (parseDesc b).chain = false → (s.client c).badChain = false →
    (s.client c).inFlight + 1 ≤ s.effQuota c → s.totalInFlight + 1 ≤ 128 → ∃ t, exec (.descriptorFetchCompletion c (.fetched [b])) s = .next t ∧
      t = (((s.takeDescs c [parseDesc b] false).modClient c (fun x => { x with badChain := false })).settle c)) ∧
  (∀ (s : State) (c : Fin 16), (s.client c).fetching ≠ 0 → exec (.descriptorFetchCompletion c .failed) s = .next (s.clientFault c 2)) ∧
  (∀ (s : State) (c : Fin 16), (s.client c).running = true → exec (.hostWriteRefused c) s = .next (s.clientFault c 3)) ∧
  (∀ (s : State) (c : Client) (e : Entry) (r : List Entry), (s.client c).waiting = e :: r → c.val ≠ clientSB → (s.client c).running = true →
    s.busOpen = true → s.cfg.restarting = false → s.cqRoom c = true → ∃ t, exec (.completionWrite c) s = .next t ∧
      (t.client c).ring = Cells.set (fun _ => none) (s.client c).ring (s.client c).cqTail (some ((s.client c).phase, e)) ∧
      (t.client c).cqTail = ((s.client c).cqTail + 1) % s.cqSize c) ∧
  (∀ (s : State) (c : Client) (e : Entry) (r : List Entry), (s.client c).waiting = e :: r → c.val = clientSB → s.sby.slot = none →
    s.cfg.restarting = false → s.pins.resetHeld = false → ∃ t, exec (.completionWrite c) s = .next t ∧
      t.sby = { s.sby with slot := some (s.sby.phase, e), phase := !s.sby.phase }) ∧
  (∀ (s : State) (c : Fin 16), (s.client c).running = true → (s.client c).armed = true → 0 < (s.client c).written → ∃ t,
    exec (.vectorFire c) s = .next t ∧ t = s.fireClient c ∧ (t.client c).armed = false ∧ (s.hif.msix = false → s.hif.msi = true → s.busOpen = true →
      t.hif.fired = c.val :: s.hif.fired)) ∧
  (∀ (s : State) (c : Fin 16), (s.client c).armed = false → exec (.vectorFire c) s = .next s)

/-- The link and its resets (R401 to R405, R407, R411, R565): bus mastering and the D-state follow the host while the link is up; a reset of
the function stops every host client and takes back bus mastering; PERST_N or the loss of the link does so too and leaves the link down; the
link trains when PERST_N is released on a node that has booted; a change of link state is shown. A configuration access sets its wake cause in the
running node too: the model's reading (log 98). -/
def Obligations.TheLinkChangesState : Prop :=
  (∀ (s u : State) (b : Bool), s.hif.linkUp = true → s.pins.perst = false → s.wakeBy 16 = u →
    exec (.busMasterEnableChange b) s = .next { u with hif := { u.hif with bme := b } }) ∧
  (∀ (s u : State) (b : Bool), s.hif.linkUp = true → s.pins.perst = false → s.wakeBy 16 = u → ∃ t, exec (.dStateChange b) s = .next t ∧
    t.hif = { u.hif with d3hot := b } ∧ t.rf F.HIF_LINK_STATUS.dstate = (if b then 3 else 0) ∧
    OnlyThese [.regs, .hif] [F.HIF_LINK_STATUS.dstate.off] u t) ∧
  (∀ s : State, s.pins.resetHeld = false → s.hif.linkUp = true → ∃ t, exec .functionLevelReset s = .next t ∧ t.hif.bme = false ∧ t.hif.d3hot = false ∧
    t.hif.msi = false ∧ t.hif.msix = false ∧
    (∀ i, i < 16 → (t.client i).running = false ∧ (t.client i).waiting = [] ∧ (t.client i).mask = 0 ∧ (t.client i).vote = none)) ∧
  (∀ s : State, s.pins.resetHeld = false → ∃ t, exec .perstNAssert s = .next t ∧ t.pins.perst = true ∧ t.hif.linkUp = false ∧ t.hif.d3cold = true ∧
    t.hif.link = .l2 ∧ t.hif.bme = false ∧ (∀ i, i < 16 → (t.client i).running = false)) ∧
  (∀ s : State, s.pins.resetHeld = false → s.hif.linkUp = true → ∃ t, exec .linkDown s = .next t ∧ t.hif.linkUp = false ∧
    t.hif.link = .l2 ∧ t.hif.bme = false ∧ (∀ i, i < 16 → (t.client i).running = false)) ∧
  (∀ s u : State, s.pins.resetHeld = false →
    (State.put { s with pins := { s.pins with perst := false, wakeN := false }, hif := { s.hif with d3cold := false } } F.SBY_HOST_WAKE.req_wake_n false).wakeBy 16 = u →
    u.booted 7 = true → ∃ t, exec .perstNDeassert s = .next t ∧ t.hif.linkUp = true ∧ t.hif.d3cold = false ∧ t.hif.link = .l0) ∧
  (∀ (s : State) (l : LinkState), s.pins.resetHeld = false → s.pins.perst = false → s.hif.linkUp = true → ∃ t,
    exec (.linkPowerStateChange l) s = .next t ∧ t.hif.link = l ∧ t.rf F.HIF_LINK_STATUS.lpm = lpmCode l ∧
    OnlyThese [.regs, .hif, .pwr] [F.PWR_ENTRY_STAT.aborted.off, F.HIF_LINK_STATUS.lpm.off] s t)

/-- The standby port (R14, R405, R406, R418, R419, R421, R422): a descriptor written to the free mailbox is in flight for SB; with the mailbox taken,
or with fewer than 64 bytes, it is rejected and counted; a completion read clocks out the entry and frees the slot when all 16 bytes were
clocked; the buffer is written and read below offset 256; the wake bits of SBY_HOST_WAKE act. That a longer write is accepted is the model's
reading (log 100). -/
def Obligations.TheStandbyPortServes : Prop :=
  (∀ (s : State) (b : List Byte), s.pins.resetHeld = false → s.mbBusy = true ∨ b.length < 64 → exec (.sbMailboxWrite b) s =
    .next (State.bump { s with sby := { s.sby with reject := true } } F.SBY_STATUS.rejects)) ∧
  (∀ (s u : State) (b : List Byte), s.pins.resetHeld = false → s.mbBusy = false → 64 ≤ b.length →
    State.wakeBy { s with sby := { s.sby with reject := false } } 8 = u → ∃ t, exec (.sbMailboxWrite b) s = .next t ∧
      t = ((State.modClient { u with hif := { u.hif with fetched := u.hif.fetched + 1 } } clientSB (fun c => { c with flight := c.flight ++
        [{ desc := parseDesc b,
           phase := if (parseDesc b).chain then .doomed .quota else u.phaseAtFetch clientSB (parseDesc b),
           chainLeft := 0,
           order := u.hif.fetched,
           stale := false }] })).settle clientSB)) ∧
  (∀ (s : State) (k : Nat) (ph : Bool) (e : Entry), s.pins.resetHeld = false → s.sby.slot = some (ph, e) → exec (.sbCompletionRead k) s =
    .next { s with sby := { s.sby with miso := (entryBytes ph e).take k, slot := if 16 ≤ k then none else some (ph, e) } }) ∧
  (∀ (s : State) (o : Byte) (b : List Byte), s.pins.resetHeld = false → ∃ t, exec (.sbBufferWrite o b) s = .next t ∧
    (∀ i, Cells.get (fun _ => (0 : Byte)) t.sby.buf i =
      if o.toNat ≤ i ∧ i < o.toNat + (b.take (256 - o.toNat)).length then b.getD (i - o.toNat) 0 else Cells.get (fun _ => (0 : Byte)) s.sby.buf i) ∧
    OnlyThese [.sby] [] s t) ∧
  (∀ (s : State) (o : Byte) (n : Nat), s.pins.resetHeld = false → s.mbBusy = false → exec (.sbBufferRead o n) s =
    .next { s with sby := { s.sby with miso := Cells.getList (fun _ => 0) s.sby.buf o.toNat (min n (256 - o.toNat)) } }) ∧
  (∀ (s : State) (o : Byte) (n : Nat), s.pins.resetHeld = false → s.mbBusy = true → ∃ t, exec (.sbBufferRead o n) s = .next t ∧
    t.sby.miso.length = min n (256 - o.toNat) ∧ OnlyThese [.sby, .free] [] s t) ∧
  (∀ s : State, s.pins.resetHeld = false → ∃ t, exec .sbyHostWakeActive s = .next t ∧ t.on F.SBY_HOST_WAKE.active = false ∧
    OnlyThese [.regs] [F.SBY_HOST_WAKE.active.off] s t) ∧
  (∀ s : State, s.pins.resetHeld = false → ∃ t, exec .sbyHostWakeTest s = .next t ∧ t.on F.SBY_HOST_WAKE.active = true ∧
    OnlyThese [.regs] [F.SBY_HOST_WAKE.active.off] s t) ∧
  (∀ s : State, s.pins.resetHeld = false → ∃ t, exec .sbyReqWakeN s = .next t ∧ t.on F.SBY_HOST_WAKE.req_wake_n = true ∧
    (s.hif.pmeEn = true → s.on F.HIF_WAKE_CTL.sb_req = true → s.hif.d3cold = true → t.pins.wakeN = true) ∧
    (s.hif.pmeEn = true → s.on F.HIF_WAKE_CTL.sb_req = true → s.hif.d3cold = false → s.hif.d3hot = true → t.hif.pmeStatus = true) ∧
    OnlyThese [.pins, .regs, .hif] [F.SBY_HOST_WAKE.req_wake_n.off] s t)

/-- Writes of registers (R11, R15, R632, R633, R634, R639, R642): a word that reaches its register is written there, an access of a wrong size
or place is counted, one at a reserved offset is counted, 8 bytes are two words in rising order; the scratch word takes what is written and
nothing else changes; after the lock a register of locked fields keeps them and the attempt is counted. -/
def Obligations.RegistersAreWritten : Prop :=
  (∀ (s : State) (off : Half) (v : Dword), off.toNat % 4 = 0 → (rowAt off.toNat).isSome = true → s.reach .bar0 off.toNat = some s →
    exec (.registerWrite off .b4 v) s = .next (s.writeWord .bar0 off.toNat (v.setWidth 32))) ∧
  (∀ (s : State) (off : Half) (v : Dword), off.toNat % 8 = 0 → exec (.registerWrite off .b8 v) s =
    .next ((s.barWrite off.toNat (v.setWidth 32)).barWrite (off.toNat + 4) ((v >>> 32).setWidth 32))) ∧
  (∀ (s : State) (off : Half) (v : Dword), s.barOpen = true → off.toNat % 4 ≠ 0 → exec (.registerWrite off .b4 v) s = .next (s.bump F.GLB_ACCESS_ERR.bad_size)) ∧
  (∀ (s : State) (off : Half) (v : Dword), s.barOpen = true → exec (.registerWrite off .other v) s = .next (s.bump F.GLB_ACCESS_ERR.bad_size)) ∧
  (∀ (s : State) (off : Half) (v : Dword), s.barOpen = true → off.toNat % 4 = 0 → rowAt off.toNat = none →
    exec (.registerWrite off .b4 v) s = .next (s.bump F.GLB_ACCESS_ERR.reserved_writes)) ∧
  (∀ (s : State) (v : Dword), s.reach .bar0 F.GLB_SCRATCH.value.off = some s → ∃ t, exec (.registerWrite 0x0044 .b4 v) s = .next t ∧
    t.reg F.GLB_SCRATCH.value.off = v.setWidth 32 ∧ OnlyThese [.regs] [F.GLB_SCRATCH.value.off] s t) ∧
  (∀ (s : State) (v : Dword), s.reach .bar0 F.MIX_LISTEN0.groups.off = some s → s.setupLocked = true →
    exec (.registerWrite 0x2810 .b4 v) s = .next (s.bump F.GLB_ACCESS_ERR.locked_writes)) ∧
  (∀ (s : State) (a : Half) (v w : Word), s.pins.resetHeld = false → exec (.sbRegisterWrite a [v, w]) s =
    .next ((s.sbWrite (sbOffset a 0) v).sbWrite (sbOffset a 1) w)) ∧
  (∀ (s : State) (a : Half) (v : Word), s.pins.resetHeld = false → s.reach .sb (sbOffset a 0) = none → exec (.sbRegisterWrite a [v]) s = .next s)

/-- Reads of registers (R11, R14, R48, R350, R354, R417, R487, R632, R640, R650): a read clears the read-to-clear fields of its register and no
other; the pairs that are read in two halves latch their second half with the first; the standby port puts the words it read on SB_MISO, low byte
first, and zeros where it may not read. The named latching reads carry no path, the model's reading (log 15). -/
def Obligations.RegistersAreRead : Prop :=
  (∀ (s : State) (off : Half) (r : RegRow), off.toNat % 4 = 0 → rowAt off.toNat = some r → s.reach .bar0 off.toNat = some s →
    off.toNat ∉ [F.PLT_LPC_CYCLE.cycle.off, F.WAKE_HIST_OLDEST_LO.index_lo.off, F.WAKE_LAST_START_LO.start_lo.off, F.TAG_SERIAL_LO.serial_lo.off] →
    ∃ t, exec (.readClearRead off .b4) s = .next t ∧ t.reg off.toNat = s.reg off.toNat &&& ~~~(r.acc s.isB .rc) ∧
      (∀ o, o ≠ off.toNat → t.reg o = s.reg o) ∧ OnlyChanges [.pins, .regs] s t) ∧
  (∀ (s : State) (off : Half), s.barOpen = true → off.toNat % 4 ≠ 0 → exec (.readClearRead off .b4) s = .next (s.bump F.GLB_ACCESS_ERR.bad_size)) ∧
  (∀ s : State, s.pins.resetHeld = false → s.domainOn (domainOf F.PLT_LPC_CYCLE.cycle.off) = true → s.pwr.state ≠ 5 → ∃ t,
    exec .pltLpcCycleRead s = .next t ∧ t.rf F.PLT_LPC_SYM.symbol = s.plt.sym % 2 ^ 14 ∧
    t.rf F.PLT_LPC_CYCLE_HI.cycle_hi = s.plt.lpc.toNat / 2 ^ 32 ∧ OnlyThese [.regs] [F.PLT_LPC_SYM.symbol.off, F.PLT_LPC_CYCLE_HI.cycle_hi.off] s t) ∧
  (∀ s : State, s.pins.resetHeld = false → s.domainOn (domainOf F.WAKE_HIST_OLDEST_LO.index_lo.off) = true → s.pwr.state ≠ 5 → ∃ t,
    exec .wakeHistOldestLoRead s = .next t ∧ t.rf F.WAKE_HIST_OLDEST_HI.index_hi = s.histOldest.toNat / 2 ^ 32 ∧
    OnlyThese [.regs] [F.WAKE_HIST_OLDEST_HI.index_hi.off] s t) ∧
  (∀ s : State, s.pins.resetHeld = false → s.domainOn (domainOf F.WAKE_LAST_START_LO.start_lo.off) = true → s.pwr.state ≠ 5 → ∃ t,
    exec .wakeLastStartLoRead s = .next t ∧ t.rf F.WAKE_LAST_START_HI.start_hi = s.wake.lastStart.toNat / 2 ^ 32 ∧
    OnlyThese [.regs] [F.WAKE_LAST_START_HI.start_hi.off] s t) ∧
  (∀ s : State, s.pins.resetHeld = false → s.domainOn (domainOf F.TAG_SERIAL_LO.serial_lo.off) = true → s.pwr.state ≠ 5 → ∃ t,
    exec .tagSerialLoRead s = .next t ∧ t.rf F.TAG_SERIAL_HI.serial_hi = s.tag.serial.toNat / 2 ^ 32 ∧
    OnlyThese [.regs] [F.TAG_SERIAL_HI.serial_hi.off] s t) ∧
  (∀ (s : State) (a : Half), s.pins.resetHeld = false → s.reach .sb (sbOffset a 0) = some s → ∃ t, exec (.sbRegisterRead a 1) s = .next t ∧
    t.sby = { s.sby with miso := toLe 4 (s.value (sbOffset a 0)).toNat } ∧ OnlyChanges [.pins, .regs, .sby] s t) ∧
  (∀ (s : State) (a : Half), s.pins.resetHeld = false → s.reach .sb (sbOffset a 0) = none → exec (.sbRegisterRead a 1) s =
    .next { s with sby := { s.sby with miso := [0, 0, 0, 0] } })

/-- The setup lock, the warm restart and the trace enable (R576, R584, R586, R622, R624, R634): the lock is set for good and only fixes the
quotas beside it; a warm restart stops CC, counts, and loses the queued messages and the unapplied settings; after the lock the request is
turned away and counted; enabling the trace empties its buffer. -/
def Obligations.LockRestartAndTraceAct : Prop :=
  (∀ (s : State) (p : Path), s.reach p F.GLB_SETUP.lock.off = some s → s.setupLocked = false → ∃ t, exec (.setupLock p) s = .next t ∧
    t.setupLocked = true ∧ OnlyThese [.regs, .hif] [F.GLB_SETUP.lock.off] s t) ∧
  (∀ (s : State) (p : Path), s.reach p F.GLB_SETUP.lock.off = some s → s.setupLocked = true → exec (.setupLock p) s = .next s) ∧
  (∀ s : State, s.pins.resetHeld = false → s.coreOn = true → s.setupLocked = false → s.cfg.restarting = false → ∃ t,
    exec .warmRestartRequest s = .next t ∧ t.cfg = { s.cfg with restarting := true } ∧ t.mix = { s.mix with changes := [] } ∧
    t.link.urgent = [] ∧ t.link.routine = [] ∧ t.rf F.CFG_RESET_CAUSE.warm_restarts = min (s.rf F.CFG_RESET_CAUSE.warm_restarts + 1) 255 ∧
    OnlyThese [.pins, .regs, .link, .master, .way, .mix, .cfg, .dbg]
      [F.GLB_BLOCK_RESET.gen_changed.off, F.CFG_GEN0.cc.off, F.CFG_RESET_CAUSE.warm_restarts.off] s t) ∧
  (∀ s : State, s.pins.resetHeld = false → s.coreOn = true → s.setupLocked = true →
    exec .warmRestartRequest s = .next (s.bump F.GLB_ACCESS_ERR.locked_writes)) ∧
  (∀ (s : State) (p : Path), s.reach p F.DBG_TRACE_CTL.en.off = some s → s.lockBinds p = false → ∃ t, exec (.traceEnable p) s = .next t ∧
    t.on F.DBG_TRACE_CTL.en = true ∧ t.dbg = { s.dbg with trace := [], seq := 0, lost := 0, post := none } ∧
    t.rf F.DBG_TRACE_STATUS.write_index = 0 ∧ t.on F.DBG_TRACE_STATUS.wrapped = false ∧ t.on F.DBG_TRACE_STATUS.stopped = false ∧
    OnlyThese [.regs, .dbg] [F.DBG_TRACE_CTL.en.off, F.DBG_TRACE_STATUS.write_index.off] s t) ∧
  (∀ (s : State) (p : Path), s.reach p F.DBG_TRACE_CTL.en.off = some s → s.lockBinds p = true →
    exec (.traceEnable p) s = .next (s.bump F.GLB_ACCESS_ERR.locked_writes))

/-- Events of the mixer (R240, R251, R264, R269, R674): the precedence shown falls to the highest level held when its hold expires; catch-up
playback starts when its cycle has come; the ASRC's lock is shown; the annunciator stops on overcurrent, tries again, and after a clean second
shows no fault; its supply is followed. -/
def Obligations.MixerEventsAct : Prop :=
  (∀ s : State, s.coreOn = true → s.heldPrec < s.rf F.MIX_STATUS.top_prec → ∃ t, exec .topPrecHoldExpiry s = .next t ∧
    t.rf F.MIX_STATUS.top_prec = s.heldPrec ∧ OnlyThese [.regs] [F.MIX_STATUS.top_prec.off] s t) ∧
  (∀ (s : State) (p : Playback), s.mix.playback = some p → p.running = false → later p.startAt s.lpc = false → s.coreOn = true → ∃ t,
    exec .catchUpPlaybackStart s = .next t ∧ t.mix = { s.mix with playback := some { p with running := true } } ∧
    t.on F.MIX_STATUS.cu_active = true ∧ OnlyThese [.regs, .mix] [F.MIX_STATUS.cu_active.off] s t) ∧
  (∀ (s : State) (p : Playback), s.mix.playback = some p → later p.startAt s.lpc = true → exec .catchUpPlaybackStart s = .next s) ∧
  (∀ s : State, s.coreOn = true → s.on F.MIX_CTL.tdm_en = true → s.on F.MIX_TDM_CTL.master = false → ∃ t, exec .asrcLock s = .next t ∧
    t.on F.MIX_STATUS.asrc_locked = true ∧ OnlyThese [.regs] [F.MIX_STATUS.asrc_locked.off] s t) ∧
  (∀ s : State, ∃ t, exec .asrcLockLoss s = .next t ∧ t.on F.MIX_STATUS.asrc_locked = false ∧
    OnlyThese [.regs] [F.MIX_STATUS.asrc_locked.off] s t) ∧
  (∀ s : State, s.spkDrives = true → ∃ t, exec .annunciatorOvercurrent s = .next t ∧ t.mix = { s.mix with spkRetry := some false } ∧
    t.on F.MIX_STATUS.spk_fault = true ∧ OnlyThese [.regs, .mix] [F.MIX_STATUS.spk_fault.off] s t) ∧
  (∀ s : State, s.mix.spkRetry = some false → exec .annunciatorRetry s = .next { s with mix := { s.mix with spkRetry := some true } }) ∧
  (∀ s : State, s.mix.spkRetry = some true → ∃ t, exec .annunciatorRetry s = .next t ∧ t.mix = { s.mix with spkRetry := none } ∧
    t.on F.MIX_STATUS.spk_fault = false ∧ OnlyThese [.regs, .mix] [F.MIX_STATUS.spk_fault.off] s t) ∧
  (∀ s : State, exec .pvddSpkLow s = .next { s with pins := { s.pins with pvddLow := true } }) ∧
  (∀ s : State, exec .pvddSpkRestored s = .next { s with pins := { s.pins with pvddLow := false } })

/-- The chime (R270, R271): at the end of an entry a request that outranks the pattern sounding takes over; otherwise the next entry of the
cadence follows, the pattern begins again while repeats are left, or the oldest request waiting starts. -/
def Obligations.TheChimeFollowsItsPattern : Prop :=
  (∀ s : State, s.mix.chime = none → exec .chimeEntryEnd s = .next s) ∧
  (∀ (s : State) (c : Chime) (x : Nat × Nat), s.mix.chime = some c → outranking c.prec s.mix.chimeWait = some x → exec .chimeEntryEnd s =
    .next (State.beginChime { s with mix := { s.mix with chimeWait := s.mix.chimeWait.erase x } } x.1 x.2)) ∧
  (∀ (s : State) (c : Chime), s.mix.chime = some c → outranking c.prec s.mix.chimeWait = none → s.on (F.MIX_CHIME_CAD.last c.entry) = false →
    s.rf (F.MIX_CHIME_CAD.cycles ((c.entry + 1) % 16)) ≠ 0 → exec .chimeEntryEnd s =
      .next { s with mix := { s.mix with chime := some { c with entry := (c.entry + 1) % 16 } } }) ∧
  (∀ (s : State) (c : Chime), s.mix.chime = some c → outranking c.prec s.mix.chimeWait = none → s.on (F.MIX_CHIME_CAD.last c.entry) = true →
    c.forever = false → 1 < c.left → exec .chimeEntryEnd s =
      .next { s with mix := { s.mix with chime := some { c with entry := s.rf (F.MIX_CHIME_PAT.first c.pattern), left := c.left - 1 } } }) ∧
  (∀ (s : State) (c : Chime), s.mix.chime = some c → outranking c.prec s.mix.chimeWait = none → s.on (F.MIX_CHIME_CAD.last c.entry) = true →
    c.forever = false → c.left ≤ 1 → s.mix.chimeWait = [] → exec .chimeEntryEnd s = .next { s with mix := { s.mix with chime := none } })

/-- The echo path's events (R291, R293 to R295): reconvergence ends after 50 good cycles or 2,000 cycles; a howl takes a free notch, or with
all held cuts the talk gain by one step, and is counted and told; a notch not needed for 10,000 cycles is released; 100 more cycles of howl cut
deeper and 1,000 without one give a step back. -/
def Obligations.EchoEventsAct : Prop :=
  (∀ s : State, s.on F.ECH_STATUS.reconv = true → 50 ≤ s.ech.good ∨ 2000 ≤ s.ech.age → ∃ t, exec .reconvergenceEnd s = .next t ∧
    t.on F.ECH_STATUS.reconv = false ∧ OnlyThese [.regs] [F.ECH_STATUS.reconv.off] s t) ∧
  (∀ s : State, s.ech.good < 50 → s.ech.age < 2000 → exec .reconvergenceEnd s = .next s) ∧
  (∀ (s : State) (f : BitVec 13) (n : Nat), s.on F.ECH_HOWL_CTL.en = true → s.coreOn = true → s.halted 1 = false → s.freeNotch = some n → ∃ t,
    exec (.howlFound f) s = .next t ∧ t.ech = { s.ech with notches := s.ech.notches.set n (some { freq := f.toNat, idle := 0 }) } ∧
    t.rf F.ECH_ERR.howls = min (s.rf F.ECH_ERR.howls + 1) (2 ^ F.ECH_ERR.howls.width - 1) ∧
    Told s t 20 0 (s.rf F.ECH_STATUS.howl_cut) 0 (f.setWidth 32) ∧ OnlyChanges [.regs, .ech, .hif] s t) ∧
  (∀ (s : State) (f : BitVec 13), s.on F.ECH_HOWL_CTL.en = true → s.coreOn = true → s.halted 1 = false → s.freeNotch = none → ∃ t,
    exec (.howlFound f) s = .next t ∧ t.rf F.ECH_STATUS.howl_cut = min 3 (s.rf F.ECH_STATUS.howl_cut + 1) ∧
    t.ech = { s.ech with howlRun := 0, howlIdle := 0 } ∧ Told s t 20 1 (min 3 (s.rf F.ECH_STATUS.howl_cut + 1)) 0 (f.setWidth 32)) ∧
  (∀ (s : State) (n : Fin 4) (x : Notch), s.ech.notches.getD n none = some x → 10000 ≤ x.idle → ∃ t, exec (.notchRelease n) s = .next t ∧
    t.ech = { s.ech with notches := s.ech.notches.set n none } ∧ OnlyChanges [.regs, .ech] s t) ∧
  (∀ (s : State) (n : Fin 4) (x : Notch), s.ech.notches.getD n none = some x → x.idle < 10000 → exec (.notchRelease n) s = .next s) ∧
  (∀ s : State, 100 ≤ s.ech.howlRun → 0 < s.rf F.ECH_STATUS.howl_cut → ∃ t, exec .howlGainStep s = .next t ∧
    t.rf F.ECH_STATUS.howl_cut = min 3 (s.rf F.ECH_STATUS.howl_cut + 1) ∧ OnlyThese [.regs, .ech] [F.ECH_STATUS.howl_cut.off] s t) ∧
  (∀ s : State, s.ech.howlRun < 100 → 1000 ≤ s.ech.howlIdle → 0 < s.rf F.ECH_STATUS.howl_cut → ∃ t, exec .howlGainStep s = .next t ∧
    t.rf F.ECH_STATUS.howl_cut = s.rf F.ECH_STATUS.howl_cut - 1 ∧ OnlyThese [.regs, .ech] [F.ECH_STATUS.howl_cut.off] s t)

/-- Modes of the microphones and the privacy mute (R327 to R329, R336 to R341): the mode follows what is wanted, a start or a bridge ends when
its cycles have passed; a mute shuts the microphones at once, whatever they do, and is counted and told; lifting it opens the gate with the
mode off. -/
def Obligations.MicrophonesFollowModeAndMute : Prop :=
  (∀ (s : State), s.coreOn = true → s.rf F.MIC_STATUS.mode ≠ 3 → s.rf F.MIC_STATUS.mode ≠ s.micWanted → ∃ t, exec .micModeChange s = .next t ∧
    t.rf F.MIC_STATUS.mode = s.micWanted ∧ OnlyChanges [.regs, .mic, .wake, .hif, .dbg, .free] s t) ∧
  (∀ s : State, s.rf F.MIC_STATUS.mode = 3 ∨ s.rf F.MIC_STATUS.mode = s.micWanted → exec .micModeChange s = .next s) ∧
  (∀ s : State, s.on F.MIC_STATUS.settling = true → s.mic.bridging = false → s.mic.settleLeft = 0 → ∃ t, exec .micStartEnd s = .next t ∧
    t.on F.MIC_STATUS.settling = false ∧ OnlyThese [.regs] [F.MIC_STATUS.settling.off] s t) ∧
  (∀ s : State, s.mic.settleLeft ≠ 0 → exec .micStartEnd s = .next s ∧ exec .micBridgeEnd s = .next s) ∧
  (∀ s : State, s.on F.MIC_STATUS.settling = true → s.mic.bridging = true → s.mic.settleLeft = 0 → ∃ t, exec .micBridgeEnd s = .next t ∧
    t.on F.MIC_STATUS.settling = false ∧ t.mic = { s.mic with bridging := false } ∧ OnlyThese [.regs, .mic] [F.MIC_STATUS.settling.off] s t) ∧
  (∀ s : State, s.muted = false → s.pins.resetHeld = false → s.pwr.state = 0 → ∃ t, exec .muteOn s = .next t ∧ t.muted = true ∧
    t.pins.muteLed = true ∧ t.rf F.MIC_STATUS.mode = 3 ∧ t.mic.probes = [] ∧ t.mic.settleLeft = 0) ∧
  (∀ s : State, s.muted = true → ∃ t, exec .muteOn s = .next t ∧ t.muted = true ∧ t.on F.MIC_MUTE_STATUS.sw_level = true ∧
    OnlyThese [.pins, .regs] [F.MIC_MUTE_STATUS.sw_level.off] s t) ∧
  (∀ s : State, s.muted = true → s.pins.resetHeld = false → s.pwr.state = 0 → ∃ t, exec .muteOff s = .next t ∧ t.muted = false ∧
    t.on F.MIC_MUTE_STATUS.sw_level = false ∧ t.rf F.MIC_STATUS.mode = 0 ∧ t.mic.unmuting = true ∧ t.pins = s.pins) ∧
  (∀ s : State, s.muted = false → exec .muteOff s = .next s)

/-- Stuck wires and wake events (R342 to R347, R349 to R351): a window over live microphones shows the channels whose bits were all alike;
one that overlaps a mute or a settling is skipped; a decision ends its wire's probe and notes which channels were driven; a wake event is held
for the end of its cycle, or within the refractory time only counted. -/
def Obligations.WindowsProbesAndWakeEventsAct : Prop :=
  (∀ (s : State) (b : BitVec 8), s.mic.windowBad = true ∨ s.micLive = false →
    exec (.stuckWindow b) s = .next { s with mic := { s.mic with windowBad := false } }) ∧
  (∀ (s : State) (b : BitVec 8), s.mic.windowBad = false → s.micLive = true → ∃ t, exec (.stuckWindow b) s = .next t ∧
    t.rf F.MIC_FAULT_STATUS.stuck = (((List.range 8).filter (fun n => b.getLsbD n && s.chanOn n)).foldl (fun m n => m + 2 ^ n) 0) % 256 ∧
    OnlyChanges [.regs, .mic, .hif] s t) ∧
  (∀ (s : State) (w : Fin 4) (a b : Bool) (f : Nat), s.mic.probes.find? (fun x => decide (x.1 = w.val) && decide (x.2.1 = 0)) = some (w.val, 0, f) →
    ∃ t, exec (.probeDecision w a b) s = .next t ∧ t.mic = { s.mic with
      probes := s.mic.probes.filter (fun x => decide (x.1 ≠ w.val))
      driven := (s.mic.driven &&& ~~~(BitVec.ofNat 8 (3 * 4 ^ w.val))) ||| BitVec.ofNat 8 (bit (!a) * 4 ^ w.val + bit (!b) * 2 * 4 ^ w.val) } ∧
      OnlyThese [.regs, .mic, .hif] (dropCounts ++ [F.MIC_FAULT_STATUS.faulted.off, F.MIC_FAULT_CAUSE.cause.off]) s t) ∧
  (∀ (s : State) (w : Fin 4) (a b : Bool), s.mic.probes = [] → exec (.probeDecision w a b) s = .next s) ∧
  (∀ (s u : State) (w : Fin 4), s.micLive = true → s.recover w = u → u.on F.MIC_PROBE_CTL.en = true → onWire (u.rf F.MIC_FAULT_STATUS.faulted) w ≠ [] →
    ∃ t, exec (.probeRetry w) s = .next t ∧ t = u.startProbe w (u.rf F.MIC_FAULT_STATUS.stuck)) ∧
  (∀ (s : State) (w : Fin 4), s.micLive = false → exec (.probeRetry w) s = .next s) ∧
  (∀ (s : State) (d : Dword) (v : Byte), s.wakeArmed = true → s.muted = false → s.coreOn = true → s.halted 2 = false →
    s.rf F.WAKE_CTL.threshold ≤ v.toNat → s.rf F.MIC_STATUS.mode = 1 ∨ s.rf F.MIC_STATUS.mode = 2 → s.wake.thisCycle = none → s.wake.lastAt = none →
    exec (.wakeEvent d v) s = .next { s with wake := { s.wake with thisCycle := some (d, v) } }) ∧
  (∀ (s : State) (d : Dword) (v : Byte) (c : Dword), s.wakeArmed = true → s.muted = false → s.coreOn = true → s.halted 2 = false →
    s.rf F.WAKE_CTL.threshold ≤ v.toNat → s.rf F.MIC_STATUS.mode = 1 ∨ s.rf F.MIC_STATUS.mode = 2 → s.wake.lastAt = some c →
    (s.plt.lpc - c).toNat ≤ s.rf F.WAKE_CTL.refractory_cycles → exec (.wakeEvent d v) s = .next (s.bump F.WAKE_ERR.refractory)) ∧
  (∀ (s : State) (d : Dword) (v : Byte), v.toNat < s.rf F.WAKE_CTL.threshold ∨ s.muted = true → exec (.wakeEvent d v) s = .next s)

/-- Monitor commands that read (R597, R601, R603, R607 to R609, R611, R625, Table 15-4): each is answered with its values; a payload it does not
take is BAD_ARG; a register in a domain that is off is DOMAIN_OFF, an element or bank whose owner runs is NOT_HALTED. -/
def Obligations.MonitorReadsAreAnswered : Prop :=
  (∀ (s u : State) (r : MonReq), Heard s r u → r.payload = [] → exec (.ping r) s = .next (u.sendReply r 0x01 .ok
    (toLe 6 s.dev.uid.toNat ++ toLe 2 s.dev.rom.toNat ++
      [BitVec.ofNat 8 (bit (u.on F.GLB_STATUS.patch_running) + 2 * bit u.residentUp + 4 * bit (u.on F.GLB_STATUS.manifest_defaulted))]))) ∧
  (∀ (s u : State) (r : MonReq), Heard s r u → r.payload ≠ [] → exec (.ping r) s = .next (u.sendReply r 0x01 .badArg [])) ∧
  (∀ (s u : State) (r : MonReq), Heard s r u → r.payload = [] → exec (.status r) s = .next (u.sendReply r 0x02 .ok
    (toLe 4 (u.value F.DBG_HALT_STATUS.halted.off).toNat ++ toLe 1 s.pwr.state ++ toLe 4 s.lpc.toNat ++ toLe 2 s.plt.sym))) ∧
  (∀ (s u : State) (r : MonReq), Heard s r u → r.payload = [] → exec (.close r) s = .next ((u.closeSession r.via).sendReply r 0x03 .ok [])) ∧
  (∀ (s u : State) (r : MonReq) (n : Byte) (b : List Byte), Heard s r u → r.payload = [n] → s.dbg.stored.find? (fun x => decide (x.1 = n.toNat)) = some (n.toNat, b) →
    exec (.replyFetch r) s = .next (u.sendReply r 0x0C .ok b)) ∧
  (∀ (s u : State) (r : MonReq), Heard s r u → r.payload.length = 4 → byteAt r.payload 2 = 1 → byteAt r.payload 3 = 1 → leAt r.payload 0 2 % 4 = 0 →
    u.allOn [leAt r.payload 0 2] = true → exec (.regRead r) s =
      .next ((u.readDone (leAt r.payload 0 2) false).sendReply r 0x10 .ok (toLe 4 (u.value (leAt r.payload 0 2)).toNat))) ∧
  (∀ (s u : State) (r : MonReq), Heard s r u → r.payload.length = 4 → byteAt r.payload 2 = 1 → byteAt r.payload 3 = 1 → leAt r.payload 0 2 % 4 = 0 →
    u.allOn [leAt r.payload 0 2] = false → exec (.regRead r) s = .next (u.sendReply r 0x10 .domainOff [])) ∧
  (∀ (s u : State) (r : MonReq) (e : Byte), Heard s r u → r.payload = [e] → e.toNat < 4 → u.elemOn e.toNat = true → u.halted e.toNat = true →
    exec (.elemRead r) s = .next (u.sendReply r 0x23 .ok (toLe 4 (u.elem e.toNat).pc.toNat ++ toLe 4 (u.elem e.toNat).status.toNat ++
      (u.elem e.toNat).g.flatMap (fun w => toLe 4 w.toNat) ++ toLe 1 (u.elem e.toNat).cause))) ∧
  (∀ (s u : State) (r : MonReq) (e : Byte), Heard s r u → r.payload = [e] → e.toNat < 4 → u.elemOn e.toNat = true → u.halted e.toNat = false →
    exec (.elemRead r) s = .next (u.sendReply r 0x23 .notHalted [])) ∧
  (∀ (s u : State) (r : MonReq), Heard s r u → r.payload.length = 6 → leAt r.payload 4 2 ≤ 1024 → u.bankErr (leAt r.payload 0 4) (leAt r.payload 4 2) = none →
    exec (.memRead r) s = .next (u.sendReply r 0x30 .ok
      (Cells.getList (sramByte u.mem.lostAt) u.mem.sram (leAt r.payload 0 4) (leAt r.payload 4 2)))) ∧
  (∀ (s u : State) (r : MonReq), Heard s r u → r.payload.length = 4 → 0 < leAt r.payload 2 2 → leAt r.payload 2 2 ≤ 1024 →
    leAt r.payload 0 2 + leAt r.payload 2 2 ≤ 4096 → exec (.otpRead r) s =
      .next (u.sendReply r 0x32 .ok (Cells.getList (fun _ => 0) u.dev.otp (leAt r.payload 0 2) (leAt r.payload 2 2)))) ∧
  (∀ (s u : State) (r : MonReq), Heard s r u → u.coreOn = true → r.payload.length = 4 → leAt r.payload 0 2 < 1024 → leAt r.payload 2 2 = 1 → exec (.traceRead r) s =
    .next (u.sendReply r 0x40 .ok (toLe 4 (u.value F.DBG_TRACE_STATUS.write_index.off).toNat ++
      (match u.tracePacket (leAt r.payload 0 2) with | some p => TracePkt.bytes p | none => [])))) ∧
  (∀ (s u : State) (r : MonReq), HeardByResident s r u → r.payload.length = 6 → 0 < leAt r.payload 4 2 → leAt r.payload 4 2 ≤ 1024 →
    leAt r.payload 0 4 + leAt r.payload 4 2 ≤ u.mem.flashSize → exec (.flashRead r) s =
      .next (u.sendReply r 0x50 .ok (u.flashBytes (leAt r.payload 0 4) (leAt r.payload 4 2))))

/-- Monitor commands that write (R608 to R611, R621, Table 15-4): a register takes the word as a host write would, but by the monitor's path; a
halted element's register, a halted owner's bank outside CC's takes what is given and the tampered flag is set; a stimulus is
traced; erased sectors read erased, and programmed bytes hold what is written where the byte was erased. -/
def Obligations.MonitorWritesTakeEffect : Prop :=
  (∀ (s u : State) (r : MonReq), Heard s r u → r.payload.length = 6 → leAt r.payload 0 2 % 4 = 0 → u.allOn [leAt r.payload 0 2] = true →
    u.cfg.groups = [] → exec (.regWrite r) s =
      .next ((u.writeWord .mon (leAt r.payload 0 2) (BitVec.ofNat 32 (leAt r.payload 2 4))).sendReply r 0x11 .ok [])) ∧
  (∀ (s u : State) (r : MonReq), Heard s r u → r.payload.length = 6 → leAt r.payload 0 2 % 4 = 0 → u.allOn [leAt r.payload 0 2] = true →
    u.cfg.groups ≠ [] → u.stageable (leAt r.payload 0 2) ≠ 0 → exec (.regWrite r) s = .next (u.sendReply r 0x11 .refused [])) ∧
  (∀ (s u : State) (r : MonReq), Heard s r u → r.payload.length = 6 → byteAt r.payload 0 < 4 → byteAt r.payload 1 < 16 →
    u.elemOn (byteAt r.payload 0) = true → u.halted (byteAt r.payload 0) = true → exec (.elemWrite r) s =
      .next ((({ u with dbg := { u.dbg with elems := u.dbg.elems.modify (byteAt r.payload 0) (fun x => { x with g := x.g.set (byteAt r.payload 1) (BitVec.ofNat 32 (leAt r.payload 2 4)) }) } }).put F.DBG_MON_STATUS.tampered true).sendReply r
          0x24 .ok [])) ∧
  (∀ (s u : State) (r : MonReq), Heard s r u → 5 ≤ r.payload.length → u.bankErr (leAt r.payload 0 4) (r.payload.length - 4) = none →
    2 ≤ leAt r.payload 0 4 / 0x20000 → exec (.memWrite r) s =
      .next ((({ u with mem := { u.mem with sram := Cells.setList (sramByte u.mem.lostAt) u.mem.sram (leAt r.payload 0 4) (r.payload.drop 4) } }).put
        F.DBG_MON_STATUS.tampered true).sendReply r 0x31 .ok [])) ∧
  (∀ (s u : State) (r : MonReq), Heard s r u → 5 ≤ r.payload.length → u.bankErr (leAt r.payload 0 4) (r.payload.length - 4) = none →
    leAt r.payload 0 4 / 0x20000 ≤ 1 → exec (.memWrite r) s = .next (u.sendReply r 0x31 .refused [])) ∧
  (∀ (s u : State) (r : MonReq), Heard s r u → r.payload.length = 6 → 24 ≤ byteAt r.payload 0 → byteAt r.payload 0 ≤ 31 → byteAt r.payload 1 = 0 →
    exec (.stimWrite r) s = .next ((u.stim (byteAt r.payload 0) (leAt r.payload 2 4)).sendReply r 0x41 .ok [])) ∧
  (∀ (s u : State) (r : MonReq), HeardByResident s r u → r.payload.length = 6 → leAt r.payload 0 4 % 4096 = 0 → 0 < leAt r.payload 4 2 →
    leAt r.payload 4 2 ≤ 4096 → leAt r.payload 0 4 + 4096 * leAt r.payload 4 2 ≤ u.mem.flashSize → exec (.flashErase r) s =
      .next (State.sendReply { u with mem := { u.mem with flash := u.mem.flash.filter (fun c => decide (c.1 < leAt r.payload 0 4) || decide (leAt r.payload 0 4 + 4096 * leAt r.payload 4 2 ≤ c.1)) } } r 0x51 .ok [])) ∧
  (∀ (s u : State) (r : MonReq), HeardByResident s r u → 5 ≤ r.payload.length → r.payload.length ≤ 260 →
    leAt r.payload 0 4 / 256 = (leAt r.payload 0 4 + r.payload.length - 5) / 256 → leAt r.payload 0 4 + r.payload.length - 4 ≤ u.mem.flashSize →
    (∀ i, i < r.payload.length - 4 → Cells.get erasedByte u.mem.flash (leAt r.payload 0 4 + i) = 0xFF) → ∃ t, exec (.flashWrite r) s = .next t ∧
      t = (State.takeFree { u with mem := { u.mem with flash := Cells.setList erasedByte u.mem.flash (leAt r.payload 0 4) (r.payload.drop 4) } } (r.payload.length - 4)).sendReply r 0x52 .ok []) ∧
  (∀ (s : State) (r : MonReq) (u : State), Heard s r u → u.pwr.state = 0 → u.residentUp = false → exec (.flashRead r) s = .next (u.sendReply r 0x50 .noResident [])) ∧
  (∀ (s : State) (r : MonReq), s.shellHears r.via = true → s.monBusy r.via = true → exec (.ping r) s =
    .next ((s.bump F.DBG_MON_STATUS.busy).sendReply r 0x01 .busy []))

/-- Halts, resumes and steps (R613 to R619, R626, R631): the elements named stop, with those the cross-trigger joins to them, and one that has
stopped keeps its cause; resumed elements run on; a STEP is answered when its count has run or a cross-trigger has cut it; a rising edge on the
trigger pin stops the mask. -/
def Obligations.ElementsHaltStepAndResume : Prop :=
  (∀ (s u : State) (r : MonReq) (m : Byte), Heard s r u → onLine r.via = false → r.payload = [m] → m.toNat < 16 →
    (elemsIn m.toNat).all u.elemOn = true → exec (.halt r) s =
      .next ((u.haltElems m.toNat 1).sendReply r 0x20 .ok (u.haltElems m.toNat 1).haltedMask)) ∧
  (∀ (s u : State) (r : MonReq) (m : Byte), Heard s r u → onLine r.via = true → r.payload = [m] → m.toNat < 16 →
    bitOf m.toNat 0 = true ∨ bitOf m.toNat 3 = true → exec (.halt r) s = .next (u.sendReply r 0x20 .refused [])) ∧
  (∀ (s : State) (m c e : Nat), s.dbg.elems.length = 4 → c ≠ 0 → e < 4 → bitOf m e = true → (s.haltElems m c).halted e = true) ∧
  (∀ (s : State) (m c e : Nat), s.halted e = true → (s.haltElems m c).elem e = s.elem e) ∧
  (∀ (s : State) (m c e k : Nat), s.dbg.elems.length = 4 → c ≠ 0 → c ≠ 5 → e < 4 → k < 4 → bitOf m e = true → s.halted e = false →
    bitOf (s.rf F.DBG_HALT_CTL.mask) e = true → bitOf (s.rf F.DBG_HALT_CTL.mask) k = true → (s.haltElems m c).halted k = true) ∧
  (∀ (s u : State) (r : MonReq) (e : Fin 4), Heard s r u → r.payload = [BitVec.ofNat 8 (2 ^ e.val)] → u.halted e = true → exec (.resume r) s =
    .next ((((u.resumeOne e).traceAny 2 (2 ^ e.val) 0).settleAll).sendReply r 0x21 .ok (((u.resumeOne e).traceAny 2 (2 ^ e.val) 0).settleAll).haltedMask)) ∧
  (∀ (s : State) (e : Nat), s.dbg.elems.length = 4 → e < 4 → (s.freeElem e).halted e = false) ∧
  (∀ (s u : State) (r : MonReq) (e : Byte) (a b : Byte), Heard s r u → r.payload = [e, a, b] → e.toNat < 3 → (onLine r.via = true → e.toNat ≠ 0) →
    a ≠ 0 ∨ b ≠ 0 → u.elemOn e.toNat = true → u.halted e.toNat = true → ∃ t, exec (.step r) s = .next t ∧
      t.dbg.stepping = u.dbg.stepping ++ [(e.toNat, leAt [a, b] 0 2, r)] ∧ t.dbg.reply = s.dbg.reply ∧ t.dbg.tx = s.dbg.tx) ∧
  (∀ (s u : State) (r : MonReq) (e : Byte) (a b : Byte), Heard s r u → r.payload = [e, a, b] → e.toNat < 3 → (onLine r.via = true → e.toNat ≠ 0) →
    a ≠ 0 ∨ b ≠ 0 → u.elemOn e.toNat = true → u.halted e.toNat = false → exec (.step r) s = .next (u.sendReply r 0x22 .notHalted [])) ∧
  (∀ (s : State) (e : Elem) (n : Nat) (r : MonReq), s.dbg.stepping = [(elemNum e, n, r)] → s.halted (elemNum e) = false → exec (.stepDone e) s =
    .next ((State.haltElems { s with dbg := { s.dbg with stepping := [] } } (2 ^ elemNum e) 5).sendReply r 0x22 .ok (toLe 2 n))) ∧
  (∀ (s : State) (e : Elem) (n : Nat) (r : MonReq), s.dbg.stepping = [(elemNum e, n, r)] → s.halted (elemNum e) = true → exec (.stepDone e) s =
    .next ((State.takeFree { s with dbg := { s.dbg with stepping := [] } } 1).sendReply r 0x22 .ok (toLe 2 (min n (Config.steppedCount s.free))))) ∧
  (∀ (s : State) (g : Fin 8), s.on F.DBG_HALT_CTL.xtrig_in_en = true → s.rf F.DBG_HALT_CTL.xtrig_in_gpio = g.val → s.strobeOn 0 g = false →
    s.strobeOn 1 g = false → s.pins.resetHeld = false → exec (.externalTrigger g) s = .next (s.haltElems (s.rf F.DBG_HALT_CTL.mask) 4)) ∧
  (∀ (s : State) (g : Fin 8), s.on F.DBG_HALT_CTL.xtrig_in_en = false → exec (.externalTrigger g) s = .next s)

/-- RESET and the transports of the monitor (R388, R460, R597 to R602, R606, R612, R623): a full reset goes without a reply, a warm restart and a block
reset after theirs; a packet that fails its check is counted and dropped; the fragments of a request make a packet; replies kept and
sessions idle are dropped in time; a MONITOR_CMD carries its packet; sink 2 sends up to 32 packets. -/
def Obligations.MonitorPacketsTravel : Prop :=
  (∀ (s u : State) (r : MonReq) (b : Byte), Heard s r u → r.payload = [0, b] → exec (.reset r) s =
    .next (u.fullResetBy F.CFG_RESET_CAUSE.monitor false false)) ∧
  (∀ (s u : State) (r : MonReq) (b : Byte), Heard s r u → onLine r.via = false → u.coreOn = true → r.payload = [1, b] → exec (.reset r) s =
    .next ((u.sendReply r 0x60 .ok []).startWarm)) ∧
  (∀ (s u : State) (r : MonReq) (k : Fin 4), Heard s r u → u.coreOn = true → r.payload = [2, BitVec.ofNat 8 k.val] → exec (.reset r) s =
    .next ((u.sendReply r 0x60 .ok []).resetBlock (resetTarget k))) ∧
  (∀ (s u : State) (r : MonReq) (b : Byte), Heard s r u → u.coreOn = false → r.payload = [1, b] → exec (.reset r) s = .next (u.sendReply r 0x60 .domainOff [])) ∧
  (∀ (s : State) (cmd : Nat) (tag : Byte) (p b : List Byte), s.shellHears .uart = true → s.dbg.rx = [] → parseRequest b = some (cmd, tag, p) →
    exec (.uartPacket (monSync :: b)) s = .next (let t := State.serve { s with dbg := { s.dbg with tx := [], rx := [] } } cmd { via := .uart, tag := tag, payload := p }
      { t with dbg := { t.dbg with rx := [] } })) ∧
  (∀ (s : State) (b : List Byte), s.shellHears .uart = true → s.dbg.rx = [] → b.length = 8 + leAt b 4 2 → leAt b 4 2 ≤ 1024 → parseRequest b = none →
    monSync ∉ b → exec (.uartPacket (monSync :: b)) s =
      .next (State.bump { s with dbg := { s.dbg with tx := [], rx := [] } } F.DBG_MON_STATUS.crc_errors)) ∧
  (∀ s : State, s.shellHears .uart = false → ∀ b, exec (.uartPacket b) s = .next s) ∧
  (∀ s : State, exec .uartByteGap s = .next { s with dbg := { s.dbg with rx := [] } }) ∧
  (∀ (s : State) (t : Transport), exec (.monitorSessionIdle t) s =
    .next { s with dbg := { s.dbg with sessions := s.dbg.sessions.filter (fun x => decide (x ≠ t)) } }) ∧
  (∀ (s : State) (a : Fin 128) (n : Byte), ∃ t, exec (.monitorFragmentTimeout a n) s = .next t ∧ OnlyThese [.dbg] [] s t ∧
    (∀ x ∈ t.dbg.frags, x.addr = a.val → x.session = n.toNat → (s.lpc - x.cycle).toNat < 256)) ∧
  (∀ (s : State) (c : Client) (j : Nat) (x : InFlight) (buf p : List Byte) (cmd : Nat) (tag : Byte), s.monTurn c = some (j, x) → s.pins.resetHeld = false →
    s.pwr.state ≠ 5 → checkDesc c x.desc = none → c.val ≠ clientSB → parseRequest (buf.take x.desc.bufLen) = some (cmd, tag, p) →
    exec (.monitorCmd c buf) s = .next ((((s.started c x.desc).setPhase c j .monitor).serve cmd { via := cmdTransport c, tag := tag, payload := p }).settle c)) ∧
  (∀ (s : State) (c : Client) (buf : List Byte), s.monTurn c = none → exec (.monitorCmd c buf) s = .next s) ∧
  (∀ s : State, s.on F.DBG_TRACE_CTL.en = true → s.sink = 2 → s.dbg.trace ≠ [] → s.coreOn = true → ∃ t, exec .traceData s = .next t ∧
    t.dbg = { s.dbg with trace := s.dbg.trace.drop 32, tx := (monSync :: monPacket 0x11 0x7F 0 0 ((s.dbg.trace.take 32).flatMap TracePkt.bytes)) :: s.dbg.tx } ∧
    OnlyThese [.dbg] [] s t) ∧
  (∀ s : State, s.on F.DBG_TRACE_CTL.en = false → exec .traceData s = .next s)

/-- Full resets (R563, R583, R643, R675): the part is held in reset with its cause shown, every register but the RTC pair at its reset value,
the pair too from power-on; power is as after reset; the flash, the P57, the cartridge and the part itself stay. Release lets the boot start; a
warm restart overrun and a watchdog that expires again too soon are full resets, and nothing else of either is when there is no restart. -/
def Obligations.FullResetsRestoreTheBlock : Prop :=
  (∀ (s : State) (p : Bool), ∃ t, exec (.fullReset p) s = .next t ∧ t.pins.resetHeld = true ∧
    t.on (if p then F.CFG_RESET_CAUSE.power_on else F.CFG_RESET_CAUSE.reset_pin) = true ∧ t.pwr = Pwr.reset ∧
    (∀ o, o ≠ F.CFG_RESET_CAUSE.power_on.off → o ≠ F.PWR_RTC.seconds.off → o ≠ F.PWR_RTC_ALARM.seconds.off → t.reg o = regReset o) ∧
    t.reg F.PWR_RTC.seconds.off = (if p then regReset F.PWR_RTC.seconds.off else s.reg F.PWR_RTC.seconds.off) ∧
    t.mem.flash = s.mem.flash ∧ t.p57 = s.p57 ∧ t.cart = s.cart ∧ t.dev = s.dev) ∧
  (∀ s : State, ∃ t, exec .vin33Loss s = .next t ∧ t.pins.resetHeld = true ∧ t.on F.CFG_RESET_CAUSE.power_on = true ∧ t.pwr = Pwr.reset ∧
    (∀ o, o ≠ F.CFG_RESET_CAUSE.power_on.off → t.reg o = regReset o) ∧ t.mem.flash = s.mem.flash ∧ t.dev = s.dev) ∧
  (∀ s : State, exec .resetRelease s = .next { s with pins := { s.pins with resetHeld := false } }) ∧
  (∀ s : State, s.cfg.restarting = true → ∃ t, exec .warmRestartOverrun s = .next t ∧ t.pins.resetHeld = false ∧
    t.on F.CFG_RESET_CAUSE.warm_overrun = true ∧ t.cfg.restarting = false ∧ t.cfg.boot = 0 ∧
    (∀ o, o ≠ F.CFG_RESET_CAUSE.power_on.off → o ≠ F.PWR_RTC.seconds.off → o ≠ F.PWR_RTC_ALARM.seconds.off → t.reg o = regReset o)) ∧
  (∀ s : State, s.cfg.restarting = false → exec .warmRestartOverrun s = .next s) ∧
  (∀ s : State, s.pins.resetHeld = false → s.halted 0 = false → s.coreOn = true → s.watched = false → s.cfg.restarting = false → ∃ t,
    exec .watchdogExpiry s = .next t ∧ t.cfg = { s.cfg with restarting := true, wdtOnce := true } ∧
    t.rf F.CFG_WDT.expiries = min (s.rf F.CFG_WDT.expiries + 1) (2 ^ F.CFG_WDT.expiries.width - 1)) ∧
  (∀ s : State, s.pins.resetHeld = false → s.halted 0 = false → s.coreOn = true → s.watched = true → ∃ t, exec .watchdogExpiry s = .next t ∧
    t.on F.CFG_RESET_CAUSE.watchdog = true ∧ t.cfg.boot = 0 ∧ t.pwr = Pwr.reset) ∧
  (∀ s : State, s.halted 0 = true → exec .watchdogExpiry s = .next s)

/-- The boot and the end of a warm restart (R564 to R568, R571, R574, R584, R613, Table 14-1): each step that ends counts, the performance
level is set first, the P57 is written its reset values when power is good, the line starts with the records; a warm restart that ends lets CC
run, with its control commands answered; an internal fault halts its element when that is asked for, and resets it otherwise. -/
def Obligations.TheBlockBootsAndRestarts : Prop :=
  (∀ s : State, s.pins.resetHeld = false → s.cfg.restarting = false → s.cfg.boot = 0 → s.pwr.state = 0 → exec .bootStepDone s =
    .next ((State.wr { s with cfg := { s.cfg with boot := 1 } } F.PWR_PERF.in_force 1).relevel)) ∧
  (∀ s : State, s.pins.resetHeld = false → s.cfg.restarting = false → s.cfg.boot = 1 → s.pwr.state = 0 → exec .bootStepDone s =
    .next { s with cfg := { s.cfg with boot := 2 } }) ∧
  (∀ s : State, s.pins.resetHeld = false → s.cfg.restarting = false → s.cfg.boot = 2 → s.pwr.state = 0 → s.p57.pg = true → ∃ t,
    exec .bootStepDone s = .next t ∧ t.p57 = { s.p57 with cls := 1, percent := 90, hornCtl := 0x41, srcCtl := 0x01, causeEn := 0x7F, fresh := false } ∧
    t.cfg = { s.cfg with boot := 3 } ∧ OnlyThese [.regs, .p57, .cfg] [F.PWR_INTAKE_STATUS.pg.off] s t) ∧
  (∀ (s : State) (e : Nat), s.pins.resetHeld = false → s.cfg.restarting = false → s.cfg.boot = 3 → s.pwr.state = 0 → s.manifest = .rejected e → ∃ t,
    exec .bootStepDone s = .next t ∧ t.rf F.CFG_BOOT_STATUS.manifest_err = e % 2 ^ F.CFG_BOOT_STATUS.manifest_err.width ∧ t.cfg.boot = 4 ∧
    OnlyThese [.regs, .cfg] [F.CFG_BOOT_STATUS.manifest_err.off] s t) ∧
  (∀ s : State, s.pins.resetHeld = false → s.cfg.restarting = false → s.cfg.boot = 4 → s.pwr.state = 0 → s.cfg.patch = none → ∃ t,
    exec .bootStepDone s = .next t ∧ t.on F.GLB_STATUS.patch_running = false ∧ t.cfg = { s.cfg with boot := 5 }) ∧
  (∀ (s : State) (e : Nat), s.pins.resetHeld = false → s.cfg.restarting = false → s.cfg.boot = 5 → s.pwr.state = 0 → s.manifest = .rejected e → ∃ t,
    exec .bootStepDone s = .next t ∧ t.on F.GLB_STATUS.manifest_defaulted = true ∧ t.phy = { s.phy with on := true } ∧
    t.cfg = { s.cfg with boot := 6 } ∧ OnlyThese [.regs, .phy, .cfg] [F.GLB_STATUS.manifest_defaulted.off] s t) ∧
  (∀ s : State, s.pins.resetHeld = false → s.cfg.restarting = false → s.cfg.boot = 6 → s.pwr.state = 0 → s.pins.perst = true → s.pins.cartDet = false →
    exec .bootStepDone s = .next (State.settleAll { s with cfg := { s.cfg with boot := 7 } })) ∧
  (∀ s : State, s.cfg.boot = 8 ∨ s.pins.resetHeld = true ∨ s.cfg.restarting = true → exec .bootStepDone s = .next s) ∧
  (∀ s : State, s.cfg.restarting = false → exec .warmRestartEnd s = .next s) ∧
  (∀ s : State, s.cfg.restarting = true → ∃ t,
    exec .warmRestartEnd s = .next t ∧ t.cfg.restarting = false ∧ t.cfg.restartEnd = some s.plt.lpc ∧ t.cfg.apply = none) ∧
  (∀ (s : State) (e : Elem), s.pins.resetHeld = false → s.halted (elemNum e) = false → s.coreOn = true → s.on F.DBG_HALT_CTL.halt_on_fault = true →
    exec (.elementInternalFault e) s = .next (s.haltElems (2 ^ elemNum e) 3)) ∧
  (∀ (s : State), s.pins.resetHeld = false → s.coreOn = true → s.on F.DBG_HALT_CTL.halt_on_fault = false → s.halted 0 = false → s.cfg.restarting = false →
    ∃ t, exec (.elementInternalFault .cc) s = .next t ∧ t.cfg.restarting = true ∧
    t.rf F.CFG_RESET_CAUSE.warm_restarts = min (s.rf F.CFG_RESET_CAUSE.warm_restarts + 1) (2 ^ F.CFG_RESET_CAUSE.warm_restarts.width - 1)) ∧
  (∀ (s : State), s.pins.resetHeld = false → s.coreOn = true → s.on F.DBG_HALT_CTL.halt_on_fault = false → s.halted 1 = false →
    exec (.elementInternalFault .ae0) s = .next (s.resetBlock .ae0)) ∧
  (∀ (s : State), s.pins.resetHeld = false → s.coreOn = true → s.on F.DBG_HALT_CTL.halt_on_fault = false → s.halted 2 = false →
    exec (.elementInternalFault .ae1) s = .next (s.resetBlock .ae1)) ∧
  (∀ (s : State), s.pins.resetHeld = false → s.phyOn = true → s.on F.DBG_HALT_CTL.halt_on_fault = false → s.halted 3 = false →
    exec (.elementInternalFault .ls) s = .next ((s.bumpGen F.CFG_GEN0.ls 3).lsRestart))

/-- The cycle boundary (R22, R138, R433): with PHY powered the cycle number rises by one, the symbol index starts again, what was driven in the
old cycle is past, and the cycles without a beacon count; in S4 and S5 the boundary does nothing. -/
def Obligations.CyclesFollowOneAnother : Prop :=
  (∀ (s : State) (o : CycleObs), s.phyOn = true → s.pins.resetHeld = false → s.cfg.direct = [] → s.cfg.apply = none → ∃ t,
    exec (.cycleBoundary o) s = .next t ∧ t.plt.lpc = s.plt.lpc + 1 ∧ t.plt.sym = 0 ∧ t.plt.beaconOk = false ∧
    t.plt.silent = (if s.plt.beaconOk then 0 else s.plt.silent + 1)) ∧
  (∀ (s : State) (o : CycleObs), s.phyOn = true → s.pins.resetHeld = false → ∃ t, exec (.cycleBoundary o) s = .next t ∧
    t.phy = { s.phy with tx := [] } ∧
    OnlyChanges [.pins, .regs, .plt, .phy, .link, .master, .way, .p57, .intake, .mix, .ech, .call, .mic, .wake, .hif, .pwr, .cfg, .dbg, .free] s t) ∧
  (∀ (s : State) (o : CycleObs), s.phyOn = false ∨ s.pins.resetHeld = true → exec (.cycleBoundary o) s = .next s)

/-- Beacons on port A (R23, R26, R27, R44, R45, R67, R145, R678): a follower that accepts one takes its cycle number, stands at symbol 224 and
ends its holdover; one beacon a cycle; a damaged one is counted; an expected one that is missing begins or prolongs holdover, and enough of
them take the line down. -/
def Obligations.BeaconsPlaceTheNode : Prop :=
  (∀ (s : State) (b : BeaconBurst), b.port = .a → s.hears .a = true → beaconGood b = true → s.mastering .a = false →
    s.rf F.LINE_MASTER_STATUS.role ≠ 3 → s.plt.beaconOk = false → s.searches = true ∨ b.displacement.natAbs ≤ 64 → ∃ t,
    exec (.beaconAccepted b) s = .next t ∧ t.lpc = (parseBeacon b.body).cycle ∧ t.plt.sym = 224 ∧ t.plt.beaconOk = true ∧ t.plt.silent = 0 ∧
    t.plt.holdCount = 0 ∧ t.on F.PLT_LPC_STATUS.holdover = false ∧ t.on F.PLT_LPC_STATUS.line_down = false ∧ t.rf F.PLT_LPC_STATUS.missed_beacons = 0) ∧
  (∀ (s : State) (b : BeaconBurst), b.port = .a → s.hears .a = true → beaconGood b = false → exec (.beaconAccepted b) s =
    .next ((State.bump { s with plt := { s.plt with syncOk := s.plt.syncOk || decide (60 ≤ b.syncMatches) } } F.LINE_RX_ERR0.beacon_crc).stim 8
      (256 * s.rf F.PLT_LPC_STATUS.missed_beacons))) ∧
  (∀ (s : State) (b : BeaconBurst), b.port = .a → s.hears .a = true → beaconGood b = true → s.mastering .a = false → s.plt.beaconOk = true →
    exec (.beaconAccepted b) s = .next { s with plt := { s.plt with syncOk := true } }) ∧
  (∀ (s : State) (b : BeaconBurst), s.hears b.port = false → exec (.beaconAccepted b) s = .next s) ∧
  (∀ s : State, s.expectsBeacon = true → s.plt.beaconOk = false → ∃ t, exec (.beaconMissing .a) s = .next t ∧ t.on F.PLT_LPC_STATUS.holdover = true ∧
    t.plt = { s.plt with holdCount := s.plt.holdCount + (if s.pwr.state = 3 ∧ s.lineState .a = 0 then 8 else 1)
                         lockRun := if s.locked then s.plt.lockRun else 0 } ∧
    OnlyThese [.regs, .plt] [F.PLT_LPC_STATUS.holdover.off] s t) ∧
  (∀ s : State, s.plt.beaconOk = true → exec (.beaconMissing .a) s = .next s) ∧
  (∀ s : State, s.isB = true → s.rf F.LINE_WAY_STATUS.b_role = 2 → exec (.beaconMissing .b) s =
    .next { s with way := { s.way with bMissing := s.way.bMissing + 1 } }) ∧
  (∀ s : State, s.mastering .a = false → s.lineDown = false → s.on F.PLT_LPC_STATUS.holdover = true → s.downLimit ≤ s.plt.holdCount → s.pwr.state ≠ 3 →
    ∃ t, exec (.lineDown .a) s = .next t ∧ t.lineDown = true ∧ t.locked = false ∧ t.plt = { s.plt with lockRun := 0 }) ∧
  (∀ s : State, s.on F.PLT_LPC_STATUS.holdover = false → exec (.lineDown .a) s = .next s) ∧
  (∀ s : State, s.mastering .a = false → 8 ≤ s.plt.silent → ∃ t, exec .leaseLostNoBeacon s = .next t ∧ t.link.held = []) ∧
  (∀ s : State, s.plt.silent < 8 → exec .leaseLostNoBeacon s = .next s)

/-- Timeouts and what the line clock fires (R33 to R35, R49, R110, R111, R118, R132, R181, Listing 3-1): an unanswered request is repeated, the
fourth ends it; a poll and a join request are counted and tried again; a status report falls due; a compare unit fires and is free again; a
scheduled descriptor starts at symbol 0; a strobe's pulse rises at its symbol and falls; a waystation takes port B over. -/
def Obligations.LineTimeFiresWhatWaits : Prop :=
  (∀ (s : State) (id : Half) (q : TalkReq), s.ccLink = true → s.coreOn = true → s.pins.resetHeld = false → q.standing = false →
    s.lateReq .a (fun x => !x.standing && decide (x.reqId = id)) = some q → q.attempts < 3 → ∃ t, exec (.ledgerResponseTimeout (.leaseReq id)) s = .next t ∧
      t = ((s.countTimeout .a).modLnk .a (fun l => l.modReq q.reqId (fun x => { x with phase := .unsent, attempts := x.attempts + 1, sentAt := s.lpc }))).post .a
        (newMsg s.lpc (s.masterAddr .a) tyLeaseReq (leaseReqPayload 0 q.group q.format q.prec q.catchup q.reqId) (.leaseReq q.reqId))) ∧
  (∀ (s : State) (id : Half) (q : TalkReq), s.ccLink = true → s.coreOn = true → s.pins.resetHeld = false →
    s.lateReq .a (fun x => !x.standing && decide (x.reqId = id)) = some q → 3 ≤ q.attempts →
    exec (.ledgerResponseTimeout (.leaseReq id)) s = .next ((s.countTimeout .a).endRequest .a q .timeout 5)) ∧
  (∀ (s : State) (q : TalkReq), s.ccLink = true → s.coreOn = true → s.pins.resetHeld = false → s.lateReq .a (fun x => x.standing) = some q → 3 ≤ q.attempts →
    exec (.ledgerResponseTimeout .standingBell) s = .next ((s.countTimeout .a).endRequest .a q .timeout 5)) ∧
  (∀ (s : State) (n w : Nat) (c : Word), s.ccLink = true → s.coreOn = true → s.pins.resetHeld = false → s.link.joinSent = some c → 16 ≤ (s.lpc - c).toNat →
    s.link.joinWindow = w → w < 2 ^ s.joinMax .a → ∃ t, exec (.ledgerResponseTimeout (.join n)) s = .next t ∧
      t.link = { s.link with joinWindow := 2 * w, joinWait := 1 + n % (2 * w), joinSent := none } ∧
      OnlyThese [.regs, .link] [F.LINE_LINK_ERR2.join_retries.off] s t) ∧
  (∀ (s : State) (p : Port) (a : Fin 128) (r : MasterRow) (c : Word), s.ccLink = true → s.coreOn = true → s.pins.resetHeld = false → s.mastering p = true →
    (s.mst p).rowOf a = some r → r.pollSent = some c → 16 ≤ (s.lpc - c).toNat → exec (.ledgerResponseTimeout (.rangePoll p a)) s =
      .next (((s.countTimeout p).modMst p (fun m => m.modRow a (fun x => { x with polls := x.polls + 1, pollReason := none, pollSent := none }))).pollNode p a
        (r.pollReason.getD 0))) ∧
  (∀ (s : State) (w : Awaited), s.ccLink = false → exec (.ledgerResponseTimeout w) s = .next s) ∧
  (∀ s : State, 65536 ≤ s.link.statusAge → (s.addr .a).isSome = true → s.mastering .a = false → s.pwr.state < 2 → s.pins.resetHeld = false →
    exec .nodeStatusPeriodic s = .next (s.statusDue .a)) ∧
  (∀ s : State, s.link.statusAge < 65536 → exec .nodeStatusPeriodic s = .next s) ∧
  (∀ (s : State) (u : Fin 6) (d : Deadline), s.plt.units.getD u none = some d → s.pwr.state = 0 → s.pins.resetHeld = false → d.cycle = s.lpc →
    s.plt.waiting = [] → s.plt.units.length = 6 → ∃ t, exec (.firmwareCompareFire u) s = .next t ∧ t.plt = { s.plt with units := s.plt.units.set u none } ∧
      bitOf (t.rf F.PLT_CMP_STATUS.armed) u = false ∧ OnlyChanges [.regs, .plt, .pwr, .dbg] s t) ∧
  (∀ (s : State) (u : Fin 6), s.plt.units.getD u none = none → exec (.firmwareCompareFire u) s = .next s) ∧
  (∀ (s : State) (c : Client) (j : Nat) (x : InFlight) (buf : List Byte), s.plt.sym = 0 → s.dueDescriptor c = some (j, x, buf) →
    exec (.scheduledDescriptorStart c) s = .next (State.settle (State.startDue
      ((s.dropDeadlines (fun d => decide (d.client = c.val) && decide (d.id = x.desc.id))).stim 5 (x.desc.id.toNat + 65536 * c.val)) c j x.desc buf) c)) ∧
  (∀ (s : State) (c : Client), s.plt.sym ≠ 0 ∨ s.dueDescriptor c = none → exec (.scheduledDescriptorStart c) s = .next s) ∧
  (∀ (s : State) (u : Fin 2), s.on (F.PLT_STROBE_CTL.en u.val) = true → s.rf (F.PLT_STROBE_CTL.symbol u.val) ≤ 15624 → s.rf (F.PLT_STROBE_CTL.period u.val) ≠ 0 →
    s.lpc.toNat % s.rf (F.PLT_STROBE_CTL.period u.val) = 0 → s.plt.sym ≤ s.rf (F.PLT_STROBE_CTL.symbol u.val) → s.plt.lpcInvalid = false →
    s.pins.resetHeld = false → ∃ t, exec (.strobePulseStart u) s = .next t ∧
      t.plt = { s.plt with sym := s.rf (F.PLT_STROBE_CTL.symbol u.val), strobes := s.plt.strobes.set u.val true } ∧ OnlyThese [.pins, .plt] [] s t) ∧
  (∀ (s : State) (u : Fin 2), s.on (F.PLT_STROBE_CTL.en u.val) = false ∨ s.plt.lpcInvalid = true → exec (.strobePulseStart u) s = .next s) ∧
  (∀ (s : State) (u : Fin 2), ∃ t, exec (.strobePulseEnd u) s = .next t ∧ t.plt = { s.plt with strobes := s.plt.strobes.set u.val false } ∧
    OnlyThese [.pins, .plt] [] s t) ∧
  (∀ s : State, s.isWay = true → s.rf F.LINE_WAY_STATUS.b_role = 2 → 64 ≤ s.way.bMissing → s.locked = false → ∃ t,
    exec .waystationStandbyExpiry s = .next t ∧ t.rf F.LINE_WAY_STATUS.b_role = 0 ∧ t.way = { s.way with bMissing := 0, bBeacon := none } ∧
    OnlyThese [.regs, .way] [F.LINE_WAY_STATUS.b_role.off] s t) ∧
  (∀ s : State, s.way.bMissing < 64 → exec .waystationStandbyExpiry s = .next s)

/-- The master's beacons and the elections that make a master (R127, R154 to R158, R161, R193): the next beacon is committed at symbol 15,000
with what CC supplies, or is the last one repeated with no owner of the frame; a committed beacon is sent in its cycle, and its sender is locked
to its own LPC; an election waits its delay and ends with the node as master at cycle 0, or where its own LPC stands. -/
def Obligations.MastersSendBeacons : Prop :=
  (∀ (s : State) (p : Port), s.mastering p = true → s.hears p = true → s.noBeacon p (s.lpc + 1) = false → s.ccLink = true →
    exec (.beaconCommit p true) s = .next (State.modMst { s with plt := { s.plt with sym := max s.plt.sym 15000 } } p
      (fun m => { m with next := some (s.compose p (s.lpc + 1)), stalled := false, owner := none }))) ∧
  (∀ (s : State) (p : Port), s.mastering p = true → s.hears p = true → s.noBeacon p (s.lpc + 1) = false →
    exec (.beaconCommit p false) s = .next (State.modMst { s with plt := { s.plt with sym := max s.plt.sym 15000 } } p
      (fun m => { m with next := m.last.map (fun b => { b with cycle := s.lpc + 1, noOwner := true }), stalled := true, owner := none }))) ∧
  (∀ (s : State) (p : Port) (r : Bool), s.mastering p = true → s.hears p = true → s.noBeacon p (s.lpc + 1) = true →
    exec (.beaconCommit p r) s = .next (State.modMst { s with plt := { s.plt with sym := max s.plt.sym 15000 } } p
      (fun m => { m with next := none, owner := none }))) ∧
  (∀ (s : State) (p : Port) (r : Bool), s.mastering p = false → exec (.beaconCommit p r) s = .next s) ∧
  (∀ (s : State) (p : Port) (b : Beacon) (n : Nat) (d : Fin 16), (s.mst p).next = some b → s.mastering p = true → s.hears p = true → b.cycle = s.lpc →
    (s.mst p).backoff = none → s.sentBeacon p = false → (p = .b → s.locked = true) → n < 4 → ∃ t, exec (.beaconSend p n d) s = .next t ∧
    Burst.beacon p (beaconBody b) ∈ t.phy.tx ∧ (p = .a → t.locked = true)) ∧
  (∀ (s : State) (p : Port) (b : Beacon) (n : Nat) (d : Fin 16), (s.mst p).next = some b → s.mastering p = true → s.hears p = true → b.cycle = s.lpc →
    (s.mst p).backoff = none → s.sentBeacon p = false → (p = .b → s.locked = true) → 4 ≤ n → ∃ t, exec (.beaconSend p 0 d) s = .next t ∧
    exec (.beaconSend p n d) s = .next (t.collide p d.val)) ∧
  (∀ (s : State) (p : Port) (n : Nat) (d : Fin 16), (s.mst p).next = none → exec (.beaconSend p n d) s = .next s) ∧
  (∀ (s : State) (p : Port), s.mastering p = true → (s.mst p).backoff = some 0 → exec (.collisionBackoffExpiry p) s =
    .next (s.modMst p (fun m => { m with backoff := none }))) ∧
  (∀ (s : State) (p : Port), (s.mst p).backoff = none → exec (.collisionBackoffExpiry p) s = .next s) ∧
  (∀ s : State, s.masterCapable = true → s.hears .a = true → s.ccLink = true → s.rf F.LINE_MASTER_STATUS.role = 0 →
    (s.plt.firstBeacon = true ∧ s.listenCycles ≤ s.plt.silent) ∨ s.lineDown = true → ∃ t, exec .electionStart s = .next t ∧
    t.rf F.LINE_MASTER_STATUS.role = 3 ∧ t.master = { Master.reset with delay := some s.startDelay } ∧ t.rear = Rearguard.reset ∧
    OnlyThese [.regs, .master, .rear] [F.LINE_MASTER_STATUS.role.off] s t) ∧
  (∀ s : State, s.masterCapable = false → exec .electionStart s = .next s) ∧
  (∀ s : State, s.rf F.LINE_MASTER_STATUS.role = 3 → s.master.delay = some 0 → s.ccLink = true → s.hears .a = true → ∃ t,
    exec .electionDelayExpiry s = .next t ∧ t.mastering .a = true ∧ t.master.next = some (t.compose .a t.lpc) ∧
    t.plt.lpc = (if s.on F.PLT_LPC_STATUS.ever_locked then s.plt.lpc else 0)) ∧
  (∀ s : State, s.rf F.LINE_MASTER_STATUS.role ≠ 3 ∨ s.master.delay ≠ some 0 → exec .electionDelayExpiry s = .next s)

/-- The horn and the Quiet line (R89, R138, R141 to R143): a master drives the horn in its cycle and stops it; a node that hears one follows the
line as Active; an idle line without leases is told to be quiet, and is Quiet from the quiet cycle on. -/
def Obligations.LinesGoQuietAndReturn : Prop :=
  (∀ (s : State) (p : Port), s.mastering p = true → s.hears p = true → (s.mst p).horn = some s.lpc → s.phy.hornOn = false → ∃ t,
    exec (.hornStart p) s = .next t ∧ t.phy.hornOn = true ∧ Burst.horn (min 585 (max 391 (s.rf (lkF p F.LINE_QUIET_CTL.horn_periods)))) ∈ t.phy.tx ∧
    OnlyThese [.phy] [] s t) ∧
  (∀ (s : State) (p : Port), (s.mst p).horn ≠ some s.lpc → exec (.hornStart p) s = .next s) ∧
  (∀ (s : State) (p : Port), s.mastering p = true → exec (.hornEnd p) s = .next { s with phy := { s.phy with hornOn := false } }) ∧
  (∀ (s : State) (p : Port), s.mastering p = false → exec (.hornEnd p) s = .next s) ∧
  (∀ s : State, s.hears .a = true → s.mastering .a = false → ∃ t,
    exec .hornDetected s = .next t ∧ t = s.setLineState .a 0 ∧ t.lineState .a = 0) ∧
  (∀ s : State, s.mastering .a = true → exec .hornDetected s = .next s) ∧
  (∀ (s : State) (p : Port), s.mastering p = true → s.ccLink = true → s.lineState p = 0 → s.rf (lkF p F.LINE_QUIET_CTL.quiet_after_s) ≠ 0 →
    1000 * s.rf (lkF p F.LINE_QUIET_CTL.quiet_after_s) ≤ (s.mst p).idle → s.noLeases p = true → (s.mst p).queue = [] → (s.mst p).quietAt = none →
    (s.mst p).horn = none → (s.mst p).takeover = none → (s.lnk p).urgent = [] →
    exec (.quietEntry p) s = .next (s.post p (newMsg s.lpc 0xFF tyPowerDirective [] .quiet))) ∧
  (∀ (s : State) (p : Port), s.rf (lkF p F.LINE_QUIET_CTL.quiet_after_s) = 0 → exec (.quietEntry p) s = .next s) ∧
  (∀ (s : State) (p : Port) (q : Word), (s.mst p).quietAt = some q → s.mastering p = true → later q s.lpc = false → ∃ t, exec (.quietCycle p) s = .next t ∧
    t = (s.modMst p (fun m => { m with quietAt := none, owner := none })).setLineState p 1 ∧ t.lineState p = 1) ∧
  (∀ (s : State) (p : Port), (s.mst p).quietAt = none → exec (.quietCycle p) s = .next s)

/-- The master's periodic work (R112, R128, R129, R162, R168, R183): the parts of the roster in turn, the time, both parts of the lease audit and
numbered checkpoints are queued while the line is Active; a lease that 8 cycles have missed is freed and counted, and a node unheard for 196,608
Active cycles leaves the roster. -/
def Obligations.MastersKeepTheirTables : Prop :=
  (∀ (s : State) (p : Port) (i : Nat), s.works p = true → (s.mst p).takeover = none → i = (s.mst p).rosterPart % rosterParts (s.mst p) →
    exec (.rosterFullPart p) s = .next ((s.rosterPart p i).modMst p (fun m => { m with rosterPart := (i + 1) % rosterParts m }))) ∧
  (∀ (s : State) (p : Port) (utc : Dword) (o : Half) (v : Bool), s.works p = true → exec (.timePeriodic p utc o v) s =
    .next (s.post p (newMsg s.lpc 0xFF tyTime (timePayload s.lpc utc o v) .none))) ∧
  (∀ (s : State) (p : Port), s.works p = true → exec (.leaseAuditPeriodic p) s = .next ((s.postAudit p 0 false false).postAudit p 1 false false)) ∧
  (∀ (s : State) (p : Port), s.works p = false → exec (.rosterFullPart p) s = .next s ∧ exec (.leaseAuditPeriodic p) s = .next s ∧
    exec (.checkpointSnapshot p) s = .next s ∧ ∀ utc o v, exec (.timePeriodic p utc o v) s = .next s) ∧
  (∀ (s : State) (p : Port) (r : Nat) (n : Word) (c : Nat) (b : List Byte), (s.mst p).rearguard = some r → s.works p = true → (s.mst p).takeover = none →
    (s.mst p).snapshot = none → n = (s.mst p).ckptNumber + 1 → b = s.ckptData p ++ toBe 4 (ckptCrc n (s.ckptData p)) → c = (b.length + 151) / 152 →
    exec (.checkpointSnapshot p) s = .next ((s.modMst p (fun m => { m with ckptNumber := n, snapshot := some s.lpc, ckptSending := true })).postParts p r n c b 0 c)) ∧
  (∀ (s : State) (p : Port) (k : Fin 64) (l : MLease), (s.mst p).lease k.val = some l → s.works p = true → 8 ≤ l.missed → exec (.leaseLapse p k) s =
    .next (((s.leaseChange p (fun m => m.freeSlots [k.val] 5)).bump (lkF p F.LINE_LINK_ERR2.leases_lapsed)).ownRouteEnds p l)) ∧
  (∀ (s : State) (p : Port) (k : Fin 64) (l : MLease), (s.mst p).lease k.val = some l → l.missed < 8 → exec (.leaseLapse p k) s = .next s) ∧
  (∀ (s : State) (p : Port) (a : Fin 128) (r : MasterRow), (s.mst p).rowOf a.val = some r → s.works p = true → 196608 ≤ r.unheard → s.addr p ≠ some a.val →
    exec (.rosterEntryExpiry p a) s = .next (s.removeNode p r)) ∧
  (∀ (s : State) (p : Port) (a : Fin 128) (r : MasterRow), (s.mst p).rowOf a.val = some r → r.unheard < 196608 → exec (.rosterEntryExpiry p a) s = .next s)

/-- Takeovers (R118, R172 to R177, Table 4-5): a rearguard on a locked line that misses 3 beacons becomes its master and counts it; the holders
nobody has heard lose their slots; a ranging bell gives its node's advance, sent to it; re-ranging ends 64 cycles after the takeover. -/
def Obligations.RearguardsTakeOver : Prop :=
  (∀ (s : State) (b : Beacon), s.link.beacon = some b → s.isRearguard = true → s.masterCapable = true → s.locked = true → s.lineDown = false →
    s.hears .a = true → s.ccLink = true → 3 ≤ s.rf F.PLT_LPC_STATUS.missed_beacons → ∃ t, exec .takeover s = .next t ∧ t.mastering .a = true ∧
    t.on F.LINE_MASTER_STATUS.re_ranging = true ∧ t.on F.LINE_MASTER_STATUS.established = false ∧ t.rear.followed = some b ∧ t.rear.fill = none) ∧
  (∀ s : State, s.rf F.PLT_LPC_STATUS.missed_beacons < 3 ∨ s.isRearguard = false → exec .takeover s = .next s) ∧
  (∀ (s : State) (p : Port) (k : Fin 2), (s.mst p).takeover = none → exec (.takeoverReclaim p k) s = .next s) ∧
  (∀ (s : State) (p : Port) (k : Fin 2) (c : Word) (gone : List (Nat × Nat)), (s.mst p).takeover = some c → s.works p = true →
    later (c + 17 + BitVec.ofNat 32 k.val) s.lpc = false →
    gone = ((s.mst p).audited.filter (fun x => decide (x.1 / 32 = k.val))).filter (fun x => !(s.mst p).heard.contains x.2 && decide (s.addr p ≠ some x.2)
      && (match (s.mst p).lease x.1 with | some l => decide (l.holder = x.2) | none => false)) →
    exec (.takeoverReclaim p k) s = .next ((s.modMst p (fun m => { m with audited := m.audited.filter (fun x => decide (x.1 / 32 ≠ k.val)) })).leaseChange p
      (fun m => if gone.isEmpty then (m, []) else m.freeSlots (gone.map (fun x => x.1)) 5))) ∧
  (∀ (s : State) (p : Port) (k : Fin 16) (n a : Nat) (c : Word) (r : MasterRow), a = 8 * k.val + s.lpc.toNat % 8 → (s.mst p).takeover = some c →
    (s.mst p).rowOf a = some r → s.mastering p = true → s.hears p = true → s.ccLink = true → later (c + 64) s.lpc = true → later c s.lpc = false → n ≤ 704 →
    s.addr p ≠ some a → ∃ u, exec (.rangingBellReceived p k n) s =
      .next (u.post p (newMsg s.lpc 0xFF tyAddressAssign (assignPayload r.row.uid 0 1 a n r.admitted) .none)) ∧
      u = s.modMst p (fun m => { m.modRow a (fun r => { r with rtd := n, unheard := 0 }) with
        heard := if m.heard.contains a then m.heard else a :: m.heard
        ranged := if m.ranged.contains a then m.ranged else a :: m.ranged
        rangedNow := a :: m.rangedNow })) ∧
  (∀ (s : State) (p : Port) (k : Fin 16) (n : Nat), (s.mst p).takeover = none → exec (.rangingBellReceived p k n) s = .next s) ∧
  (∀ (s : State) (c : Word), s.link.reRange = some c → later (c + 64) s.lpc = false → ∃ t, exec .reRangingEnd s = .next t ∧
    t.link = { s.link with reRange := none } ∧ t.on F.LINE_MASTER_STATUS.re_ranging = false ∧ OnlyThese [.regs, .link] [F.LINE_MASTER_STATUS.re_ranging.off] s t) ∧
  (∀ (s : State) (c : Word), s.link.reRange = some c → later (c + 64) s.lpc = true → exec .reRangingEnd s = .next s) ∧
  (∀ (s : State) (c : Word), s.link.reRange = none → s.master.takeover = some c → later (c + 64) s.lpc = false → s.mastering .a = true → s.ccLink = true → ∃ u,
    exec .reRangingEnd s = .next (State.nameRear ((((s.master.roster.filter (fun r => !s.master.ranged.contains r.row.addr && decide (s.addr .a ≠ some r.row.addr))).map
      (fun r => r.row.addr))).foldl (fun t a => t.pollNode .a a 2) u) .a) ∧
    u.master = { s.master with takeover := none, audited := [], heard := [], ranged := [] } ∧ u.rear = Rearguard.reset ∧
    u.on F.LINE_MASTER_STATUS.re_ranging = false ∧ OnlyThese [.regs, .master, .rear] [F.LINE_MASTER_STATUS.re_ranging.off] s u)

/-- What a node sends in its turn (R76, R93, R95 to R98, R106, R113, R118, R130, R175, Table 2-11): the pairs of its own bell position; its ranging
bell; in its own frame a poll's reply before every message, else the first that need not wait; the slots whose leases have begun; a join request
in an open window when its wait is over. Out of its turn it sends nothing. -/
def Obligations.NodesSendInTheirTurn : Prop :=
  (∀ (s : State) (p : Port) (a : Nat), s.mayRing p = true → s.mastering p = false → s.addr p = some a → (s.lnk p).reRange = none → ∃ t,
    exec (.bellSend p) s = .next t ∧ OnlyThese [.phy, .link, .way] [] s t ∧
    ((s.lnk p).busy = true → Burst.bell p a 0 (s.rf (lkF p F.LINE_ADDR.rtd)) ∈ t.phy.tx) ∧
    (((s.lnk p).ring1 || (s.lnk p).ring12) = true → (s.lnk p).reqs.any TalkReq.toRing = true → Burst.bell p a 1 (s.rf (lkF p F.LINE_ADDR.rtd)) ∈ t.phy.tx) ∧
    (∀ m, (s.lnk p).head = some m → s.isUrgent p m = true → Burst.bell p a 2 (s.rf (lkF p F.LINE_ADDR.rtd)) ∈ t.phy.tx) ∧
    ((s.lnk p).head = none → (s.lnk p).busy = false → ((s.lnk p).ring1 || (s.lnk p).ring12) = false → t.phy = s.phy)) ∧
  (∀ (s : State) (p : Port), s.mayRing p = true → s.mastering p = true → exec (.bellSend p) s = .next (s.ringSleepers p)) ∧
  (∀ (s : State) (p : Port), s.mayRing p = false → exec (.bellSend p) s = .next s) ∧
  (∀ (s : State) (p : Port) (c : Word), s.mastering p = false → (s.lnk p).reRange = some c → exec (.bellSend p) s = .next s) ∧
  (∀ (s : State) (a : Nat), s.addr .a = some a → s.mayTx .a = true → s.ccLink = true → s.coreOn = true → s.mastering .a = false → s.rangesNow a = true → ∃ t,
    exec .rangingBellSend s = .next t ∧ t.phy.tx = s.phy.tx ++ [.ranging (a / 8)] ∧ t.link = { s.link with reRangeRung := true } ∧
    OnlyThese [.phy, .link] [] s t) ∧
  (∀ s : State, s.addr .a = none ∨ s.mastering .a = true → exec .rangingBellSend s = .next s) ∧
  (∀ (s : State) (p : Port) (a : Nat) (reason : Byte), s.addr p = some a → s.mayTx p = true → s.ccLink = true → s.coreOn = true → s.lineState p = 0 →
    s.ownsFrame p = true → (s.lnk p).rangeReply = some reason → ∃ t header payload crc, exec (.ledgerFrameSend p) s = .next t ∧
    t.phy.tx = s.phy.tx ++ [.ledger p header payload crc] ∧
    header = ledgerHeader (BitVec.ofNat 8 a) (BitVec.ofNat 8 (s.masterAddr p)) (BitVec.ofNat 8 tyRangeReply) 160 (s.lnk p).seq 0 ∧
    payload = toBe 6 s.dev.uid.toNat ++ [reason, BitVec.ofNat 8 s.pwr.state] ++ toBe 24 0 ++ longTraining ∧
    crc = BitVec.ofNat 32 (ledgerCrc s.lpc header payload) ∧ (t.lnk p).rangeReply = none) ∧
  (∀ (s : State) (p : Port) (a : Nat) (m : Msg), s.addr p = some a → s.mayTx p = true → s.ccLink = true → s.coreOn = true → s.lineState p = 0 →
    s.ownsFrame p = true → (s.lnk p).rangeReply = none → s.sendable p = some m → exec (.ledgerFrameSend p) s = .next (s.sendMsg p a m)) ∧
  (∀ (s : State) (p : Port), (s.lnk p).rangeReply = none → s.sendable p = none → exec (.ledgerFrameSend p) s = .next s) ∧
  (∀ (s : State) (p : Port), s.ownsFrame p = false ∨ s.lineState p ≠ 0 → exec (.ledgerFrameSend p) s = .next s) ∧
  (∀ (s : State) (p : Port) (k : Fin 64) (a : Nat) (h : HeldLease) (x : SlotPlan), s.addr p = some a →
    (s.lnk p).held.find? (fun h => decide (h.slot = k.val) && !later h.start s.lpc) = some h → s.mayTx p = true → s.coreOn = true → s.lineState p = 0 →
    s.sendsIn p k.val = false → x = s.slotPlan p h → ∃ t header, exec (.slotSend p k) s = .next t ∧
    header = slotHeader a h.group x.seq x.format x.raised x.tone (s.slotEnds p h) x.muted ∧
    t.phy.tx = s.phy.tx ++ [.slot p k.val header (s.slotPayload x) (BitVec.ofNat 16 (slotCrc s.lpc k.val header (s.slotPayload x)))] ∧
    OnlyThese [.regs, .phy, .master, .way, .hif, .dbg, .free] [0x1414, 0x6028, 0x6848] s t) ∧
  (∀ (s : State) (p : Port) (k : Fin 64), (s.lnk p).held.find? (fun h => decide (h.slot = k.val) && !later h.start s.lpc) = none →
    exec (.slotSend p k) s = .next s) ∧
  (∀ (s : State) (p : Port) (k : Fin 64), s.lineState p ≠ 0 → exec (.slotSend p k) s = .next s) ∧
  (∀ (s : State) (b : Beacon) (nonce : BitVec 10) (body : List Byte), s.link.beacon = some b → b.joinOpen = true → s.joining .a = true → s.mayTx .a = true →
    s.ccLink = true → s.coreOn = true → s.link.joinWindow ≠ 0 → s.link.joinWait = 0 → s.link.joinSent = none →
    body = toBe 6 s.dev.uid.toNat ++ toBe 2 (s.nonceWord nonce) → ∃ t, exec (.joinRequestSend nonce) s = .next t ∧
    t.phy.tx = s.phy.tx ++ [.join (body ++ toBe 2 (joinCrc s.lpc body))] ∧
    t.link = { s.link with joinSent := some s.lpc, nonce := some (BitVec.ofNat 16 (s.nonceWord nonce)) } ∧ OnlyThese [.phy, .link] [] s t) ∧
  (∀ (s : State) (nonce : BitVec 10), s.joining .a = false ∨ s.link.joinWait ≠ 0 ∨ s.link.joinSent.isSome = true →
    exec (.joinRequestSend nonce) s = .next s)

/-- What reaches a node apart from ledger frames (R71, R72, R79, R81, R99, R104, R105, R115, R140, R141, R540): a slot with training, a valid CRC and a
format of Table 2-9 is kept for the mixer, one that fails is counted; a bell at its own position wakes a sleeping node; the master reads the bell
field and chooses the next frame's owner; it admits a join request of an open window. -/
def Obligations.NodesHearBurstsAndBells : Prop :=
  (∀ (s : State) (k : Fin 64) (b : SlotBurst) (x : RxSlot), s.hears b.port = true → s.coreOn = true → s.sendsIn b.port k.val = false → b.trained = true →
    b.crc.toNat = slotCrc s.lpc k.val b.header b.payload → x = parseSlot b.port b.header b.payload → x.format < 5 → s.mixPort = b.port → ∃ t,
    exec (.slotReceived k b) s = .next t ∧ t.mix = { s.mix with rx := Cells.set (fun _ => none) s.mix.rx k.val (some x) } ∧
    OnlyThese [.regs, .phy, .link, .master, .way, .mix, .hif, .free] (dropCounts ++ [0x2048, 0x2058, 0x2080, 0x2084, 0x20C0, 0x20C4]) s t) ∧
  (∀ (s : State) (k : Fin 64) (b : SlotBurst), s.hears b.port = true → s.coreOn = true → s.sendsIn b.port k.val = false → b.trained = true →
    b.crc.toNat = slotCrc s.lpc k.val b.header b.payload → 5 ≤ (parseSlot b.port b.header b.payload).format → ∃ t, exec (.slotReceived k b) s = .next t ∧
    t.rf (rxF b.port F.LINE_RX_ERR1.format_reserved) = min (s.rf (rxF b.port F.LINE_RX_ERR1.format_reserved) + 1) 255 ∧ t.mix = s.mix) ∧
  (∀ (s : State) (k : Fin 64) (b : SlotBurst), s.hears b.port = true → s.coreOn = true → s.sendsIn b.port k.val = false → b.trained = true →
    b.crc.toNat ≠ slotCrc s.lpc k.val b.header b.payload → ∃ t, exec (.slotReceived k b) s = .next t ∧
    t.rf (rxF b.port F.LINE_RX_ERR0.slot_crc) = min (s.rf (rxF b.port F.LINE_RX_ERR0.slot_crc) + 1) 65535 ∧ t.mix = s.mix) ∧
  (∀ (s : State) (k : Fin 64) (b : SlotBurst), b.trained = false ∨ s.sendsIn b.port k.val = true → exec (.slotReceived k b) s = .next s) ∧
  (∀ (s : State) (o : BellObs), s.hears .a = true → s.mastering .a = false → s.addr .a = some o.position.val → s.ringsOwn .a = false → s.rung .a o = true →
    s.pwr.state = 2 → exec (.bellReceived o) s = .next (s.wakeBy 1)) ∧
  (∀ (s : State) (o : BellObs), s.hears .a = true → s.mastering .a = false → s.addr .a = some o.position.val → s.ringsOwn .a = false → s.rung .a o = true →
    s.pwr.state = 3 → o.pair.val ≠ 1 → ∃ u, s.wakeBy 1 = u ∧
    exec (.bellReceived o) s = .next { u with pwr := { u.pwr with bellUntil := some (u.lpc + 16) } }) ∧
  (∀ (s : State) (o : BellObs), s.rung .a o = false ∨ s.addr .a ≠ some o.position.val ∨ s.pwr.state < 2 → exec (.bellReceived o) s = .next s) ∧
  (∀ (s u v : State) (p : Port) (os : List BellObs), s.mastering p = true → s.hears p = true → s.ccLink = true → s.lineState p = 0 →
    u = { s with plt := { s.plt with sym := max s.plt.sym 1024 } } →
    v = ((List.range 128).filter (fun a => (u.ringers p os 0).contains a || (u.ringers p os 1).contains a || (u.ringers p os 2).contains a)).foldl
      (fun t a => t.bellFrom p a) u →
    (u.ringers p os 1).isEmpty = true → (u.ringers p os 2).isEmpty = true → ((v.ownRequests p).dueRepeats p).lineState p = 0 →
    exec (.bellFieldRead p os) s = .next (((v.ownRequests p).dueRepeats p).chooseOwner p [] ((List.range 128).filter (fun a =>
      (u.ringers p os 0).contains a || (((v.ownRequests p).dueRepeats p).mst p).rangedNow.contains a)))) ∧
  (∀ (s : State) (p : Port) (os : List BellObs), s.mastering p = false → exec (.bellFieldRead p os) s = .next s) ∧
  (∀ (s : State) (j : JoinBurst) (b : Beacon) (uid : Uid), s.mastering j.port = true → s.hears j.port = true → s.ccLink = true →
    (s.mst j.port).last = some b → b.joinOpen = true → b.cycle = s.lpc → j.arrival ≤ 704 → beAt j.body 8 2 = joinCrc s.lpc j.body →
    uid = BitVec.ofNat 48 (beAt j.body 0 6) → uid ≠ s.dev.uid → exec (.joinRequestReceived j) s =
    .next (State.joinFrom { s with plt := { s.plt with sym := max s.plt.sym 15480 } } j.port uid (beAt j.body 6 2) j.arrival)) ∧
  (∀ (s : State) (j : JoinBurst) (b : Beacon), s.mastering j.port = true → s.hears j.port = true → s.ccLink = true →
    (s.mst j.port).last = some b → b.joinOpen = true → b.cycle = s.lpc → j.arrival ≤ 704 → beAt j.body 8 2 ≠ joinCrc s.lpc j.body → ∃ t,
    exec (.joinRequestReceived j) s = .next t ∧ t.master = s.master ∧ t.way = s.way ∧
    t.rf (rxF j.port F.LINE_RX_ERR2.join_crc) = min (s.rf (rxF j.port F.LINE_RX_ERR2.join_crc) + 1) 65535) ∧
  (∀ (s : State) (j : JoinBurst), s.mastering j.port = false ∨ 704 < j.arrival ∨ (s.mst j.port).last = none → exec (.joinRequestReceived j) s = .next s)

/-- The stack link (R188 to R190, Table 4-6): a valid header from the master sets a member's generations, which members are present and the tree
mismatch; a valid window marks its member present and its entries reach their clients; the third bad window in a row makes the member absent. The
layout of the header and that a window brings its entries as operands are the model's choice (log 60). -/
def Obligations.StackPartsExchangeHeadersAndWindows : Prop :=
  (∀ (s : State) (bytes : List Byte), s.stackOn = true → s.rf F.STK_CTL.member_id ≠ 0 → stackCrcOk bytes 60 = true → ∃ t, exec (.stackHeader bytes) s = .next t ∧
    t.stack = { s.stack with header := some bytes } ∧ t.rf F.STK_GEN.gen = leAt bytes 5 4 ∧
    (leAt bytes 5 4 ≠ s.rf F.STK_GEN.gen → t.on F.GLB_BLOCK_RESET.stack = true) ∧
    OnlyThese [.regs, .stack] [F.STK_GEN.gen.off, F.GLB_BLOCK_RESET.stack.off, F.STK_STATUS.present.off] s t) ∧
  (∀ (s : State) (bytes : List Byte), s.stackOn = false ∨ s.rf F.STK_CTL.member_id = 0 ∨ stackCrcOk bytes 60 = false → exec (.stackHeader bytes) s = .next s) ∧
  (∀ (s u : State) (n : Fin 4) (bytes : List Byte) (es : List StackEntry), s.stackOn = true → s.rf F.STK_CTL.member_id = 0 → n.val ≠ 0 →
    stackCrcOk bytes 1916 = true → u = (s.setBit F.STK_STATUS.present n.val).setBit F.STK_STATUS.present 0 →
    exec (.stackWindow n bytes es) s = .next (es.foldl (fun t e => t.stackEntry n.val e) { u with stack := { u.stack with
      crcRun := u.stack.crcRun.set n.val 0, audio := u.stack.audio.set n.val (some (bytes.take 256)) } })) ∧
  (∀ (s : State) (n : Fin 4) (bytes : List Byte) (es : List StackEntry), s.stackOn = true → s.rf F.STK_CTL.member_id = 0 → n.val ≠ 0 →
    stackCrcOk bytes 1916 = false → s.stack.crcRun.getD n.val 0 < 2 → ∃ t, exec (.stackWindow n bytes es) s = .next t ∧
    t.stack = { s.stack with crcRun := s.stack.crcRun.set n.val (s.stack.crcRun.getD n.val 0 + 1) } ∧
    t.rf F.STK_STATUS.window_crc = min (s.rf F.STK_STATUS.window_crc + 1) (2 ^ F.STK_STATUS.window_crc.width - 1) ∧
    OnlyThese [.regs, .stack] [F.STK_STATUS.window_crc.off] s t) ∧
  (∀ (s u : State) (n : Fin 4) (bytes : List Byte) (es : List StackEntry), s.stackOn = true → s.rf F.STK_CTL.member_id = 0 → n.val ≠ 0 →
    stackCrcOk bytes 1916 = false → s.stack.crcRun.getD n.val 0 = 2 → u = s.bump F.STK_STATUS.window_crc →
    exec (.stackWindow n bytes es) s = .next (State.memberGone { u with stack := { s.stack with crcRun := s.stack.crcRun.set n.val 3 } } n.val)) ∧
  (∀ (s : State) (n : Fin 4) (bytes : List Byte) (es : List StackEntry), s.stackOn = false ∨ s.rf F.STK_CTL.member_id ≠ 0 →
    exec (.stackWindow n bytes es) s = .next s)

/-- Whatever its type, a ledger frame is checked first (R75, R108, R109, R540): a node that does not hear the port, or is in S3 or deeper, misses it;
one too long or with a failed CRC is counted and dropped; so is one with a length its type does not have, and one already processed. That a
master repeats a MONITOR it hears for another node is the model's reading (log 105). -/
def Obligations.LedgerFramesAreChecked : Prop :=
  (∀ (s : State) (f : LedgerFrame) (n : Nat) (c : Instr), c ∈ ledgerCommands f n → s.hears f.port = false → exec c s = .next s) ∧
  (∀ (s : State) (f : LedgerFrame) (n : Nat) (c : Instr), c ∈ ledgerCommands f n → 3 ≤ s.pwr.state → exec c s = .next s) ∧
  (∀ (s : State) (f : LedgerFrame) (n : Nat) (c : Instr), c ∈ ledgerCommands f n → s.hears f.port = true → s.pwr.state < 3 → 160 < f.length.toNat →
    exec c s = .next (s.bump (rxF f.port F.LINE_RX_ERR1.ledger_oversize))) ∧
  (∀ (s : State) (f : LedgerFrame) (n : Nat) (c : Instr), c ∈ ledgerCommands f n → s.hears f.port = true → s.pwr.state < 3 → f.length.toNat ≤ 160 →
    s.frameCrcOk f = false → ∃ t, exec c s = .next t ∧
    t.rf (rxF f.port F.LINE_RX_ERR1.ledger_crc) = min (s.rf (rxF f.port F.LINE_RX_ERR1.ledger_crc) + 1) (2 ^ F.LINE_RX_ERR1.ledger_crc.width - 1) ∧
    OnlyThese [.regs, .phy, .link, .master, .way] [0x2044, 0x2054, 0x2084, 0x20C4] s t) ∧
  (∀ (s : State) (f : LedgerFrame) (n : Nat) (c : Instr), c ∈ ledgerCommands f n → s.hears f.port = true → s.pwr.state < 3 → f.length.toNat ≤ 160 →
    s.frameCrcOk f = true → s.ccLink = true → f.typ.toNat ≠ tyRangeReply → (s.checkedFrame f).forMe f.port f.destination = false →
    s.mastering f.port = false → exec c s = .next (s.checkedFrame f)) ∧
  (∀ (s : State) (f : LedgerFrame), s.hears f.port = true → s.pwr.state < 2 → f.length.toNat ≤ 160 → s.frameCrcOk f = true → s.ccLink = true →
    f.typ.toNat = tyMonitor → lengthOk tyMonitor f.payload = true → f.length.toNat = f.payload.length →
    (s.checkedFrame f).forMe f.port f.destination = false → s.addr f.port ≠ some f.destination.toNat → f.destination.toNat < 0x80 →
    s.mastering f.port = true → f.flags.getLsbD 0 = false → exec (.monitor f) s = .next ((s.checkedFrame f).relay f)) ∧
  (∀ (s : State) (f : LedgerFrame) (n : Nat) (c : Instr), c ∈ ledgerCommands f n → s.hears f.port = true → s.pwr.state < 3 → f.length.toNat ≤ 160 →
    s.frameCrcOk f = true → s.ccLink = true → f.typ.toNat ≠ tyRangeReply → (s.checkedFrame f).forMe f.port f.destination = true →
    lengthOk f.typ.toNat f.payload = false → exec c s = .next ((s.checkedFrame f).bump (lkF f.port F.LINE_LINK_ERR.ledger_bad_type))) ∧
  (∀ (s : State) (f : LedgerFrame) (n : Nat) (c : Instr), c ∈ ledgerCommands f n → s.hears f.port = true → s.pwr.state < 3 → f.length.toNat ≤ 160 →
    s.frameCrcOk f = true → s.ccLink = true → f.typ.toNat ≠ tyRangeReply → (s.checkedFrame f).forMe f.port f.destination = true →
    lengthOk f.typ.toNat f.payload = true → f.length.toNat = f.payload.length →
    (s.checkedFrame f).isDup f.port (f.source.toNat % 128) f.sequence = true →
    exec c s = .next (s.checkedFrame f) ∨ exec c s = .next ((s.checkedFrame f).bump (lkF f.port F.LINE_LINK_ERR.ledger_dup)))

/-- What each ledger message does at a node that accepts it (R83, R99, R102, R108, R116, R118, R121, R124 to R126, R128, R129, R136 to R138, R162,
R165, R170, R171, R178, R262, R553, R599, R680): an address, an advance or a refusal for the UID it names; a reply to a poll; at the master a
lease request, a release and a node's report; at its followers grants, audits, the roster, the time and directives. That an operation of
GROUP_PUSH above 2 is not obeyed is the model's reading (log 41). -/
def Obligations.LedgerMessagesTakeEffect : Prop :=
  (∀ (s u : State) (f : LedgerFrame), Accepted s f tyAddressAssign u → beAt f.payload 0 6 = u.dev.uid.toNat → byteAt f.payload 8 = 0 →
    (u.lnk f.port).nonce = some (BitVec.ofNat 16 (beAt f.payload 6 2)) →
    exec (.addressAssign f) s = .next (u.takeAddress f.port (byteAt f.payload 9 % 128) (beAt f.payload 10 2) (byteAt f.payload 12))) ∧
  (∀ (s u : State) (f : LedgerFrame), Accepted s f tyAddressAssign u → beAt f.payload 0 6 = u.dev.uid.toNat → byteAt f.payload 8 = 1 →
    (u.addr f.port).isSome = true → exec (.addressAssign f) s = .next (u.takeTiming f.port (beAt f.payload 10 2) (byteAt f.payload 12))) ∧
  (∀ (s u : State) (f : LedgerFrame), Accepted s f tyAddressAssign u → beAt f.payload 0 6 = u.dev.uid.toNat → byteAt f.payload 8 = 3 →
    (u.addr f.port).isSome = true → exec (.addressAssign f) s = .next (u.giveUpAddress f.port 3)) ∧
  (∀ (s u : State) (f : LedgerFrame), Accepted s f tyAddressAssign u → beAt f.payload 0 6 ≠ u.dev.uid.toNat → exec (.addressAssign f) s = .next u) ∧
  (∀ (s u : State) (f : LedgerFrame), Accepted s f tyRangePoll u → beAt f.payload 0 6 = u.dev.uid.toNat → (u.addr f.port).isSome = true →
    exec (.rangePoll f) s = .next (u.modLnk f.port (fun l => { l with rangeReply := some (BitVec.ofNat 8 (byteAt f.payload 6)) }))) ∧
  (∀ (s u : State) (f : LedgerFrame) (n : Nat) (r : MasterRow), Accepted s f tyRangeReply u → (u.mst f.port).rowOf (f.source.toNat % 128) = some r →
    u.mastering f.port = true → beAt f.payload 0 6 = r.row.uid.toNat →
    exec (.rangeReply f n) s = .next ((u.ranged f.port r n).trainEq f.port (f.source.toNat % 128))) ∧
  (∀ (s u : State) (f : LedgerFrame) (n : Nat), Accepted s f tyRangeReply u → u.mastering f.port = false →
    exec (.rangeReply f n) s = .next (u.trainEq f.port (f.source.toNat % 128))) ∧
  (∀ (s u : State) (f : LedgerFrame) (q : MReq), Accepted s f tyLeaseReq u → u.fromMember f = true → byteAt f.payload 0 = 0 → byteAt f.payload 1 ≤ 63 →
    byteAt f.payload 2 = 1 ∨ byteAt f.payload 2 = 2 → byteAt f.payload 3 ≤ 3 → byteAt f.payload 4 ≤ 2 →
    q = { addr := f.source.toNat % 128, group := byteAt f.payload 1, format := byteAt f.payload 2, prec := byteAt f.payload 3, catchup := byteAt f.payload 4,
          reqId := BitVec.ofNat 16 (beAt f.payload 6 2) } →
    (u.mst f.port).queue.find? (fun x => decide (x.addr = q.addr) && decide (x.reqId = q.reqId)) = none →
    exec (.leaseReq f) s = .next (u.leaseChange f.port (fun m => { m with idle := 0 }.answer q))) ∧
  (∀ (s u : State) (f : LedgerFrame), Accepted s f tyLeaseReq u → u.fromMember f = false → exec (.leaseReq f) s = .next u) ∧
  (∀ (s u : State) (f : LedgerFrame), Accepted s f tyLeaseGrant u → u.mastering f.port = false →
    exec (.leaseGrant f) s = .next (u.takeGrants f.port f.payload).proxyUpdate) ∧
  (∀ (s u : State) (f : LedgerFrame) (ks : List Nat), Accepted s f tyLeaseRelease u → u.fromMember f = true →
    ks = (releasedSlots f.payload).filter (fun k => match (u.mst f.port).lease k with | some l => decide (l.holder = f.source.toNat % 128) | none => false) →
    ks ≠ [] → exec (.leaseRelease f) s = .next (u.leaseChange f.port (fun m => m.freeSlots ks 4))) ∧
  (∀ (s u : State) (f : LedgerFrame), Accepted s f tyLeaseRelease u → u.fromMember f = false → exec (.leaseRelease f) s = .next u) ∧
  (∀ (s u : State) (f : LedgerFrame), Accepted s f tyLeaseAudit u → u.mastering f.port = false →
    exec (.leaseAudit f) s = .next (u.takeAudit f.port f.payload).proxyUpdate) ∧
  (∀ (s u : State) (f : LedgerFrame) (x : CallIn), x = callOf f.port f.payload → Accepted s f tyCall u → u.mastering f.port = false → u.wayOn = false →
    u.seenCall x = false → u.concerned x = true → bitOf (byteAt f.payload 3) 3 = false → ∃ v,
    exec (.call f) s = .next ((State.callIn v x).forwardCall f.port f.payload) ∧
    v = u.modLnk f.port (fun l => { l with callsSeen := (x.caller, x.callId) :: l.callsSeen })) ∧
  (∀ (s u : State) (f : LedgerFrame), Accepted s f tyCall u → u.mastering f.port = false → u.seenCall (callOf f.port f.payload) = true →
    exec (.call f) s = .next u) ∧
  (∀ (s u : State) (f : LedgerFrame) (r : Nat) (c : CallRec), Accepted s f tyCallAck u → u.mastering f.port = false → u.wayOn = false →
    u.ackedRec f.port f.payload = some r → u.callRec r = some c → c.acked = false → byteAt f.payload 4 = 0 → ∃ v, exec (.callAck f) s = .next v ∧
    v = State.answerWakes ((u.setCall r (some { c with acked := true })).raise 2 (byteAt f.payload 3) r 0 (BitVec.ofNat 32 c.callId.toNat))) ∧
  (∀ (s u : State) (f : LedgerFrame), Accepted s f tyRoster u → u.mastering f.port = false → exec (.roster f) s = .next (u.takeRoster f.port f.payload)) ∧
  (∀ (s u : State) (f : LedgerFrame), Accepted s f tyCheckpoint u → u.isRearguard = true → f.port = .a → byteAt f.payload 4 = 0 → byteAt f.payload 5 ≠ 1 →
    exec (.checkpoint f) s = .next { u with rear := { u.rear with
      fill := some ⟨BitVec.ofNat 32 (beAt f.payload 0 4), 1, byteAt f.payload 5, f.payload.drop 8⟩ } }) ∧
  (∀ (s u : State) (f : LedgerFrame) (x : Fill), Accepted s f tyCheckpoint u → u.isRearguard = true → f.port = .a → u.rear.fill = some x →
    byteAt f.payload 4 ≠ 0 → x.number = BitVec.ofNat 32 (beAt f.payload 0 4) → x.next = byteAt f.payload 4 → byteAt f.payload 4 + 1 = x.count →
    exec (.checkpoint f) s = .next (u.promote { x with next := byteAt f.payload 4 + 1, data := x.data ++ f.payload.drop 8 })) ∧
  (∀ (s u : State) (f : LedgerFrame), Accepted s f tyCheckpoint u → u.isRearguard = false → exec (.checkpoint f) s = .next u) ∧
  (∀ (s u : State) (f : LedgerFrame), Accepted s f tyTime u → u.on F.PWR_CTL.rtc_from_line = true → bitOf (beAt f.payload 14 2) 0 = true → ∃ t,
    exec (.time f) s = .next t ∧ t.rf F.PWR_RTC.seconds = beAt f.payload 4 8 % 2 ^ 32 ∧ OnlyThese [.regs] [F.PWR_RTC.seconds.off] u t) ∧
  (∀ (s u : State) (f : LedgerFrame), Accepted s f tyTime u → u.on F.PWR_CTL.rtc_from_line = false → exec (.time f) s = .next u) ∧
  (∀ (s u : State) (f : LedgerFrame), Accepted s f tyPowerDirective u → u.mastering f.port = false → byteAt f.payload 0 = 0 →
    exec (.powerDirective f) s = .next (u.modLnk f.port (fun l => { l with quietAt := some (BitVec.ofNat 32 (beAt f.payload 4 4)) }))) ∧
  (∀ (s u : State) (f : LedgerFrame), Accepted s f tyPowerDirective u → u.mastering f.port = false → byteAt f.payload 0 = 1 →
    u.addr f.port = some (byteAt f.payload 1) → exec (.powerDirective f) s = .next (u.takeClass f.port (byteAt f.payload 2))) ∧
  (∀ (s u : State) (f : LedgerFrame) (r : MasterRow), Accepted s f tyNodeStatus u → u.mastering f.port = true →
    (u.mst f.port).rowOf (f.source.toNat % 128) = some r → exec (.nodeStatus f) s = .next (u.statusFrom f.port r f.payload)) ∧
  (∀ (s u : State) (f : LedgerFrame), Accepted s f tyNodeStatus u → u.mastering f.port = false → exec (.nodeStatus f) s = .next u) ∧
  (∀ (s u : State) (f : LedgerFrame), Accepted s f tyMonitor u → bitOf (byteAt f.payload 1) 0 = true ∨ f.destination.toNat < 0x80 →
    exec (.monitor f) s = .next (u.monFragment (f.source.toNat % 128) f.payload)) ∧
  (∀ (s u : State) (f : LedgerFrame), Accepted s f tyMonitor u → bitOf (byteAt f.payload 1) 0 = false → 0x80 ≤ f.destination.toNat →
    exec (.monitor f) s = .next (u.bump F.DBG_MON_STATUS.line_discards)) ∧
  (∀ (s u : State) (f : LedgerFrame), Accepted s f tyGroupPush u → u.on F.MIX_PUSH_CTL.accept = true → u.rf F.MIX_PUSH_CTL.min_prec ≤ byteAt f.payload 1 →
    byteAt f.payload 0 ≤ 2 → beAt f.payload 2 2 = 0 ∨ beAt f.payload 2 2 = u.rf F.MIX_ROOM.room_id → exec (.groupPush f) s = .next { u with mix := { u.mix with
      changes := u.mix.changes ++ [(17, 0, u.lpc + 1, .push (byteAt f.payload 0) (BitVec.ofNat 64 (beAt f.payload 4 8)))] } }) ∧
  (∀ (s u : State) (f : LedgerFrame), Accepted s f tyGroupPush u → u.on F.MIX_PUSH_CTL.accept = false → exec (.groupPush f) s = .next u)

/-- How the master answers a request for a lease (R122, R124, R125): a narrow one gets the lowest free slot; a bonded one the lowest free pair, or a
single slot when no pair is free; with none free an emergency request takes the slot of the routine lease granted last, any other, and an emergency
one that finds no routine lease, waits behind every request of its precedence and before those of lower ones. -/
def Obligations.MastersArbitrateLeases : Prop :=
  (∀ (s u : State) (f : LedgerFrame) (q : MReq), Accepted s f tyLeaseReq u → u.fromMember f = true → byteAt f.payload 0 = 0 → byteAt f.payload 1 ≤ 63 →
    byteAt f.payload 2 = 1 ∨ byteAt f.payload 2 = 2 → byteAt f.payload 3 ≤ 3 → byteAt f.payload 4 ≤ 2 →
    q = { addr := f.source.toNat % 128, group := byteAt f.payload 1, format := byteAt f.payload 2, prec := byteAt f.payload 3, catchup := byteAt f.payload 4,
          reqId := BitVec.ofNat 16 (beAt f.payload 6 2) } →
    (u.mst f.port).queue.find? (fun x => decide (x.addr = q.addr) && decide (x.reqId = q.reqId)) = none →
    exec (.leaseReq f) s = .next (u.leaseChange f.port (fun m => { m with idle := 0 }.answer q))) ∧
  (∀ (m : Master) (q : MReq) (k : Nat), k < 64 → m.lease k = none → (∀ j, j < k → m.lease j ≠ none) → q.format = 1 → q.catchup = 0 → m.answer q =
    (m.grantSlot k 1 q.addr q.group q.prec, [⟨0, q.addr, k, q.group, q.prec, 1, 0, q.reqId⟩])) ∧
  (∀ (m : Master) (q : MReq) (k : Nat), k < 64 → k % 2 = 0 → m.lease k = none → m.lease (k + 1) = none →
    (∀ j, j < k → j % 2 = 0 → m.lease j ≠ none ∨ m.lease (j + 1) ≠ none) → q.format = 2 → q.catchup = 0 → m.answer q =
    ((m.grantSlot k 2 q.addr q.group q.prec).grantSlot (k + 1) 3 q.addr q.group q.prec,
      [⟨0, q.addr, k, q.group, q.prec, 2, 0, q.reqId⟩, ⟨0, q.addr, k + 1, q.group, q.prec, 3, 0, q.reqId⟩])) ∧
  (∀ (m : Master) (q : MReq) (k : Nat), k < 64 → m.lease k = none → (∀ j, j < k → m.lease j ≠ none) →
    (∀ j, j < 64 → j % 2 = 0 → m.lease j ≠ none ∨ m.lease (j + 1) ≠ none) → q.format = 2 → q.catchup = 0 → m.answer q =
    (m.grantSlot k 1 q.addr q.group q.prec, [⟨0, q.addr, k, q.group, q.prec, 1, 0, q.reqId⟩])) ∧
  (∀ (m : Master) (q : MReq) (k : Nat) (l : MLease), (∀ j, j < 64 → m.lease j ≠ none) → q.prec = 3 → k < 64 → m.lease k = some l → l.prec = 0 →
    (∀ j x, j < 64 → j ≠ k → m.lease j = some x → x.prec = 0 → x.stamp < l.stamp) → m.answer q =
    ((m.setLease k none).grantSlot k 1 q.addr q.group q.prec,
      [⟨2, l.holder, k, l.group, l.prec, l.format, 0, 0⟩, ⟨0, q.addr, k, q.group, q.prec, 1, 0, q.reqId⟩])) ∧
  (∀ (m : Master) (q : MReq) (w : List MReq), (∀ j, j < 64 → m.lease j ≠ none) → q.prec ≠ 3 ∨ (∀ j x, j < 64 → m.lease j = some x → x.prec ≠ 0) →
    m.queue.length < 32 →
    w = m.queue.takeWhile (fun x => decide (q.prec ≤ x.prec)) ++ q :: m.queue.dropWhile (fun x => decide (q.prec ≤ x.prec)) →
    m.answer q = ({ m with queue := w }, [⟨1, q.addr, 0xFF, q.group, q.prec, q.format, queuePos w q.addr q.reqId, q.reqId⟩])) ∧
  (∀ (m : Master) (q : MReq) (ks : List MReq) (x : MReq), (∀ j, j < 64 → m.lease j ≠ none) → q.prec ≠ 3 → 32 ≤ m.queue.length → m.queue = ks ++ [x] →
    q.prec ≤ x.prec → m.answer q = (m, [⟨3, q.addr, 0xFF, q.group, q.prec, q.format, 0, q.reqId⟩]))

/-- Every command of the block completes, and every step keeps what must hold of it: whatever command is at the front of the queue, the block goes
on; a step leaves every addressed store (the registers, the SRAM, the flash, the standby buffer, the cartridge) in canonical form; no command
changes the part's identity, and the queue loses its front command alone. Only the canonical form is the model's own (log 3). -/
def Obligations.EveryCommandKeepsTheBlockSound : Prop :=
  (∀ (c : Instr) (s : State), ∃ t, exec c s = .next t ∧ t.dev = s.dev ∧ t.pending = s.pending ∧ (s.Canon → t.Canon)) ∧
  (∀ s t : State, s.Canon → step s = .next t → t.Canon) ∧
  (∀ (s t : State) (c : Instr) (q : List Instr), s.pending = c :: q → step s = .next t → t.pending = q ∧ t.dev = s.dev) ∧
  (∀ s : State, s.goesOn)

/-- What reset leaves (the register tables): every register whose table gives a reset value other than 0 holds it, an interrupt mask or
a count without one reads 0, no host client runs, nothing is locked or addressed, no command waits, and every addressed store is canonical. -/
def Obligations.ResetLeavesTheTableValues : Prop :=
  State.reset.Canon ∧ State.reset.pending = [] ∧ State.reset.locked = false ∧ State.reset.addr .a = none ∧ State.reset.addr .b = none ∧
  (∀ i, i < 16 → (State.reset.client i).running = false) ∧
  (∀ x ∈ ([
    (0x7010, 0x00000440), (0x7020, 0x00010000), (0x7024, 0x00010000), (0x2000, 0x00000001), (0x200C, 0x00002064), (0x2010, 0x00000041),
    (0x2088, 0x000000A6), (0x20C8, 0x000000A6), (0x208C, 0x05870258), (0x20CC, 0x05870258), (0x2100, 0x00000080), (0x2108, 0x00000834),
    (0x0A00, 0x000003E8), (0x2800, 0x00000003), (0x2810, 0x00000001), (0x2840, 0x18181818), (0x287C, 0x18181818), (0x28A0, 0x323F0C06),
    (0x28A4, 0x000001F4), (0x28A8, 0x00000018), (0x28AC, 0x00002814), (0x28B0, 0x00000004), (0x28B4, 0x0000782D), (0x28C0, 0x00000020),
    (0x28C4, 0x00000180), (0x28E0, 0x00000180), (0x2960, 0x00000010), (0x297C, 0x00000010), (0x3020, 0x00000001), (0x3024, 0x00000001),
    (0x3030, 0x00001200), (0x304C, 0x00001200), (0x3050, 0x00000627), (0x305C, 0x00190196), (0x3060, 0x00003231), (0x3800, 0x0000BB80),
    (0x3804, 0x032101E1), (0x3808, 0x00000004), (0x3840, 0x21542000), (0x38B8, 0x21542000), (0x3844, 0x00801428), (0x38BC, 0x00801428),
    (0x4000, 0x00000003), (0x4004, 0x03E81420), (0x4058, 0x00000A01), (0x4800, 0x07D08000), (0x4810, 0x00000045), (0x1010, 0x00000044),
    (0x13D0, 0x00000044), (0x1014, 0x00000004), (0x13D4, 0x00000004), (0x1018, 0x00003201), (0x13D8, 0x00003201), (0x1020, 0x00001000),
    (0x13E0, 0x00001000), (0x140C, 0x00000003), (0x1410, 0x000003E8), (0x1800, 0x00000001), (0x5800, 0x04C11DB7), (0x5B00, 0x04C11DB7),
    (0x5804, 0xFFFFFFFF), (0x5B04, 0xFFFFFFFF), (0x5808, 0xFFFFFFFF), (0x5B08, 0xFFFFFFFF), (0x580C, 0x00000320), (0x5B0C, 0x00000320),
    (0x0800, 0x00010405), (0x0824, 0x00000064), (0x0850, 0x08070FFF), (0x0860, 0x00000A24), (0x0880, 0x00000300), (0x6804, 0x00000001),
    (0x6808, 0x00000008), (0x681C, 0x001F0000), (0x6000, 0x00000007), (0x6010, 0x00001E00), (0x6020, 0x00001000)] : List (Nat × Word)), State.reset.reg x.1 = x.2) ∧
  State.reset.reg F.PLT_LPC_STATUS.missed_beacons.off = 0 ∧ State.reset.reg F.LINE_ADDR.assigned.off = 0 ∧
  State.reset.reg F.LINE_RX_ERR0.slot_crc.off = 0
end

