-- ==== Sys2Proof/Laws/Cells.lean ====
section
/-! SUPPORT. The laws of a store of cells: what a read gives after a write, and that every write keeps the canonical form. -/

namespace Sys2Proof.Laws

open Sys2Proof.Machine

variable {α : Type}

theorem get_insert_same (d : Nat → α) (k : Nat) (v : α) (m : Cells α) : Cells.get d (Cells.insert k v m) k = v := by
  induction m with
  | nil => simp [Cells.insert, Cells.get]
  | cons x r ih =>
    obtain ⟨i, w⟩ := x
    simp only [Cells.insert]
    split
    · simp [Cells.get]
    · split
      · simp [Cells.get]
      · rw [Cells.get, if_neg (by omega), ih]

theorem get_insert_ne (d : Nat → α) {k j : Nat} (v : α) (m : Cells α) (h : j ≠ k) :
    Cells.get d (Cells.insert k v m) j = Cells.get d m j := by
  induction m with
  | nil => simp [Cells.insert, Cells.get, h.symm]
  | cons x r ih =>
    obtain ⟨i, w⟩ := x
    simp only [Cells.insert]
    split
    · rw [Cells.get, if_neg (Ne.symm h)]
    · split
      · subst k
        simp [Cells.get, h.symm]
      · simp only [Cells.get, ih]

theorem get_erase_ne (d : Nat → α) {k j : Nat} (m : Cells α) (h : j ≠ k) : Cells.get d (Cells.erase k m) j = Cells.get d m j := by
  induction m with
  | nil => rfl
  | cons x r ih =>
    obtain ⟨i, w⟩ := x
    simp only [Cells.erase]
    split
    · subst k
      rw [Cells.get, if_neg (Ne.symm h), ih]
    · simp only [Cells.get, ih]

theorem get_of_lt (d : Nat → α) (k : Nat) (m : Cells α) (h : ∀ x ∈ m, k < x.1) : Cells.get d m k = d k := by
  induction m with
  | nil => rfl
  | cons x r ih =>
    obtain ⟨i, w⟩ := x
    rw [Cells.get, if_neg (Nat.ne_of_gt (h (i, w) (by simp))), ih (fun x hx => h x (by simp [hx]))]

theorem erase_sub (k : Nat) (m : Cells α) : ∀ x ∈ Cells.erase k m, x ∈ m := by
  induction m with
  | nil => intro x hx; exact hx
  | cons y r ih =>
    obtain ⟨i, w⟩ := y
    intro x hx
    simp only [Cells.erase] at hx
    split at hx
    · exact List.mem_cons_of_mem _ (ih x hx)
    · rcases List.mem_cons.1 hx with rfl | hx
      · simp
      · exact List.mem_cons_of_mem _ (ih x hx)

theorem insert_mem (k : Nat) (v : α) (m : Cells α) : ∀ x ∈ Cells.insert k v m, x = (k, v) ∨ x ∈ m := by
  induction m with
  | nil => intro x hx; exact .inl (by simpa [Cells.insert] using hx)
  | cons y r ih =>
    obtain ⟨i, w⟩ := y
    intro x hx
    simp only [Cells.insert] at hx
    split at hx
    · rcases List.mem_cons.1 hx with rfl | hx
      · exact .inl rfl
      · exact .inr hx
    · split at hx
      · rcases List.mem_cons.1 hx with rfl | hx
        · exact .inl rfl
        · exact .inr (List.mem_cons_of_mem _ hx)
      · rcases List.mem_cons.1 hx with rfl | hx
        · exact .inr (by simp)
        · rcases ih x hx with rfl | hx
          · exact .inl rfl
          · exact .inr (List.mem_cons_of_mem _ hx)

theorem get_erase_same (d : Nat → α) (k : Nat) (m : Cells α) : Cells.get d (Cells.erase k m) k = d k := by
  induction m with
  | nil => rfl
  | cons x r ih =>
    obtain ⟨i, w⟩ := x
    simp only [Cells.erase]
    split
    · exact ih
    · rename_i hne
      rw [Cells.get, if_neg hne, ih]

variable [DecidableEq α]

/-- The first entry of a canonical store is no default, its number is below the next one's, and the rest is canonical. -/
theorem wf_cons (d : Nat → α) (i : Nat) (v : α) (r : Cells α) :
    Cells.wf d ((i, v) :: r) = true ↔ v ≠ d i ∧ (∀ x ∈ r.head?, i < x.1) ∧ Cells.wf d r = true := by
  cases r with
  | nil => simp [Cells.wf]
  | cons x r =>
    obtain ⟨j, w⟩ := x
    simp [Cells.wf, and_assoc]

theorem head_lt_of_wf (d : Nat → α) (i : Nat) (v : α) (r : Cells α) (h : Cells.wf d ((i, v) :: r) = true) : ∀ x ∈ r, i < x.1 := by
  induction r generalizing i v with
  | nil => intro x hx; cases hx
  | cons y r ih =>
    obtain ⟨j, w⟩ := y
    obtain ⟨-, h1, h2⟩ := (wf_cons d i v _).1 h
    have hij : i < j := h1 (j, w) (by simp)
    intro x hx
    rcases List.mem_cons.1 hx with rfl | hx
    · exact hij
    · exact Nat.lt_trans hij (ih j w h2 x hx)

/-- A written cell reads as what was written. -/
theorem get_set_same (d : Nat → α) (m : Cells α) (k : Nat) (v : α) : Cells.get d (Cells.set d m k v) k = v := by
  rw [Cells.set]
  split
  · subst v
    exact get_erase_same d k m
  · exact get_insert_same d k v m

/-- Every other cell reads as before. -/
theorem get_set_ne (d : Nat → α) (m : Cells α) {k j : Nat} (v : α) (h : j ≠ k) : Cells.get d (Cells.set d m k v) j = Cells.get d m j := by
  rw [Cells.set]
  split
  · exact get_erase_ne d m h
  · exact get_insert_ne d v m h

/-- A store is canonical once its first number is below all others, it is no default, and the rest is canonical. -/
theorem wf_of_lt (d : Nat → α) (i : Nat) (v : α) (r : Cells α) (hv : v ≠ d i) (hl : ∀ x ∈ r, i < x.1) (hr : Cells.wf d r = true) :
    Cells.wf d ((i, v) :: r) = true :=
  (wf_cons d i v r).2 ⟨hv, fun x hx => hl x (List.mem_of_mem_head? hx), hr⟩

theorem wf_erase (d : Nat → α) (k : Nat) (m : Cells α) (h : Cells.wf d m = true) : Cells.wf d (Cells.erase k m) = true := by
  induction m with
  | nil => rfl
  | cons x r ih =>
    obtain ⟨i, w⟩ := x
    obtain ⟨hv, -, hr⟩ := (wf_cons d i w r).1 h
    simp only [Cells.erase]
    split
    · exact ih hr
    · exact wf_of_lt d i w _ hv (fun x hx => head_lt_of_wf d i w r h x (erase_sub k r x hx)) (ih hr)

theorem wf_insert (d : Nat → α) (k : Nat) (v : α) (m : Cells α) (hv : v ≠ d k) (h : Cells.wf d m = true) :
    Cells.wf d (Cells.insert k v m) = true := by
  induction m with
  | nil => simp [Cells.insert, Cells.wf, hv]
  | cons x r ih =>
    obtain ⟨i, w⟩ := x
    obtain ⟨hw, -, hr⟩ := (wf_cons d i w r).1 h
    have hl := head_lt_of_wf d i w r h
    simp only [Cells.insert]
    split
    · rename_i hki
      refine wf_of_lt d k v _ hv (fun x hx => ?_) h
      rcases List.mem_cons.1 hx with rfl | hx
      · exact hki
      · exact Nat.lt_trans hki (hl x hx)
    · split
      · subst k
        exact wf_of_lt d i v r hv hl hr
      · refine wf_of_lt d i w _ hw (fun x hx => ?_) (ih hr)
        rcases insert_mem k v r x hx with rfl | hx
        · show i < k
          omega
        · exact hl x hx

/-- A write keeps the canonical form. -/
theorem wf_set (d : Nat → α) (m : Cells α) (k : Nat) (v : α) (h : Cells.wf d m = true) : Cells.wf d (Cells.set d m k v) = true := by
  rw [Cells.set]
  split
  · exact wf_erase d k m h
  · rename_i hv
    exact wf_insert d k v m hv h

/-- A run of writes keeps the canonical form. -/
theorem wf_setList (d : Nat → α) (m : Cells α) (k : Nat) (vs : List α) (h : Cells.wf d m = true) :
    Cells.wf d (Cells.setList d m k vs) = true := by
  induction vs generalizing m k with
  | nil => exact h
  | cons v vs ih => exact ih _ _ (wf_set d m k v h)

/-- A run of writes leaves every cell outside it as it was. -/
theorem get_setList_ne (d : Nat → α) (m : Cells α) (k j : Nat) (vs : List α) (h : j < k ∨ k + vs.length ≤ j) :
    Cells.get d (Cells.setList d m k vs) j = Cells.get d m j := by
  induction vs generalizing m k with
  | nil => rfl
  | cons v vs ih =>
    rw [Cells.setList, ih _ _ (by simp at h; omega), get_set_ne d m v (by simp at h; omega)]

/-- Taking entries out by number keeps the canonical form, also under a default that agrees on the numbers kept. -/
theorem get_setList_same (d : Nat → α) (m : Cells α) (k i : Nat) (vs : List α) (x : α) (h : i < vs.length) :
    Cells.get d (Cells.setList d m k vs) (k + i) = vs.getD i x := by
  induction vs generalizing m k i with
  | nil => cases h
  | cons v vs ih =>
    rw [Cells.setList]
    cases i with
    | zero =>
      rw [get_setList_ne d _ (k + 1) (k + 0) vs (Or.inl (by omega))]
      simpa using get_set_same d m k v
    | succ i =>
      rw [show k + (i + 1) = (k + 1) + i by omega, ih _ _ _ (by simpa using h)]
      simp

theorem wf_filter (d e : Nat → α) (m : Cells α) (p : Nat → Bool) (h : Cells.wf d m = true) (hd : ∀ k, p k = true → e k = d k) :
    Cells.wf e (m.filter (fun x => p x.1)) = true := by
  induction m with
  | nil => rfl
  | cons x r ih =>
    obtain ⟨i, w⟩ := x
    obtain ⟨hw, -, hr⟩ := (wf_cons d i w r).1 h
    rw [List.filter_cons]
    split
    · rename_i hp
      exact wf_of_lt e i w _ (by rw [hd i hp]; exact hw) (fun x hx => head_lt_of_wf d i w r h x ((List.mem_filter.1 hx).1)) (ih hr)
    · exact ih hr

/-- A fold of writes keeps the canonical form. -/
theorem wf_foldl {β : Type} (d : Nat → α) (f : Cells α → β → Cells α) (l : List β) (m : Cells α) (h : Cells.wf d m = true)
    (hf : ∀ m b, Cells.wf d m = true → Cells.wf d (f m b) = true) : Cells.wf d (l.foldl f m) = true := by
  induction l generalizing m with
  | nil => exact h
  | cons b l ih => exact ih _ (hf m b h)

end Sys2Proof.Laws
end

