-- ==== Sys2Proof/Laws/CartCells.lean ====
section
/-! SUPPORT. Every operation of the cartridge's tag keeps the canonical form of its 2,048 bytes. -/

namespace Sys2Proof.Laws

open Sys2Proof.Machine

theorem wf_put (c : Cart) (a : Nat) (bs : List Byte) (h : Cells.wf tagFactory c.mem = true) :
    Cells.wf tagFactory (c.put a bs).mem = true := wf_setList _ _ _ _ h

theorem wf_append (c : Cart) (r : List Byte) (h : Cells.wf tagFactory c.mem = true) : Cells.wf tagFactory (c.append r).1.mem = true := by
  unfold Cart.append
  split
  · exact wf_put _ _ _ (wf_put _ _ _ h)
  · exact h

theorem wf_wiredWrite (c : Cart) (a : Nat) (data : List Byte) (h : Cells.wf tagFactory c.mem = true) :
    Cells.wf tagFactory (c.wiredWrite a data).1.mem = true := by
  unfold Cart.wiredWrite
  split
  · exact h
  · split
    · split
      · exact wf_append _ _ h
      · exact h
    · exact wf_put _ _ _ h

theorem wf_writeRows (c : Cart) (a : Nat) (data : List Byte) (h : Cells.wf tagFactory c.mem = true) :
    Cells.wf tagFactory (c.writeRows a data).mem = true := by
  unfold Cart.writeRows
  generalize rowsOf a data (data.length + 1) = l
  induction l generalizing c with
  | nil => exact h
  | cons r l ih => exact ih _ (wf_wiredWrite _ _ _ h)

theorem wf_makeRoom (c : Cart) (writer n : Nat) (h : Cells.wf tagFactory c.mem = true) :
    Cells.wf tagFactory (c.makeRoom writer n).mem = true := by
  induction n generalizing c with
  | zero => exact h
  | succ n ih =>
    rw [Cart.makeRoom]
    split
    · exact ih _ (wf_append _ _ h)
    · exact h

theorem wf_post (c : Cart) (writer kind value : Nat) (stamp : Word) (h : Cells.wf tagFactory c.mem = true) :
    Cells.wf tagFactory (c.post writer kind value stamp).1.mem = true := wf_append _ _ (wf_makeRoom _ _ _ h)

end Sys2Proof.Laws
end

