-- ==== Sys2Proof/Laws/Fields.lean ====
section
/-! SUPPORT. The laws of a register field: what a field reads as after a write to it, to another field of its register, and to another
register. -/

namespace Sys2Proof.Laws

open Sys2Proof.Machine

/-- The field lies in its 32-bit register. -/
def fits (f : Field) : Bool := decide (f.lsb + f.width ≤ 32)

/-- No bit of `f` is a bit of `g`. -/
def apart (f g : Field) : Bool := decide (f.off ≠ g.off) || decide (f.lsb + f.width ≤ g.lsb) || decide (g.lsb + g.width ≤ f.lsb)

theorem testBit_get (f : Field) (w : Word) (i : Nat) :
    (f.get w).testBit i = (decide (i < f.width) && w.getLsbD (f.lsb + i)) := by
  simp [Field.get, Nat.testBit_mod_two_pow, Nat.testBit_div_two_pow, BitVec.getLsbD, Nat.add_comm]

theorem getLsbD_bitMask (l w i : Nat) (hi : i < 32) : (bitMask l w).getLsbD i = (decide (l ≤ i) && decide (i < l + w)) := by
  simp only [bitMask, BitVec.getLsbD_ofNat, hi, decide_true, Bool.true_and]
  rw [Nat.testBit_mul_two_pow, Nat.testBit_two_pow_sub_one]
  by_cases h : l ≤ i
  · simp only [h, decide_true, Bool.true_and]
    exact decide_eq_decide.2 (by omega)
  · simp [h]

theorem getLsbD_set (f : Field) (w : Word) (v i : Nat) (hi : i < 32) :
    (f.set w v).getLsbD i =
      if f.lsb ≤ i ∧ i < f.lsb + f.width then v.testBit (i - f.lsb) else w.getLsbD i := by
  simp only [Field.set, BitVec.getLsbD_or, BitVec.getLsbD_and, BitVec.getLsbD_not, hi, decide_true, Bool.true_and,
    getLsbD_bitMask _ _ _ hi, BitVec.getLsbD_ofNat, Nat.testBit_mul_two_pow, Nat.testBit_mod_two_pow]
  by_cases h1 : f.lsb ≤ i <;> by_cases h2 : i < f.lsb + f.width
  · have h3 : i - f.lsb < f.width := by omega
    simp [h1, h2, h3]
  · have h3 : ¬ i - f.lsb < f.width := by omega
    simp [h1, h2, h3]
  · simp [h1]
  · simp [h1]

/-- A field reads as what was written to it. -/
theorem get_set (f : Field) (w : Word) (v : Nat) (h : fits f = true) : f.get (f.set w v) = v % 2 ^ f.width := by
  have hf : f.lsb + f.width ≤ 32 := by simpa [fits] using h
  refine Nat.eq_of_testBit_eq (fun i => ?_)
  rw [testBit_get, Nat.testBit_mod_two_pow]
  by_cases hi : i < f.width
  · rw [getLsbD_set f w v _ (by omega), if_pos ⟨by omega, by omega⟩]
    simp
  · simp [hi]

/-- Another field of the register reads as before. -/
theorem get_set_apart (f g : Field) (w : Word) (v : Nat) (hg : fits g = true)
    (h : f.lsb + f.width ≤ g.lsb ∨ g.lsb + g.width ≤ f.lsb) : g.get (f.set w v) = g.get w := by
  have hf : g.lsb + g.width ≤ 32 := by simpa [fits] using hg
  refine Nat.eq_of_testBit_eq (fun i => ?_)
  rw [testBit_get, testBit_get]
  by_cases hi : i < g.width
  · rw [getLsbD_set f w v _ (by omega), if_neg (by omega)]
  · simp [hi]

/-! ### Registers of the state -/

theorem reg_setReg_same (s : State) (o : Nat) (v : Word) : (s.setReg o v).reg o = v := get_set_same regReset s.regs o v

theorem reg_setReg_ne (s : State) {o j : Nat} (v : Word) (h : j ≠ o) : (s.setReg o v).reg j = s.reg j := get_set_ne regReset s.regs v h

theorem reg_wr_ne (s : State) {f : Field} {j : Nat} (v : Nat) (h : j ≠ f.off) : (s.wr f v).reg j = s.reg j := reg_setReg_ne s _ h

theorem rf_wr_same (s : State) (f : Field) (v : Nat) (h : fits f = true) : (s.wr f v).rf f = v % 2 ^ f.width := by
  show f.get ((s.setReg f.off _).reg f.off) = _
  rw [reg_setReg_same, get_set f _ v h]

theorem rf_wr_apart (s : State) (f g : Field) (v : Nat) (hg : fits g = true) (h : apart f g = true) : (s.wr f v).rf g = s.rf g := by
  show g.get ((s.setReg f.off _).reg g.off) = g.get (s.reg g.off)
  by_cases ho : g.off = f.off
  · rw [ho, reg_setReg_same, get_set_apart f g _ v hg]
    simpa [apart, ho] using h
  · rw [reg_setReg_ne s _ ho]

theorem reg_congr {s t : State} (h : t.regs = s.regs) (o : Nat) : t.reg o = s.reg o := by rw [State.reg, State.reg, h]

theorem rf_congr {s t : State} (h : t.regs = s.regs) (f : Field) : t.rf f = s.rf f := by rw [State.rf, State.rf, reg_congr h]

theorem rf_reg {s t : State} {f : Field} (h : t.reg f.off = s.reg f.off) : t.rf f = s.rf f := by rw [State.rf, State.rf, h]

end Sys2Proof.Laws
end

