-- ==== Sys2Proof/Laws/Frame.lean ====
section
/-! SUPPORT. What an operation leaves as it was: the relation `Frame`, its composition, and one lemma for each part of the state that an
operation may replace. Each shared operation has one lemma that says everything it can change, in the files Frames*.lean. -/

namespace Sys2Proof.Laws

open Sys2Proof.Machine

/-- From `s` to `t` only the parts in `w`, and of the registers only those at the offsets in `r` (any, for none), may have changed, and every
addressed store keeps its canonical form. -/
structure Frame (w : List Part) (r : Option (List Nat)) (s t : State) : Prop where
  parts : OnlyChanges w s t
  regs : ∀ l, r = some l → OnlyRegs l s t
  canon : s.Canon → t.Canon

/-- What one frame allows, another allows. -/
def within (w : List Part) (r : Option (List Nat)) (w' : List Part) (r' : Option (List Nat)) : Bool :=
  w.all (fun p => w'.elem p) && match r, r' with
    | _, none => true
    | none, some _ => false
    | some a, some b => a.all (fun o => b.elem o)

/-- Everything but the part's identity and the queue. -/
def wide : List Part :=
  [.mem, .pins, .regs, .plt, .phy, .link, .master, .rear, .way, .stack, .p57, .intake, .mix, .ech, .call, .mic, .wake, .hif, .sby, .tag, .cart,
    .toll, .pwr, .cfg, .dbg, .free]

theorem Part.same_refl (p : Part) (s : State) : p.same s s := by cases p <;> rfl

theorem Part.same_trans {p : Part} {s t u : State} (h : p.same s t) (k : p.same t u) : p.same s u := by
  cases p <;> exact Eq.trans k h

theorem Frame.rfl' {w : List Part} {r : Option (List Nat)} (s : State) : Frame w r s s :=
  ⟨fun p _ => Part.same_refl p s, fun _ _ _ _ => rfl, id⟩

theorem Frame.trans {w : List Part} {r : Option (List Nat)} {s t u : State} (h : Frame w r s t) (k : Frame w r t u) : Frame w r s u :=
  ⟨fun p hp => Part.same_trans (h.parts p hp) (k.parts p hp),
   fun l hl o ho => (k.regs l hl o ho).trans (h.regs l hl o ho), fun c => k.canon (h.canon c)⟩

theorem Frame.mono {w w' : List Part} {r r' : Option (List Nat)} {s t : State} (h : Frame w r s t) (k : within w r w' r' = true) :
    Frame w' r' s t := by
  unfold within at k
  rw [Bool.and_eq_true] at k
  obtain ⟨k1, k2⟩ := k
  refine ⟨fun p hp => h.parts p (fun hw => hp ?_), fun l hl => ?_, h.canon⟩
  · simpa using List.all_eq_true.1 k1 p hw
  · subst hl
    cases r with
    | none => simp at k2
    | some a =>
      intro o ho
      refine h.regs a rfl o (fun ha => ho ?_)
      simpa using List.all_eq_true.1 k2 o ha

theorem within_trans {w w' w'' : List Part} {r r' r'' : Option (List Nat)} (h : within w r w' r' = true) (k : within w' r' w'' r'' = true) :
    within w r w'' r'' = true := by
  unfold within at *
  rw [Bool.and_eq_true] at *
  refine ⟨?_, ?_⟩
  · simp only [List.all_eq_true, List.elem_eq_mem, decide_eq_true_eq] at *
    exact fun p hp => k.1 p (h.1 p hp)
  · cases r'' with
    | none => rfl
    | some c =>
      cases r' with
      | none => simp at k
      | some b =>
        cases r with
        | none => simp at h
        | some a =>
          simp only [List.all_eq_true, List.elem_eq_mem, decide_eq_true_eq] at *
          exact fun o ho => k.2 o (h.2 o ho)

/-- An operation framed by its own lemma follows what was framed before it. -/
theorem Frame.after {w w' : List Part} {r r' : Option (List Nat)} {s t u : State} (h : Frame w r t u) (k : within w r w' r' = true)
    (b : Frame w' r' s t) : Frame w' r' s u := b.trans (h.mono k)

theorem Frame.ite {w : List Part} {r : Option (List Nat)} {s t u : State} {c : Prop} [Decidable c] (h : Frame w r s t) (k : Frame w r s u) :
    Frame w r s (if c then t else u) := by split <;> assumption

theorem Frame.foldl {β : Type} {w : List Part} {r : Option (List Nat)} {s : State} {f : State → β → State} {l : List β} {t : State}
    (h : Frame w r s t) (k : ∀ u b, Frame w r s u → Frame w r s (f u b)) : Frame w r s (l.foldl f t) := by
  induction l generalizing t with
  | nil => exact h
  | cons b l ih => exact ih (k t b h)

/-- The events dropped by a full backlog are counted here. -/
abbrev evRegs : List Nat := dropCounts

/-- Replacing parts, where no register and no addressed store is touched. -/
theorem Frame.replace {w : List Part} {r : Option (List Nat)} {s t u : State} (h : Frame w r s t) (hp : OnlyChanges w t u)
    (hr : u.regs = t.regs) (hc : t.Canon → u.Canon) : Frame w r s u :=
  h.trans ⟨hp, fun _ _ o _ => reg_congr hr o, hc⟩

theorem Frame.set_pins {w : List Part} {r : Option (List Nat)} {s t : State} (x : Pins)
    (hw : w.elem .pins = true) (h : Frame w r s t) : Frame w r s { t with pins := x } := by
  refine h.replace (fun p hp => ?_) rfl (fun c => ⟨c.1, c.2, c.3, c.4, c.5⟩)
  cases p <;> first | rfl | exact absurd (by simpa using hw) hp

theorem Frame.set_plt {w : List Part} {r : Option (List Nat)} {s t : State} (x : Plt)
    (hw : w.elem .plt = true) (h : Frame w r s t) : Frame w r s { t with plt := x } := by
  refine h.replace (fun p hp => ?_) rfl (fun c => ⟨c.1, c.2, c.3, c.4, c.5⟩)
  cases p <;> first | rfl | exact absurd (by simpa using hw) hp

theorem Frame.set_link {w : List Part} {r : Option (List Nat)} {s t : State} (x : Link)
    (hw : w.elem .link = true) (h : Frame w r s t) : Frame w r s { t with link := x } := by
  refine h.replace (fun p hp => ?_) rfl (fun c => ⟨c.1, c.2, c.3, c.4, c.5⟩)
  cases p <;> first | rfl | exact absurd (by simpa using hw) hp

theorem Frame.set_master {w : List Part} {r : Option (List Nat)} {s t : State} (x : Master)
    (hw : w.elem .master = true) (h : Frame w r s t) : Frame w r s { t with master := x } := by
  refine h.replace (fun p hp => ?_) rfl (fun c => ⟨c.1, c.2, c.3, c.4, c.5⟩)
  cases p <;> first | rfl | exact absurd (by simpa using hw) hp

theorem Frame.set_rear {w : List Part} {r : Option (List Nat)} {s t : State} (x : Rearguard)
    (hw : w.elem .rear = true) (h : Frame w r s t) : Frame w r s { t with rear := x } := by
  refine h.replace (fun p hp => ?_) rfl (fun c => ⟨c.1, c.2, c.3, c.4, c.5⟩)
  cases p <;> first | rfl | exact absurd (by simpa using hw) hp

theorem Frame.set_way {w : List Part} {r : Option (List Nat)} {s t : State} (x : Way)
    (hw : w.elem .way = true) (h : Frame w r s t) : Frame w r s { t with way := x } := by
  refine h.replace (fun p hp => ?_) rfl (fun c => ⟨c.1, c.2, c.3, c.4, c.5⟩)
  cases p <;> first | rfl | exact absurd (by simpa using hw) hp

theorem Frame.set_stack {w : List Part} {r : Option (List Nat)} {s t : State} (x : Stack)
    (hw : w.elem .stack = true) (h : Frame w r s t) : Frame w r s { t with stack := x } := by
  refine h.replace (fun p hp => ?_) rfl (fun c => ⟨c.1, c.2, c.3, c.4, c.5⟩)
  cases p <;> first | rfl | exact absurd (by simpa using hw) hp

theorem Frame.set_p57 {w : List Part} {r : Option (List Nat)} {s t : State} (x : P57)
    (hw : w.elem .p57 = true) (h : Frame w r s t) : Frame w r s { t with p57 := x } := by
  refine h.replace (fun p hp => ?_) rfl (fun c => ⟨c.1, c.2, c.3, c.4, c.5⟩)
  cases p <;> first | rfl | exact absurd (by simpa using hw) hp

theorem Frame.set_intake {w : List Part} {r : Option (List Nat)} {s t : State} (x : Intake)
    (hw : w.elem .intake = true) (h : Frame w r s t) : Frame w r s { t with intake := x } := by
  refine h.replace (fun p hp => ?_) rfl (fun c => ⟨c.1, c.2, c.3, c.4, c.5⟩)
  cases p <;> first | rfl | exact absurd (by simpa using hw) hp

theorem Frame.set_mix {w : List Part} {r : Option (List Nat)} {s t : State} (x : Mix)
    (hw : w.elem .mix = true) (h : Frame w r s t) : Frame w r s { t with mix := x } := by
  refine h.replace (fun p hp => ?_) rfl (fun c => ⟨c.1, c.2, c.3, c.4, c.5⟩)
  cases p <;> first | rfl | exact absurd (by simpa using hw) hp

theorem Frame.set_ech {w : List Part} {r : Option (List Nat)} {s t : State} (x : Ech)
    (hw : w.elem .ech = true) (h : Frame w r s t) : Frame w r s { t with ech := x } := by
  refine h.replace (fun p hp => ?_) rfl (fun c => ⟨c.1, c.2, c.3, c.4, c.5⟩)
  cases p <;> first | rfl | exact absurd (by simpa using hw) hp

theorem Frame.set_call {w : List Part} {r : Option (List Nat)} {s t : State} (x : CallBlk)
    (hw : w.elem .call = true) (h : Frame w r s t) : Frame w r s { t with call := x } := by
  refine h.replace (fun p hp => ?_) rfl (fun c => ⟨c.1, c.2, c.3, c.4, c.5⟩)
  cases p <;> first | rfl | exact absurd (by simpa using hw) hp

theorem Frame.set_mic {w : List Part} {r : Option (List Nat)} {s t : State} (x : Mic)
    (hw : w.elem .mic = true) (h : Frame w r s t) : Frame w r s { t with mic := x } := by
  refine h.replace (fun p hp => ?_) rfl (fun c => ⟨c.1, c.2, c.3, c.4, c.5⟩)
  cases p <;> first | rfl | exact absurd (by simpa using hw) hp

theorem Frame.set_wake {w : List Part} {r : Option (List Nat)} {s t : State} (x : Wake)
    (hw : w.elem .wake = true) (h : Frame w r s t) : Frame w r s { t with wake := x } := by
  refine h.replace (fun p hp => ?_) rfl (fun c => ⟨c.1, c.2, c.3, c.4, c.5⟩)
  cases p <;> first | rfl | exact absurd (by simpa using hw) hp

theorem Frame.set_hif {w : List Part} {r : Option (List Nat)} {s t : State} (x : Hif)
    (hw : w.elem .hif = true) (h : Frame w r s t) : Frame w r s { t with hif := x } := by
  refine h.replace (fun p hp => ?_) rfl (fun c => ⟨c.1, c.2, c.3, c.4, c.5⟩)
  cases p <;> first | rfl | exact absurd (by simpa using hw) hp

theorem Frame.set_tag {w : List Part} {r : Option (List Nat)} {s t : State} (x : Tag)
    (hw : w.elem .tag = true) (h : Frame w r s t) : Frame w r s { t with tag := x } := by
  refine h.replace (fun p hp => ?_) rfl (fun c => ⟨c.1, c.2, c.3, c.4, c.5⟩)
  cases p <;> first | rfl | exact absurd (by simpa using hw) hp

theorem Frame.set_toll {w : List Part} {r : Option (List Nat)} {s t : State} (x : List Toll)
    (hw : w.elem .toll = true) (h : Frame w r s t) : Frame w r s { t with toll := x } := by
  refine h.replace (fun p hp => ?_) rfl (fun c => ⟨c.1, c.2, c.3, c.4, c.5⟩)
  cases p <;> first | rfl | exact absurd (by simpa using hw) hp

theorem Frame.set_pwr {w : List Part} {r : Option (List Nat)} {s t : State} (x : Pwr)
    (hw : w.elem .pwr = true) (h : Frame w r s t) : Frame w r s { t with pwr := x } := by
  refine h.replace (fun p hp => ?_) rfl (fun c => ⟨c.1, c.2, c.3, c.4, c.5⟩)
  cases p <;> first | rfl | exact absurd (by simpa using hw) hp

theorem Frame.set_cfg {w : List Part} {r : Option (List Nat)} {s t : State} (x : Cfg)
    (hw : w.elem .cfg = true) (h : Frame w r s t) : Frame w r s { t with cfg := x } := by
  refine h.replace (fun p hp => ?_) rfl (fun c => ⟨c.1, c.2, c.3, c.4, c.5⟩)
  cases p <;> first | rfl | exact absurd (by simpa using hw) hp

theorem Frame.set_dbg {w : List Part} {r : Option (List Nat)} {s t : State} (x : Dbg)
    (hw : w.elem .dbg = true) (h : Frame w r s t) : Frame w r s { t with dbg := x } := by
  refine h.replace (fun p hp => ?_) rfl (fun c => ⟨c.1, c.2, c.3, c.4, c.5⟩)
  cases p <;> first | rfl | exact absurd (by simpa using hw) hp

theorem Frame.set_free {w : List Part} {r : Option (List Nat)} {s t : State} (x : Nat)
    (hw : w.elem .free = true) (h : Frame w r s t) : Frame w r s { t with free := x } := by
  refine h.replace (fun p hp => ?_) rfl (fun c => ⟨c.1, c.2, c.3, c.4, c.5⟩)
  cases p <;> first | rfl | exact absurd (by simpa using hw) hp

theorem Frame.set_pending {w : List Part} {r : Option (List Nat)} {s t : State} (x : List Instr)
    (hw : w.elem .pending = true) (h : Frame w r s t) : Frame w r s { t with pending := x } := by
  refine h.replace (fun p hp => ?_) rfl (fun c => ⟨c.1, c.2, c.3, c.4, c.5⟩)
  cases p <;> first | rfl | exact absurd (by simpa using hw) hp

theorem Frame.set_phy {w : List Part} {r : Option (List Nat)} {s t : State} (x : Phy)
    (hw : w.elem .phy = true) (h : Frame w r s t) : Frame w r s { t with phy := x } := by
  refine h.replace (fun p hp => ?_) rfl (fun c => ⟨c.1, c.2, c.3, c.4, c.5⟩)
  cases p <;> first | rfl | exact absurd (by simpa using hw) hp

theorem Frame.set_sby {w : List Part} {r : Option (List Nat)} {s t : State} (x : Sby)
    (hw : w.elem .sby = true) (hA : Cells.wf (fun _ => (0 : Byte)) t.sby.buf = true → Cells.wf (fun _ => (0 : Byte)) x.buf = true) (h : Frame w r s t) : Frame w r s { t with sby := x } := by
  refine h.replace (fun p hp => ?_) rfl (fun c => ⟨c.1, c.2, c.3, hA c.4, c.5⟩)
  cases p <;> first | rfl | exact absurd (by simpa using hw) hp

theorem Frame.set_cart {w : List Part} {r : Option (List Nat)} {s t : State} (x : Cart)
    (hw : w.elem .cart = true) (hA : Cells.wf tagFactory t.cart.mem = true → Cells.wf tagFactory x.mem = true) (h : Frame w r s t) : Frame w r s { t with cart := x } := by
  refine h.replace (fun p hp => ?_) rfl (fun c => ⟨c.1, c.2, c.3, c.4, hA c.5⟩)
  cases p <;> first | rfl | exact absurd (by simpa using hw) hp

theorem Frame.set_mem {w : List Part} {r : Option (List Nat)} {s t : State} (x : Mem)
    (hw : w.elem .mem = true) 
    (hA : Cells.wf (sramByte t.mem.lostAt) t.mem.sram = true → Cells.wf (sramByte x.lostAt) x.sram = true)
    (hB : Cells.wf erasedByte t.mem.flash = true → Cells.wf erasedByte x.flash = true) (h : Frame w r s t) : Frame w r s { t with mem := x } := by
  refine h.replace (fun p hp => ?_) rfl (fun c => ⟨c.1, hA c.2, hB c.3, c.4, c.5⟩)
  cases p <;> first | rfl | exact absurd (by simpa using hw) hp

theorem Frame.set_wake_hif {w : List Part} {r : Option (List Nat)} {s t : State} (x0 : Wake) (x1 : Hif)
    (hw : w.elem .wake && w.elem .hif) (h : Frame w r s t) : Frame w r s { t with wake := x0, hif := x1 } := by
  simp only [Bool.and_eq_true] at hw
  refine h.replace (fun p hp => ?_) rfl (fun c => ⟨c.1, c.2, c.3, c.4, c.5⟩)
  cases p <;> first | rfl | (exfalso; revert hw; simp_all)

theorem Frame.set_call_tag_cfg {w : List Part} {r : Option (List Nat)} {s t : State} (x0 : CallBlk) (x1 : Tag) (x2 : Cfg)
    (hw : w.elem .call && w.elem .tag && w.elem .cfg) (h : Frame w r s t) : Frame w r s { t with call := x0, tag := x1, cfg := x2 } := by
  simp only [Bool.and_eq_true] at hw
  refine h.replace (fun p hp => ?_) rfl (fun c => ⟨c.1, c.2, c.3, c.4, c.5⟩)
  cases p <;> first | rfl | (exfalso; revert hw; simp_all)

theorem Frame.set_mix_cfg {w : List Part} {r : Option (List Nat)} {s t : State} (x0 : Mix) (x1 : Cfg)
    (hw : w.elem .mix && w.elem .cfg) (h : Frame w r s t) : Frame w r s { t with mix := x0, cfg := x1 } := by
  simp only [Bool.and_eq_true] at hw
  refine h.replace (fun p hp => ?_) rfl (fun c => ⟨c.1, c.2, c.3, c.4, c.5⟩)
  cases p <;> first | rfl | (exfalso; revert hw; simp_all)

theorem Frame.set_way_call {w : List Part} {r : Option (List Nat)} {s t : State} (x0 : Way) (x1 : CallBlk)
    (hw : w.elem .way && w.elem .call) (h : Frame w r s t) : Frame w r s { t with way := x0, call := x1 } := by
  simp only [Bool.and_eq_true] at hw
  refine h.replace (fun p hp => ?_) rfl (fun c => ⟨c.1, c.2, c.3, c.4, c.5⟩)
  cases p <;> first | rfl | (exfalso; revert hw; simp_all)

theorem Frame.set_phy_link {w : List Part} {r : Option (List Nat)} {s t : State} (x0 : Phy) (x1 : Link)
    (hw : w.elem .phy && w.elem .link) (h : Frame w r s t) : Frame w r s { t with phy := x0, link := x1 } := by
  simp only [Bool.and_eq_true] at hw
  refine h.replace (fun p hp => ?_) rfl (fun c => ⟨c.1, c.2, c.3, c.4, c.5⟩)
  cases p <;> first | rfl | (exfalso; revert hw; simp_all)

theorem Frame.set_master_way {w : List Part} {r : Option (List Nat)} {s t : State} (x0 : Master) (x1 : Way)
    (hw : w.elem .master && w.elem .way) (h : Frame w r s t) : Frame w r s { t with master := x0, way := x1 } := by
  simp only [Bool.and_eq_true] at hw
  refine h.replace (fun p hp => ?_) rfl (fun c => ⟨c.1, c.2, c.3, c.4, c.5⟩)
  cases p <;> first | rfl | (exfalso; revert hw; simp_all)

theorem Frame.set_plt_link_hif {w : List Part} {r : Option (List Nat)} {s t : State} (x0 : Plt) (x1 : Link) (x2 : Hif)
    (hw : w.elem .plt && w.elem .link && w.elem .hif) (h : Frame w r s t) : Frame w r s { t with plt := x0, link := x1, hif := x2 } := by
  simp only [Bool.and_eq_true] at hw
  refine h.replace (fun p hp => ?_) rfl (fun c => ⟨c.1, c.2, c.3, c.4, c.5⟩)
  cases p <;> first | rfl | (exfalso; revert hw; simp_all)

theorem Frame.set_plt_phy {w : List Part} {r : Option (List Nat)} {s t : State} (x0 : Plt) (x1 : Phy)
    (hw : w.elem .plt && w.elem .phy) (h : Frame w r s t) : Frame w r s { t with plt := x0, phy := x1 } := by
  simp only [Bool.and_eq_true] at hw
  refine h.replace (fun p hp => ?_) rfl (fun c => ⟨c.1, c.2, c.3, c.4, c.5⟩)
  cases p <;> first | rfl | (exfalso; revert hw; simp_all)

theorem Frame.set_p57_intake {w : List Part} {r : Option (List Nat)} {s t : State} (x0 : P57) (x1 : Intake)
    (hw : w.elem .p57 && w.elem .intake) (h : Frame w r s t) : Frame w r s { t with p57 := x0, intake := x1 } := by
  simp only [Bool.and_eq_true] at hw
  refine h.replace (fun p hp => ?_) rfl (fun c => ⟨c.1, c.2, c.3, c.4, c.5⟩)
  cases p <;> first | rfl | (exfalso; revert hw; simp_all)

theorem Frame.set_phy_link_way_mix_wake_hif_tag_pwr_cfg_dbg {w : List Part} {r : Option (List Nat)} {s t : State} (x0 : Phy) (x1 : Link) (x2 : Way) (x3 : Mix) (x4 : Wake) (x5 : Hif) (x6 : Tag) (x7 : Pwr) (x8 : Cfg) (x9 : Dbg)
    (hw : w.elem .phy && w.elem .link && w.elem .way && w.elem .mix && w.elem .wake && w.elem .hif && w.elem .tag && w.elem .pwr && w.elem .cfg && w.elem .dbg) (h : Frame w r s t) : Frame w r s { t with phy := x0, link := x1, way := x2, mix := x3, wake := x4, hif := x5, tag := x6, pwr := x7, cfg := x8, dbg := x9 } := by
  simp only [Bool.and_eq_true] at hw
  refine h.replace (fun p hp => ?_) rfl (fun c => ⟨c.1, c.2, c.3, c.4, c.5⟩)
  cases p <;> first | rfl | (exfalso; revert hw; simp_all)

theorem Frame.set_pins_mic {w : List Part} {r : Option (List Nat)} {s t : State} (x0 : Pins) (x1 : Mic)
    (hw : w.elem .pins && w.elem .mic) (h : Frame w r s t) : Frame w r s { t with pins := x0, mic := x1 } := by
  simp only [Bool.and_eq_true] at hw
  refine h.replace (fun p hp => ?_) rfl (fun c => ⟨c.1, c.2, c.3, c.4, c.5⟩)
  cases p <;> first | rfl | (exfalso; revert hw; simp_all)

theorem Frame.set_master_rear {w : List Part} {r : Option (List Nat)} {s t : State} (x0 : Master) (x1 : Rearguard)
    (hw : w.elem .master && w.elem .rear) (h : Frame w r s t) : Frame w r s { t with master := x0, rear := x1 } := by
  simp only [Bool.and_eq_true] at hw
  refine h.replace (fun p hp => ?_) rfl (fun c => ⟨c.1, c.2, c.3, c.4, c.5⟩)
  cases p <;> first | rfl | (exfalso; revert hw; simp_all)

theorem Frame.set_pins_call {w : List Part} {r : Option (List Nat)} {s t : State} (x0 : Pins) (x1 : CallBlk)
    (hw : w.elem .pins && w.elem .call) (h : Frame w r s t) : Frame w r s { t with pins := x0, call := x1 } := by
  simp only [Bool.and_eq_true] at hw
  refine h.replace (fun p hp => ?_) rfl (fun c => ⟨c.1, c.2, c.3, c.4, c.5⟩)
  cases p <;> first | rfl | (exfalso; revert hw; simp_all)

theorem Frame.set_pins_cart {w : List Part} {r : Option (List Nat)} {s t : State} (x0 : Pins) (x1 : Cart)
    (hw : w.elem .pins && w.elem .cart)
    (hA : Cells.wf tagFactory t.cart.mem = true → Cells.wf tagFactory x1.mem = true) (h : Frame w r s t) : Frame w r s { t with pins := x0, cart := x1 } := by
  simp only [Bool.and_eq_true] at hw
  refine h.replace (fun p hp => ?_) rfl (fun c => ⟨c.1, c.2, c.3, c.4, hA c.5⟩)
  cases p <;> first | rfl | (exfalso; revert hw; simp_all)

theorem Frame.set_pins_tag_cart {w : List Part} {r : Option (List Nat)} {s t : State} (x0 : Pins) (x1 : Tag) (x2 : Cart)
    (hw : w.elem .pins && w.elem .tag && w.elem .cart)
    (hA : Cells.wf tagFactory t.cart.mem = true → Cells.wf tagFactory x2.mem = true) (h : Frame w r s t) : Frame w r s { t with pins := x0, tag := x1, cart := x2 } := by
  simp only [Bool.and_eq_true] at hw
  refine h.replace (fun p hp => ?_) rfl (fun c => ⟨c.1, c.2, c.3, c.4, hA c.5⟩)
  cases p <;> first | rfl | (exfalso; revert hw; simp_all)

/-- Replacing the register file as a whole. -/
theorem Frame.set_regs {w : List Part} {s t : State} (x : Cells Word) (hw : w.elem .regs = true)
    (hA : Cells.wf regReset t.regs = true → Cells.wf regReset x = true) (h : Frame w none s t) : Frame w none s { t with regs := x } := by
  refine h.trans ⟨fun p hp => ?_, fun l hl => by simp at hl, fun c => ⟨hA c.1, c.2, c.3, c.4, c.5⟩⟩
  cases p <;> first | rfl | exact absurd (by simpa using hw) hp

/-- A write to the register at `o`. -/
theorem frame_setReg (s : State) (o : Nat) (v : Word) : Frame [.regs] (some [o]) s (s.setReg o v) := by
  refine ⟨fun p hp => ?_, fun l hl j hj => ?_, fun c => ⟨wf_set _ _ _ _ c.1, c.2, c.3, c.4, c.5⟩⟩
  · cases p <;> first | rfl | exact absurd (by simp) hp
  · obtain rfl := Option.some.inj hl
    exact reg_setReg_ne s v (by simpa using hj)

/-- A write to field `f`. -/
theorem frame_wr (s : State) (f : Field) (v : Nat) : Frame [.regs] (some [f.off]) s (s.wr f v) := frame_setReg s f.off _

theorem frame_put (s : State) (f : Field) (b : Bool) : Frame [.regs] (some [f.off]) s (s.put f b) := frame_setReg s f.off _

theorem frame_bumpBy (s : State) (f : Field) (n : Nat) : Frame [.regs] (some [f.off]) s (s.bumpBy f n) := frame_setReg s f.off _

theorem frame_bump (s : State) (f : Field) : Frame [.regs] (some [f.off]) s (s.bump f) := frame_setReg s f.off _

theorem frame_wrapInc (s : State) (f : Field) : Frame [.regs] (some [f.off]) s (s.wrapInc f) := frame_setReg s f.off _

theorem frame_setBit (s : State) (f : Field) (i : Nat) : Frame [.regs] (some [f.off]) s (s.setBit f i) := frame_setReg s f.off _

theorem frame_clrBit (s : State) (f : Field) (i : Nat) : Frame [.regs] (some [f.off]) s (s.clrBit f i) := by
  unfold State.clrBit
  exact Frame.ite (frame_wr s f _) (Frame.rfl' s)

/-- A frame that names its registers says what `OnlyThese` says. -/
theorem Frame.only {w : List Part} {l : List Nat} {s t : State} (h : Frame w (some l) s t) : OnlyThese w l s t := ⟨h.parts, h.regs l rfl⟩

/-- The lemma of an operation, as the parts it leaves. -/
theorem Frame.eq_of {w : List Part} {r : Option (List Nat)} {s t : State} (h : Frame w r s t) (p : Part) (hp : w.elem p = false) : p.same s t :=
  h.parts p (fun hm => by simp [hm] at hp)

theorem Frame.reg_eq {w : List Part} {l : List Nat} {s t : State} (h : Frame w (some l) s t) {o : Nat} (ho : l.elem o = false) :
    t.reg o = s.reg o := h.regs l rfl o (fun hm => by simp [hm] at ho)

theorem Frame.rf_eq {w : List Part} {l : List Nat} {s t : State} (h : Frame w (some l) s t) {f : Field} (ho : l.elem f.off = false) :
    t.rf f = s.rf f := rf_reg (h.reg_eq ho)

end Sys2Proof.Laws
end

