-- ==== Sys2Proof/Laws/FramePorts.lean ====
section
/-! SUPPORT. Writes to a register field of one line port or the other. -/

namespace Sys2Proof.Laws

open Sys2Proof.Machine

theorem lkF_off (p : Port) (f : Field) : ([f.off, f.off + 0x40] : List Nat).elem (lkF p f).off = true := by
  cases p <;> simp [lkF, atPort]

theorem frame_wr_lk (s : State) (p : Port) (f : Field) (v : Nat) : Frame [.regs] (some [f.off, f.off + 0x40]) s (s.wr (lkF p f) v) :=
  (frame_wr s _ v).mono (by simpa [within] using lkF_off p f)

theorem frame_put_lk (s : State) (p : Port) (f : Field) (b : Bool) : Frame [.regs] (some [f.off, f.off + 0x40]) s (s.put (lkF p f) b) :=
  (frame_put s _ b).mono (by simpa [within] using lkF_off p f)

theorem frame_bumpBy_lk (s : State) (p : Port) (f : Field) (n : Nat) : Frame [.regs] (some [f.off, f.off + 0x40]) s (s.bumpBy (lkF p f) n) :=
  (frame_bumpBy s _ n).mono (by simpa [within] using lkF_off p f)

theorem frame_bump_lk (s : State) (p : Port) (f : Field) : Frame [.regs] (some [f.off, f.off + 0x40]) s (s.bump (lkF p f)) :=
  (frame_bump s _).mono (by simpa [within] using lkF_off p f)

theorem frame_wrapInc_lk (s : State) (p : Port) (f : Field) : Frame [.regs] (some [f.off, f.off + 0x40]) s (s.wrapInc (lkF p f)) :=
  (frame_wrapInc s _).mono (by simpa [within] using lkF_off p f)

theorem frame_setBit_lk (s : State) (p : Port) (f : Field) (i : Nat) : Frame [.regs] (some [f.off, f.off + 0x40]) s (s.setBit (lkF p f) i) :=
  (frame_setBit s _ i).mono (by simpa [within] using lkF_off p f)

theorem frame_clrBit_lk (s : State) (p : Port) (f : Field) (i : Nat) : Frame [.regs] (some [f.off, f.off + 0x40]) s (s.clrBit (lkF p f) i) :=
  (frame_clrBit s _ i).mono (by simpa [within] using lkF_off p f)

theorem rxF_off (p : Port) (f : Field) : ([f.off, f.off + 0x10] : List Nat).elem (rxF p f).off = true := by
  cases p <;> simp [rxF, atPort]

theorem frame_wr_rx (s : State) (p : Port) (f : Field) (v : Nat) : Frame [.regs] (some [f.off, f.off + 0x10]) s (s.wr (rxF p f) v) :=
  (frame_wr s _ v).mono (by simpa [within] using rxF_off p f)

theorem frame_put_rx (s : State) (p : Port) (f : Field) (b : Bool) : Frame [.regs] (some [f.off, f.off + 0x10]) s (s.put (rxF p f) b) :=
  (frame_put s _ b).mono (by simpa [within] using rxF_off p f)

theorem frame_bumpBy_rx (s : State) (p : Port) (f : Field) (n : Nat) : Frame [.regs] (some [f.off, f.off + 0x10]) s (s.bumpBy (rxF p f) n) :=
  (frame_bumpBy s _ n).mono (by simpa [within] using rxF_off p f)

theorem frame_bump_rx (s : State) (p : Port) (f : Field) : Frame [.regs] (some [f.off, f.off + 0x10]) s (s.bump (rxF p f)) :=
  (frame_bump s _).mono (by simpa [within] using rxF_off p f)

theorem frame_wrapInc_rx (s : State) (p : Port) (f : Field) : Frame [.regs] (some [f.off, f.off + 0x10]) s (s.wrapInc (rxF p f)) :=
  (frame_wrapInc s _).mono (by simpa [within] using rxF_off p f)

theorem frame_setBit_rx (s : State) (p : Port) (f : Field) (i : Nat) : Frame [.regs] (some [f.off, f.off + 0x10]) s (s.setBit (rxF p f) i) :=
  (frame_setBit s _ i).mono (by simpa [within] using rxF_off p f)

theorem frame_clrBit_rx (s : State) (p : Port) (f : Field) (i : Nat) : Frame [.regs] (some [f.off, f.off + 0x10]) s (s.clrBit (rxF p f) i) :=
  (frame_clrBit s _ i).mono (by simpa [within] using rxF_off p f)

end Sys2Proof.Laws
end

