-- ==== Sys2Proof/Laws/FramesOps.lean ====
section
/-! SUPPORT. What each operation of Machine/Ops.lean may change, one lemma each: the parts of the state and, where they are few, the registers. -/

namespace Sys2Proof.Laws

open Sys2Proof.Machine

set_option Elab.async false

theorem frame_setClient (s : State) (i : Nat) (c : ClientSt) :
    Frame [.hif] (some []) s (State.setClient s i c) := by
  unfold State.setClient
  apply Frame.set_hif
  · rfl
  exact Frame.rfl' _

theorem frame_modClient (s : State) (i : Nat) (f : ClientSt → ClientSt) :
    Frame [.hif] (some []) s (State.modClient s i f) := by
  unfold State.modClient
  apply Frame.after (frame_setClient _ _ _)
  · decide +kernel
  exact Frame.rfl' _

theorem frame_eventTo (s : State) (e : Entry) (i : Nat) :
    Frame [.regs, .hif] (some evRegs) s (State.eventTo s e i) := by
  unfold State.eventTo
  refine Frame.ite ((frame_modClient _ _ _).mono (by decide +kernel)) ((frame_bump _ _).mono ?_)
  unfold overflowField
  split
  · rename_i h
    have : ∀ j : Fin 16, within [.regs] (some [(F.HIF_EVCNT.overflow j).off]) [.regs, .hif] (some evRegs) = true := by decide +kernel
    exact this ⟨i, h⟩
  · decide +kernel


theorem frame_eventAll (s : State) (p : Nat → ClientSt → Bool) (e : Entry) :
    Frame [.regs, .hif] (some evRegs) s (State.eventAll s p e) := by
  unfold State.eventAll
  apply Frame.foldl
  · exact Frame.rfl' _
  · intro _ _ _
    apply Frame.ite
    · apply Frame.after (frame_eventTo _ _ _)
      · decide +kernel
      assumption
    · assumption

theorem frame_raiseAt (s : State) (cycle : Word) (code : Nat) (a : Nat) (b : Nat) (c : Nat) (arg : Word) :
    Frame [.regs, .hif] (some evRegs) s (State.raiseAt s cycle code a b c arg) := by
  unfold State.raiseAt
  apply Frame.after (frame_eventAll _ _ _)
  · decide +kernel
  exact Frame.rfl' _

theorem frame_store (s : State) (kind : Nat) (port : Nat) (data : Word) :
    Frame [.regs, .dbg] (some [0x6028]) s (State.store s kind port data) := by
  unfold State.store
  apply Frame.ite
  · apply Frame.after (frame_bump _ _)
    · decide +kernel
    apply Frame.set_dbg
    · rfl
    exact Frame.rfl' _
  · apply Frame.ite
    · apply Frame.after (frame_put _ _ _)
      · decide +kernel
      apply Frame.ite
      · apply Frame.after (frame_put _ _ _)
        · decide +kernel
        apply Frame.after (frame_wr _ _ _)
        · decide +kernel
        apply Frame.set_dbg
        · rfl
        exact Frame.rfl' _
      · apply Frame.after (frame_wr _ _ _)
        · decide +kernel
        apply Frame.set_dbg
        · rfl
        exact Frame.rfl' _
    · apply Frame.ite
      · apply Frame.after (frame_put _ _ _)
        · decide +kernel
        apply Frame.after (frame_wr _ _ _)
        · decide +kernel
        apply Frame.set_dbg
        · rfl
        exact Frame.rfl' _
      · apply Frame.after (frame_wr _ _ _)
        · decide +kernel
        apply Frame.set_dbg
        · rfl
        exact Frame.rfl' _

theorem frame_traceAny (s : State) (kind : Nat) (port : Nat) (data : Word) :
    Frame [.regs, .dbg] (some [0x6028]) s (State.traceAny s kind port data) := by
  unfold State.traceAny
  apply Frame.ite
  · apply Frame.after (frame_store _ _ _ _)
    · decide +kernel
    exact Frame.rfl' _
  · exact Frame.rfl' _

theorem frame_stim (s : State) (p : Nat) (data : Nat) :
    Frame [.regs, .dbg] (some [0x6028]) s (State.stim s p data) := by
  unfold State.stim
  apply Frame.ite
  · apply Frame.after (frame_traceAny _ _ _ _)
    · decide +kernel
    exact Frame.rfl' _
  · exact Frame.rfl' _

theorem frame_raise (s : State) (code : Nat) (a : Nat) (b : Nat) (c : Nat) (arg : Word) :
    Frame [.regs, .hif] (some evRegs) s (State.raise s code a b c arg) := by
  unfold State.raise
  apply Frame.after (frame_raiseAt _ _ _ _ _ _ _)
  · decide +kernel
  exact Frame.rfl' _

theorem frame_dropBuf (s : State) (n : Nat) (id : Half) :
    Frame [.hif] (some []) s (State.dropBuf s n id) := by
  unfold State.dropBuf
  apply Frame.set_hif
  · rfl
  exact Frame.rfl' _

theorem frame_finishOne (s : State) (c : Nat) (j : Nat) (st : Status) (result : Word) (info : Word) :
    Frame [.regs, .hif, .dbg] (some [0x1414, 0x6028, 0x6848]) s (State.finishOne s c j st result info) := by
  unfold State.finishOne
  try dsimp -proj only
  split
  · exact Frame.rfl' _
  · apply Frame.ite
    · apply Frame.after (frame_bump _ _)
      · decide +kernel
      apply Frame.after (frame_stim _ _ _)
      · decide +kernel
      apply Frame.after (frame_modClient _ _ _)
      · decide +kernel
      split
      · apply Frame.after (frame_dropBuf _ _ _)
        · decide +kernel
        exact Frame.rfl' _
      · exact Frame.rfl' _
    · apply Frame.ite
      · apply Frame.after (frame_bump _ _)
        · decide +kernel
        apply Frame.after (frame_stim _ _ _)
        · decide +kernel
        apply Frame.after (frame_modClient _ _ _)
        · decide +kernel
        split
        · apply Frame.after (frame_dropBuf _ _ _)
          · decide +kernel
          exact Frame.rfl' _
        · exact Frame.rfl' _
      · apply Frame.after (frame_stim _ _ _)
        · decide +kernel
        apply Frame.after (frame_modClient _ _ _)
        · decide +kernel
        split
        · apply Frame.after (frame_dropBuf _ _ _)
          · decide +kernel
          exact Frame.rfl' _
        · exact Frame.rfl' _

theorem frame_abortRun (s : State) (c : Nat) (j : Nat) (x3 : Nat) :
    Frame [.regs, .hif, .dbg] (some [0x1414, 0x6028, 0x6848]) s (State.abortRun s c j x3) := by
  induction x3 generalizing s with
  | zero => exact Frame.rfl' s
  | succ n ih => exact (frame_finishOne s c j .aborted 0 0).trans (ih _)


theorem frame_finish (s : State) (c : Nat) (j : Nat) (st : Status) (result : Word) (info : Word) :
    Frame [.regs, .hif, .dbg] (some [0x1414, 0x6028, 0x6848]) s (State.finish s c j st result info) := by
  unfold State.finish
  try dsimp -proj only
  split
  · exact Frame.rfl' _
  · apply Frame.ite
    · apply Frame.after (frame_finishOne _ _ _ _ _ _)
      · decide +kernel
      exact Frame.rfl' _
    · apply Frame.after (frame_abortRun _ _ _ _)
      · decide +kernel
      apply Frame.after (frame_finishOne _ _ _ _ _ _)
      · decide +kernel
      exact Frame.rfl' _

theorem frame_finishWhere (s : State) (c : Nat) (p : InFlight → Bool) (st : Status) (result : Word) (info : Word) :
    Frame [.regs, .hif, .dbg] (some [0x1414, 0x6028, 0x6848]) s (State.finishWhere s c p st result info) := by
  unfold State.finishWhere
  try dsimp -proj only
  split
  · apply Frame.after (frame_finish _ _ _ _ _ _)
    · decide +kernel
    exact Frame.rfl' _
  · exact Frame.rfl' _

theorem frame_bumpGen (s : State) (f : Field) (i : Nat) : Frame [.regs] (some [f.off, F.GLB_BLOCK_RESET.gen_changed.off]) s (State.bumpGen s f i) :=
  ((frame_wrapInc s f).mono (by simp [within])).trans ((frame_setBit _ _ i).mono (by simp [within]))

theorem frame_takeFree (s : State) (n : Nat) :
    Frame [.free] (some []) s (State.takeFree s n) := by
  unfold State.takeFree
  apply Frame.set_free
  · rfl
  exact Frame.rfl' _

theorem frame_setPhase (s : State) (c : Nat) (j : Nat) (ph : Phase) :
    Frame [.hif] (some []) s (State.setPhase s c j ph) := by
  unfold State.setPhase
  apply Frame.after (frame_modClient _ _ _)
  · decide +kernel
  exact Frame.rfl' _

theorem frame_setReg64 (s : State) (lo : Nat) (hi : Nat) (v : Dword) : Frame [.regs] (some [lo, hi]) s (State.setReg64 s lo hi v) :=
  ((frame_setReg s lo _).mono (by simp [within])).trans ((frame_setReg _ hi _).mono (by simp [within]))

theorem frame_finishAll (s : State) (c : Nat) (p : InFlight → Bool) (st : Status) (x4 : Nat) :
    Frame [.regs, .hif, .dbg] (some [0x1414, 0x6028, 0x6848]) s (State.finishAll s c p st x4) := by
  induction x4 generalizing s with
  | zero => exact Frame.rfl' s
  | succ n ih =>
    unfold State.finishAll
    split
    · exact (frame_finish s c _ st 0 0).trans (ih _)
    · exact Frame.rfl' s


theorem frame_finishEvery (s : State) (p : Nat → InFlight → Bool) (st : Status) :
    Frame [.regs, .hif, .dbg] (some [0x1414, 0x6028, 0x6848]) s (State.finishEvery s p st) := by
  unfold State.finishEvery
  apply Frame.foldl
  · exact Frame.rfl' _
  · intro _ _ _
    apply Frame.after (frame_finishAll _ _ _ _ _)
    · decide +kernel
    assumption

end Sys2Proof.Laws
end

