-- ==== Sys2Proof/Laws/FramesSleep.lean ====
section
/-! SUPPORT. What each operation of Machine/Sleep.lean may change, one lemma each: the parts of the state and, where they are few, the registers. -/

namespace Sys2Proof.Laws

open Sys2Proof.Machine

set_option Elab.async false

theorem frame_restoreEq (s : State) :
    Frame [.phy] (some []) s (State.restoreEq s) := by
  unfold State.restoreEq
  try dsimp -proj only
  split
  · apply Frame.set_phy
    · rfl
    exact Frame.rfl' _
  · exact Frame.rfl' _

theorem frame_clearCounters (s : State) (o : Nat) :
    Frame [.regs] none s (State.clearCounters s o) := by
  unfold State.clearCounters
  try dsimp -proj only
  split
  · exact Frame.rfl' _
  · apply Frame.after (frame_setReg _ _ _)
    · rfl
    exact Frame.rfl' _

theorem frame_clearDomain (s : State) (p : Domain → Bool) :
    Frame [.regs] none s (State.clearDomain s p) := by
  unfold State.clearDomain
  apply Frame.foldl
  · exact Frame.rfl' _
  · intro _ _ _
    apply Frame.ite
    · apply Frame.after (frame_clearCounters _ _)
      · decide +kernel
      assumption
    · assumption

theorem frame_reloadModel (s : State) :
    Frame [.regs] (some [0x4804]) s (State.reloadModel s) := by
  unfold State.reloadModel
  apply Frame.ite
  · apply Frame.after (frame_put _ _ _)
    · decide +kernel
    exact Frame.rfl' _
  · exact Frame.rfl' _

theorem frame_exitEvents (s : State) :
    Frame [.regs, .mic, .hif] (some evRegs) s (State.exitEvents s) := by
  unfold State.exitEvents
  apply Frame.foldl
  · apply Frame.set_mic
    · rfl
    exact Frame.rfl' _
  · intro _ _ _
    apply Frame.after (frame_raiseAt _ _ _ _ _ _ _)
    · decide +kernel
    assumption

theorem frame_s5Boot (s : State) :
    Frame [.regs, .plt, .phy, .link, .master, .rear, .way, .stack, .intake, .mix, .ech, .call, .mic, .wake, .hif, .tag, .toll, .pwr, .cfg, .dbg] none s (State.s5Boot s) := by
  unfold State.s5Boot
  refine Frame.after (frame_exitEvents _) (by decide +kernel) ?_
  refine Frame.after (frame_put _ _ _) rfl (Frame.after (frame_put _ _ _) rfl (Frame.after (frame_put _ _ _) rfl (Frame.after (frame_put _ _ _) rfl ?_)))
  refine ⟨fun p hp => ?_, fun l hl => by simp at hl, fun c => ⟨wf_filter _ _ _ keptInS5 c.1 (fun _ _ => rfl), c.2, c.3, c.4, c.5⟩⟩
  cases p <;> first | rfl | exact absurd (by decide) hp


theorem frame_startReconv (s : State) :
    Frame [.regs, .ech] (some [0x3080]) s (State.startReconv s) := by
  unfold State.startReconv
  apply Frame.after (frame_put _ _ _)
  · decide +kernel
  apply Frame.set_ech
  · rfl
  exact Frame.rfl' _

theorem frame_emptyHistory (s : State) :
    Frame [.wake] (some []) s (State.emptyHistory s) := by
  unfold State.emptyHistory
  apply Frame.set_wake
  · rfl
  exact Frame.rfl' _

theorem frame_rebuildBank (s : State) (b : Nat) :
    Frame [.regs, .phy, .link, .rear, .mix, .ech, .wake] (some [0x3080, 0x4804]) s (State.rebuildBank s b) := by
  unfold State.rebuildBank
  try dsimp -proj only
  split
  · apply Frame.after (frame_put _ _ _)
    · decide +kernel
    exact Frame.rfl' _
  · apply Frame.after (frame_emptyHistory _)
    · decide +kernel
    exact Frame.rfl' _
  · apply Frame.after (frame_emptyHistory _)
    · decide +kernel
    exact Frame.rfl' _
  · apply Frame.after (frame_startReconv _)
    · decide +kernel
    exact Frame.rfl' _
  · apply Frame.after (frame_startReconv _)
    · decide +kernel
    exact Frame.rfl' _
  · apply Frame.set_mix
    · rfl
    exact Frame.rfl' _
  · apply Frame.set_mix
    · rfl
    exact Frame.rfl' _
  · apply Frame.set_rear
    · rfl
    exact Frame.rfl' _
  · apply Frame.set_phy_link
    · rfl
    exact Frame.rfl' _
  · exact Frame.rfl' _

theorem frame_setPower (s : State) (n : Nat) :
    Frame [.regs, .pwr, .dbg] (some [0x6028]) s (State.setPower s n) := by
  unfold State.setPower
  apply Frame.after (frame_stim _ _ _)
  · decide +kernel
  apply Frame.set_pwr
  · rfl
  exact Frame.rfl' _

theorem frame_exitToRun (s : State) :
    Frame [.regs, .plt, .phy, .link, .master, .rear, .way, .stack, .intake, .mix, .ech, .call, .mic, .wake, .hif, .tag, .toll, .pwr, .cfg, .dbg] none s (State.exitToRun s) := by
  unfold State.exitToRun
  apply Frame.ite
  · exact Frame.rfl' _
  · apply Frame.ite
    · apply Frame.after (frame_stim _ _ _)
      · decide +kernel
      apply Frame.set_pwr
      · rfl
      exact Frame.rfl' _
    · apply Frame.ite
      · apply Frame.after (frame_s5Boot _)
        · decide +kernel
        exact Frame.rfl' _
      · apply Frame.after (frame_exitEvents _)
        · decide +kernel
        apply Frame.after (frame_reloadModel _)
        · decide +kernel
        apply Frame.ite
        · apply Frame.set_pwr
          · rfl
          apply Frame.after (frame_setPower _ _)
          · decide +kernel
          apply Frame.ite
          · apply Frame.set_dbg
            · rfl
            apply Frame.foldl
            · apply Frame.after (frame_restoreEq _)
              · decide +kernel
              apply Frame.after (frame_clearDomain _ _)
              · decide +kernel
              exact Frame.rfl' _
            · intro _ _ _
              apply Frame.ite
              · apply Frame.after (frame_rebuildBank _ _)
                · decide +kernel
                assumption
              · assumption
          · apply Frame.foldl
            · apply Frame.after (frame_restoreEq _)
              · decide +kernel
              apply Frame.after (frame_clearDomain _ _)
              · decide +kernel
              exact Frame.rfl' _
            · intro _ _ _
              apply Frame.ite
              · apply Frame.after (frame_rebuildBank _ _)
                · decide +kernel
                assumption
              · assumption
        · apply Frame.after (frame_setPower _ _)
          · decide +kernel
          apply Frame.ite
          · apply Frame.set_dbg
            · rfl
            apply Frame.foldl
            · apply Frame.after (frame_restoreEq _)
              · decide +kernel
              apply Frame.after (frame_clearDomain _ _)
              · decide +kernel
              exact Frame.rfl' _
            · intro _ _ _
              apply Frame.ite
              · apply Frame.after (frame_rebuildBank _ _)
                · decide +kernel
                assumption
              · assumption
          · apply Frame.foldl
            · apply Frame.after (frame_restoreEq _)
              · decide +kernel
              apply Frame.after (frame_clearDomain _ _)
              · decide +kernel
              exact Frame.rfl' _
            · intro _ _ _
              apply Frame.ite
              · apply Frame.after (frame_rebuildBank _ _)
                · decide +kernel
                assumption
              · assumption

theorem frame_abortEntry (s : State) (why : Nat) :
    Frame [.regs, .pwr] (some [0x0890]) s (State.abortEntry s why) := by
  unfold State.abortEntry
  apply Frame.ite
  · exact Frame.rfl' _
  · apply Frame.after (frame_wr _ _ _)
    · decide +kernel
    apply Frame.after (frame_bump _ _)
    · decide +kernel
    apply Frame.set_pwr
    · rfl
    exact Frame.rfl' _

theorem frame_wakeBy (s : State) (bits : Nat) :
    Frame [.regs, .plt, .phy, .link, .master, .rear, .way, .stack, .intake, .mix, .ech, .call, .mic, .wake, .hif, .tag, .toll, .pwr, .cfg, .dbg] none s (State.wakeBy s bits) := by
  unfold State.wakeBy
  apply Frame.ite
  · exact Frame.rfl' _
  · apply Frame.ite
    · apply Frame.after (frame_exitToRun _)
      · decide +kernel
      apply Frame.after (frame_abortEntry _ _)
      · decide +kernel
      apply Frame.after (frame_stim _ _ _)
      · decide +kernel
      apply Frame.after (frame_wr _ _ _)
      · decide +kernel
      exact Frame.rfl' _
    · apply Frame.after (frame_abortEntry _ _)
      · decide +kernel
      apply Frame.after (frame_stim _ _ _)
      · decide +kernel
      apply Frame.after (frame_wr _ _ _)
      · decide +kernel
      exact Frame.rfl' _

theorem frame_loseBank (s : State) (b : Nat) :
    Frame [.mem, .pwr, .free] (some []) s (State.loseBank s b) := by
  refine ⟨fun p hp => ?_, fun _ _ o _ => rfl, fun c => ⟨c.1, ?_, c.3, c.4, c.5⟩⟩
  · cases p <;> first | rfl | exact absurd (by decide) hp
  · refine wf_filter _ _ _ (fun k => decide (k / 0x20000 ≠ b)) c.2 (fun k hk => ?_)
    have hk : b ≠ k / 0x20000 := fun h => by simp [h] at hk
    simp [State.loseBank, sramByte, List.getD_eq_getElem?_getD, List.getElem?_set_ne hk]


theorem frame_setEq (s : State) (p : Port) (a : Nat) (e : EqEntry) :
    Frame [.phy] (some []) s (State.setEq s p a e) := by
  unfold State.setEq
  try dsimp -proj only
  split
  · apply Frame.set_phy
    · rfl
    exact Frame.rfl' _
  · apply Frame.set_phy
    · rfl
    exact Frame.rfl' _

theorem frame_loseBanks (s : State) (n : Nat) :
    Frame [.mem, .pwr, .free] (some []) s (State.loseBanks s n) := by
  unfold State.loseBanks
  apply Frame.foldl
  · apply Frame.set_pwr
    · rfl
    exact Frame.rfl' _
  · intro _ _ _
    apply Frame.ite
    · assumption
    · apply Frame.after (frame_loseBank _ _)
      · decide +kernel
      assumption

theorem frame_enterSleep (s : State) (n : Nat) :
    Frame [.mem, .pins, .regs, .plt, .phy, .pwr, .dbg, .free] (some [0x0890, 0x0A04, 0x6028]) s (State.enterSleep s n) := by
  unfold State.enterSleep
  apply Frame.after (frame_setPower _ _)
  · decide +kernel
  apply Frame.set_plt_phy
  · rfl
  apply Frame.ite
  · apply Frame.set_pins
    · rfl
    apply Frame.after (frame_loseBanks _ _)
    · decide +kernel
    apply Frame.ite
    · apply Frame.set_plt_phy
      · rfl
      apply Frame.after (frame_put _ _ _)
      · decide +kernel
      apply Frame.after (frame_bump _ _)
      · decide +kernel
      exact Frame.rfl' _
    · apply Frame.after (frame_put _ _ _)
      · decide +kernel
      apply Frame.after (frame_bump _ _)
      · decide +kernel
      exact Frame.rfl' _
  · apply Frame.after (frame_loseBanks _ _)
    · decide +kernel
    apply Frame.ite
    · apply Frame.set_plt_phy
      · rfl
      apply Frame.after (frame_put _ _ _)
      · decide +kernel
      apply Frame.after (frame_bump _ _)
      · decide +kernel
      exact Frame.rfl' _
    · apply Frame.after (frame_put _ _ _)
      · decide +kernel
      apply Frame.after (frame_bump _ _)
      · decide +kernel
      exact Frame.rfl' _

end Sys2Proof.Laws
end

