-- ==== Sys2Proof/Laws/FramesLine.lean ====
section
/-! SUPPORT. What each operation of Machine/Line.lean may change, one lemma each: the parts of the state and, where they are few, the registers. -/

namespace Sys2Proof.Laws

open Sys2Proof.Machine

set_option Elab.async false

theorem frame_tellLost (s : State) (o : LeaseOwner) (slot : Nat) (reason : Nat) :
    Frame [.regs, .hif] (some evRegs) s (State.tellLost s o slot reason) := by
  unfold State.tellLost
  try dsimp -proj only
  split
  · exact Frame.rfl' _
  · exact Frame.rfl' _
  · apply Frame.after (frame_raise _ _ _ _ _ _)
    · decide +kernel
    exact Frame.rfl' _

theorem frame_setMst (s : State) (p : Port) (m : Master) :
    Frame [.master, .way] (some []) s (State.setMst s p m) := by
  unfold State.setMst
  try dsimp -proj only
  split
  · apply Frame.set_master
    · rfl
    exact Frame.rfl' _
  · apply Frame.set_way
    · rfl
    exact Frame.rfl' _

theorem frame_triggerActive (s : State) (p : Port) :
    Frame [.regs, .master, .way] (some [0x2084, 0x20C4]) s (State.triggerActive s p) := by
  unfold State.triggerActive
  apply Frame.ite
  · apply Frame.after (frame_wr_lk _ _ _ _)
    · decide +kernel
    apply Frame.after (frame_setMst _ _ _)
    · decide +kernel
    exact Frame.rfl' _
  · exact Frame.rfl' _

theorem frame_setLnk (s : State) (p : Port) (l : Link) :
    Frame [.link, .way] (some []) s (State.setLnk s p l) := by
  unfold State.setLnk
  try dsimp -proj only
  split
  · apply Frame.set_link
    · rfl
    exact Frame.rfl' _
  · apply Frame.set_way
    · rfl
    exact Frame.rfl' _

theorem frame_modLnk (s : State) (p : Port) (f : Link → Link) :
    Frame [.link, .way] (some []) s (State.modLnk s p f) := by
  unfold State.modLnk
  apply Frame.after (frame_setLnk _ _ _)
  · decide +kernel
  exact Frame.rfl' _

theorem frame_post (s : State) (p : Port) (m : Msg) :
    Frame [.regs, .link, .master, .way] (some [0x2084, 0x20C4]) s (State.post s p m) := by
  unfold State.post
  apply Frame.ite
  · apply Frame.after (frame_modLnk _ _ _)
    · decide +kernel
    apply Frame.ite
    · apply Frame.after (frame_triggerActive _ _)
      · decide +kernel
      exact Frame.rfl' _
    · exact Frame.rfl' _
  · apply Frame.after (frame_modLnk _ _ _)
    · decide +kernel
    apply Frame.ite
    · apply Frame.after (frame_triggerActive _ _)
      · decide +kernel
      exact Frame.rfl' _
    · exact Frame.rfl' _

theorem frame_requestLease (s : State) (p : Port) (owner : LeaseOwner) (standing : Bool) (group : Nat) (format : Nat) (prec : Nat) (catchup : Nat) :
    Frame [.regs, .link, .master, .way] (some [0x2084, 0x20C4]) s (State.requestLease s p owner standing group format prec catchup) := by
  unfold State.requestLease
  apply Frame.ite
  · apply Frame.after (frame_modLnk _ _ _)
    · decide +kernel
    apply Frame.after (frame_triggerActive _ _)
    · decide +kernel
    apply Frame.after (frame_modLnk _ _ _)
    · decide +kernel
    exact Frame.rfl' _
  · apply Frame.after (frame_post _ _ _)
    · decide +kernel
    apply Frame.after (frame_modLnk _ _ _)
    · decide +kernel
    exact Frame.rfl' _

theorem frame_requestForCall (s : State) (r : Nat) :
    Frame [.regs, .link, .master, .way] (some [0x2084, 0x20C4]) s (State.requestForCall s r) := by
  unfold State.requestForCall
  try dsimp -proj only
  split
  · apply Frame.after (frame_requestLease _ _ _ _ _ _ _ _)
    · decide +kernel
    exact Frame.rfl' _
  · exact Frame.rfl' _

theorem frame_callAgain (s : State) (o : LeaseOwner) :
    Frame [.regs, .link, .master, .way] (some [0x2084, 0x20C4]) s (State.callAgain s o) := by
  unfold State.callAgain
  try dsimp -proj only
  split
  · split
    · apply Frame.ite
      · apply Frame.ite
        · exact Frame.rfl' _
        · apply Frame.after (frame_requestForCall _ _)
          · decide +kernel
          exact Frame.rfl' _
      · exact Frame.rfl' _
    · exact Frame.rfl' _
  · exact Frame.rfl' _

theorem frame_loseLease (s : State) (p : Port) (h : HeldLease) (reason : Nat) :
    Frame [.regs, .link, .master, .way, .hif] (some (evRegs ++ [0x2084, 0x20C4])) s (State.loseLease s p h reason) := by
  unfold State.loseLease
  apply Frame.after (frame_callAgain _ _)
  · decide +kernel
  apply Frame.after (frame_tellLost _ _ _ _)
  · decide +kernel
  apply Frame.after (frame_modLnk _ _ _)
  · decide +kernel
  exact Frame.rfl' _

theorem frame_modMst (s : State) (p : Port) (f : Master → Master) :
    Frame [.master, .way] (some []) s (State.modMst s p f) := by
  unfold State.modMst
  apply Frame.after (frame_setMst _ _ _)
  · decide +kernel
  exact Frame.rfl' _

theorem frame_journalFrame (s : State) (f : LedgerFrame) :
    Frame [.regs, .rear] (some [0x2118]) s (State.journalFrame s f) := by
  unfold State.journalFrame
  apply Frame.ite
  · exact Frame.rfl' _
  · apply Frame.ite
    · apply Frame.set_rear
      · rfl
      exact Frame.rfl' _
    · apply Frame.after (frame_put _ _ _)
      · decide +kernel
      apply Frame.set_rear
      · rfl
      exact Frame.rfl' _

theorem frame_hearNode (s : State) (p : Port) (a : Nat) :
    Frame [.master, .way] (some []) s (State.hearNode s p a) := by
  unfold State.hearNode
  apply Frame.ite
  · apply Frame.after (frame_modMst _ _ _)
    · decide +kernel
    exact Frame.rfl' _
  · exact Frame.rfl' _

theorem frame_loseAll (s : State) (p : Port) (reason : Nat) :
    Frame [.regs, .link, .master, .way, .hif] (some (evRegs ++ [0x2084, 0x20C4])) s (State.loseAll s p reason) := by
  unfold State.loseAll
  apply Frame.foldl
  · exact Frame.rfl' _
  · intro _ _ _
    apply Frame.after (frame_loseLease _ _ _ _)
    · decide +kernel
    assumption

theorem frame_giveUpAddress (s : State) (p : Port) (reason : Nat) :
    Frame [.regs, .link, .master, .way, .hif] (some (evRegs ++ [0x2080, 0x2084, 0x20C0, 0x20C4])) s (State.giveUpAddress s p reason) := by
  unfold State.giveUpAddress
  apply Frame.after (frame_modLnk _ _ _)
  · decide +kernel
  apply Frame.after (frame_wr_lk _ _ _ _)
  · decide +kernel
  apply Frame.after (frame_wr_lk _ _ _ _)
  · decide +kernel
  apply Frame.after (frame_put_lk _ _ _ _)
  · decide +kernel
  apply Frame.after (frame_loseAll _ _ _)
  · decide +kernel
  exact Frame.rfl' _

theorem frame_ownAddrSeen (s : State) (p : Port) :
    Frame [.regs, .phy, .link, .master, .way, .hif] (some (evRegs ++ [0x2048, 0x2058, 0x2080, 0x2084, 0x20C0, 0x20C4])) s (State.ownAddrSeen s p) := by
  unfold State.ownAddrSeen
  apply Frame.ite
  · apply Frame.after (frame_bump_rx _ _ _)
    · decide +kernel
    exact Frame.rfl' _
  · apply Frame.ite
    · apply Frame.after (frame_modLnk _ _ _)
      · decide +kernel
      apply Frame.after (frame_giveUpAddress _ _ _)
      · decide +kernel
      apply Frame.set_phy
      · rfl
      apply Frame.after (frame_bump_rx _ _ _)
      · decide +kernel
      exact Frame.rfl' _
    · apply Frame.set_phy
      · rfl
      apply Frame.after (frame_bump_rx _ _ _)
      · decide +kernel
      exact Frame.rfl' _

theorem frame_adaptTaps (s : State) (p : Port) (a : Nat) :
    Frame [.phy, .free] (some []) s (State.adaptTaps s p a) := by
  unfold State.adaptTaps
  apply Frame.ite
  · apply Frame.after (frame_takeFree _ _)
    · decide +kernel
    apply Frame.after (frame_setEq _ _ _ _)
    · decide +kernel
    exact Frame.rfl' _
  · exact Frame.rfl' _

theorem frame_statusDue (s : State) (p : Port) :
    Frame [.regs, .link, .master, .way] (some [0x2084, 0x20C4]) s (State.statusDue s p) := by
  unfold State.statusDue
  try dsimp -proj only
  apply Frame.ite
  · exact Frame.rfl' _
  · apply Frame.ite
    · exact Frame.rfl' _
    · split
      · apply Frame.after (frame_post _ _ _)
        · decide +kernel
        exact Frame.rfl' _
      · apply Frame.after (frame_post _ _ _)
        · decide +kernel
        exact Frame.rfl' _

theorem frame_creditCrc (s : State) (p : Port) (a : Nat) :
    Frame [.regs, .phy, .link, .master, .way] (some [0x2084, 0x20C4]) s (State.creditCrc s p a) := by
  unfold State.creditCrc
  try dsimp -proj only
  split
  · apply Frame.after (frame_statusDue _ _)
    · decide +kernel
    apply Frame.after (frame_setEq _ _ _ _)
    · decide +kernel
    exact Frame.rfl' _
  · apply Frame.after (frame_setEq _ _ _ _)
    · decide +kernel
    exact Frame.rfl' _
  · exact Frame.rfl' _

theorem frame_chargeCrc (s : State) (p : Port) (a : Nat) :
    Frame [.regs, .phy, .link, .master, .way] (some [0x2084, 0x20C4]) s (State.chargeCrc s p a) := by
  unfold State.chargeCrc
  apply Frame.ite
  · apply Frame.ite
    · apply Frame.after (frame_statusDue _ _)
      · decide +kernel
      apply Frame.after (frame_setEq _ _ _ _)
      · decide +kernel
      exact Frame.rfl' _
    · apply Frame.after (frame_setEq _ _ _ _)
      · decide +kernel
      exact Frame.rfl' _
  · exact Frame.rfl' _

theorem frame_frameReceived (s : State) (f : LedgerFrame) :
    Frame [.regs, .phy, .link, .master, .way, .hif, .free] (some (evRegs ++ [0x2044, 0x2048, 0x2054, 0x2058, 0x2080, 0x2084, 0x20C0, 0x20C4])) s (State.frameReceived s f).1 := by
  unfold State.frameReceived
  try dsimp -proj only
  split
  · apply Frame.after (frame_bump_rx _ _ _)
    · decide +kernel
    exact Frame.rfl' _
  · split
    · split
      · apply Frame.after (frame_chargeCrc _ _ _)
        · decide +kernel
        apply Frame.after (frame_bump_rx _ _ _)
        · decide +kernel
        exact Frame.rfl' _
      · apply Frame.after (frame_bump_rx _ _ _)
        · decide +kernel
        exact Frame.rfl' _
    · apply Frame.ite
      · apply Frame.ite
        · apply Frame.after (frame_ownAddrSeen _ _)
          · decide +kernel
          apply Frame.ite
          · exact Frame.rfl' _
          · apply Frame.after (frame_adaptTaps _ _ _)
            · decide +kernel
            apply Frame.after (frame_creditCrc _ _ _)
            · decide +kernel
            exact Frame.rfl' _
        · apply Frame.ite
          · exact Frame.rfl' _
          · apply Frame.after (frame_adaptTaps _ _ _)
            · decide +kernel
            apply Frame.after (frame_creditCrc _ _ _)
            · decide +kernel
            exact Frame.rfl' _
      · apply Frame.after (frame_hearNode _ _ _)
        · decide +kernel
        apply Frame.ite
        · apply Frame.after (frame_ownAddrSeen _ _)
          · decide +kernel
          apply Frame.ite
          · exact Frame.rfl' _
          · apply Frame.after (frame_adaptTaps _ _ _)
            · decide +kernel
            apply Frame.after (frame_creditCrc _ _ _)
            · decide +kernel
            exact Frame.rfl' _
        · apply Frame.ite
          · exact Frame.rfl' _
          · apply Frame.after (frame_adaptTaps _ _ _)
            · decide +kernel
            apply Frame.after (frame_creditCrc _ _ _)
            · decide +kernel
            exact Frame.rfl' _

/-- A ledger frame's effect is framed as widely as what the frame asks for. -/
theorem frame_frame (s : State) (f : LedgerFrame) (expect : Nat) (wakes : State → Bool) (act : State → State)
    (h : ∀ t, Frame wide none t (act t)) : Frame wide none s (State.frame s f expect wakes act) := by
  unfold State.frame
  try dsimp -proj only
  apply Frame.ite
  · exact Frame.rfl' _
  apply Frame.ite
  · exact (frame_frameReceived s f).mono (by decide +kernel)
  have h0 : Frame wide none s (((s.frameReceived f).fst).journalFrame f) :=
    Frame.after (frame_journalFrame _ _) (by decide +kernel) ((frame_frameReceived s f).mono (by decide +kernel))
  apply Frame.ite
  · exact h0
  apply Frame.ite
  · exact Frame.after (frame_bump_lk _ _ _) (by decide +kernel) h0
  apply Frame.ite
  · exact h0
  apply Frame.ite
  · exact Frame.after (frame_bump_lk _ _ _) (by decide +kernel) h0
  apply Frame.ite
  · exact h0
  refine Frame.trans ?_ (h _)
  refine Frame.after (frame_stim _ _ _) (by decide +kernel) (Frame.after (frame_modLnk _ _ _) (by decide +kernel) ?_)
  have h1 := Frame.ite (c := 2 ≤ (((s.frameReceived f).fst).journalFrame f).pwr.state) (Frame.after (frame_wakeBy _ 1) (by decide +kernel) h0) h0
  exact Frame.ite (Frame.set_pwr _ rfl h1) h1

theorem frame_setRow (s : State) (p : Port) (k : Nat) (r : Option LeaseRow) (code : Nat) :
    Frame [.regs, .link, .way, .dbg] (some [0x6028]) s (State.setRow s p k r code) := by
  unfold State.setRow
  apply Frame.after (frame_stim _ _ _)
  · decide +kernel
  apply Frame.after (frame_modLnk _ _ _)
  · decide +kernel
  exact Frame.rfl' _

theorem frame_untrain (s : State) (p : Port) (a : Nat) :
    Frame [.phy] (some []) s (State.untrain s p a) := by
  unfold State.untrain
  apply Frame.after (frame_setEq _ _ _ _)
  · decide +kernel
  exact Frame.rfl' _

theorem frame_drive (s : State) (b : Burst) :
    Frame [.phy] (some []) s (State.drive s b) := by
  unfold State.drive
  apply Frame.set_phy
  · rfl
  exact Frame.rfl' _

theorem frame_trainEq (s : State) (p : Port) (a : Nat) :
    Frame [.regs, .phy, .link, .master, .way, .free] (some [0x2084, 0x20C4]) s (State.trainEq s p a) := by
  unfold State.trainEq
  apply Frame.after (frame_takeFree _ _)
  · decide +kernel
  apply Frame.after (frame_setEq _ _ _ _)
  · decide +kernel
  apply Frame.ite
  · apply Frame.after (frame_statusDue _ _)
    · decide +kernel
    exact Frame.rfl' _
  · exact Frame.rfl' _

end Sys2Proof.Laws
end

