-- ==== Sys2Proof/Laws/FramesMastering.lean ====
section
/-! SUPPORT. What each operation of Machine/Mastering.lean may change, one lemma each: the parts of the state and, where they are few, the registers. -/

namespace Sys2Proof.Laws

open Sys2Proof.Machine

set_option Elab.async false

theorem frame_postGrants (s : State) (p : Port) (es : List GrantEntry) (x3 : Nat) :
    Frame [.regs, .link, .master, .way] (some [0x2084, 0x20C4]) s (State.postGrants s p es x3) := by
  induction x3 generalizing s es with
  | zero => exact Frame.rfl' s
  | succ n ih =>
    unfold State.postGrants
    exact Frame.ite (Frame.rfl' s) ((frame_post s p _).trans (ih _ _))


theorem frame_rosterDelta (s : State) (p : Port) (rows : List RosterRow) :
    Frame [.regs, .link, .master, .way] (some [0x2084, 0x20C4]) s (State.rosterDelta s p rows) := by
  unfold State.rosterDelta
  apply Frame.after (frame_modLnk _ _ _)
  · decide +kernel
  apply Frame.after (frame_modMst _ _ _)
  · decide +kernel
  exact Frame.rfl' _

theorem frame_grantOut (s : State) (p : Port) (es : List GrantEntry) :
    Frame [.regs, .link, .master, .way] (some [0x2084, 0x20C4]) s (State.grantOut s p es) := by
  unfold State.grantOut
  apply Frame.after (frame_postGrants _ _ _ _)
  · decide +kernel
  exact Frame.rfl' _

theorem frame_leaseChange (s : State) (p : Port) (f : Master → Master × List GrantEntry) :
    Frame [.regs, .link, .master, .way] (some [0x2084, 0x20C4]) s (State.leaseChange s p f) := by
  unfold State.leaseChange
  apply Frame.after (frame_grantOut _ _ _)
  · decide +kernel
  apply Frame.after (frame_setMst _ _ _)
  · decide +kernel
  exact Frame.rfl' _

theorem frame_takeRequest (s : State) (p : Port) (q : MReq) :
    Frame [.regs, .link, .master, .way] (some [0x2084, 0x20C4]) s (State.takeRequest s p q) := by
  unfold State.takeRequest
  apply Frame.after (frame_leaseChange _ _ _)
  · decide +kernel
  exact Frame.rfl' _

theorem frame_setLineState (s : State) (p : Port) (n : Nat) :
    Frame [.regs, .hif] (some (evRegs ++ [0x2084, 0x20C4])) s (State.setLineState s p n) := by
  unfold State.setLineState
  apply Frame.ite
  · exact Frame.rfl' _
  · apply Frame.after (frame_raise _ _ _ _ _ _)
    · decide +kernel
    apply Frame.after (frame_wr_lk _ _ _ _)
    · decide +kernel
    exact Frame.rfl' _

theorem frame_ownClass (s : State) (c : Nat) :
    Frame [.p57, .intake] (some []) s (State.ownClass s c) := by
  unfold State.ownClass
  apply Frame.set_p57_intake
  · rfl
  exact Frame.rfl' _

theorem frame_stepDown (s : State) (p : Port) :
    Frame [.regs, .master, .way] (some [0x2110, 0x2130]) s (State.stepDown s p) := by
  unfold State.stepDown
  try dsimp -proj only
  apply Frame.after (frame_setMst _ _ _)
  · decide +kernel
  split
  · apply Frame.after (frame_put _ _ _)
    · decide +kernel
    apply Frame.after (frame_wr _ _ _)
    · decide +kernel
    exact Frame.rfl' _
  · apply Frame.after (frame_wr _ _ _)
    · decide +kernel
    exact Frame.rfl' _

theorem frame_wakeSleepers (s : State) (p : Port) (m : Msg) :
    Frame [.master, .way] (some []) s (State.wakeSleepers s p m) := by
  unfold State.wakeSleepers
  apply Frame.ite
  · exact Frame.rfl' _
  · apply Frame.ite
    · apply Frame.after (frame_modMst _ _ _)
      · decide +kernel
      apply Frame.after (frame_modMst _ _ _)
      · decide +kernel
      exact Frame.rfl' _
    · apply Frame.after (frame_modMst _ _ _)
      · decide +kernel
      exact Frame.rfl' _

theorem frame_showAdmitted (s : State) (p : Port) :
    Frame [.regs] (some [0x210C, 0x2118]) s (State.showAdmitted s p) := by
  unfold State.showAdmitted
  apply Frame.ite
  · apply Frame.after (frame_put _ _ _)
    · decide +kernel
    apply Frame.after (frame_wr _ _ _)
    · decide +kernel
    exact Frame.rfl' _
  · apply Frame.after (frame_wr _ _ _)
    · decide +kernel
    exact Frame.rfl' _

theorem frame_offerClasses (s : State) (p : Port) :
    Frame [.regs, .link, .master, .way, .p57, .intake] (some [0x2084, 0x20C4, 0x210C, 0x2118]) s (State.offerClasses s p) := by
  unfold State.offerClasses
  try dsimp -proj only
  apply Frame.after (frame_showAdmitted _ _)
  · decide +kernel
  apply Frame.foldl
  · exact Frame.rfl' _
  · intro _ _ _
    split
    · apply Frame.ite
      · apply Frame.after (frame_ownClass _ _)
        · decide +kernel
        apply Frame.after (frame_rosterDelta _ _ _)
        · decide +kernel
        apply Frame.after (frame_setMst _ _ _)
        · decide +kernel
        assumption
      · apply Frame.after (frame_post _ _ _)
        · decide +kernel
        apply Frame.after (frame_rosterDelta _ _ _)
        · decide +kernel
        apply Frame.after (frame_setMst _ _ _)
        · decide +kernel
        assumption
    · assumption

theorem frame_nameRear (s : State) (p : Port) :
    Frame [.link, .master, .way] (some []) s (State.nameRear s p) := by
  unfold State.nameRear
  apply Frame.ite
  · exact Frame.rfl' _
  · apply Frame.ite
    · exact Frame.rfl' _
    · apply Frame.after (frame_modLnk _ _ _)
      · decide +kernel
      apply Frame.after (frame_setMst _ _ _)
      · decide +kernel
      exact Frame.rfl' _

theorem frame_rosterPart (s : State) (p : Port) (i : Nat) :
    Frame [.regs, .link, .master, .way] (some [0x2084, 0x20C4]) s (State.rosterPart s p i) := by
  unfold State.rosterPart
  apply Frame.after (frame_post _ _ _)
  · decide +kernel
  exact Frame.rfl' _

theorem frame_postParts (s : State) (p : Port) (dest : Nat) (n : Word) (count : Nat) (stream : List Byte) (x6 : Nat) (x7 : Nat) :
    Frame [.regs, .link, .master, .way] (some [0x2084, 0x20C4]) s (State.postParts s p dest n count stream x6 x7) := by
  induction x7 generalizing s stream x6 with
  | zero => exact Frame.rfl' s
  | succ left ih =>
    unfold State.postParts
    exact (frame_post s p _).trans (ih _ _ _)


end Sys2Proof.Laws
end

