-- ==== Sys2Proof/Laws/FramesHolder.lean ====
section
/-! SUPPORT. What each operation of Machine/Holder.lean may change, one lemma each: the parts of the state and, where they are few, the registers. -/

namespace Sys2Proof.Laws

open Sys2Proof.Machine

set_option Elab.async false

theorem frame_queueRelease (s : State) (p : Port) (ks : List Nat) (owner : MsgOwner) :
    Frame [.regs, .link, .master, .way] (some [0x2084, 0x20C4]) s (State.queueRelease s p ks owner) := by
  unfold State.queueRelease
  apply Frame.after (frame_post _ _ _)
  · decide +kernel
  exact Frame.rfl' _

theorem frame_cancelReqs (s : State) (p : Port) (o : LeaseOwner) :
    Frame [.regs, .link, .master, .way] (some [0x2084, 0x20C4]) s (State.cancelReqs s p o) := by
  unfold State.cancelReqs
  try dsimp -proj only
  apply Frame.foldl
  · exact Frame.rfl' _
  · intro _ _ _
    split
    · apply Frame.after (frame_modLnk _ _ _)
      · decide +kernel
      apply Frame.after (frame_modLnk _ _ _)
      · decide +kernel
      assumption
    · apply Frame.after (frame_post _ _ _)
      · decide +kernel
      apply Frame.after (frame_modLnk _ _ _)
      · decide +kernel
      assumption

theorem frame_dropTalk (s : State) (p : Port) (o : LeaseOwner) :
    Frame [.regs, .link, .master, .way] (some [0x2084, 0x20C4]) s (State.dropTalk s p o) := by
  unfold State.dropTalk
  apply Frame.after (frame_cancelReqs _ _ _)
  · decide +kernel
  apply Frame.ite
  · apply Frame.after (frame_modLnk _ _ _)
    · decide +kernel
    exact Frame.rfl' _
  · apply Frame.after (frame_queueRelease _ _ _ _)
    · decide +kernel
    apply Frame.after (frame_modLnk _ _ _)
    · decide +kernel
    exact Frame.rfl' _

theorem frame_setSession (s : State) (n : Nat) (x : Option Session) :
    Frame [.hif] (some []) s (State.setSession s n x) := by
  unfold State.setSession
  apply Frame.set_hif
  · rfl
  exact Frame.rfl' _

theorem frame_setCall (s : State) (r : Nat) (c : Option CallRec) :
    Frame [.regs, .call, .dbg] (some [0x6028]) s (State.setCall s r c) := by
  unfold State.setCall
  try dsimp -proj only
  split
  · apply Frame.after (frame_stim _ _ _)
    · decide +kernel
    apply Frame.set_call
    · rfl
    exact Frame.rfl' _
  · apply Frame.set_call
    · rfl
    exact Frame.rfl' _

theorem frame_callAnswered (s : State) (r : Nat) :
    Frame [.regs, .link, .master, .way] (some [0x2084, 0x20C4]) s (State.callAnswered s r) := by
  unfold State.callAnswered
  try dsimp -proj only
  split
  · apply Frame.ite
    · apply Frame.after (frame_post _ _ _)
      · decide +kernel
      exact Frame.rfl' _
    · exact Frame.rfl' _
  · exact Frame.rfl' _

theorem frame_answerTalkOpen (s : State) (n : Nat) (st : Status) (slot : Nat) (pos : Nat) (eff : Nat) (second : Nat) :
    Frame [.regs, .hif, .dbg] (some [0x1414, 0x6028, 0x6848]) s (State.answerTalkOpen s n st slot pos eff second) := by
  unfold State.answerTalkOpen
  try dsimp -proj only
  split
  · apply Frame.after (frame_finishWhere _ _ _ _ _ _)
    · decide +kernel
    exact Frame.rfl' _
  · exact Frame.rfl' _

theorem frame_takeQueued (s : State) (p : Port) (e : GrantEntry) :
    Frame [.regs, .link, .master, .way, .hif, .dbg] (some [0x1414, 0x2084, 0x20C4, 0x6028, 0x6848]) s (State.takeQueued s p e) := by
  unfold State.takeQueued
  try dsimp -proj only
  split
  · exact Frame.rfl' _
  · split
    · apply Frame.after (frame_answerTalkOpen _ _ _ _ _ _ _)
      · decide +kernel
      apply Frame.after (frame_modLnk _ _ _)
      · decide +kernel
      exact Frame.rfl' _
    · apply Frame.after (frame_callAnswered _ _)
      · decide +kernel
      apply Frame.after (frame_modLnk _ _ _)
      · decide +kernel
      exact Frame.rfl' _
    · apply Frame.after (frame_modLnk _ _ _)
      · decide +kernel
      exact Frame.rfl' _

theorem frame_takePreempted (s : State) (p : Port) (e : GrantEntry) (es : List GrantEntry) :
    Frame [.regs, .link, .master, .way, .hif] (some (evRegs ++ [0x2084, 0x20C4])) s (State.takePreempted s p e es) := by
  unfold State.takePreempted
  try dsimp -proj only
  split
  · exact Frame.rfl' _
  · apply Frame.after (frame_callAgain _ _)
    · decide +kernel
    split
    · apply Frame.after (frame_modLnk _ _ _)
      · decide +kernel
      exact Frame.rfl' _
    · apply Frame.after (frame_modLnk _ _ _)
      · decide +kernel
      exact Frame.rfl' _
    · apply Frame.after (frame_raise _ _ _ _ _ _)
      · decide +kernel
      apply Frame.after (frame_modLnk _ _ _)
      · decide +kernel
      exact Frame.rfl' _

theorem frame_endRequest (s : State) (p : Port) (q : TalkReq) (st : Status) (reason : Nat) :
    Frame [.regs, .link, .way, .call, .hif, .dbg] (some (evRegs ++ [0x1414, 0x6028, 0x6848])) s (State.endRequest s p q st reason) := by
  unfold State.endRequest
  try dsimp -proj only
  split
  · apply Frame.ite
    · split
      · apply Frame.after (frame_setSession _ _ _)
        · decide +kernel
        apply Frame.after (frame_finishWhere _ _ _ _ _ _)
        · decide +kernel
        apply Frame.after (frame_modLnk _ _ _)
        · decide +kernel
        exact Frame.rfl' _
      · apply Frame.after (frame_modLnk _ _ _)
        · decide +kernel
        exact Frame.rfl' _
    · apply Frame.after (frame_raise _ _ _ _ _ _)
      · decide +kernel
      apply Frame.after (frame_modLnk _ _ _)
      · decide +kernel
      exact Frame.rfl' _
  · split
    · apply Frame.ite
      · apply Frame.after (frame_setCall _ _ _)
        · decide +kernel
        split
        · apply Frame.after (frame_finishWhere _ _ _ _ _ _)
          · decide +kernel
          apply Frame.after (frame_modLnk _ _ _)
          · decide +kernel
          apply Frame.after (frame_modLnk _ _ _)
          · decide +kernel
          exact Frame.rfl' _
        · apply Frame.after (frame_raise _ _ _ _ _ _)
          · decide +kernel
          apply Frame.after (frame_modLnk _ _ _)
          · decide +kernel
          apply Frame.after (frame_modLnk _ _ _)
          · decide +kernel
          exact Frame.rfl' _
      · apply Frame.after (frame_raise _ _ _ _ _ _)
        · decide +kernel
        apply Frame.after (frame_modLnk _ _ _)
        · decide +kernel
        exact Frame.rfl' _
    · apply Frame.after (frame_modLnk _ _ _)
      · decide +kernel
      exact Frame.rfl' _
  · apply Frame.after (frame_raise _ _ _ _ _ _)
    · decide +kernel
    apply Frame.after (frame_modLnk _ _ _)
    · decide +kernel
    exact Frame.rfl' _
  · apply Frame.after (frame_modLnk _ _ _)
    · decide +kernel
    exact Frame.rfl' _

theorem frame_takeRefused (s : State) (p : Port) (e : GrantEntry) :
    Frame [.regs, .link, .master, .way, .call, .hif, .dbg] (some (evRegs ++ [0x1414, 0x2084, 0x20C4, 0x6028, 0x6848])) s (State.takeRefused s p e) := by
  unfold State.takeRefused
  try dsimp -proj only
  split
  · exact Frame.rfl' _
  · split
    · split
      · apply Frame.ite
        · apply Frame.after (frame_callAnswered _ _)
          · decide +kernel
          apply Frame.after (frame_modLnk _ _ _)
          · decide +kernel
          exact Frame.rfl' _
        · apply Frame.after (frame_endRequest _ _ _ _ _)
          · decide +kernel
          exact Frame.rfl' _
      · apply Frame.after (frame_endRequest _ _ _ _ _)
        · decide +kernel
        exact Frame.rfl' _
    · apply Frame.after (frame_endRequest _ _ _ _ _)
      · decide +kernel
      exact Frame.rfl' _

theorem frame_routeLost (s : State) (p : Port) (cause : Nat) (group : Nat) :
    Frame [.regs, .hif] (some evRegs) s (State.routeLost s p cause group) := by
  unfold State.routeLost
  apply Frame.after (frame_raise _ _ _ _ _ _)
  · decide +kernel
  exact Frame.rfl' _

theorem frame_routeEnds (s : State) (p : Port) (holder : Nat) (group : Nat) (code : Nat) :
    Frame [.regs, .hif] (some evRegs) s (State.routeEnds s p holder group code) := by
  unfold State.routeEnds
  apply Frame.ite
  · apply Frame.after (frame_routeLost _ _ _ _)
    · decide +kernel
    exact Frame.rfl' _
  · exact Frame.rfl' _

theorem frame_takeEntry (s : State) (p : Port) (es : List GrantEntry) (e : GrantEntry) :
    Frame [.regs, .link, .master, .way, .call, .hif, .dbg] (some (evRegs ++ [0x1414, 0x2084, 0x20C4, 0x6028, 0x6848])) s (State.takeEntry s p es e) := by
  unfold State.takeEntry
  try dsimp -proj only
  apply Frame.ite
  · apply Frame.ite
    · apply Frame.ite
      · apply Frame.after (frame_setRow _ _ _ _ _)
        · decide +kernel
        exact Frame.rfl' _
      · apply Frame.ite
        · apply Frame.after (frame_routeEnds _ _ _ _ _)
          · decide +kernel
          apply Frame.after (frame_setRow _ _ _ _ _)
          · decide +kernel
          exact Frame.rfl' _
        · exact Frame.rfl' _
    · exact Frame.rfl' _
  · split
    · apply Frame.after (frame_takeQueued _ _ _)
      · decide +kernel
      apply Frame.ite
      · apply Frame.ite
        · apply Frame.after (frame_setRow _ _ _ _ _)
          · decide +kernel
          exact Frame.rfl' _
        · apply Frame.ite
          · apply Frame.after (frame_routeEnds _ _ _ _ _)
            · decide +kernel
            apply Frame.after (frame_setRow _ _ _ _ _)
            · decide +kernel
            exact Frame.rfl' _
          · exact Frame.rfl' _
      · exact Frame.rfl' _
    · apply Frame.after (frame_takePreempted _ _ _ _)
      · decide +kernel
      apply Frame.ite
      · apply Frame.ite
        · apply Frame.after (frame_setRow _ _ _ _ _)
          · decide +kernel
          exact Frame.rfl' _
        · apply Frame.ite
          · apply Frame.after (frame_routeEnds _ _ _ _ _)
            · decide +kernel
            apply Frame.after (frame_setRow _ _ _ _ _)
            · decide +kernel
            exact Frame.rfl' _
          · exact Frame.rfl' _
      · exact Frame.rfl' _
    · apply Frame.after (frame_takeRefused _ _ _)
      · decide +kernel
      apply Frame.ite
      · apply Frame.ite
        · apply Frame.after (frame_setRow _ _ _ _ _)
          · decide +kernel
          exact Frame.rfl' _
        · apply Frame.ite
          · apply Frame.after (frame_routeEnds _ _ _ _ _)
            · decide +kernel
            apply Frame.after (frame_setRow _ _ _ _ _)
            · decide +kernel
            exact Frame.rfl' _
          · exact Frame.rfl' _
      · exact Frame.rfl' _
    · split
      · apply Frame.after (frame_loseLease _ _ _ _)
        · decide +kernel
        apply Frame.ite
        · apply Frame.ite
          · apply Frame.after (frame_setRow _ _ _ _ _)
            · decide +kernel
            exact Frame.rfl' _
          · apply Frame.ite
            · apply Frame.after (frame_routeEnds _ _ _ _ _)
              · decide +kernel
              apply Frame.after (frame_setRow _ _ _ _ _)
              · decide +kernel
              exact Frame.rfl' _
            · exact Frame.rfl' _
        · exact Frame.rfl' _
      · apply Frame.ite
        · apply Frame.ite
          · apply Frame.after (frame_setRow _ _ _ _ _)
            · decide +kernel
            exact Frame.rfl' _
          · apply Frame.ite
            · apply Frame.after (frame_routeEnds _ _ _ _ _)
              · decide +kernel
              apply Frame.after (frame_setRow _ _ _ _ _)
              · decide +kernel
              exact Frame.rfl' _
            · exact Frame.rfl' _
        · exact Frame.rfl' _
    · split
      · apply Frame.after (frame_loseLease _ _ _ _)
        · decide +kernel
        apply Frame.ite
        · apply Frame.ite
          · apply Frame.after (frame_setRow _ _ _ _ _)
            · decide +kernel
            exact Frame.rfl' _
          · apply Frame.ite
            · apply Frame.after (frame_routeEnds _ _ _ _ _)
              · decide +kernel
              apply Frame.after (frame_setRow _ _ _ _ _)
              · decide +kernel
              exact Frame.rfl' _
            · exact Frame.rfl' _
        · exact Frame.rfl' _
      · apply Frame.ite
        · apply Frame.ite
          · apply Frame.after (frame_setRow _ _ _ _ _)
            · decide +kernel
            exact Frame.rfl' _
          · apply Frame.ite
            · apply Frame.after (frame_routeEnds _ _ _ _ _)
              · decide +kernel
              apply Frame.after (frame_setRow _ _ _ _ _)
              · decide +kernel
              exact Frame.rfl' _
            · exact Frame.rfl' _
        · exact Frame.rfl' _
    · apply Frame.ite
      · apply Frame.ite
        · apply Frame.after (frame_setRow _ _ _ _ _)
          · decide +kernel
          exact Frame.rfl' _
        · apply Frame.ite
          · apply Frame.after (frame_routeEnds _ _ _ _ _)
            · decide +kernel
            apply Frame.after (frame_setRow _ _ _ _ _)
            · decide +kernel
            exact Frame.rfl' _
          · exact Frame.rfl' _
      · exact Frame.rfl' _

theorem frame_takeRow (s : State) (p : Port) (r : RosterRow) :
    Frame [.regs, .phy, .link, .way] (some [0x2084, 0x20C4]) s (State.takeRow s p r) := by
  unfold State.takeRow
  apply Frame.ite
  · apply Frame.after (frame_put_lk _ _ _ _)
    · decide +kernel
    apply Frame.after (frame_modLnk _ _ _)
    · decide +kernel
    apply Frame.ite
    · apply Frame.after (frame_untrain _ _ _)
      · decide +kernel
      exact Frame.rfl' _
    · exact Frame.rfl' _
  · apply Frame.after (frame_modLnk _ _ _)
    · decide +kernel
    apply Frame.ite
    · apply Frame.after (frame_untrain _ _ _)
      · decide +kernel
      exact Frame.rfl' _
    · exact Frame.rfl' _

theorem frame_takeRoster (s : State) (p : Port) (payload : List Byte) :
    Frame [.regs, .phy, .link, .master, .way, .hif] (some (evRegs ++ [0x2080, 0x2084, 0x20C0, 0x20C4])) s (State.takeRoster s p payload) := by
  unfold State.takeRoster
  apply Frame.ite
  · apply Frame.foldl
    · exact Frame.rfl' _
    · intro _ _ _
      apply Frame.after (frame_takeRow _ _ _)
      · decide +kernel
      assumption
  · apply Frame.ite
    · apply Frame.ite
      · apply Frame.after (frame_giveUpAddress _ _ _)
        · decide +kernel
        apply Frame.after (frame_modLnk _ _ _)
        · decide +kernel
        apply Frame.foldl
        · apply Frame.foldl
          · exact Frame.rfl' _
          · intro _ _ _
            apply Frame.after (frame_takeRow _ _ _)
            · decide +kernel
            assumption
        · intro _ _ _
          apply Frame.after (frame_untrain _ _ _)
          · decide +kernel
          assumption
      · apply Frame.after (frame_modLnk _ _ _)
        · decide +kernel
        apply Frame.foldl
        · apply Frame.foldl
          · exact Frame.rfl' _
          · intro _ _ _
            apply Frame.after (frame_takeRow _ _ _)
            · decide +kernel
            assumption
        · intro _ _ _
          apply Frame.after (frame_untrain _ _ _)
          · decide +kernel
          assumption
    · apply Frame.after (frame_modLnk _ _ _)
      · decide +kernel
      apply Frame.foldl
      · exact Frame.rfl' _
      · intro _ _ _
        apply Frame.after (frame_takeRow _ _ _)
        · decide +kernel
        assumption

theorem frame_takeUnasked (s : State) (p : Port) (es : List GrantEntry) :
    Frame [.regs, .link, .master, .way] (some [0x2084, 0x20C4]) s (State.takeUnasked s p es) := by
  unfold State.takeUnasked
  apply Frame.after (frame_queueRelease _ _ _ _)
  · decide +kernel
  apply Frame.after (frame_modLnk _ _ _)
  · decide +kernel
  exact Frame.rfl' _

theorem frame_takeMismatch (s : State) (p : Port) (q : TalkReq) (es : List GrantEntry) :
    Frame [.regs, .link, .master, .way] (some [0x2084, 0x20C4]) s (State.takeMismatch s p q es) := by
  unfold State.takeMismatch
  apply Frame.after (frame_post _ _ _)
  · decide +kernel
  apply Frame.after (frame_modLnk _ _ _)
  · decide +kernel
  apply Frame.after (frame_takeUnasked _ _ _)
  · decide +kernel
  exact Frame.rfl' _

theorem frame_takeGrant (s : State) (p : Port) (q : TalkReq) (es : List GrantEntry) :
    Frame [.regs, .link, .master, .way, .hif, .dbg] (some (evRegs ++ [0x1414, 0x2084, 0x20C4, 0x6028, 0x6848])) s (State.takeGrant s p q es) := by
  unfold State.takeGrant
  try dsimp -proj only
  split
  · apply Frame.after (frame_raiseAt _ _ _ _ _ _ _)
    · decide +kernel
    apply Frame.after (frame_answerTalkOpen _ _ _ _ _ _ _)
    · decide +kernel
    apply Frame.after (frame_modLnk _ _ _)
    · decide +kernel
    exact Frame.rfl' _
  · apply Frame.after (frame_callAnswered _ _)
    · decide +kernel
    apply Frame.after (frame_raiseAt _ _ _ _ _ _ _)
    · decide +kernel
    apply Frame.after (frame_modLnk _ _ _)
    · decide +kernel
    exact Frame.rfl' _
  · apply Frame.after (frame_raiseAt _ _ _ _ _ _ _)
    · decide +kernel
    apply Frame.after (frame_modLnk _ _ _)
    · decide +kernel
    exact Frame.rfl' _
  · apply Frame.after (frame_modLnk _ _ _)
    · decide +kernel
    exact Frame.rfl' _
  · apply Frame.after (frame_modLnk _ _ _)
    · decide +kernel
    exact Frame.rfl' _

theorem frame_takeGranted (s : State) (p : Port) (id : Half) (es : List GrantEntry) :
    Frame [.regs, .link, .master, .way, .hif, .dbg] (some (evRegs ++ [0x1414, 0x2084, 0x20C4, 0x6028, 0x6848])) s (State.takeGranted s p id es) := by
  unfold State.takeGranted
  try dsimp -proj only
  split
  · apply Frame.after (frame_takeUnasked _ _ _)
    · decide +kernel
    exact Frame.rfl' _
  · apply Frame.ite
    · apply Frame.after (frame_takeMismatch _ _ _ _)
      · decide +kernel
      exact Frame.rfl' _
    · apply Frame.after (frame_takeGrant _ _ _ _)
      · decide +kernel
      exact Frame.rfl' _

theorem frame_takeGrants (s : State) (p : Port) (payload : List Byte) :
    Frame [.regs, .link, .master, .way, .call, .hif, .dbg] (some (evRegs ++ [0x1414, 0x2084, 0x20C4, 0x6028, 0x6848])) s (State.takeGrants s p payload) := by
  unfold State.takeGrants
  apply Frame.foldl
  · apply Frame.foldl
    · exact Frame.rfl' _
    · intro _ _ _
      apply Frame.after (frame_takeEntry _ _ _ _)
      · decide +kernel
      assumption
  · intro _ _ _
    apply Frame.after (frame_takeGranted _ _ _ _)
    · decide +kernel
    assumption

theorem frame_takeAudit (s : State) (p : Port) (payload : List Byte) :
    Frame [.regs, .link, .master, .way, .hif, .dbg] (some (evRegs ++ [0x2084, 0x20C4, 0x6028])) s (State.takeAudit s p payload) := by
  unfold State.takeAudit
  try dsimp -proj only
  apply Frame.foldl
  · exact Frame.rfl' _
  · intro _ _ _
    split
    · apply Frame.ite
      · apply Frame.ite
        · assumption
        · apply Frame.after (frame_setRow _ _ _ _ _)
          · decide +kernel
          assumption
      · apply Frame.after (frame_loseLease _ _ _ _)
        · decide +kernel
        apply Frame.ite
        · assumption
        · apply Frame.after (frame_setRow _ _ _ _ _)
          · decide +kernel
          assumption
    · apply Frame.ite
      · assumption
      · apply Frame.after (frame_setRow _ _ _ _ _)
        · decide +kernel
        assumption

end Sys2Proof.Laws
end

