-- ==== Sys2Proof/Laws/FramesAccess.lean ====
section
/-! SUPPORT. What each operation of Machine/Access.lean may change, one lemma each: the parts of the state and, where they are few, the registers. -/

namespace Sys2Proof.Laws

open Sys2Proof.Machine

set_option Elab.async false

theorem frame_countLocked (s : State) :
    Frame [.regs] (some [0x0040]) s (State.countLocked s) := by
  unfold State.countLocked
  apply Frame.after (frame_bump _ _)
  · decide +kernel
  exact Frame.rfl' _

theorem frame_reach (s : State) (p : Path) (o : Nat) (t : State) (h : State.reach s p o = some t) :
    Frame [.regs, .plt, .phy, .link, .master, .rear, .way, .stack, .intake, .mix, .ech, .call, .mic, .wake, .hif, .tag, .toll, .pwr, .cfg, .dbg] none s t := by
  have hw : Frame [.regs, .plt, .phy, .link, .master, .rear, .way, .stack, .intake, .mix, .ech, .call, .mic, .wake, .hif, .tag, .toll, .pwr, .cfg, .dbg] none s (s.wakeBy 16) := (frame_wakeBy s 16).mono (by decide +kernel)
  have key : ∀ {b : Bool} {u : State}, Frame [.regs, .plt, .phy, .link, .master, .rear, .way, .stack, .intake, .mix, .ech, .call, .mic, .wake, .hif, .tag, .toll, .pwr, .cfg, .dbg] none s u → (if b = true then some u else none) = some t → Frame [.regs, .plt, .phy, .link, .master, .rear, .way, .stack, .intake, .mix, .ech, .call, .mic, .wake, .hif, .tag, .toll, .pwr, .cfg, .dbg] none s t := by
    intro b u hu hh
    split at hh
    · exact Option.some.inj hh ▸ hu
    · cases hh
  unfold State.reach at h
  split at h
  · cases h
  split at h
  · split at h
    · cases h
    split at h
    · exact (Option.some.inj h ▸ Frame.rfl' s : Frame [.regs, .plt, .phy, .link, .master, .rear, .way, .stack, .intake, .mix, .ech, .call, .mic, .wake, .hif, .tag, .toll, .pwr, .cfg, .dbg] none s t).mono (by decide +kernel)
    · exact (key hw h).mono (by decide +kernel)
  · split at h
    · cases h
    · exact (key (Frame.rfl' s) h).mono (by decide +kernel)
  · exact (key (Frame.rfl' s) h).mono (by decide +kernel)


end Sys2Proof.Laws
end

