-- ==== Sys2Proof/Laws/FramesToll.lean ====
section
/-! SUPPORT. What each operation of Machine/Toll.lean may change, one lemma each: the parts of the state and, where they are few, the registers. -/

namespace Sys2Proof.Laws

open Sys2Proof.Machine

set_option Elab.async false

theorem frame_setToll (s : State) (n : Nat) (t : Toll) :
    Frame [.toll] (some []) s (State.setToll s n t) := by
  unfold State.setToll
  apply Frame.set_toll
  · rfl
  exact Frame.rfl' _

theorem frame_tollFree (s : State) (n : Nat) :
    Frame [.regs, .toll] none s (State.tollFree s n) := by
  unfold State.tollFree
  apply Frame.after (frame_setToll _ _ _)
  · decide +kernel
  apply Frame.after (frame_wr _ _ _)
  · rfl
  exact Frame.rfl' _

theorem frame_tollReset (s : State) :
    Frame [.regs, .toll] none s (State.tollReset s) := by
  unfold State.tollReset
  apply Frame.foldl
  · exact Frame.rfl' _
  · intro _ _ _
    apply Frame.after (frame_put _ _ _)
    · rfl
    apply Frame.after (frame_put _ _ _)
    · rfl
    apply Frame.after (frame_put _ _ _)
    · rfl
    apply Frame.after (frame_put _ _ _)
    · rfl
    apply Frame.after (frame_wr _ _ _)
    · rfl
    apply Frame.after (frame_wr _ _ _)
    · rfl
    apply Frame.after (frame_wr _ _ _)
    · rfl
    apply Frame.after (frame_tollFree _ _)
    · decide +kernel
    assumption

theorem frame_tollData (s : State) (p : Path) (n : Nat) (bs : List Byte) :
    Frame [.regs, .toll] none s (State.tollData s p n bs) := by
  unfold State.tollData
  apply Frame.ite
  · apply Frame.after (frame_bump _ _)
    · rfl
    exact Frame.rfl' _
  · apply Frame.ite
    · apply Frame.after (frame_bump _ _)
      · rfl
      exact Frame.rfl' _
    · apply Frame.after (frame_setToll _ _ _)
      · decide +kernel
      apply Frame.after (frame_wr _ _ _)
      · rfl
      apply Frame.after (frame_wr _ _ _)
      · rfl
      exact Frame.rfl' _

theorem frame_tollStart (s : State) (p : Path) (n : Nat) (mode : Nat) :
    Frame [.regs, .toll] none s (State.tollStart s p n mode) := by
  unfold State.tollStart
  apply Frame.ite
  · apply Frame.after (frame_put _ _ _)
    · rfl
    exact Frame.rfl' _
  · apply Frame.after (frame_wr _ _ _)
    · rfl
    apply Frame.after (frame_put _ _ _)
    · rfl
    apply Frame.after (frame_wr _ _ _)
    · rfl
    apply Frame.after (frame_setToll _ _ _)
    · decide +kernel
    apply Frame.after (frame_wr _ _ _)
    · rfl
    exact Frame.rfl' _

theorem frame_tollAbort (s : State) (p : Path) (n : Nat) :
    Frame [.regs, .toll] none s (State.tollAbort s p n) := by
  unfold State.tollAbort
  apply Frame.ite
  · exact Frame.rfl' _
  · apply Frame.ite
    · apply Frame.after (frame_bump _ _)
      · rfl
      exact Frame.rfl' _
    · apply Frame.after (frame_tollFree _ _)
      · decide +kernel
      exact Frame.rfl' _

theorem frame_tollMismatch (s : State) (n : Nat) (job : Bool) (v : Nat) :
    Frame [.regs, .hif] none s (State.tollMismatch s n job v) := by
  unfold State.tollMismatch
  apply Frame.after (frame_raise _ _ _ _ _ _)
  · decide +kernel
  apply Frame.after (frame_bump _ _)
  · rfl
  exact Frame.rfl' _

theorem frame_tollFinish (s : State) (p : Path) (n : Nat) :
    Frame [.regs, .hif, .toll] none s (State.tollFinish s p n) := by
  unfold State.tollFinish
  apply Frame.ite
  · exact Frame.rfl' _
  · apply Frame.ite
    · apply Frame.after (frame_bump _ _)
      · rfl
      exact Frame.rfl' _
    · apply Frame.ite
      · apply Frame.ite
        · apply Frame.after (frame_put _ _ _)
          · rfl
          apply Frame.after (frame_tollFree _ _)
          · decide +kernel
          apply Frame.after (frame_put _ _ _)
          · rfl
          apply Frame.after (frame_wr _ _ _)
          · rfl
          apply Frame.after (frame_wr _ _ _)
          · rfl
          exact Frame.rfl' _
        · apply Frame.after (frame_tollMismatch _ _ _ _)
          · decide +kernel
          apply Frame.after (frame_put _ _ _)
          · rfl
          apply Frame.after (frame_tollFree _ _)
          · decide +kernel
          apply Frame.after (frame_put _ _ _)
          · rfl
          apply Frame.after (frame_wr _ _ _)
          · rfl
          apply Frame.after (frame_wr _ _ _)
          · rfl
          exact Frame.rfl' _
      · apply Frame.after (frame_tollFree _ _)
        · decide +kernel
        apply Frame.after (frame_put _ _ _)
        · rfl
        apply Frame.after (frame_wr _ _ _)
        · rfl
        apply Frame.after (frame_wr _ _ _)
        · rfl
        exact Frame.rfl' _

theorem frame_tollCmd (s : State) (p : Path) (n : Nat) (w : Nat) :
    Frame [.regs, .hif, .toll] none s (State.tollCmd s p n w) := by
  unfold State.tollCmd
  apply Frame.ite
  · apply Frame.after (frame_tollAbort _ _ _)
    · decide +kernel
    apply Frame.ite
    · apply Frame.after (frame_tollFinish _ _ _)
      · decide +kernel
      apply Frame.ite
      · apply Frame.after (frame_tollStart _ _ _ _)
        · decide +kernel
        exact Frame.rfl' _
      · exact Frame.rfl' _
    · apply Frame.ite
      · apply Frame.after (frame_tollStart _ _ _ _)
        · decide +kernel
        exact Frame.rfl' _
      · exact Frame.rfl' _
  · apply Frame.ite
    · apply Frame.after (frame_tollFinish _ _ _)
      · decide +kernel
      apply Frame.ite
      · apply Frame.after (frame_tollStart _ _ _ _)
        · decide +kernel
        exact Frame.rfl' _
      · exact Frame.rfl' _
    · apply Frame.ite
      · apply Frame.after (frame_tollStart _ _ _ _)
        · decide +kernel
        exact Frame.rfl' _
      · exact Frame.rfl' _

/-- A write to a unit is framed as widely as what the write does. -/
theorem frame_tollWrite (s : State) (p : Path) (n : Nat) (f : State → State) (hf : ∀ t, Frame wide none t (f t)) :
    Frame wide none s (State.tollWrite s p n f) := by
  unfold State.tollWrite
  split
  · exact Frame.rfl' s
  · rename_i t h
    have ht : Frame wide none s t := (frame_reach s p _ t h).mono (by decide +kernel)
    exact Frame.ite (Frame.after (frame_countLocked t) (by decide +kernel) ht) (ht.trans (hf t))

end Sys2Proof.Laws
end

