-- ==== Sys2Proof/Laws/FramesTag.lean ====
section
/-! SUPPORT. What each operation of Machine/Tag.lean may change, one lemma each: the parts of the state and, where they are few, the registers. -/

namespace Sys2Proof.Laws

open Sys2Proof.Machine

set_option Elab.async false

theorem frame_evSurge (s : State) (disposition : Nat) (mj : Nat) :
    Frame [.regs, .hif] (some evRegs) s (State.evSurge s disposition mj) := by
  unfold State.evSurge
  apply Frame.after (frame_raise _ _ _ _ _ _)
  · decide +kernel
  exact Frame.rfl' _

/-- A wired transaction changes the cartridge alone; what it does must keep the tag's canonical form. -/
theorem frame_wiredDo (s : State) (f : Cart → Cart × List Byte × Bool)
    (hf : ∀ c, Cells.wf tagFactory c.mem = true → Cells.wf tagFactory (f c).1.mem = true) :
    Frame [.cart] (some []) s (State.wiredDo s f) := by
  unfold State.wiredDo
  exact Frame.ite (Frame.rfl' s) (Frame.ite (Frame.set_cart _ rfl id (Frame.rfl' s)) (Frame.set_cart _ rfl (fun h => hf _ h) (Frame.rfl' s)))

theorem frame_deliver (s : State) (c : Nat) (j : Nat) (bytes : List Byte) (st : Status) (result : Word) (info : Word) :
    Frame [.regs, .hif, .sby, .dbg] (some [0x1414, 0x6028, 0x6848]) s (State.deliver s c j bytes st result info) := by
  unfold State.deliver
  apply Frame.ite
  · apply Frame.after (frame_finish _ _ _ _ _ _)
    · decide +kernel
    apply Frame.set_sby
    · rfl
    · first | exact id | exact wf_setList _ _ _ _
    exact Frame.rfl' _
  · apply Frame.after (frame_setPhase _ _ _ _)
    · decide +kernel
    exact Frame.rfl' _

theorem frame_traceTag (s : State) (o : TagOp) (acked : Bool) :
    Frame [.regs, .dbg] (some [0x6028]) s (State.traceTag s o acked) := by
  unfold State.traceTag
  apply Frame.after (frame_stim _ _ _)
  · decide +kernel
  exact Frame.rfl' _

theorem frame_append (s : State) (kind : Nat) (value : Nat) (stamp : Word) (rtc : Bool) :
    Frame [.cart] (some []) s (State.append s kind value stamp rtc).1 := by
  unfold State.append
  exact Frame.set_cart _ rfl (wf_post _ _ _ _ _) (Frame.rfl' s)


theorem frame_appendEvent (s : State) (x : Crossed) (d : Deferred) :
    Frame [.cart] (some []) s (State.appendEvent s x d).1 := by
  have h : (State.appendEvent s x d).1 = (s.append d.kind (s.lifeValue d) d.stamp d.rtc).1 := by
    unfold State.appendEvent
    generalize s.append d.kind (s.lifeValue d) d.stamp d.rtc = r
    generalize s.cart.flags = fl
    obtain ⟨t, n⟩ := r
    obtain ⟨x1, x2, x3⟩ := x
    by_cases h : d.kind = 1 ∨ d.kind = 2
    · simp only [if_pos h]
    · simp only [if_neg h]
  rw [h]
  exact frame_append s _ _ _ _


theorem frame_warn (s : State) (t : Nat) (n : Option Nat) :
    Frame [.regs, .hif, .cart] (some evRegs) s (State.warn s t n) := by
  unfold State.warn
  try dsimp -proj only
  split
  · exact Frame.rfl' _
  · apply Frame.after (frame_raise _ _ _ _ _ _)
    · decide +kernel
    apply Frame.after (frame_append _ _ _ _ _)
    · decide +kernel
    exact Frame.rfl' _

theorem frame_writeSummary (s : State) (flags : Nat) :
    Frame [.cart] (some []) s (State.writeSummary s flags) := by
  unfold State.writeSummary
  apply Frame.set_cart
  · rfl
  · first | exact id | exact wf_put _ _ _ | exact wf_post _ _ _ _ _ | exact wf_writeRows _ _ _ | exact fun _ => rfl
  exact Frame.rfl' _

theorem frame_showLife (s : State) :
    Frame [.regs] (some [0x5004, 0x5010, 0x5014]) s (State.showLife s) := by
  unfold State.showLife
  apply Frame.after (frame_put _ _ _)
  · decide +kernel
  apply Frame.after (frame_wr _ _ _)
  · decide +kernel
  apply Frame.after (frame_wr _ _ _)
  · decide +kernel
  apply Frame.after (frame_wr _ _ _)
  · decide +kernel
  exact Frame.rfl' _

theorem frame_closeAppends (s : State) (x : Crossed) :
    Frame [.regs, .hif, .cart] (some (evRegs ++ [0x5004, 0x5010, 0x5014])) s (State.closeAppends s x) := by
  unfold State.closeAppends
  try dsimp -proj only
  apply Frame.after (frame_showLife _)
  · decide +kernel
  apply Frame.after (frame_writeSummary _ _)
  · decide +kernel
  split
  · apply Frame.after (frame_raise _ _ _ _ _ _)
    · decide +kernel
    apply Frame.after (frame_append _ _ _ _ _)
    · decide +kernel
    apply Frame.after (frame_warn _ _ _)
    · decide +kernel
    apply Frame.after (frame_warn _ _ _)
    · decide +kernel
    exact Frame.rfl' _
  · apply Frame.after (frame_warn _ _ _)
    · decide +kernel
    apply Frame.after (frame_warn _ _ _)
    · decide +kernel
    exact Frame.rfl' _

theorem frame_serveLife (s : State) (d : Deferred) (post : Option (Nat × Half)) (overflow : Bool) :
    Frame [.regs, .hif, .cart, .dbg] (some (evRegs ++ [0x1414, 0x5004, 0x5010, 0x5014, 0x6028, 0x6848])) s (State.serveLife s d post overflow) := by
  unfold State.serveLife
  try dsimp -proj only
  apply Frame.ite
  · exact Frame.rfl' _
  · split
    · apply Frame.after (frame_finishWhere _ _ _ _ _ _)
      · decide +kernel
      apply Frame.after (frame_closeAppends _ _)
      · decide +kernel
      apply Frame.after (frame_appendEvent _ _ _)
      · decide +kernel
      exact Frame.rfl' _
    · apply Frame.ite
      · apply Frame.after (frame_evSurge _ _ _)
        · decide +kernel
        apply Frame.after (frame_closeAppends _ _)
        · decide +kernel
        apply Frame.after (frame_appendEvent _ _ _)
        · decide +kernel
        exact Frame.rfl' _
      · apply Frame.after (frame_closeAppends _ _)
        · decide +kernel
        apply Frame.after (frame_appendEvent _ _ _)
        · decide +kernel
        exact Frame.rfl' _

theorem frame_tellReached (s : State) :
    Frame [.regs, .hif, .free] (some evRegs) s (State.tellReached s) := by
  unfold State.tellReached
  apply Frame.ite
  · apply Frame.after (frame_takeFree _ _)
    · decide +kernel
    apply Frame.after (frame_raise _ _ _ _ _ _)
    · decide +kernel
    exact Frame.rfl' _
  · apply Frame.ite
    · apply Frame.after (frame_takeFree _ _)
      · decide +kernel
      apply Frame.after (frame_raise _ _ _ _ _ _)
      · decide +kernel
      exact Frame.rfl' _
    · exact Frame.rfl' _

theorem frame_flushDeferred (s : State) :
    Frame [.regs, .hif, .tag, .cart] (some (evRegs ++ [0x5004, 0x5010, 0x5014])) s (State.flushDeferred s) := by
  unfold State.flushDeferred
  apply Frame.ite
  · exact Frame.rfl' _
  have hf : ∀ (l : List Deferred) (acc : State × Crossed), Frame [.regs, .hif, .tag, .cart] (some (evRegs ++ [0x5004, 0x5010, 0x5014])) s acc.1 →
      Frame [.regs, .hif, .tag, .cart] (some (evRegs ++ [0x5004, 0x5010, 0x5014])) s (l.foldl (fun (acc : State × Crossed) d => ((acc.1.appendEvent acc.2 d).1, (acc.1.appendEvent acc.2 d).2.1)) acc).1 := by
    intro l
    induction l with
    | nil => exact fun acc h => h
    | cons d l ih => exact fun acc h => ih _ (Frame.after (frame_appendEvent acc.1 acc.2 d) (by decide +kernel) h)
  have h0 := hf s.tag.deferred (s, (none, none, none)) (Frame.rfl' s)
  refine Frame.after (frame_raise _ _ _ _ _ _) (by decide +kernel) (Frame.after (frame_closeAppends _ _) (by decide +kernel) (Frame.set_tag _ rfl ?_))
  exact Frame.ite h0 (Frame.after (frame_append _ _ _ _ _) (by decide +kernel) h0)


theorem frame_readIdentity (s : State) (insertion : Bool) :
    Frame [.regs, .hif, .tag, .cart, .dbg, .free] (some (evRegs ++ [0x1414, 0x5004, 0x5010, 0x5014, 0x501C, 0x6028, 0x6848])) s (State.readIdentity s insertion) := by
  unfold State.readIdentity
  try dsimp -proj only
  split
  · apply Frame.after (frame_raise _ _ _ _ _ _)
    · decide +kernel
    apply Frame.after (frame_showLife _)
    · decide +kernel
    apply Frame.set_tag
    · rfl
    apply Frame.after (frame_put _ _ _)
    · decide +kernel
    apply Frame.after (frame_wr _ _ _)
    · decide +kernel
    exact Frame.rfl' _
  · apply Frame.after (frame_tellReached _)
    · decide +kernel
    apply Frame.after (frame_raise _ _ _ _ _ _)
    · decide +kernel
    apply Frame.after (frame_showLife _)
    · decide +kernel
    apply Frame.ite
    · apply Frame.set_tag
      · rfl
      apply Frame.after (frame_serveLife _ _ _ _)
      · decide +kernel
      apply Frame.after (frame_flushDeferred _)
      · decide +kernel
      apply Frame.ite
      · apply Frame.after (frame_bumpBy _ _ _)
        · decide +kernel
        apply Frame.set_tag
        · rfl
        apply Frame.set_tag
        · rfl
        apply Frame.after (frame_put _ _ _)
        · decide +kernel
        apply Frame.after (frame_wr _ _ _)
        · decide +kernel
        exact Frame.rfl' _
      · apply Frame.after (frame_writeSummary _ _)
        · decide +kernel
        apply Frame.after (frame_bumpBy _ _ _)
        · decide +kernel
        apply Frame.set_tag
        · rfl
        apply Frame.set_tag
        · rfl
        apply Frame.after (frame_put _ _ _)
        · decide +kernel
        apply Frame.after (frame_wr _ _ _)
        · decide +kernel
        exact Frame.rfl' _
    · apply Frame.after (frame_flushDeferred _)
      · decide +kernel
      apply Frame.ite
      · apply Frame.after (frame_bumpBy _ _ _)
        · decide +kernel
        apply Frame.set_tag
        · rfl
        apply Frame.set_tag
        · rfl
        apply Frame.after (frame_put _ _ _)
        · decide +kernel
        apply Frame.after (frame_wr _ _ _)
        · decide +kernel
        exact Frame.rfl' _
      · apply Frame.after (frame_writeSummary _ _)
        · decide +kernel
        apply Frame.after (frame_bumpBy _ _ _)
        · decide +kernel
        apply Frame.set_tag
        · rfl
        apply Frame.set_tag
        · rfl
        apply Frame.after (frame_put _ _ _)
        · decide +kernel
        apply Frame.after (frame_wr _ _ _)
        · decide +kernel
        exact Frame.rfl' _

theorem frame_serveHostTag (s : State) (c : Nat) (id : Half) :
    Frame [.regs, .hif, .sby, .cart, .dbg] (some [0x1414, 0x6028, 0x6848]) s (State.serveHostTag s c id) := by
  unfold State.serveHostTag
  try dsimp -proj only
  split
  · exact Frame.rfl' _
  · split
    · exact Frame.rfl' _
    · apply Frame.ite
      · apply Frame.after (frame_deliver _ _ _ _ _ _ _)
        · decide +kernel
        exact Frame.rfl' _
      · split
        · apply Frame.after (frame_finish _ _ _ _ _ _)
          · decide +kernel
          apply Frame.set_cart
          · rfl
          · first | exact id | exact wf_put _ _ _ | exact wf_post _ _ _ _ _ | exact wf_writeRows _ _ _ | exact fun _ => rfl
          exact Frame.rfl' _
        · exact Frame.rfl' _

theorem frame_serveOp (s : State) (o : TagOp) :
    Frame [.regs, .hif, .sby, .tag, .cart, .dbg, .free] (some (evRegs ++ [0x1414, 0x5004, 0x5010, 0x5014, 0x501C, 0x6028, 0x6848])) s (State.serveOp s o) := by
  unfold State.serveOp
  try dsimp -proj only
  split
  · apply Frame.after (frame_readIdentity _ _)
    · decide +kernel
    exact Frame.rfl' _
  · apply Frame.after (frame_serveHostTag _ _ _)
    · decide +kernel
    exact Frame.rfl' _
  · apply Frame.after (frame_serveLife _ _ _ _)
    · decide +kernel
    exact Frame.rfl' _

theorem frame_tryTag (s : State) :
    Frame [.regs, .hif, .sby, .tag, .cart, .dbg, .free] (some (evRegs ++ [0x1414, 0x5004, 0x5010, 0x5014, 0x501C, 0x6028, 0x6848])) s (State.tryTag s) := by
  unfold State.tryTag
  try dsimp -proj only
  apply Frame.ite
  · exact Frame.rfl' _
  · apply Frame.ite
    · apply Frame.after (frame_put _ _ _)
      · decide +kernel
      split
      · apply Frame.after (frame_traceTag _ _ _)
        · decide +kernel
        exact Frame.rfl' _
      · exact Frame.rfl' _
    · apply Frame.set_cart
      · rfl
      · first | exact id | exact wf_put _ _ _ | exact wf_post _ _ _ _ _ | exact wf_writeRows _ _ _ | exact fun _ => rfl
      apply Frame.foldl
      · apply Frame.set_tag
        · rfl
        apply Frame.after (frame_flushDeferred _)
        · decide +kernel
        apply Frame.after (frame_put _ _ _)
        · decide +kernel
        exact Frame.rfl' _
      · intro _ _ _
        apply Frame.after (frame_serveOp _ _)
        · decide +kernel
        apply Frame.after (frame_traceTag _ _ _)
        · decide +kernel
        assumption

theorem frame_queueTag (s : State) (o : TagOp) :
    Frame [.regs, .hif, .sby, .tag, .cart, .dbg, .free] (some (evRegs ++ [0x1414, 0x5004, 0x5010, 0x5014, 0x501C, 0x6028, 0x6848])) s (State.queueTag s o) := by
  unfold State.queueTag
  apply Frame.after (frame_tryTag _)
  · decide +kernel
  apply Frame.set_tag
  · rfl
  exact Frame.rfl' _

theorem frame_defer (s : State) (d : Deferred) :
    Frame [.regs, .tag] (some [0x501C]) s (State.defer s d) := by
  unfold State.defer
  apply Frame.ite
  · apply Frame.set_tag
    · rfl
    exact Frame.rfl' _
  · apply Frame.ite
    · apply Frame.after (frame_bump _ _)
      · decide +kernel
      apply Frame.set_tag
      · rfl
      apply Frame.set_tag
      · rfl
      exact Frame.rfl' _
    · apply Frame.set_tag
      · rfl
      exact Frame.rfl' _

theorem frame_deferOp (s : State) (d : Deferred) (post : Option (Nat × Half)) (overflow : Bool) :
    Frame [.regs, .hif, .tag, .dbg] (some (evRegs ++ [0x1414, 0x501C, 0x6028, 0x6848])) s (State.deferOp s d post overflow) := by
  unfold State.deferOp
  try dsimp -proj only
  split
  · apply Frame.ite
    · apply Frame.after (frame_finishWhere _ _ _ _ _ _)
      · decide +kernel
      apply Frame.after (frame_defer _ _)
      · decide +kernel
      exact Frame.rfl' _
    · apply Frame.after (frame_finishWhere _ _ _ _ _ _)
      · decide +kernel
      exact Frame.rfl' _
  · apply Frame.ite
    · apply Frame.after (frame_evSurge _ _ _)
      · decide +kernel
      apply Frame.after (frame_defer _ _)
      · decide +kernel
      exact Frame.rfl' _
    · apply Frame.after (frame_defer _ _)
      · decide +kernel
      exact Frame.rfl' _

theorem frame_lifeEvent (s : State) (kind : Nat) (amount : Nat) (overflow : Bool) :
    Frame [.regs, .plt, .phy, .link, .master, .rear, .way, .stack, .intake, .mix, .ech, .call, .mic, .wake, .hif, .sby, .tag, .cart, .toll, .pwr, .cfg, .dbg, .free] none s (State.lifeEvent s kind amount overflow) := by
  unfold State.lifeEvent
  apply Frame.ite
  · exact Frame.rfl' _
  · apply Frame.ite
    · apply Frame.after (frame_deferOp _ _ _ _)
      · decide +kernel
      apply Frame.after (frame_wakeBy _ _)
      · decide +kernel
      exact Frame.rfl' _
    · apply Frame.after (frame_queueTag _ _)
      · decide +kernel
      apply Frame.after (frame_wakeBy _ _)
      · decide +kernel
      exact Frame.rfl' _

theorem frame_countInsertion (s : State) :
    Frame [.regs, .plt, .phy, .link, .master, .rear, .way, .stack, .intake, .mix, .ech, .call, .mic, .wake, .hif, .sby, .tag, .cart, .toll, .pwr, .cfg, .dbg, .free] none s (State.countInsertion s) := by
  unfold State.countInsertion
  apply Frame.ite
  · apply Frame.set_tag
    · rfl
    apply Frame.after (frame_lifeEvent _ _ _ _)
    · decide +kernel
    exact Frame.rfl' _
  · exact Frame.rfl' _

theorem frame_cutShort (s : State) (o : TagOp) :
    Frame [.regs, .hif, .tag, .dbg] (some (evRegs ++ [0x1414, 0x501C, 0x6028, 0x6848])) s (State.cutShort s o) := by
  unfold State.cutShort
  try dsimp -proj only
  split
  · exact Frame.rfl' _
  · apply Frame.after (frame_finishWhere _ _ _ _ _ _)
    · decide +kernel
    exact Frame.rfl' _
  · apply Frame.after (frame_deferOp _ _ _ _)
    · decide +kernel
    exact Frame.rfl' _

/-- A contactless command changes the cartridge alone; what it does must keep the tag's canonical form. -/
theorem frame_contactlessDo (s : State) (f : Cart → Cart × List Byte × Bool)
    (hf : ∀ c, Cells.wf tagFactory c.mem = true → Cells.wf tagFactory (f c).1.mem = true) :
    Frame [.cart] (some []) s (State.contactlessDo s f) := by
  unfold State.contactlessDo
  refine Frame.ite (Frame.rfl' s) (Frame.ite (Frame.set_cart _ rfl id (Frame.rfl' s)) (Frame.set_cart _ rfl (fun h => hf _ ?_) (Frame.rfl' s)))
  show Cells.wf tagFactory (ite _ _ _ : Cart).mem = true
  split
  · exact wf_put _ _ _ h
  · exact h

end Sys2Proof.Laws
end

