-- ==== Sys2Proof/Laws/FramesIntake.lean ====
section
/-! SUPPORT. What each operation of Machine/Intake.lean may change, one lemma each: the parts of the state and, where they are few, the registers. -/

namespace Sys2Proof.Laws

open Sys2Proof.Machine

set_option Elab.async false

theorem frame_keepRetry (s : State) (what : Option Nat) :
    Frame [.intake] (some []) s (State.keepRetry s what) := by
  unfold State.keepRetry
  apply Frame.set_intake
  · rfl
  exact Frame.rfl' _

theorem frame_modP57 (s : State) (f : P57 → P57) :
    Frame [.p57] (some []) s (State.modP57 s f) := by
  unfold State.modP57
  apply Frame.set_p57
  · rfl
  exact Frame.rfl' _

theorem frame_relevel (s : State) :
    Frame [.regs, .pwr] (some [0x0880]) s (State.relevel s) := by
  unfold State.relevel
  apply Frame.set_pwr
  · rfl
  apply Frame.after (frame_put _ _ _)
  · decide +kernel
  apply Frame.after (frame_wr _ _ _)
  · decide +kernel
  apply Frame.after (frame_wr _ _ _)
  · decide +kernel
  exact Frame.rfl' _

theorem frame_hornWake (s : State) (i : Nat) :
    Frame [.regs, .plt, .phy, .link, .master, .rear, .way, .stack, .p57, .intake, .mix, .ech, .call, .mic, .wake, .hif, .tag, .toll, .pwr, .cfg, .dbg] none s (State.hornWake s i) := by
  unfold State.hornWake
  apply Frame.ite
  · apply Frame.after (frame_modP57 _ _)
    · decide +kernel
    apply Frame.ite
    · apply Frame.after (frame_wakeBy _ _)
      · decide +kernel
      apply Frame.after (frame_modP57 _ _)
      · decide +kernel
      exact Frame.rfl' _
    · apply Frame.after (frame_modP57 _ _)
      · decide +kernel
      exact Frame.rfl' _
  · apply Frame.ite
    · apply Frame.after (frame_wakeBy _ _)
      · decide +kernel
      apply Frame.after (frame_modP57 _ _)
      · decide +kernel
      exact Frame.rfl' _
    · apply Frame.after (frame_modP57 _ _)
      · decide +kernel
      exact Frame.rfl' _

theorem frame_setStep (s : State) (n : Nat) :
    Frame [.regs, .pwr, .dbg] (some [0x0880, 0x0A08, 0x6028]) s (State.setStep s n) := by
  unfold State.setStep
  apply Frame.after (frame_relevel _)
  · decide +kernel
  apply Frame.after (frame_stim _ _ _)
  · decide +kernel
  apply Frame.after (frame_wr _ _ _)
  · decide +kernel
  exact Frame.rfl' _

theorem frame_warnRise (s : State) :
    Frame [.regs, .intake, .pwr, .dbg] (some [0x0880, 0x0A08, 0x6028]) s (State.warnRise s) := by
  unfold State.warnRise
  apply Frame.ite
  · apply Frame.after (frame_setStep _ _)
    · decide +kernel
    apply Frame.set_intake
    · rfl
    apply Frame.after (frame_bump _ _)
    · decide +kernel
    exact Frame.rfl' _
  · apply Frame.set_intake
    · rfl
    apply Frame.after (frame_bump _ _)
    · decide +kernel
    exact Frame.rfl' _

theorem frame_evBrownout (s : State) (cause : Nat) (ms : Nat) :
    Frame [.regs, .hif] (some evRegs) s (State.evBrownout s cause ms) := by
  unfold State.evBrownout
  apply Frame.after (frame_raise _ _ _ _ _ _)
  · decide +kernel
  exact Frame.rfl' _

theorem frame_rewriteP57 (s : State) :
    Frame [.regs, .p57] (some [0x0034, 0x0A04]) s (State.rewriteP57 s) := by
  unfold State.rewriteP57
  apply Frame.after (frame_put _ _ _)
  · decide +kernel
  apply Frame.after (frame_wrapInc _ _)
  · decide +kernel
  apply Frame.after (frame_modP57 _ _)
  · decide +kernel
  exact Frame.rfl' _

theorem frame_restorePg (s : State) (lowMs : Nat) :
    Frame [.regs, .plt, .phy, .link, .master, .rear, .way, .stack, .p57, .intake, .mix, .ech, .call, .mic, .wake, .hif, .sby, .tag, .cart, .toll, .pwr, .cfg, .dbg, .free] none s (State.restorePg s lowMs) := by
  unfold State.restorePg
  apply Frame.ite
  · apply Frame.after (frame_evBrownout _ _ _)
    · decide +kernel
    apply Frame.ite
    · apply Frame.after (frame_lifeEvent _ _ _ _)
      · decide +kernel
      apply Frame.after (frame_relevel _)
      · decide +kernel
      apply Frame.set_intake
      · rfl
      apply Frame.ite
      · apply Frame.after (frame_rewriteP57 _)
        · decide +kernel
        exact Frame.rfl' _
      · exact Frame.rfl' _
    · apply Frame.after (frame_relevel _)
      · decide +kernel
      apply Frame.set_intake
      · rfl
      apply Frame.ite
      · apply Frame.after (frame_rewriteP57 _)
        · decide +kernel
        exact Frame.rfl' _
      · exact Frame.rfl' _
  · apply Frame.ite
    · apply Frame.after (frame_lifeEvent _ _ _ _)
      · decide +kernel
      apply Frame.after (frame_relevel _)
      · decide +kernel
      apply Frame.set_intake
      · rfl
      apply Frame.ite
      · apply Frame.after (frame_rewriteP57 _)
        · decide +kernel
        exact Frame.rfl' _
      · exact Frame.rfl' _
    · apply Frame.after (frame_relevel _)
      · decide +kernel
      apply Frame.set_intake
      · rfl
      apply Frame.ite
      · apply Frame.after (frame_rewriteP57 _)
        · decide +kernel
        exact Frame.rfl' _
      · exact Frame.rfl' _

theorem frame_takeSurge (s : State) (overflow : Bool) (mj : Nat) :
    Frame [.regs, .plt, .phy, .link, .master, .rear, .way, .stack, .intake, .mix, .ech, .call, .mic, .wake, .hif, .sby, .tag, .cart, .toll, .pwr, .cfg, .dbg, .free] none s (State.takeSurge s overflow mj) := by
  unfold State.takeSurge
  apply Frame.ite
  · apply Frame.after (frame_evSurge _ _ _)
    · decide +kernel
    apply Frame.after (frame_bump _ _)
    · decide +kernel
    exact Frame.rfl' _
  · apply Frame.ite
    · apply Frame.after (frame_evSurge _ _ _)
      · decide +kernel
      exact Frame.rfl' _
    · apply Frame.after (frame_lifeEvent _ _ _ _)
      · decide +kernel
      exact Frame.rfl' _

theorem frame_serveAttention (s : State) :
    Frame [.regs, .plt, .phy, .link, .master, .rear, .way, .stack, .p57, .intake, .mix, .ech, .call, .mic, .wake, .hif, .sby, .tag, .cart, .toll, .pwr, .cfg, .dbg, .free] none s (State.serveAttention s) := by
  unfold State.serveAttention
  apply Frame.foldl
  · apply Frame.after (frame_wakeBy _ _)
    · decide +kernel
    apply Frame.after (frame_modP57 _ _)
    · decide +kernel
    apply Frame.ite
    · apply Frame.after (frame_warnRise _)
      · decide +kernel
      apply Frame.after (frame_stim _ _ _)
      · decide +kernel
      exact Frame.rfl' _
    · apply Frame.after (frame_stim _ _ _)
      · decide +kernel
      exact Frame.rfl' _
  · intro _ _ _
    apply Frame.after (frame_takeSurge _ _ _)
    · decide +kernel
    assumption

theorem frame_warnClear (s : State) :
    Frame [.intake] (some []) s (State.warnClear s) := by
  unfold State.warnClear
  apply Frame.set_intake
  · rfl
  exact Frame.rfl' _

end Sys2Proof.Laws
end

