-- ==== Sys2Proof/Laws/FramesPower.lean ====
section
/-! SUPPORT. What each operation of Machine/Power.lean may change, one lemma each: the parts of the state and, where they are few, the registers. -/

namespace Sys2Proof.Laws

open Sys2Proof.Machine

set_option Elab.async false

theorem frame_checkEntry (s : State) :
    Frame [.regs, .pwr] (some [0x0890]) s (State.checkEntry s) := by
  unfold State.checkEntry
  try dsimp -proj only
  split
  · apply Frame.ite
    · apply Frame.after (frame_abortEntry _ _)
      · decide +kernel
      exact Frame.rfl' _
    · exact Frame.rfl' _
  · exact Frame.rfl' _

theorem frame_holdCycle (s : State) :
    Frame [.pwr] (some []) s (State.holdCycle s) := by
  unfold State.holdCycle
  apply Frame.set_pwr
  · rfl
  exact Frame.rfl' _

theorem frame_perfDone (s : State) (c : Nat) :
    Frame [.regs, .hif, .dbg] (some [0x1414, 0x6028, 0x6848]) s (State.perfDone s c) := by
  unfold State.perfDone
  try dsimp -proj only
  split
  · split
    · apply Frame.after (frame_finish _ _ _ _ _ _)
      · decide +kernel
      exact Frame.rfl' _
    · exact Frame.rfl' _
  · exact Frame.rfl' _

theorem frame_tellRefused (s : State) (r : RefusedVote) :
    Frame [.regs, .hif, .pwr] (some evRegs) s (State.tellRefused s r) := by
  unfold State.tellRefused
  apply Frame.after (frame_raise _ _ _ _ _ _)
  · decide +kernel
  apply Frame.set_pwr
  · rfl
  exact Frame.rfl' _

theorem frame_countRefuser (s : State) (c : Nat) :
    Frame [.regs, .pwr] none s (State.countRefuser s c) := by
  unfold State.countRefuser
  apply Frame.set_pwr
  · rfl
  apply Frame.after (frame_bump _ _)
  · rfl
  exact Frame.rfl' _

theorem frame_refreshRefusals (s : State) :
    Frame [.regs, .pwr] none s (State.refreshRefusals s) := by
  unfold State.refreshRefusals
  apply Frame.set_pwr
  · rfl
  apply Frame.foldl
  · exact Frame.rfl' _
  · intro _ _ _
    apply Frame.after (frame_countRefuser _ _)
    · decide +kernel
    assumption

theorem frame_voted (s : State) (c : Nat) (asked : Nat) :
    Frame [.regs, .hif, .pwr] none s (State.voted s c asked) := by
  unfold State.voted
  try dsimp -proj only
  apply Frame.ite
  · split
    · apply Frame.after (frame_tellRefused _ _)
      · decide +kernel
      apply Frame.after (frame_refreshRefusals _)
      · decide +kernel
      apply Frame.set_pwr
      · rfl
      apply Frame.set_pwr
      · rfl
      exact Frame.rfl' _
    · apply Frame.after (frame_refreshRefusals _)
      · decide +kernel
      apply Frame.set_pwr
      · rfl
      apply Frame.set_pwr
      · rfl
      exact Frame.rfl' _
  · apply Frame.after (frame_refreshRefusals _)
    · decide +kernel
    apply Frame.set_pwr
    · rfl
    apply Frame.set_pwr
    · rfl
    exact Frame.rfl' _

theorem frame_tellShallow (s : State) (n : Nat) :
    Frame [.regs, .hif, .pwr] (some evRegs) s (State.tellShallow s n) := by
  unfold State.tellShallow
  apply Frame.foldl
  · exact Frame.rfl' _
  · intro _ _ _
    apply Frame.after (frame_tellRefused _ _)
    · decide +kernel
    assumption

theorem frame_startEntry (s : State) (n : Nat) :
    Frame [.mem, .pins, .regs, .plt, .phy, .link, .master, .way, .hif, .pwr, .dbg, .free] none s (State.startEntry s n) := by
  unfold State.startEntry
  apply Frame.ite
  · apply Frame.after (frame_statusDue _ _)
    · decide +kernel
    apply Frame.set_pwr
    · rfl
    apply Frame.after (frame_tellShallow _ _)
    · decide +kernel
    apply Frame.after (frame_refreshRefusals _)
    · decide +kernel
    exact Frame.rfl' _
  · apply Frame.after (frame_enterSleep _ _)
    · decide +kernel
    apply Frame.after (frame_tellShallow _ _)
    · decide +kernel
    apply Frame.after (frame_refreshRefusals _)
    · decide +kernel
    exact Frame.rfl' _

end Sys2Proof.Laws
end

