-- ==== Sys2Proof/Laws/FramesOperands.lean ====
section
/-! SUPPORT. What each operation of Machine/Operands.lean may change, one lemma each: the parts of the state and, where they are few, the registers. -/

namespace Sys2Proof.Laws

open Sys2Proof.Machine

set_option Elab.async false

theorem frame_armUnits (s : State) (x1 : Nat) :
    Frame [.regs, .plt] (some [0x7040]) s (State.armUnits s x1) := by
  induction x1 generalizing s with
  | zero => exact Frame.rfl' s
  | succ n ih =>
    unfold State.armUnits
    split
    · exact (Frame.after (frame_setBit _ _ _) (by decide +kernel) (Frame.set_plt _ rfl (Frame.rfl' s))).trans (ih _)
    · exact Frame.rfl' s


theorem frame_dropDeadlines (s : State) (p : Deadline → Bool) :
    Frame [.regs, .plt] (some [0x7040]) s (State.dropDeadlines s p) := by
  unfold State.dropDeadlines
  apply Frame.after (frame_armUnits _ _)
  · decide +kernel
  apply Frame.foldl
  · apply Frame.set_plt
    · rfl
    exact Frame.rfl' _
  · intro _ _ _
    apply Frame.after (frame_clrBit _ _ _)
    · decide +kernel
    apply Frame.set_plt
    · rfl
    assumption

theorem frame_addDeadline (s : State) (c : Nat) (id : Half) (due : Word) :
    Frame [.regs, .plt] (some [0x7040]) s (State.addDeadline s c id due) := by
  unfold State.addDeadline
  apply Frame.after (frame_armUnits _ _)
  · decide +kernel
  apply Frame.set_plt
  · rfl
  exact Frame.rfl' _

theorem frame_schedule (s : State) (c : Nat) (j : Nat) (d : Desc) (buf : List Byte) :
    Frame [.regs, .plt, .hif] (some [0x7040]) s (State.schedule s c j d buf) := by
  unfold State.schedule
  apply Frame.after (frame_addDeadline _ _ _ _)
  · decide +kernel
  apply Frame.after (frame_setPhase _ _ _ _)
  · decide +kernel
  exact Frame.rfl' _

theorem frame_settleOne (s : State) (c : Nat) (t : State) (h : State.settleOne s c = some t) :
    Frame [.regs, .plt, .hif, .dbg] (some [0x1414, 0x6028, 0x6848, 0x7040]) s t := by
  unfold State.settleOne at h
  obtain ⟨j, -, hj⟩ := List.exists_of_findSome?_eq_some h
  have key : ∀ {u : State}, Frame [.regs, .plt, .hif, .dbg] (some [0x1414, 0x6028, 0x6848, 0x7040]) s u → some u = some t → Frame [.regs, .plt, .hif, .dbg] (some [0x1414, 0x6028, 0x6848, 0x7040]) s t :=
    fun hu he => Option.some.inj he ▸ hu
  split at hj
  · split at hj
    · cases hj
    · split at hj
      · exact key ((frame_finish _ _ _ _ _ _).mono (by decide +kernel)) hj
      · split at hj
        · exact key ((frame_finish _ _ _ _ _ _).mono (by decide +kernel)) hj
        · split at hj
          · exact key ((frame_schedule _ _ _ _ _).mono (by decide +kernel)) hj
          · cases hj
  · cases hj


theorem frame_settleN (s : State) (c : Nat) (x2 : Nat) :
    Frame [.regs, .plt, .hif, .dbg] (some [0x1414, 0x6028, 0x6848, 0x7040]) s (State.settleN s c x2) := by
  induction x2 generalizing s with
  | zero => exact Frame.rfl' s
  | succ n ih =>
    unfold State.settleN
    split
    · rename_i t h
      exact (frame_settleOne s c t h).trans (ih t)
    · exact Frame.rfl' s


theorem frame_settle (s : State) (c : Nat) :
    Frame [.regs, .plt, .hif, .dbg] (some [0x1414, 0x6028, 0x6848, 0x7040]) s (State.settle s c) := by
  unfold State.settle
  apply Frame.after (frame_settleN _ _ _)
  · decide +kernel
  exact Frame.rfl' _

theorem frame_settleAll (s : State) :
    Frame [.regs, .plt, .hif, .dbg] (some [0x1414, 0x6028, 0x6848, 0x7040]) s (State.settleAll s) := by
  unfold State.settleAll
  apply Frame.foldl
  · exact Frame.rfl' _
  · intro _ _ _
    apply Frame.after (frame_settle _ _)
    · decide +kernel
    assumption

/-- A command is framed as widely as what it does when its turn has come. -/
theorem frame_command {w : List Part} {r : Option (List Nat)} (s : State) (c op : Nat) (buf : List Byte) (f : State → Nat → Desc → State)
    (hw : within [.regs, .plt, .hif, .dbg] (some [0x1414, 0x6028, 0x6848, 0x7040]) w r = true) (hf : ∀ t j d, Frame w r t (f t j d)) :
    Frame w r s (State.command s c op buf f) := by
  unfold State.command
  split
  · exact Frame.rfl' s
  · refine Frame.after (frame_settle _ c) ?_ ?_
    · exact hw
    split
    · exact (frame_finish s _ _ _ _ _).mono (within_trans (by decide +kernel) hw)
    · apply Frame.ite
      · exact (frame_schedule s _ _ _ _).mono (within_trans (by decide +kernel) hw)
      · exact ((frame_stim s _ _).mono (within_trans (by decide +kernel) hw)).trans (hf _ _ _)

end Sys2Proof.Laws
end

