-- ==== Sys2Proof/Laws/FramesHost.lean ====
section
/-! SUPPORT. What each operation of Machine/Host.lean may change, one lemma each: the parts of the state and, where they are few, the registers. -/

namespace Sys2Proof.Laws

open Sys2Proof.Machine

set_option Elab.async false

theorem frame_fireVector (s : State) (v : Nat) :
    Frame [.regs, .hif] (some [0x1404]) s (State.fireVector s v) := by
  unfold State.fireVector
  apply Frame.ite
  · apply Frame.ite
    · apply Frame.set_hif
      · rfl
      exact Frame.rfl' _
    · apply Frame.set_hif
      · rfl
      exact Frame.rfl' _
  · apply Frame.ite
    · apply Frame.after (frame_setBit _ _ _)
      · decide +kernel
      apply Frame.set_hif
      · rfl
      exact Frame.rfl' _
    · exact Frame.rfl' _

theorem frame_closeStreams (s : State) (n : Nat) :
    Frame [.wake, .hif] (some []) s (State.closeStreams s n) := by
  unfold State.closeStreams
  apply Frame.set_wake_hif
  · rfl
  exact Frame.rfl' _

theorem frame_releaseJob (s : State) (x : InFlight) :
    Frame [.regs] none s (State.releaseJob s x) := by
  unfold State.releaseJob
  try dsimp -proj only
  split
  · apply Frame.after (frame_put _ _ _)
    · rfl
    exact Frame.rfl' _
  · exact Frame.rfl' _

theorem frame_closeTalk (s : State) (n : Nat) :
    Frame [.regs, .link, .master, .way, .hif] (some [0x2084, 0x20C4]) s (State.closeTalk s n) := by
  unfold State.closeTalk
  try dsimp -proj only
  apply Frame.foldl
  · exact Frame.rfl' _
  · intro _ _ _
    split
    · apply Frame.ite
      · apply Frame.after (frame_setSession _ _ _)
        · decide +kernel
        apply Frame.after (frame_dropTalk _ _ _)
        · decide +kernel
        assumption
      · assumption
    · assumption

theorem frame_endClient (s : State) (n : Nat) :
    Frame [.regs, .plt, .link, .master, .way, .wake, .hif] none s (State.endClient s n) := by
  unfold State.endClient
  apply Frame.after (frame_modClient _ _ _)
  · decide +kernel
  apply Frame.after (frame_closeStreams _ _)
  · decide +kernel
  apply Frame.after (frame_closeTalk _ _)
  · decide +kernel
  apply Frame.after (frame_dropDeadlines _ _)
  · decide +kernel
  apply Frame.foldl
  · exact Frame.rfl' _
  · intro _ _ _
    apply Frame.after (frame_releaseJob _ _)
    · decide +kernel
    assumption

theorem frame_dropStaging (s : State) :
    Frame [.cfg] (some []) s (State.dropStaging s) := by
  unfold State.dropStaging
  try dsimp -proj only
  split
  · apply Frame.ite
    · apply Frame.set_cfg
      · rfl
      exact Frame.rfl' _
    · exact Frame.rfl' _
  · exact Frame.rfl' _

theorem frame_dropStagingOf (s : State) (n : Nat) :
    Frame [.cfg] (some []) s (State.dropStagingOf s n) := by
  unfold State.dropStagingOf
  apply Frame.ite
  · apply Frame.after (frame_dropStaging _)
    · decide +kernel
    exact Frame.rfl' _
  · exact Frame.rfl' _

theorem frame_closeClient (s : State) (n : Nat) :
    Frame [.regs, .plt, .link, .master, .way, .wake, .hif, .pwr, .cfg] none s (State.closeClient s n) := by
  unfold State.closeClient
  apply Frame.after (frame_relevel _)
  · decide +kernel
  apply Frame.after (frame_bumpGen _ _ _)
  · decide +kernel
  apply Frame.after (frame_dropStagingOf _ _)
  · decide +kernel
  apply Frame.after (frame_endClient _ _)
  · decide +kernel
  exact Frame.rfl' _

theorem frame_clientFault (s : State) (n : Nat) (cause : Nat) :
    Frame [.regs, .plt, .link, .master, .way, .wake, .hif, .pwr, .cfg, .dbg] none s (State.clientFault s n cause) := by
  unfold State.clientFault
  apply Frame.after (frame_eventAll _ _ _)
  · decide +kernel
  apply Frame.after (frame_stim _ _ _)
  · decide +kernel
  apply Frame.after (frame_modClient _ _ _)
  · decide +kernel
  apply Frame.after (frame_closeClient _ _)
  · decide +kernel
  apply Frame.ite
  · apply Frame.after (frame_wr _ _ _)
    · rfl
    apply Frame.after (frame_setBit _ _ _)
    · decide +kernel
    exact Frame.rfl' _
  · apply Frame.after (frame_fireVector _ _)
    · decide +kernel
    apply Frame.after (frame_wr _ _ _)
    · rfl
    apply Frame.after (frame_setBit _ _ _)
    · decide +kernel
    exact Frame.rfl' _

theorem frame_enableRing (s : State) (n : Nat) :
    Frame [.regs, .plt, .link, .master, .way, .wake, .hif, .pwr, .cfg, .dbg] none s (State.enableRing s n) := by
  unfold State.enableRing
  apply Frame.ite
  · apply Frame.after (frame_clientFault _ _ _)
    · decide +kernel
    apply Frame.after (frame_wr _ _ _)
    · rfl
    apply Frame.after (frame_put _ _ _)
    · rfl
    exact Frame.rfl' _
  · apply Frame.after (frame_checkEntry _)
    · decide +kernel
    apply Frame.after (frame_modClient _ _ _)
    · decide +kernel
    apply Frame.after (frame_wr _ _ _)
    · rfl
    apply Frame.after (frame_put _ _ _)
    · rfl
    exact Frame.rfl' _

theorem frame_disableRing (s : State) (n : Nat) :
    Frame [.regs, .plt, .link, .master, .way, .wake, .hif, .pwr, .cfg] none s (State.disableRing s n) := by
  unfold State.disableRing
  apply Frame.ite
  · apply Frame.after (frame_closeClient _ _)
    · decide +kernel
    apply Frame.after (frame_put _ _ _)
    · rfl
    exact Frame.rfl' _
  · apply Frame.after (frame_put _ _ _)
    · rfl
    exact Frame.rfl' _

theorem frame_wakeHost (s : State) (en : Bool) :
    Frame [.pins, .hif] (some []) s (State.wakeHost s en) := by
  unfold State.wakeHost
  apply Frame.ite
  · exact Frame.rfl' _
  · apply Frame.ite
    · apply Frame.set_pins
      · rfl
      exact Frame.rfl' _
    · apply Frame.ite
      · apply Frame.set_hif
        · rfl
        exact Frame.rfl' _
      · exact Frame.rfl' _

theorem frame_answerWakes (s : State) :
    Frame [.pins, .regs, .hif] (some [0x1804]) s (State.answerWakes s) := by
  unfold State.answerWakes
  apply Frame.after (frame_wakeHost _ _)
  · decide +kernel
  apply Frame.after (frame_put _ _ _)
  · decide +kernel
  exact Frame.rfl' _

theorem frame_publishHead (s : State) (n : Nat) (v : Word) :
    Frame [.regs, .plt, .link, .master, .way, .wake, .hif, .pwr, .cfg, .dbg] none s (State.publishHead s n v) := by
  unfold State.publishHead
  apply Frame.ite
  · exact Frame.rfl' _
  · apply Frame.ite
    · apply Frame.after (frame_clientFault _ _ _)
      · decide +kernel
      exact Frame.rfl' _
    · apply Frame.after (frame_modClient _ _ _)
      · decide +kernel
      exact Frame.rfl' _

theorem frame_publishTail (s : State) (n : Nat) (v : Word) :
    Frame [.regs, .plt, .link, .master, .way, .wake, .hif, .pwr, .cfg, .dbg] none s (State.publishTail s n v) := by
  unfold State.publishTail
  apply Frame.ite
  · exact Frame.rfl' _
  · apply Frame.ite
    · apply Frame.after (frame_clientFault _ _ _)
      · decide +kernel
      exact Frame.rfl' _
    · apply Frame.after (frame_modClient _ _ _)
      · decide +kernel
      exact Frame.rfl' _

theorem frame_fireClient (s : State) (n : Nat) :
    Frame [.regs, .hif] (some [0x1404]) s (State.fireClient s n) := by
  unfold State.fireClient
  apply Frame.after (frame_modClient _ _ _)
  · decide +kernel
  apply Frame.after (frame_fireVector _ _)
  · decide +kernel
  exact Frame.rfl' _

theorem frame_acknowledge (s : State) (n : Nat) (v : Word) :
    Frame [.regs, .hif] (some [0x1404]) s (State.acknowledge s n v) := by
  unfold State.acknowledge
  apply Frame.ite
  · exact Frame.rfl' _
  · apply Frame.ite
    · apply Frame.after (frame_modClient _ _ _)
      · decide +kernel
      exact Frame.rfl' _
    · apply Frame.after (frame_fireClient _ _)
      · decide +kernel
      apply Frame.after (frame_modClient _ _ _)
      · decide +kernel
      exact Frame.rfl' _

theorem frame_unlatch (s : State) (n : Nat) :
    Frame [.regs, .plt, .link, .master, .way, .wake, .hif, .pwr, .cfg, .dbg] none s (State.unlatch s n) := by
  unfold State.unlatch
  try dsimp -proj only
  split
  · apply Frame.after (frame_acknowledge _ _ _)
    · decide +kernel
    split
    · apply Frame.after (frame_publishHead _ _ _)
      · decide +kernel
      split
      · apply Frame.after (frame_publishTail _ _ _)
        · decide +kernel
        apply Frame.after (frame_modClient _ _ _)
        · decide +kernel
        exact Frame.rfl' _
      · apply Frame.after (frame_modClient _ _ _)
        · decide +kernel
        exact Frame.rfl' _
    · split
      · apply Frame.after (frame_publishTail _ _ _)
        · decide +kernel
        apply Frame.after (frame_modClient _ _ _)
        · decide +kernel
        exact Frame.rfl' _
      · apply Frame.after (frame_modClient _ _ _)
        · decide +kernel
        exact Frame.rfl' _
  · split
    · apply Frame.after (frame_publishHead _ _ _)
      · decide +kernel
      split
      · apply Frame.after (frame_publishTail _ _ _)
        · decide +kernel
        apply Frame.after (frame_modClient _ _ _)
        · decide +kernel
        exact Frame.rfl' _
      · apply Frame.after (frame_modClient _ _ _)
        · decide +kernel
        exact Frame.rfl' _
    · split
      · apply Frame.after (frame_publishTail _ _ _)
        · decide +kernel
        apply Frame.after (frame_modClient _ _ _)
        · decide +kernel
        exact Frame.rfl' _
      · apply Frame.after (frame_modClient _ _ _)
        · decide +kernel
        exact Frame.rfl' _

theorem frame_reqWakeN (s : State) :
    Frame [.pins, .regs, .hif] (some [0x1804]) s (State.reqWakeN s) := by
  unfold State.reqWakeN
  apply Frame.after (frame_wakeHost _ _)
  · decide +kernel
  apply Frame.after (frame_put _ _ _)
  · decide +kernel
  exact Frame.rfl' _

theorem frame_takeDescs (s : State) (n : Nat) (ds : List Desc) (doom : Bool) :
    Frame [.hif] (some []) s (State.takeDescs s n ds doom) := by
  unfold State.takeDescs
  apply Frame.after (frame_modClient _ _ _)
  · decide +kernel
  apply Frame.set_hif
  · rfl
  exact Frame.rfl' _

theorem frame_fetched (s : State) (n : Nat) (ds : List Desc) :
    Frame [.hif] (some []) s (State.fetched s n ds) := by
  unfold State.fetched
  try dsimp -proj only
  split
  · apply Frame.ite
    · apply Frame.after (frame_modClient _ _ _)
      · decide +kernel
      exact Frame.rfl' _
    · apply Frame.after (frame_modClient _ _ _)
      · decide +kernel
      apply Frame.after (frame_takeDescs _ _ _ _)
      · decide +kernel
      exact Frame.rfl' _
  · apply Frame.after (frame_modClient _ _ _)
    · decide +kernel
    apply Frame.after (frame_takeDescs _ _ _ _)
    · decide +kernel
    exact Frame.rfl' _

theorem frame_showLink (s : State) (l : LinkState) (speed : Nat) :
    Frame [.regs, .hif] (some [0x1408]) s (State.showLink s l speed) := by
  unfold State.showLink
  apply Frame.after (frame_wr _ _ _)
  · decide +kernel
  apply Frame.after (frame_wr _ _ _)
  · decide +kernel
  apply Frame.set_hif
  · rfl
  exact Frame.rfl' _

theorem frame_headerReset (s : State) :
    Frame [.hif] (some []) s (State.headerReset s) := by
  unfold State.headerReset
  apply Frame.set_hif
  · rfl
  exact Frame.rfl' _

theorem frame_flr (s : State) :
    Frame [.regs, .plt, .link, .master, .way, .wake, .hif, .pwr, .cfg] none s (State.flr s) := by
  unfold State.flr
  apply Frame.after (frame_relevel _)
  · decide +kernel
  apply Frame.after (frame_bumpGen _ _ _)
  · decide +kernel
  apply Frame.after (frame_wr _ _ _)
  · decide +kernel
  apply Frame.after (frame_headerReset _)
  · decide +kernel
  apply Frame.set_regs
  · rfl
  · exact fun h => wf_filter _ _ _ (fun k => !flrClears k) h (fun _ _ => rfl)
  apply Frame.foldl
  · apply Frame.after (frame_dropStaging _)
    · decide +kernel
    apply Frame.foldl
    · exact Frame.rfl' _
    · intro _ _ _
      apply Frame.after (frame_endClient _ _)
      · decide +kernel
      assumption
  · intro _ _ _
    apply Frame.after (frame_modClient _ _ _)
    · decide +kernel
    assumption

theorem frame_trainLink (s : State) :
    Frame [.regs, .hif, .free] (some [0x1408]) s (State.trainLink s) := by
  unfold State.trainLink
  apply Frame.after (frame_takeFree _ _)
  · decide +kernel
  apply Frame.after (frame_showLink _ _ _)
  · decide +kernel
  apply Frame.set_hif
  · rfl
  exact Frame.rfl' _

theorem frame_placeEntry (s : State) (e : Entry) :
    Frame [.hif, .sby] (some []) s (State.placeEntry s e) := by
  unfold State.placeEntry
  apply Frame.after (frame_modClient _ _ _)
  · decide +kernel
  apply Frame.set_sby
  · rfl
  · first | exact id | exact wf_setList _ _ _ _
  exact Frame.rfl' _

theorem frame_doorbell (s : State) (t : State) (h : State.doorbell s = some t) :
    Frame [.regs, .plt, .phy, .link, .master, .rear, .way, .stack, .intake, .mix, .ech, .call, .mic, .wake, .hif, .tag, .toll, .pwr, .cfg, .dbg] none s t := by
  unfold State.doorbell at h
  dsimp -proj only at h
  split at h
  · cases h
  split at h
  · exact Option.some.inj h ▸ (frame_wakeBy s 16).mono (by decide +kernel)
  · cases h

theorem frame_ringDoorbell (s : State) (n : Nat) (w : Nat) (size : AccSize) (v : Word) :
    Frame [.regs, .plt, .phy, .link, .master, .rear, .way, .stack, .intake, .mix, .ech, .call, .mic, .wake, .hif, .tag, .toll, .pwr, .cfg, .dbg] none s (State.ringDoorbell s n w size v) := by
  unfold State.ringDoorbell
  try dsimp -proj only
  apply Frame.ite
  · apply Frame.ite
    · apply Frame.after (frame_bump _ _)
      · decide +kernel
      exact Frame.rfl' _
    · exact Frame.rfl' _
  · split
    · exact Frame.rfl' _
    · apply Frame.ite
      · apply Frame.after (frame_modClient _ _ _)
        · decide +kernel
        first | assumption | exact (frame_doorbell _ _ (by assumption)).mono (by decide +kernel)
      · apply Frame.ite
        · apply Frame.after (frame_publishTail _ _ _)
          · decide +kernel
          first | assumption | exact (frame_doorbell _ _ (by assumption)).mono (by decide +kernel)
        · apply Frame.ite
          · apply Frame.after (frame_publishHead _ _ _)
            · decide +kernel
            first | assumption | exact (frame_doorbell _ _ (by assumption)).mono (by decide +kernel)
          · apply Frame.after (frame_acknowledge _ _ _)
            · decide +kernel
            first | assumption | exact (frame_doorbell _ _ (by assumption)).mono (by decide +kernel)

theorem frame_writeEntry (s : State) (n : Nat) (e : Entry) :
    Frame [.regs, .hif] (some [0x1404]) s (State.writeEntry s n e) := by
  unfold State.writeEntry
  apply Frame.ite
  · apply Frame.after (frame_fireClient _ _)
    · decide +kernel
    apply Frame.after (frame_modClient _ _ _)
    · decide +kernel
    exact Frame.rfl' _
  · apply Frame.after (frame_modClient _ _ _)
    · decide +kernel
    exact Frame.rfl' _

end Sys2Proof.Laws
end

