-- ==== Sys2Proof/Laws/FramesStreams.lean ====
section
/-! SUPPORT. What each operation of Machine/Streams.lean may change, one lemma each: the parts of the state and, where they are few, the registers. -/

namespace Sys2Proof.Laws

open Sys2Proof.Machine

set_option Elab.async false

theorem frame_setStream (s : State) (i : Nat) (x : Option Stream) :
    Frame [.hif] (some []) s (State.setStream s i x) := by
  unfold State.setStream
  apply Frame.set_hif
  · rfl
  exact Frame.rfl' _

theorem frame_writeHead (s : State) (i : Nat) (st : Status) (result : Word) (info : Word) (ended : Bool) :
    Frame [.hif, .free] (some []) s (State.writeHead s i st result info ended) := by
  unfold State.writeHead
  try dsimp -proj only
  split
  · split
    · split
      · apply Frame.after (frame_setPhase _ _ _ _)
        · decide +kernel
        apply Frame.after (frame_takeFree _ _)
        · decide +kernel
        apply Frame.after (frame_setStream _ _ _)
        · decide +kernel
        exact Frame.rfl' _
      · apply Frame.after (frame_takeFree _ _)
        · decide +kernel
        apply Frame.after (frame_setStream _ _ _)
        · decide +kernel
        exact Frame.rfl' _
    · exact Frame.rfl' _
  · exact Frame.rfl' _

theorem frame_endHead (s : State) (i : Nat) (st : Status) (result : Word) (info : Word) :
    Frame [.regs, .hif, .dbg] (some [0x1414, 0x6028, 0x6848]) s (State.endHead s i st result info) := by
  unfold State.endHead
  try dsimp -proj only
  split
  · split
    · apply Frame.after (frame_finish _ _ _ _ _ _)
      · decide +kernel
      apply Frame.after (frame_setPhase _ _ _ _)
      · decide +kernel
      apply Frame.after (frame_setStream _ _ _)
      · decide +kernel
      exact Frame.rfl' _
    · apply Frame.after (frame_setStream _ _ _)
      · decide +kernel
      exact Frame.rfl' _
  · exact Frame.rfl' _

theorem frame_abortBuffers (s : State) (i : Nat) (x2 : Nat) :
    Frame [.regs, .hif, .dbg] (some [0x1414, 0x6028, 0x6848]) s (State.abortBuffers s i x2) := by
  induction x2 generalizing s with
  | zero => exact Frame.rfl' s
  | succ k ih =>
    unfold State.abortBuffers
    split
    · exact Frame.ite (Frame.rfl' s) ((frame_endHead s i _ _ _).trans (ih _))
    · exact Frame.rfl' s


theorem frame_endFetch (s : State) (i : Nat) :
    Frame [.regs, .wake, .hif, .dbg, .free] (some [0x1414, 0x4830, 0x6028, 0x6848]) s (State.endFetch s i) := by
  unfold State.endFetch
  try dsimp -proj only
  split
  · exact Frame.rfl' _
  · split
    · apply Frame.after (frame_abortBuffers _ _ _)
      · decide +kernel
      apply Frame.after (frame_setStream _ _ _)
      · decide +kernel
      apply Frame.after (frame_writeHead _ _ _ _ _ _)
      · decide +kernel
      apply Frame.after (frame_bump _ _)
      · decide +kernel
      apply Frame.set_wake
      · rfl
      exact Frame.rfl' _
    · apply Frame.after (frame_writeHead _ _ _ _ _ _)
      · decide +kernel
      apply Frame.after (frame_bump _ _)
      · decide +kernel
      apply Frame.set_wake
      · rfl
      exact Frame.rfl' _

theorem frame_historyLost (s : State) :
    Frame [.regs, .wake, .hif, .dbg, .free] (some [0x1414, 0x4830, 0x6028, 0x6848]) s (State.historyLost s) := by
  unfold State.historyLost
  apply Frame.foldl
  · apply Frame.after (frame_emptyHistory _)
    · decide +kernel
    exact Frame.rfl' _
  · intro _ _ _
    apply Frame.after (frame_endFetch _ _)
    · decide +kernel
    assumption

theorem frame_completeHead (s : State) (i : Nat) :
    Frame [.regs, .hif, .dbg, .free] (some [0x1414, 0x6028, 0x6848]) s (State.completeHead s i) := by
  unfold State.completeHead
  try dsimp -proj only
  split
  · split
    · apply Frame.ite
      · apply Frame.after (frame_endHead _ _ _ _ _)
        · decide +kernel
        exact Frame.rfl' _
      · apply Frame.after (frame_writeHead _ _ _ _ _ _)
        · decide +kernel
        exact Frame.rfl' _
    · exact Frame.rfl' _
  · exact Frame.rfl' _

theorem frame_feed (s : State) (i : Nat) (first : Dword) (n : Nat) (muted : Bool) (concealed : Bool) (x6 : Nat) :
    Frame [.regs, .hif, .dbg, .free] (some [0x1414, 0x6028, 0x6848]) s (State.feed s i first n muted concealed x6) := by
  induction x6 generalizing s first n with
  | zero => exact Frame.rfl' s
  | succ k ih =>
    unfold State.feed
    split
    · exact Frame.rfl' s
    · refine Frame.ite (Frame.rfl' s) ?_
      split
      · exact (frame_setStream s i _).mono (by decide +kernel)
      · refine Frame.trans ?_ (ih _ _ _)
        have h := fun y => (frame_setStream s i y).mono (w' := [.regs, .hif, .dbg, .free]) (r' := (some [0x1414, 0x6028, 0x6848])) (by decide +kernel)
        exact Frame.ite (Frame.after (frame_completeHead _ _) (by decide +kernel) (h _)) (h _)


theorem frame_stopStream (s : State) (i : Nat) :
    Frame [.regs, .wake, .hif, .dbg, .free] (some [0x1414, 0x6028, 0x6848]) s (State.stopStream s i) := by
  unfold State.stopStream
  try dsimp -proj only
  split
  · apply Frame.ite
    · exact Frame.rfl' _
    · split
      · apply Frame.after (frame_abortBuffers _ _ _)
        · decide +kernel
        apply Frame.after (frame_setStream _ _ _)
        · decide +kernel
        split
        · apply Frame.ite
          · apply Frame.after (frame_writeHead _ _ _ _ _ _)
            · decide +kernel
            apply Frame.set_wake
            · rfl
            exact Frame.rfl' _
          · apply Frame.set_wake
            · rfl
            exact Frame.rfl' _
        · apply Frame.set_wake
          · rfl
          exact Frame.rfl' _
      · split
        · apply Frame.ite
          · apply Frame.after (frame_writeHead _ _ _ _ _ _)
            · decide +kernel
            apply Frame.set_wake
            · rfl
            exact Frame.rfl' _
          · apply Frame.set_wake
            · rfl
            exact Frame.rfl' _
        · apply Frame.set_wake
          · rfl
          exact Frame.rfl' _
  · exact Frame.rfl' _

theorem frame_freeStream (s : State) (i : Nat) :
    Frame [.regs, .hif, .dbg] (some [0x1414, 0x6028, 0x6848]) s (State.freeStream s i) := by
  unfold State.freeStream
  try dsimp -proj only
  split
  · apply Frame.ite
    · apply Frame.after (frame_finishWhere _ _ _ _ _ _)
      · decide +kernel
      apply Frame.after (frame_setStream _ _ _)
      · decide +kernel
      exact Frame.rfl' _
    · exact Frame.rfl' _
  · exact Frame.rfl' _

theorem frame_completeInject (s : State) (i : Nat) :
    Frame [.regs, .hif, .dbg] (some [0x1414, 0x6028, 0x6848]) s (State.completeInject s i) := by
  unfold State.completeInject
  try dsimp -proj only
  split
  · split
    · apply Frame.after (frame_endHead _ _ _ _ _)
      · decide +kernel
      exact Frame.rfl' _
    · exact Frame.rfl' _
  · exact Frame.rfl' _

theorem frame_drain (s : State) (i : Nat) (lo : Nat) (x3 : Nat) :
    Frame [.regs, .hif, .dbg] (some [0x1414, 0x6028, 0x6848]) s (State.drain s i lo x3) := by
  induction x3 generalizing s with
  | zero => exact Frame.rfl' s
  | succ k ih =>
    unfold State.drain
    split
    · exact Frame.rfl' s
    · split
      · exact Frame.rfl' s
      · have h := fun y => (frame_setStream s i y).mono (w' := [.regs, .hif, .dbg]) (r' := (some [0x1414, 0x6028, 0x6848])) (by decide +kernel)
        exact Frame.ite (Frame.trans (Frame.after (frame_completeInject _ _) (by decide +kernel) (h _)) (ih _)) (h _)


theorem frame_serveFetch (s : State) (i : Nat) :
    Frame [.regs, .wake, .hif, .dbg, .free] (some [0x1414, 0x6028, 0x6848]) s (State.serveFetch s i) := by
  unfold State.serveFetch
  try dsimp -proj only
  split
  · apply Frame.ite
    · exact Frame.rfl' _
    · apply Frame.after (frame_feed _ _ _ _ _ _ _)
      · decide +kernel
      apply Frame.set_wake
      · rfl
      exact Frame.rfl' _
  · exact Frame.rfl' _

theorem frame_streamCycle (s : State) (i : Nat) (c : Dword) :
    Frame [.regs, .wake, .hif, .dbg, .free] (some [0x1414, 0x6028, 0x6848]) s (State.streamCycle s i c) := by
  unfold State.streamCycle
  try dsimp -proj only
  split
  · exact Frame.rfl' _
  · apply Frame.after (frame_freeStream _ _)
    · decide +kernel
    apply Frame.after (frame_stopStream _ _)
    · decide +kernel
    apply Frame.ite
    · exact Frame.rfl' _
    · apply Frame.ite
      · apply Frame.after (frame_drain _ _ _ _)
        · decide +kernel
        exact Frame.rfl' _
      · apply Frame.ite
        · apply Frame.after (frame_serveFetch _ _)
          · decide +kernel
          exact Frame.rfl' _
        · apply Frame.ite
          · exact Frame.rfl' _
          · apply Frame.after (frame_feed _ _ _ _ _ _ _)
            · decide +kernel
            exact Frame.rfl' _

theorem frame_streamsCycle (s : State) (c : Dword) :
    Frame [.regs, .wake, .hif, .dbg, .free] (some [0x1414, 0x6028, 0x6848]) s (State.streamsCycle s c) := by
  unfold State.streamsCycle
  apply Frame.foldl
  · exact Frame.rfl' _
  · intro _ _ _
    apply Frame.after (frame_streamCycle _ _ _)
    · decide +kernel
    assumption

theorem frame_recordHistory (s : State) (first : Dword) :
    Frame [.wake] (some []) s (State.recordHistory s first) := by
  unfold State.recordHistory
  apply Frame.ite
  · exact Frame.rfl' _
  · apply Frame.set_wake
    · rfl
    exact Frame.rfl' _

end Sys2Proof.Laws
end

