-- ==== Sys2Proof/Laws/FramesCommands.lean ====
section
/-! SUPPORT. What each operation of Machine/Commands.lean may change, one lemma each: the parts of the state and, where they are few, the registers. -/

namespace Sys2Proof.Laws

open Sys2Proof.Machine

set_option Elab.async false

theorem frame_raiseDone (s : State) (n : Nat) (st : Status) :
    Frame [.regs, .hif, .dbg] (some [0x1414, 0x6028, 0x6848]) s (State.raiseDone s n st) := by
  unfold State.raiseDone
  try dsimp -proj only
  split
  · split
    · apply Frame.after (frame_finishWhere _ _ _ _ _ _)
      · decide +kernel
      exact Frame.rfl' _
    · exact Frame.rfl' _
  · exact Frame.rfl' _

theorem frame_setListen (s : State) (m : Dword) :
    Frame [.regs, .link, .master, .way] (some [0x2084, 0x20C4, 0x2810, 0x2814]) s (State.setListen s m) := by
  unfold State.setListen
  apply Frame.ite
  · exact Frame.rfl' _
  · apply Frame.after (frame_statusDue _ _)
    · decide +kernel
    apply Frame.after (frame_setReg64 _ _ _ _)
    · decide +kernel
    exact Frame.rfl' _

theorem frame_applySetting (s : State) (x : SettingChange) :
    Frame [.regs, .link, .master, .way] none s (State.applySetting s x).1 := by
  unfold State.applySetting
  try dsimp -proj only
  split
  · apply Frame.after (frame_setListen _ _)
    · decide +kernel
    apply Frame.ite
    · apply Frame.foldl
      · exact Frame.rfl' _
      · intro _ _ _
        apply Frame.after (frame_wr _ _ _)
        · rfl
        assumption
    · exact Frame.rfl' _
  · apply Frame.foldl
    · exact Frame.rfl' _
    · intro _ _ _
      apply Frame.after (frame_wr _ _ _)
      · rfl
      assumption
  · apply Frame.after (frame_statusDue _ _)
    · decide +kernel
    apply Frame.after (frame_wr _ _ _)
    · decide +kernel
    exact Frame.rfl' _
  · apply Frame.after (frame_put _ _ _)
    · decide +kernel
    apply Frame.after (frame_setListen _ _)
    · decide +kernel
    exact Frame.rfl' _

theorem frame_applyChanges (s : State) :
    Frame [.regs, .link, .master, .way, .mix, .hif, .dbg] none s (State.applyChanges s) := by
  unfold State.applyChanges
  apply Frame.foldl
  · apply Frame.set_mix
    · rfl
    exact Frame.rfl' _
  · intro _ _ _
    apply Frame.ite
    · apply Frame.after (frame_finishWhere _ _ _ _ _ _)
      · decide +kernel
      apply Frame.after (frame_applySetting _ _)
      · decide +kernel
      assumption
    · apply Frame.after (frame_applySetting _ _)
      · decide +kernel
      assumption

theorem frame_doTalkOpen (s : State) (c : Nat) (j : Nat) (d : Desc) :
    Frame [.regs, .link, .master, .way, .hif, .dbg] (some [0x1414, 0x2084, 0x20C4, 0x6028, 0x6848]) s (State.doTalkOpen s c j d) := by
  unfold State.doTalkOpen
  try dsimp -proj only
  apply Frame.ite
  · apply Frame.after (frame_finish _ _ _ _ _ _)
    · decide +kernel
    exact Frame.rfl' _
  · apply Frame.ite
    · apply Frame.after (frame_finish _ _ _ _ _ _)
      · decide +kernel
      exact Frame.rfl' _
    · apply Frame.ite
      · apply Frame.after (frame_finish _ _ _ _ _ _)
        · decide +kernel
        exact Frame.rfl' _
      · split
        · apply Frame.after (frame_finish _ _ _ _ _ _)
          · decide +kernel
          exact Frame.rfl' _
        · apply Frame.after (frame_requestLease _ _ _ _ _ _ _ _)
          · decide +kernel
          apply Frame.after (frame_setPhase _ _ _ _)
          · decide +kernel
          apply Frame.after (frame_setSession _ _ _)
          · decide +kernel
          exact Frame.rfl' _

theorem frame_doSubscribe (s : State) (c : Nat) (j : Nat) (d : Desc) :
    Frame [.regs, .hif, .dbg] (some [0x1414, 0x6028, 0x6848]) s (State.doSubscribe s c j d) := by
  unfold State.doSubscribe
  apply Frame.after (frame_finish _ _ _ _ _ _)
  · decide +kernel
  apply Frame.after (frame_modClient _ _ _)
  · decide +kernel
  exact Frame.rfl' _

theorem frame_doPowerVote (s : State) (c : Nat) (j : Nat) (d : Desc) :
    Frame [.regs, .hif, .pwr, .dbg] none s (State.doPowerVote s c j d) := by
  unfold State.doPowerVote
  apply Frame.after (frame_checkEntry _)
  · decide +kernel
  apply Frame.after (frame_voted _ _ _)
  · decide +kernel
  apply Frame.after (frame_finish _ _ _ _ _ _)
  · decide +kernel
  apply Frame.ite
  · apply Frame.set_pwr
    · rfl
    exact Frame.rfl' _
  · apply Frame.after (frame_modClient _ _ _)
    · decide +kernel
    exact Frame.rfl' _

theorem frame_doNop (s : State) (c : Nat) (j : Nat) :
    Frame [.regs, .hif, .dbg] (some [0x1414, 0x6028, 0x6848]) s (State.doNop s c j) := by
  unfold State.doNop
  apply Frame.after (frame_finish _ _ _ _ _ _)
  · decide +kernel
  exact Frame.rfl' _

theorem frame_doSetting (s : State) (c : Nat) (j : Nat) (d : Desc) (x : SettingChange) (atDue : Bool) :
    Frame [.regs, .link, .master, .way, .mix, .hif, .dbg] none s (State.doSetting s c j d x atDue) := by
  unfold State.doSetting
  apply Frame.ite
  · apply Frame.after (frame_finish _ _ _ _ _ _)
    · decide +kernel
    apply Frame.after (frame_applySetting _ _)
    · decide +kernel
    exact Frame.rfl' _
  · apply Frame.set_mix
    · rfl
    apply Frame.after (frame_setPhase _ _ _ _)
    · decide +kernel
    exact Frame.rfl' _

theorem frame_doRoomSet (s : State) (c : Nat) (j : Nat) (d : Desc) (atDue : Bool) :
    Frame [.regs, .link, .master, .way, .mix, .hif, .dbg] none s (State.doRoomSet s c j d atDue) := by
  unfold State.doRoomSet
  apply Frame.after (frame_doSetting _ _ _ _ _ _)
  · decide +kernel
  exact Frame.rfl' _

theorem frame_doPrecedenceSet (s : State) (c : Nat) (j : Nat) (d : Desc) (atDue : Bool) :
    Frame [.regs, .link, .master, .way, .mix, .hif, .dbg] none s (State.doPrecedenceSet s c j d atDue) := by
  unfold State.doPrecedenceSet
  try dsimp -proj only
  apply Frame.ite
  · apply Frame.after (frame_doSetting _ _ _ _ _ _)
    · decide +kernel
    exact Frame.rfl' _
  · split
    · apply Frame.ite
      · apply Frame.after (frame_finish _ _ _ _ _ _)
        · decide +kernel
        exact Frame.rfl' _
      · apply Frame.ite
        · apply Frame.after (frame_finish _ _ _ _ _ _)
          · decide +kernel
          exact Frame.rfl' _
        · apply Frame.after (frame_setPhase _ _ _ _)
          · decide +kernel
          apply Frame.after (frame_setSession _ _ _)
          · decide +kernel
          exact Frame.rfl' _
    · apply Frame.after (frame_finish _ _ _ _ _ _)
      · decide +kernel
      exact Frame.rfl' _

theorem frame_doTalkClose (s : State) (c : Nat) (j : Nat) (d : Desc) :
    Frame [.regs, .link, .master, .way, .hif, .dbg] (some [0x1414, 0x2084, 0x20C4, 0x6028, 0x6848]) s (State.doTalkClose s c j d) := by
  unfold State.doTalkClose
  try dsimp -proj only
  split
  · apply Frame.after (frame_finish _ _ _ _ _ _)
    · decide +kernel
    exact Frame.rfl' _
  · apply Frame.ite
    · apply Frame.after (frame_finish _ _ _ _ _ _)
      · decide +kernel
      exact Frame.rfl' _
    · split
      · apply Frame.after (frame_finish _ _ _ _ _ _)
        · decide +kernel
        apply Frame.after (frame_setSession _ _ _)
        · decide +kernel
        exact Frame.rfl' _
      · apply Frame.ite
        · apply Frame.after (frame_finish _ _ _ _ _ _)
          · decide +kernel
          apply Frame.after (frame_setSession _ _ _)
          · decide +kernel
          apply Frame.after (frame_dropTalk _ _ _)
          · decide +kernel
          exact Frame.rfl' _
        · apply Frame.ite
          · apply Frame.after (frame_finish _ _ _ _ _ _)
            · decide +kernel
            apply Frame.after (frame_setSession _ _ _)
            · decide +kernel
            apply Frame.after (frame_dropTalk _ _ _)
            · decide +kernel
            exact Frame.rfl' _
          · apply Frame.after (frame_post _ _ _)
            · decide +kernel
            apply Frame.after (frame_setPhase _ _ _ _)
            · decide +kernel
            exact Frame.rfl' _
      · apply Frame.after (frame_queueRelease _ _ _ _)
        · decide +kernel
        apply Frame.after (frame_setPhase _ _ _ _)
        · decide +kernel
        exact Frame.rfl' _

theorem frame_doListenSet (s : State) (c : Nat) (j : Nat) (d : Desc) (atDue : Bool) :
    Frame [.regs, .link, .master, .way, .mix, .hif, .dbg] none s (State.doListenSet s c j d atDue) := by
  unfold State.doListenSet
  apply Frame.after (frame_doSetting _ _ _ _ _ _)
  · decide +kernel
  exact Frame.rfl' _

theorem frame_doLedgerSend (s : State) (c : Nat) (j : Nat) (d : Desc) (buf : List Byte) :
    Frame [.regs, .link, .master, .way, .hif, .dbg] (some [0x1414, 0x2084, 0x20C4, 0x6028, 0x6848]) s (State.doLedgerSend s c j d buf) := by
  unfold State.doLedgerSend
  apply Frame.ite
  · apply Frame.after (frame_finish _ _ _ _ _ _)
    · decide +kernel
    exact Frame.rfl' _
  · apply Frame.ite
    · apply Frame.after (frame_finish _ _ _ _ _ _)
      · decide +kernel
      exact Frame.rfl' _
    · apply Frame.ite
      · apply Frame.after (frame_finish _ _ _ _ _ _)
        · decide +kernel
        exact Frame.rfl' _
      · apply Frame.after (frame_post _ _ _)
        · decide +kernel
        apply Frame.after (frame_setPhase _ _ _ _)
        · decide +kernel
        exact Frame.rfl' _

theorem frame_doTagWrite (s : State) (c : Nat) (j : Nat) (d : Desc) (buf : List Byte) :
    Frame [.regs, .hif, .sby, .tag, .cart, .dbg, .free] (some (evRegs ++ [0x1414, 0x5004, 0x5010, 0x5014, 0x501C, 0x6028, 0x6848])) s (State.doTagWrite s c j d buf) := by
  unfold State.doTagWrite
  apply Frame.ite
  · apply Frame.after (frame_finish _ _ _ _ _ _)
    · decide +kernel
    exact Frame.rfl' _
  · apply Frame.ite
    · apply Frame.after (frame_finish _ _ _ _ _ _)
      · decide +kernel
      exact Frame.rfl' _
    · apply Frame.after (frame_queueTag _ _)
      · decide +kernel
      apply Frame.after (frame_setPhase _ _ _ _)
      · decide +kernel
      exact Frame.rfl' _

theorem frame_doStreamBuf (s : State) (c : Nat) (j : Nat) (d : Desc) (buf : List Byte) :
    Frame [.regs, .wake, .hif, .dbg, .free] (some [0x1414, 0x6028, 0x6848]) s (State.doStreamBuf s c j d buf) := by
  unfold State.doStreamBuf
  try dsimp -proj only
  split
  · apply Frame.after (frame_finish _ _ _ _ _ _)
    · decide +kernel
    exact Frame.rfl' _
  · apply Frame.ite
    · apply Frame.after (frame_finish _ _ _ _ _ _)
      · decide +kernel
      exact Frame.rfl' _
    · apply Frame.ite
      · apply Frame.after (frame_finish _ _ _ _ _ _)
        · decide +kernel
        exact Frame.rfl' _
      · apply Frame.ite
        · apply Frame.after (frame_finish _ _ _ _ _ _)
          · decide +kernel
          exact Frame.rfl' _
        · apply Frame.ite
          · apply Frame.after (frame_serveFetch _ _)
            · decide +kernel
            apply Frame.after (frame_setPhase _ _ _ _)
            · decide +kernel
            apply Frame.after (frame_setStream _ _ _)
            · decide +kernel
            exact Frame.rfl' _
          · apply Frame.after (frame_setPhase _ _ _ _)
            · decide +kernel
            apply Frame.after (frame_setStream _ _ _)
            · decide +kernel
            exact Frame.rfl' _

theorem frame_doStreamOpen (s : State) (c : Nat) (j : Nat) (d : Desc) :
    Frame [.regs, .hif, .dbg] (some [0x1414, 0x6028, 0x6848]) s (State.doStreamOpen s c j d) := by
  unfold State.doStreamOpen
  try dsimp -proj only
  apply Frame.ite
  · apply Frame.after (frame_finish _ _ _ _ _ _)
    · decide +kernel
    exact Frame.rfl' _
  · split
    · apply Frame.after (frame_finish _ _ _ _ _ _)
      · decide +kernel
      exact Frame.rfl' _
    · apply Frame.after (frame_finish _ _ _ _ _ _)
      · decide +kernel
      apply Frame.after (frame_setStream _ _ _)
      · decide +kernel
      exact Frame.rfl' _

theorem frame_jobDone (s : State) (c : Nat) (j : Nat) (u : Nat) (st : Status) (result : Word) (info : Word) :
    Frame [.regs, .hif, .dbg] none s (State.jobDone s c j u st result info) := by
  unfold State.jobDone
  apply Frame.after (frame_finish _ _ _ _ _ _)
  · decide +kernel
  apply Frame.ite
  · apply Frame.after (frame_tollMismatch _ _ _ _)
    · decide +kernel
    apply Frame.after (frame_put _ _ _)
    · rfl
    exact Frame.rfl' _
  · apply Frame.after (frame_put _ _ _)
    · rfl
    exact Frame.rfl' _

theorem frame_doDiag (s : State) (c : Nat) (j : Nat) (d : Desc) (buf : List Byte) :
    Frame [.regs, .hif, .sby, .dbg] (some [0x1414, 0x6028, 0x6848]) s (State.doDiag s c j d buf) := by
  unfold State.doDiag
  try dsimp -proj only
  split
  · apply Frame.after (frame_deliver _ _ _ _ _ _ _)
    · decide +kernel
    exact Frame.rfl' _
  · apply Frame.ite
    · apply Frame.after (frame_finish _ _ _ _ _ _)
      · decide +kernel
      exact Frame.rfl' _
    · generalize State.blockBytes s _ = all
      apply Frame.ite
      · apply Frame.after (frame_deliver _ _ _ _ _ _ _)
        · decide +kernel
        exact Frame.rfl' _
      · apply Frame.after (frame_deliver _ _ _ _ _ _ _)
        · decide +kernel
        exact Frame.rfl' _
  · apply Frame.after (frame_finish _ _ _ _ _ _)
    · decide +kernel
    exact Frame.rfl' _

theorem frame_doPerfRequest (s : State) (c : Nat) (j : Nat) (d : Desc) :
    Frame [.regs, .hif, .pwr, .dbg] (some [0x0880, 0x1414, 0x6028, 0x6848]) s (State.doPerfRequest s c j d) := by
  unfold State.doPerfRequest
  apply Frame.ite
  · apply Frame.after (frame_setPhase _ _ _ _)
    · decide +kernel
    apply Frame.after (frame_relevel _)
    · decide +kernel
    apply Frame.after (frame_modClient _ _ _)
    · decide +kernel
    exact Frame.rfl' _
  · apply Frame.after (frame_perfDone _ _)
    · decide +kernel
    apply Frame.after (frame_setPhase _ _ _ _)
    · decide +kernel
    apply Frame.after (frame_relevel _)
    · decide +kernel
    apply Frame.after (frame_modClient _ _ _)
    · decide +kernel
    exact Frame.rfl' _

theorem frame_doTagRead (s : State) (c : Nat) (j : Nat) (d : Desc) :
    Frame [.regs, .hif, .sby, .tag, .cart, .dbg, .free] (some (evRegs ++ [0x1414, 0x5004, 0x5010, 0x5014, 0x501C, 0x6028, 0x6848])) s (State.doTagRead s c j d) := by
  unfold State.doTagRead
  apply Frame.ite
  · apply Frame.after (frame_finish _ _ _ _ _ _)
    · decide +kernel
    exact Frame.rfl' _
  · apply Frame.after (frame_queueTag _ _)
    · decide +kernel
    apply Frame.after (frame_setPhase _ _ _ _)
    · decide +kernel
    exact Frame.rfl' _

theorem frame_doCheckJob (s : State) (c : Nat) (j : Nat) (d : Desc) (buf : List Byte) :
    Frame [.regs, .hif, .sby, .dbg] none s (State.doCheckJob s c j d buf) := by
  unfold State.doCheckJob
  apply Frame.ite
  · apply Frame.after (frame_finish _ _ _ _ _ _)
    · decide +kernel
    exact Frame.rfl' _
  · apply Frame.ite
    · apply Frame.after (frame_finish _ _ _ _ _ _)
      · decide +kernel
      exact Frame.rfl' _
    · apply Frame.ite
      · apply Frame.after (frame_jobDone _ _ _ _ _ _ _)
        · decide +kernel
        apply Frame.set_sby
        · rfl
        · first | exact id | exact wf_setList _ _ _ _
        exact Frame.rfl' _
      · apply Frame.after (frame_setPhase _ _ _ _)
        · decide +kernel
        apply Frame.after (frame_put _ _ _)
        · rfl
        exact Frame.rfl' _

theorem frame_doHistoryFetch (s : State) (c : Nat) (j : Nat) (d : Desc) :
    Frame [.regs, .wake, .hif, .dbg, .free] (some [0x1414, 0x6028, 0x6848]) s (State.doHistoryFetch s c j d) := by
  unfold State.doHistoryFetch
  try dsimp -proj only
  split
  · apply Frame.after (frame_finish _ _ _ _ _ _)
    · decide +kernel
    exact Frame.rfl' _
  · apply Frame.ite
    · apply Frame.after (frame_finish _ _ _ _ _ _)
      · decide +kernel
      exact Frame.rfl' _
    · apply Frame.ite
      · apply Frame.after (frame_finish _ _ _ _ _ _)
        · decide +kernel
        exact Frame.rfl' _
      · apply Frame.ite
        · apply Frame.after (frame_finish _ _ _ _ _ _)
          · decide +kernel
          exact Frame.rfl' _
        · apply Frame.after (frame_serveFetch _ _)
          · decide +kernel
          apply Frame.after (frame_finish _ _ _ _ _ _)
          · decide +kernel
          apply Frame.after (frame_setStream _ _ _)
          · decide +kernel
          apply Frame.set_wake
          · rfl
          exact Frame.rfl' _

theorem frame_doStreamClose (s : State) (c : Nat) (j : Nat) (d : Desc) :
    Frame [.regs, .hif, .dbg] (some [0x1414, 0x6028, 0x6848]) s (State.doStreamClose s c j d) := by
  unfold State.doStreamClose
  try dsimp -proj only
  split
  · apply Frame.after (frame_finish _ _ _ _ _ _)
    · decide +kernel
    exact Frame.rfl' _
  · apply Frame.ite
    · apply Frame.after (frame_finish _ _ _ _ _ _)
      · decide +kernel
      exact Frame.rfl' _
    · apply Frame.after (frame_setPhase _ _ _ _)
      · decide +kernel
      apply Frame.after (frame_setStream _ _ _)
      · decide +kernel
      exact Frame.rfl' _

theorem frame_doLifePost (s : State) (c : Nat) (j : Nat) (d : Desc) :
    Frame [.regs, .hif, .sby, .tag, .cart, .dbg, .free] (some (evRegs ++ [0x1414, 0x5004, 0x5010, 0x5014, 0x501C, 0x6028, 0x6848])) s (State.doLifePost s c j d) := by
  unfold State.doLifePost
  apply Frame.ite
  · apply Frame.after (frame_finish _ _ _ _ _ _)
    · decide +kernel
    exact Frame.rfl' _
  · apply Frame.ite
    · apply Frame.after (frame_deferOp _ _ _ _)
      · decide +kernel
      apply Frame.after (frame_setPhase _ _ _ _)
      · decide +kernel
      exact Frame.rfl' _
    · apply Frame.after (frame_queueTag _ _)
      · decide +kernel
      apply Frame.after (frame_setPhase _ _ _ _)
      · decide +kernel
      exact Frame.rfl' _

end Sys2Proof.Laws
end

