-- ==== Sys2Proof/Laws/FramesMixer.lean ====
section
/-! SUPPORT. What each operation of Machine/Mixer.lean may change, one lemma each: the parts of the state and, where they are few, the registers. -/

namespace Sys2Proof.Laws

open Sys2Proof.Machine

set_option Elab.async false

theorem frame_bufferCatchUp (s : State) (c : Word) :
    Frame [.mix] (some []) s (State.bufferCatchUp s c) := by
  unfold State.bufferCatchUp
  apply Frame.set_mix
  · rfl
  exact Frame.rfl' _

theorem frame_holdPrec (s : State) :
    Frame [.regs, .mix] (some [0x29C0]) s (State.holdPrec s) := by
  unfold State.holdPrec
  apply Frame.after (frame_wr _ _ _)
  · decide +kernel
  apply Frame.set_mix
  · rfl
  exact Frame.rfl' _

theorem frame_formMix (s : State) (limited : Bool) (emergLevel : Nat) :
    Frame [.regs, .mix, .free] (some [0x0A08, 0x29C0, 0x29C4]) s (State.formMix s limited emergLevel) := by
  unfold State.formMix
  apply Frame.after (frame_put _ _ _)
  · decide +kernel
  apply Frame.after (frame_put _ _ _)
  · decide +kernel
  apply Frame.set_mix
  · rfl
  apply Frame.ite
  · apply Frame.after (frame_bump _ _)
    · decide +kernel
    apply Frame.set_mix
    · rfl
    apply Frame.after (frame_bumpBy _ _ _)
    · decide +kernel
    apply Frame.after (frame_takeFree _ _)
    · decide +kernel
    apply Frame.set_mix
    · rfl
    apply Frame.after (frame_holdPrec _)
    · decide +kernel
    exact Frame.rfl' _
  · apply Frame.set_mix
    · rfl
    apply Frame.after (frame_bumpBy _ _ _)
    · decide +kernel
    apply Frame.after (frame_takeFree _ _)
    · decide +kernel
    apply Frame.set_mix
    · rfl
    apply Frame.after (frame_holdPrec _)
    · decide +kernel
    exact Frame.rfl' _

theorem frame_endPlayback (s : State) :
    Frame [.regs, .mix] (some [0x29C0]) s (State.endPlayback s) := by
  unfold State.endPlayback
  try dsimp -proj only
  split
  · apply Frame.after (frame_put _ _ _)
    · decide +kernel
    apply Frame.set_mix
    · rfl
    exact Frame.rfl' _
  · exact Frame.rfl' _

theorem frame_playCycle (s : State) (took : Nat) :
    Frame [.regs, .mix] (some [0x29C0, 0x29C4]) s (State.playCycle s took) := by
  unfold State.playCycle
  try dsimp -proj only
  split
  · exact Frame.rfl' _
  · apply Frame.ite
    · exact Frame.rfl' _
    · apply Frame.ite
      · apply Frame.after (frame_endPlayback _)
        · decide +kernel
        exact Frame.rfl' _
      · apply Frame.ite
        · apply Frame.after (frame_bump _ _)
          · decide +kernel
          exact Frame.rfl' _
        · apply Frame.ite
          · apply Frame.after (frame_endPlayback _)
            · decide +kernel
            apply Frame.ite
            · apply Frame.after (frame_bump _ _)
              · decide +kernel
              exact Frame.rfl' _
            · exact Frame.rfl' _
          · apply Frame.set_mix
            · rfl
            apply Frame.ite
            · apply Frame.after (frame_bump _ _)
              · decide +kernel
              exact Frame.rfl' _
            · exact Frame.rfl' _

theorem frame_mixCycle (s : State) (c : Word) (o : CycleObs) :
    Frame [.regs, .mix, .free] (some [0x0A08, 0x29C0, 0x29C4]) s (State.mixCycle s c o) := by
  unfold State.mixCycle
  apply Frame.ite
  · apply Frame.set_mix
    · rfl
    exact Frame.rfl' _
  · apply Frame.set_mix
    · rfl
    apply Frame.after (frame_formMix _ _ _)
    · decide +kernel
    apply Frame.after (frame_playCycle _ _)
    · decide +kernel
    apply Frame.after (frame_bufferCatchUp _ _)
    · decide +kernel
    exact Frame.rfl' _

theorem frame_beginChime (s : State) (n : Nat) (prec : Nat) :
    Frame [.mix] (some []) s (State.beginChime s n prec) := by
  unfold State.beginChime
  apply Frame.ite
  · apply Frame.set_mix
    · rfl
    exact Frame.rfl' _
  · apply Frame.set_mix
    · rfl
    exact Frame.rfl' _

theorem frame_askChime (s : State) (n : Nat) (prec : Nat) :
    Frame [.mix] (some []) s (State.askChime s n prec) := by
  unfold State.askChime
  apply Frame.ite
  · apply Frame.after (frame_beginChime _ _ _)
    · decide +kernel
    exact Frame.rfl' _
  · apply Frame.set_mix
    · rfl
    exact Frame.rfl' _

theorem frame_planPlayback (s : State) (caller : Nat) (group : Nat) (prec : Nat) (count : Nat) (histStart : Word) (liveFirst : Word) (cuFirst : Word) :
    Frame [.regs, .mix] (some [0x29C0, 0x29C4]) s (State.planPlayback s caller group prec count histStart liveFirst cuFirst) := by
  unfold State.planPlayback
  try dsimp -proj only
  split
  · apply Frame.set_mix
    · rfl
    exact Frame.rfl' _
  · apply Frame.ite
    · apply Frame.set_mix
      · rfl
      apply Frame.after (frame_endPlayback _)
      · decide +kernel
      exact Frame.rfl' _
    · apply Frame.after (frame_bump _ _)
      · decide +kernel
      exact Frame.rfl' _

theorem frame_stopChime (s : State) :
    Frame [.mix] (some []) s (State.stopChime s) := by
  unfold State.stopChime
  try dsimp -proj only
  split
  · apply Frame.after (frame_beginChime _ _ _)
    · decide +kernel
    apply Frame.set_mix
    · rfl
    exact Frame.rfl' _
  · apply Frame.set_mix
    · rfl
    exact Frame.rfl' _

end Sys2Proof.Laws
end

