-- ==== Sys2Proof/Laws/FramesEcho.lean ====
section
/-! SUPPORT. What each operation of Machine/Echo.lean may change, one lemma each: the parts of the state and, where they are few, the registers. -/

namespace Sys2Proof.Laws

open Sys2Proof.Machine

set_option Elab.async false

theorem frame_reconvCycle (s : State) (erle : Byte) :
    Frame [.ech] (some []) s (State.reconvCycle s erle) := by
  unfold State.reconvCycle
  apply Frame.ite
  · apply Frame.set_ech
    · rfl
    exact Frame.rfl' _
  · exact Frame.rfl' _

theorem frame_howlCycle (s : State) (howling : Bool) (level : BitVec 4) :
    Frame [.ech] (some []) s (State.howlCycle s howling level) := by
  unfold State.howlCycle
  apply Frame.set_ech
  · rfl
  exact Frame.rfl' _

theorem frame_clearBands (s : State) (hot : List (Fin 64)) :
    Frame [.regs, .ech] (some [0x3080, 0x3094]) s (State.clearBands s hot) := by
  unfold State.clearBands
  apply Frame.ite
  · apply Frame.after (frame_startReconv _)
    · decide +kernel
    apply Frame.after (frame_bumpBy _ _ _)
    · decide +kernel
    apply Frame.set_ech
    · rfl
    exact Frame.rfl' _
  · apply Frame.after (frame_bumpBy _ _ _)
    · decide +kernel
    apply Frame.set_ech
    · rfl
    exact Frame.rfl' _

theorem frame_echCycle (s : State) (o : CycleObs) :
    Frame [.regs, .ech] (some [0x3080, 0x3094]) s (State.echCycle s o) := by
  unfold State.echCycle
  apply Frame.ite
  · exact Frame.rfl' _
  · apply Frame.after (frame_howlCycle _ _ _)
    · decide +kernel
    apply Frame.after (frame_reconvCycle _ _)
    · decide +kernel
    apply Frame.ite
    · apply Frame.after (frame_clearBands _ _)
      · decide +kernel
      apply Frame.after (frame_wr _ _ _)
      · decide +kernel
      apply Frame.after (frame_wr _ _ _)
      · decide +kernel
      apply Frame.set_ech
      · rfl
      exact Frame.rfl' _
    · apply Frame.set_ech
      · rfl
      apply Frame.after (frame_wr _ _ _)
      · decide +kernel
      apply Frame.after (frame_wr _ _ _)
      · decide +kernel
      apply Frame.set_ech
      · rfl
      exact Frame.rfl' _

theorem frame_showNotches (s : State) :
    Frame [.regs] none s (State.showNotches s) := by
  unfold State.showNotches
  apply Frame.foldl
  · apply Frame.after (frame_wr _ _ _)
    · decide +kernel
    exact Frame.rfl' _
  · intro _ _ _
    apply Frame.after (frame_wr _ _ _)
    · rfl
    assumption

theorem frame_resetEcho (s : State) :
    Frame [.regs, .ech] none s (State.resetEcho s) := by
  unfold State.resetEcho
  apply Frame.after (frame_startReconv _)
  · decide +kernel
  apply Frame.after (frame_wr _ _ _)
  · decide +kernel
  apply Frame.after (frame_showNotches _)
  · decide +kernel
  apply Frame.set_ech
  · rfl
  exact Frame.rfl' _

end Sys2Proof.Laws
end

