-- ==== Sys2Proof/Laws/FramesCall.lean ====
section
/-! SUPPORT. What each operation of Machine/Call.lean may change, one lemma each: the parts of the state and, where they are few, the registers. -/

namespace Sys2Proof.Laws

open Sys2Proof.Machine

set_option Elab.async false

theorem frame_releaseCatchUp (s : State) (r : Nat) :
    Frame [.regs, .link, .master, .way] (some [0x2084, 0x20C4]) s (State.releaseCatchUp s r) := by
  unfold State.releaseCatchUp
  apply Frame.ite
  · exact Frame.rfl' _
  · apply Frame.after (frame_queueRelease _ _ _ _)
    · decide +kernel
    apply Frame.after (frame_modLnk _ _ _)
    · decide +kernel
    exact Frame.rfl' _

theorem frame_setTone (s : State) (n : Nat) (t : Tone) :
    Frame [.call] (some []) s (State.setTone s n t) := by
  unfold State.setTone
  apply Frame.set_call
  · rfl
  exact Frame.rfl' _

theorem frame_reRing (s : State) (was : Option Nat) :
    Frame [.mix] (some []) s (State.reRing s was) := by
  unfold State.reRing
  try dsimp -proj only
  apply Frame.ite
  · exact Frame.rfl' _
  · split
    · apply Frame.after (frame_askChime _ _ _)
      · decide +kernel
      apply Frame.ite
      · exact Frame.rfl' _
      · apply Frame.set_mix
        · rfl
        exact Frame.rfl' _
    · apply Frame.ite
      · exact Frame.rfl' _
      · apply Frame.set_mix
        · rfl
        exact Frame.rfl' _

theorem frame_callAckOut (s : State) (p : Port) (id : Half) (caller : Nat) (code : Nat) :
    Frame [.regs, .link, .master, .way] (some [0x2084, 0x20C4]) s (State.callAckOut s p id caller code) := by
  unfold State.callAckOut
  try dsimp -proj only
  split
  · apply Frame.ite
    · exact Frame.rfl' _
    · apply Frame.after (frame_post _ _ _)
      · decide +kernel
      exact Frame.rfl' _
  · exact Frame.rfl' _

theorem frame_answerCall (s : State) (r : Nat) (who : Answerer) :
    Frame [.pins, .regs, .link, .master, .way, .mix, .call, .hif, .dbg] (some [0x1804, 0x2084, 0x20C4, 0x6028]) s (State.answerCall s r who) := by
  unfold State.answerCall
  try dsimp -proj only
  split
  · apply Frame.ite
    · apply Frame.after (frame_answerWakes _)
      · decide +kernel
      apply Frame.after (frame_requestForCall _ _)
      · decide +kernel
      apply Frame.after (frame_reRing _ _)
      · decide +kernel
      apply Frame.after (frame_setCall _ _ _)
      · decide +kernel
      apply Frame.after (frame_callAckOut _ _ _ _ _)
      · decide +kernel
      exact Frame.rfl' _
    · exact Frame.rfl' _
  · exact Frame.rfl' _

theorem frame_endCall (s : State) (r : Nat) (reason : Nat) :
    Frame [.regs, .link, .master, .way, .mix, .call, .wake, .hif, .dbg] (some (evRegs ++ [0x1414, 0x2084, 0x20C4, 0x6028, 0x6848])) s (State.endCall s r reason) := by
  unfold State.endCall
  try dsimp -proj only
  split
  · exact Frame.rfl' _
  · apply Frame.after (frame_reRing _ _)
    · decide +kernel
    apply Frame.after (frame_setCall _ _ _)
    · decide +kernel
    apply Frame.after (frame_raise _ _ _ _ _ _)
    · decide +kernel
    apply Frame.after (frame_setCall _ _ _)
    · decide +kernel
    split
    · apply Frame.after (frame_finishWhere _ _ _ _ _ _)
      · decide +kernel
      apply Frame.ite
      · apply Frame.set_wake
        · rfl
        apply Frame.after (frame_modLnk _ _ _)
        · decide +kernel
        apply Frame.ite
        · apply Frame.after (frame_dropTalk _ _ _)
          · decide +kernel
          exact Frame.rfl' _
        · exact Frame.rfl' _
      · apply Frame.after (frame_modLnk _ _ _)
        · decide +kernel
        apply Frame.ite
        · apply Frame.after (frame_dropTalk _ _ _)
          · decide +kernel
          exact Frame.rfl' _
        · exact Frame.rfl' _
    · apply Frame.ite
      · apply Frame.set_wake
        · rfl
        apply Frame.after (frame_modLnk _ _ _)
        · decide +kernel
        apply Frame.ite
        · apply Frame.after (frame_dropTalk _ _ _)
          · decide +kernel
          exact Frame.rfl' _
        · exact Frame.rfl' _
      · apply Frame.after (frame_modLnk _ _ _)
        · decide +kernel
        apply Frame.ite
        · apply Frame.after (frame_dropTalk _ _ _)
          · decide +kernel
          exact Frame.rfl' _
        · exact Frame.rfl' _

theorem frame_makeRoom (s : State) :
    Frame [.regs, .link, .master, .way, .mix, .call, .wake, .hif, .dbg] (some (evRegs ++ [0x1414, 0x2084, 0x20C4, 0x3918, 0x6028, 0x6848])) s (State.makeRoom s) := by
  unfold State.makeRoom
  try dsimp -proj only
  apply Frame.ite
  · exact Frame.rfl' _
  · split
    · apply Frame.after (frame_bump _ _)
      · decide +kernel
      apply Frame.after (frame_endCall _ _ _)
      · decide +kernel
      exact Frame.rfl' _
    · exact Frame.rfl' _

theorem frame_placeCall (s : State) (cmd : Option (Nat × Half)) (who : Answerer) (node : Bool) (group : Nat) (target : Nat) (prec : Nat) (catchup : Nat) (phrase : Option Dword) (t : State) (h : State.placeCall s cmd who node group target prec catchup phrase = some t) :
    Frame [.regs, .link, .master, .way, .mix, .call, .wake, .hif, .dbg] (some (evRegs ++ [0x1414, 0x2084, 0x20C4, 0x3918, 0x6028, 0x6848])) s t := by
  unfold State.placeCall at h
  dsimp -proj only at h
  split at h
  · cases h
  · obtain rfl := Option.some.inj h
    refine Frame.after (frame_post _ _ _) (by decide +kernel) (Frame.after (frame_requestLease _ _ _ _ _ _ _ _) (by decide +kernel)
      (Frame.after (frame_setCall _ _ _) (by decide +kernel) (Frame.set_call _ rfl (Frame.after (frame_makeRoom s) (by decide +kernel) (Frame.rfl' s)))))


theorem frame_voice (s : State) (start : Dword) :
    Frame [.pins, .regs, .link, .master, .way, .mix, .call, .wake, .hif, .dbg] (some (evRegs ++ [0x1414, 0x1804, 0x2084, 0x20C4, 0x3918, 0x6028, 0x6848])) s (State.voice s start) := by
  unfold State.voice
  split
  · exact Frame.ite ((frame_answerCall s _ _).mono (by decide +kernel)) (Frame.rfl' s)
  · apply Frame.ite
    · show Frame _ _ s ((s.placeCall none .voice false s.link.standing.group 255 (s.rf F.CALL_CTL.place_prec) s.link.standing.catchup (some start)).getD s)
      cases h : s.placeCall none .voice false s.link.standing.group 255 (s.rf F.CALL_CTL.place_prec) s.link.standing.catchup (some start) with
      | none => exact Frame.rfl' s
      | some t => exact (frame_placeCall _ _ _ _ _ _ _ _ _ _ h).mono (by decide +kernel)
    · exact Frame.rfl' s


theorem frame_latchActivity (s : State) :
    Frame [.regs] none s (State.latchActivity s) := by
  unfold State.latchActivity
  apply Frame.foldl
  · exact Frame.rfl' _
  · intro _ _ _
    apply Frame.after (frame_wr _ _ _)
    · rfl
    apply Frame.after (frame_wr _ _ _)
    · rfl
    apply Frame.after (frame_wr _ _ _)
    · rfl
    assumption

theorem frame_showLed (s : State) :
    Frame [.pins] (some []) s (State.showLed s) := by
  unfold State.showLed
  apply Frame.ite
  · exact Frame.rfl' _
  · apply Frame.set_pins
    · rfl
    exact Frame.rfl' _

theorem frame_toneCycle (s : State) (on : BitVec 16) :
    Frame [.call] (some []) s (State.toneCycle s on) := by
  unfold State.toneCycle
  apply Frame.foldl
  · exact Frame.rfl' _
  · intro _ _ _
    apply Frame.ite
    · apply Frame.after (frame_setTone _ _ _)
      · decide +kernel
      assumption
    · apply Frame.after (frame_setTone _ _ _)
      · decide +kernel
      assumption

theorem frame_callCycle (s : State) (toneOn : BitVec 16) :
    Frame [.pins, .regs, .call] none s (State.callCycle s toneOn) := by
  unfold State.callCycle
  apply Frame.ite
  · apply Frame.after (frame_showLed _)
    · decide +kernel
    exact Frame.rfl' _
  · apply Frame.after (frame_showLed _)
    · decide +kernel
    apply Frame.after (frame_toneCycle _ _)
    · decide +kernel
    apply Frame.after (frame_latchActivity _)
    · decide +kernel
    apply Frame.set_call
    · rfl
    apply Frame.set_call
    · rfl
    exact Frame.rfl' _

theorem frame_tellCallIn (s : State) (x : CallIn) (busy : Bool) (r : Nat) :
    Frame [.regs, .hif] (some evRegs) s (State.tellCallIn s x busy r) := by
  unfold State.tellCallIn
  apply Frame.after (frame_raise _ _ _ _ _ _)
  · decide +kernel
  exact Frame.rfl' _

theorem frame_callIn (s : State) (x : CallIn) :
    Frame [.regs, .link, .master, .way, .mix, .call, .wake, .hif, .dbg] (some (evRegs ++ [0x1414, 0x2084, 0x20C4, 0x3918, 0x6028, 0x6848])) s (State.callIn s x) := by
  unfold State.callIn
  try dsimp -proj only
  apply Frame.ite
  · apply Frame.after (frame_callAckOut _ _ _ _ _)
    · decide +kernel
    apply Frame.after (frame_tellCallIn _ _ _ _)
    · decide +kernel
    exact Frame.rfl' _
  · split
    · apply Frame.after (frame_bump _ _)
      · decide +kernel
      apply Frame.after (frame_tellCallIn _ _ _ _)
      · decide +kernel
      apply Frame.after (frame_makeRoom _)
      · decide +kernel
      exact Frame.rfl' _
    · apply Frame.after (frame_reRing _ _)
      · decide +kernel
      apply Frame.after (frame_tellCallIn _ _ _ _)
      · decide +kernel
      apply Frame.after (frame_setCall _ _ _)
      · decide +kernel
      apply Frame.set_call
      · rfl
      apply Frame.after (frame_makeRoom _)
      · decide +kernel
      exact Frame.rfl' _

theorem frame_toneOver (s : State) (n : Nat) :
    Frame [.call] (some []) s (State.toneOver s n) := by
  unfold State.toneOver
  apply Frame.set_call
  · rfl
  exact Frame.rfl' _

theorem frame_endAllCalls (s : State) (reason : Nat) :
    Frame [.regs, .link, .master, .way, .mix, .call, .wake, .hif, .dbg] (some (evRegs ++ [0x1414, 0x2084, 0x20C4, 0x6028, 0x6848])) s (State.endAllCalls s reason) := by
  unfold State.endAllCalls
  apply Frame.foldl
  · exact Frame.rfl' _
  · intro _ _ _
    apply Frame.after (frame_endCall _ _ _)
    · decide +kernel
    assumption

theorem frame_doCallSend (s : State) (c : Nat) (j : Nat) (d : Desc) :
    Frame [.regs, .link, .master, .way, .mix, .call, .wake, .hif, .dbg] (some (evRegs ++ [0x1414, 0x2084, 0x20C4, 0x3918, 0x6028, 0x6848])) s (State.doCallSend s c j d) := by
  unfold State.doCallSend
  try dsimp -proj only
  apply Frame.ite
  · apply Frame.after (frame_finish _ _ _ _ _ _)
    · decide +kernel
    exact Frame.rfl' _
  · apply Frame.ite
    · apply Frame.after (frame_finish _ _ _ _ _ _)
      · decide +kernel
      exact Frame.rfl' _
    · apply Frame.ite
      · apply Frame.after (frame_finish _ _ _ _ _ _)
        · decide +kernel
        exact Frame.rfl' _
      · split
        · apply Frame.after (frame_setPhase _ _ _ _)
          · decide +kernel
          first | assumption | exact (frame_placeCall _ _ _ _ _ _ _ _ _ _ (by assumption)).mono (by decide +kernel)
        · apply Frame.after (frame_finish _ _ _ _ _ _)
          · decide +kernel
          exact Frame.rfl' _

theorem frame_composeCall (s : State) (r : Nat) :
    Frame [.regs, .link, .master, .way, .call, .wake, .hif, .dbg] (some [0x1414, 0x2084, 0x20C4, 0x6028, 0x6848]) s (State.composeCall s r).1 := by
  unfold State.composeCall
  try dsimp -proj only
  split
  · exact Frame.rfl' _
  · split
    · apply Frame.after (frame_finishWhere _ _ _ _ _ _)
      · decide +kernel
      split
      · apply Frame.set_wake
        · rfl
        apply Frame.after (frame_setCall _ _ _)
        · decide +kernel
        exact Frame.rfl' _
      · apply Frame.after (frame_releaseCatchUp _ _)
        · decide +kernel
        apply Frame.after (frame_setCall _ _ _)
        · decide +kernel
        exact Frame.rfl' _
    · split
      · apply Frame.set_wake
        · rfl
        apply Frame.after (frame_setCall _ _ _)
        · decide +kernel
        exact Frame.rfl' _
      · apply Frame.after (frame_releaseCatchUp _ _)
        · decide +kernel
        apply Frame.after (frame_setCall _ _ _)
        · decide +kernel
        exact Frame.rfl' _

theorem frame_declineCall (s : State) (r : Nat) :
    Frame [.regs, .link, .master, .way, .mix, .call, .wake, .hif, .dbg] (some (evRegs ++ [0x1414, 0x2084, 0x20C4, 0x6028, 0x6848])) s (State.declineCall s r) := by
  unfold State.declineCall
  try dsimp -proj only
  split
  · apply Frame.after (frame_endCall _ _ _)
    · decide +kernel
    apply Frame.ite
    · apply Frame.after (frame_callAckOut _ _ _ _ _)
      · decide +kernel
      exact Frame.rfl' _
    · exact Frame.rfl' _
  · exact Frame.rfl' _

theorem frame_doCallAnswer (s : State) (c : Nat) (j : Nat) (d : Desc) :
    Frame [.pins, .regs, .link, .master, .way, .mix, .call, .wake, .hif, .dbg] (some (evRegs ++ [0x1414, 0x1804, 0x2084, 0x20C4, 0x6028, 0x6848])) s (State.doCallAnswer s c j d) := by
  unfold State.doCallAnswer
  try dsimp -proj only
  split
  · apply Frame.after (frame_finish _ _ _ _ _ _)
    · decide +kernel
    exact Frame.rfl' _
  · split
    · apply Frame.after (frame_finish _ _ _ _ _ _)
      · decide +kernel
      exact Frame.rfl' _
    · split
      · apply Frame.after (frame_answerCall _ _ _)
        · decide +kernel
        apply Frame.after (frame_finish _ _ _ _ _ _)
        · decide +kernel
        exact Frame.rfl' _
      · apply Frame.ite
        · apply Frame.after (frame_declineCall _ _)
          · decide +kernel
          apply Frame.after (frame_finish _ _ _ _ _ _)
          · decide +kernel
          exact Frame.rfl' _
        · apply Frame.after (frame_finish _ _ _ _ _ _)
          · decide +kernel
          exact Frame.rfl' _
      · apply Frame.after (frame_endCall _ _ _)
        · decide +kernel
        apply Frame.after (frame_finish _ _ _ _ _ _)
        · decide +kernel
        exact Frame.rfl' _

theorem frame_toneEvent (s : State) (n : Nat) (edge : Nat) :
    Frame [.regs, .hif] (some evRegs) s (State.toneEvent s n edge) := by
  unfold State.toneEvent
  apply Frame.ite
  · apply Frame.after (frame_raise _ _ _ _ _ _)
    · decide +kernel
    exact Frame.rfl' _
  · exact Frame.rfl' _

theorem frame_declineKey (s : State) :
    Frame [.regs, .link, .master, .way, .mix, .call, .wake, .hif, .dbg] (some (evRegs ++ [0x1414, 0x2084, 0x20C4, 0x6028, 0x6848])) s (State.declineKey s) := by
  unfold State.declineKey
  try dsimp -proj only
  apply Frame.ite
  · exact Frame.rfl' _
  · split
    · apply Frame.after (frame_declineCall _ _)
      · decide +kernel
      exact Frame.rfl' _
    · exact Frame.rfl' _

theorem frame_talkKey (s : State) :
    Frame [.pins, .regs, .link, .master, .way, .mix, .call, .wake, .hif, .dbg] (some (evRegs ++ [0x1414, 0x1804, 0x2084, 0x20C4, 0x6028, 0x6848])) s (State.talkKey s) := by
  unfold State.talkKey
  try dsimp -proj only
  split
  · apply Frame.after (frame_answerCall _ _ _)
    · decide +kernel
    exact Frame.rfl' _
  · split
    · apply Frame.after (frame_endCall _ _ _)
      · decide +kernel
      exact Frame.rfl' _
    · exact Frame.rfl' _

theorem frame_askPtt (s : State) :
    Frame [.regs, .link, .master, .way] (some [0x2084, 0x20C4]) s (State.askPtt s) := by
  unfold State.askPtt
  apply Frame.ite
  · exact Frame.rfl' _
  · apply Frame.after (frame_requestLease _ _ _ _ _ _ _ _)
    · decide +kernel
    exact Frame.rfl' _

theorem frame_actLatchedKeys (s : State) :
    Frame [.pins, .regs, .link, .master, .way, .mix, .call, .wake, .hif, .dbg] (some (evRegs ++ [0x1414, 0x1804, 0x2084, 0x20C4, 0x6028, 0x6848])) s (State.actLatchedKeys s) := by
  unfold State.actLatchedKeys
  apply Frame.ite
  · apply Frame.after (frame_askPtt _)
    · decide +kernel
    apply Frame.ite
    · apply Frame.after (frame_declineKey _)
      · decide +kernel
      apply Frame.ite
      · apply Frame.after (frame_talkKey _)
        · decide +kernel
        apply Frame.set_call
        · rfl
        exact Frame.rfl' _
      · apply Frame.set_call
        · rfl
        exact Frame.rfl' _
    · apply Frame.ite
      · apply Frame.after (frame_talkKey _)
        · decide +kernel
        apply Frame.set_call
        · rfl
        exact Frame.rfl' _
      · apply Frame.set_call
        · rfl
        exact Frame.rfl' _
  · apply Frame.after (frame_dropTalk _ _ _)
    · decide +kernel
    apply Frame.ite
    · apply Frame.after (frame_declineKey _)
      · decide +kernel
      apply Frame.ite
      · apply Frame.after (frame_talkKey _)
        · decide +kernel
        apply Frame.set_call
        · rfl
        exact Frame.rfl' _
      · apply Frame.set_call
        · rfl
        exact Frame.rfl' _
    · apply Frame.ite
      · apply Frame.after (frame_talkKey _)
        · decide +kernel
        apply Frame.set_call
        · rfl
        exact Frame.rfl' _
      · apply Frame.set_call
        · rfl
        exact Frame.rfl' _

end Sys2Proof.Laws
end

