-- ==== Sys2Proof/Laws/FramesMic.lean ====
section
/-! SUPPORT. What each operation of Machine/Mic.lean may change, one lemma each: the parts of the state and, where they are few, the registers. -/

namespace Sys2Proof.Laws

open Sys2Proof.Machine

set_option Elab.async false

theorem frame_actWake (s : State) (start : Dword) (score : Byte) (cycle : Word) :
    Frame [.pins, .regs, .link, .master, .way, .mix, .call, .wake, .hif, .dbg] (some (evRegs ++ [0x1414, 0x1804, 0x2084, 0x20C4, 0x3918, 0x6028, 0x6848])) s (State.actWake s start score cycle) := by
  unfold State.actWake
  apply Frame.ite
  · apply Frame.after (frame_voice _ _)
    · decide +kernel
    apply Frame.after (frame_raiseAt _ _ _ _ _ _ _)
    · decide +kernel
    exact Frame.rfl' _
  · apply Frame.after (frame_raiseAt _ _ _ _ _ _ _)
    · decide +kernel
    exact Frame.rfl' _

theorem frame_wakeCycle (s : State) (c : Dword) :
    Frame [.pins, .regs, .link, .master, .way, .mix, .call, .wake, .hif, .dbg] (some (evRegs ++ [0x1414, 0x1804, 0x2084, 0x20C4, 0x3918, 0x4820, 0x4828, 0x6028, 0x6848])) s (State.wakeCycle s c) := by
  unfold State.wakeCycle
  try dsimp -proj only
  split
  · exact Frame.rfl' _
  · apply Frame.ite
    · apply Frame.set_wake
      · rfl
      apply Frame.after (frame_stim _ _ _)
      · decide +kernel
      apply Frame.after (frame_setReg _ _ _)
      · decide +kernel
      apply Frame.after (frame_setReg _ _ _)
      · decide +kernel
      apply Frame.set_wake
      · rfl
      exact Frame.rfl' _
    · apply Frame.after (frame_actWake _ _ _ _)
      · decide +kernel
      apply Frame.after (frame_stim _ _ _)
      · decide +kernel
      apply Frame.after (frame_setReg _ _ _)
      · decide +kernel
      apply Frame.after (frame_setReg _ _ _)
      · decide +kernel
      apply Frame.set_wake
      · rfl
      exact Frame.rfl' _

theorem frame_micCycle (s : State) :
    Frame [.pins, .regs, .mic] (some [0x4064]) s (State.micCycle s) := by
  unfold State.micCycle
  apply Frame.ite
  · apply Frame.set_pins
    · rfl
    exact Frame.rfl' _
  · apply Frame.set_pins_mic
    · rfl
    apply Frame.ite
    · apply Frame.after (frame_bump _ _)
      · decide +kernel
      exact Frame.rfl' _
    · exact Frame.rfl' _

theorem frame_resetWake (s : State) :
    Frame [.regs, .mix, .wake] (some [0x29C0]) s (State.resetWake s) := by
  unfold State.resetWake
  apply Frame.after (frame_endPlayback _)
  · decide +kernel
  apply Frame.set_wake
  · rfl
  exact Frame.rfl' _

theorem frame_setCause (s : State) (n : Nat) (v : Nat) :
    Frame [.regs] (some [0x4050, 0x4054]) s (State.setCause s n v) := by
  unfold State.setCause
  apply Frame.ite
  · apply Frame.ite
    · apply Frame.after (frame_wr _ _ _)
      · decide +kernel
      apply Frame.after (frame_wr _ _ _)
      · decide +kernel
      exact Frame.rfl' _
    · apply Frame.after (frame_wr _ _ _)
      · decide +kernel
      exact Frame.rfl' _
  · apply Frame.after (frame_setBit _ _ _)
    · decide +kernel
    apply Frame.after (frame_wr _ _ _)
    · decide +kernel
    exact Frame.rfl' _

theorem frame_discardWake (s : State) :
    Frame [.regs, .wake] (some [0x4830]) s (State.discardWake s) := by
  unfold State.discardWake
  apply Frame.ite
  · apply Frame.after (frame_bump _ _)
    · decide +kernel
    apply Frame.set_wake
    · rfl
    exact Frame.rfl' _
  · exact Frame.rfl' _

theorem frame_stopMics (s : State) :
    Frame [.regs, .mic, .wake, .hif, .dbg, .free] (some [0x1414, 0x4060, 0x4830, 0x6028, 0x6848]) s (State.stopMics s) := by
  unfold State.stopMics
  apply Frame.after (frame_historyLost _)
  · decide +kernel
  apply Frame.after (frame_put _ _ _)
  · decide +kernel
  apply Frame.set_mic
  · rfl
  exact Frame.rfl' _

theorem frame_dropProbes (s : State) :
    Frame [.mic] (some []) s (State.dropProbes s) := by
  unfold State.dropProbes
  apply Frame.set_mic
  · rfl
  exact Frame.rfl' _

theorem frame_tellMute (s : State) (on : Bool) :
    Frame [.regs, .mic, .hif] (some evRegs) s (State.tellMute s on) := by
  unfold State.tellMute
  apply Frame.ite
  · apply Frame.after (frame_raise _ _ _ _ _ _)
    · decide +kernel
    exact Frame.rfl' _
  · apply Frame.set_mic
    · rfl
    exact Frame.rfl' _

theorem frame_actHeldWake (s : State) :
    Frame [.pins, .regs, .link, .master, .way, .mix, .call, .wake, .hif, .dbg] (some (evRegs ++ [0x1414, 0x1804, 0x2084, 0x20C4, 0x3918, 0x6028, 0x6848])) s (State.actHeldWake s) := by
  unfold State.actHeldWake
  try dsimp -proj only
  split
  · apply Frame.after (frame_actWake _ _ _ _)
    · decide +kernel
    apply Frame.set_wake
    · rfl
    exact Frame.rfl' _
  · exact Frame.rfl' _

theorem frame_startProbe (s : State) (w : Nat) (flagged : Nat) :
    Frame [.regs, .mic] (some [0x4064]) s (State.startProbe s w flagged) := by
  unfold State.startProbe
  apply Frame.ite
  · exact Frame.rfl' _
  · apply Frame.after (frame_bump _ _)
    · decide +kernel
    apply Frame.set_mic
    · rfl
    exact Frame.rfl' _

theorem frame_setCauses (s : State) (xs : List (Nat × Nat)) :
    Frame [.regs, .hif] (some (evRegs ++ [0x4050, 0x4054])) s (State.setCauses s xs) := by
  unfold State.setCauses
  apply Frame.ite
  · exact Frame.rfl' _
  · apply Frame.after (frame_raise _ _ _ _ _ _)
    · decide +kernel
    apply Frame.foldl
    · exact Frame.rfl' _
    · intro _ _ _
      apply Frame.after (frame_setCause _ _ _)
      · decide +kernel
      assumption

theorem frame_startMics (s : State) :
    Frame [.regs, .mic] (some [0x4060]) s (State.startMics s) := by
  unfold State.startMics
  apply Frame.after (frame_put _ _ _)
  · decide +kernel
  apply Frame.set_mic
  · rfl
  exact Frame.rfl' _

theorem frame_bridgeMics (s : State) :
    Frame [.regs, .mic] (some [0x4060]) s (State.bridgeMics s) := by
  unfold State.bridgeMics
  apply Frame.ite
  · exact Frame.rfl' _
  · apply Frame.after (frame_put _ _ _)
    · decide +kernel
    apply Frame.set_mic
    · rfl
    exact Frame.rfl' _

theorem frame_recover (s : State) (w : Nat) :
    Frame [.regs, .hif] (some (evRegs ++ [0x4050, 0x4054])) s (State.recover s w) := by
  unfold State.recover
  apply Frame.after (frame_setCauses _ _)
  · decide +kernel
  exact Frame.rfl' _

end Sys2Proof.Laws
end

