-- ==== Sys2Proof/Laws/FramesRegWrite.lean ====
section
/-! SUPPORT. What each operation of Machine/RegWrite.lean may change, one lemma each: the parts of the state and, where they are few, the registers. -/

namespace Sys2Proof.Laws

open Sys2Proof.Machine

set_option Elab.async false

theorem frame_classDeclared (s : State) :
    Frame [.regs, .link, .master, .way, .p57, .intake] (some [0x2084, 0x20C4]) s (State.classDeclared s) := by
  unfold State.classDeclared
  apply Frame.after (frame_statusDue _ _)
  · decide +kernel
  apply Frame.ite
  · apply Frame.after (frame_ownClass _ _)
    · decide +kernel
    exact Frame.rfl' _
  · exact Frame.rfl' _

theorem frame_toneRestart (s : State) (n : Nat) :
    Frame [.call] (some []) s (State.toneRestart s n) := by
  unfold State.toneRestart
  apply Frame.after (frame_setTone _ _ _)
  · decide +kernel
  exact Frame.rfl' _

theorem frame_showGpio (s : State) :
    Frame [.pins] (some []) s (State.showGpio s) := by
  unfold State.showGpio
  apply Frame.set_pins
  · rfl
  exact Frame.rfl' _

theorem frame_ringChanged (s : State) (n : Nat) (old : Word) (new : Word) :
    Frame [.regs, .plt, .link, .master, .way, .wake, .hif, .pwr, .cfg, .dbg] none s (State.ringChanged s n old new) := by
  unfold State.ringChanged
  apply Frame.ite
  · exact Frame.rfl' _
  · apply Frame.ite
    · apply Frame.after (frame_enableRing _ _)
      · decide +kernel
      exact Frame.rfl' _
    · apply Frame.after (frame_disableRing _ _)
      · decide +kernel
      exact Frame.rfl' _

theorem frame_regChanged (s : State) (o : Nat) (old : Word) (new : Word) :
    Frame [.pins, .regs, .plt, .link, .master, .way, .p57, .intake, .ech, .call, .wake, .hif, .pwr, .cfg, .dbg, .free] none s (State.regChanged s o old new) := by
  unfold State.regChanged
  apply Frame.ite
  · apply Frame.after (frame_statusDue _ _)
    · decide +kernel
    exact Frame.rfl' _
  · apply Frame.ite
    · apply Frame.ite
      · apply Frame.after (frame_startReconv _)
        · decide +kernel
        exact Frame.rfl' _
      · exact Frame.rfl' _
    · apply Frame.ite
      · apply Frame.after (frame_startReconv _)
        · decide +kernel
        exact Frame.rfl' _
      · apply Frame.ite
        · apply Frame.ite
          · apply Frame.after (frame_startReconv _)
            · decide +kernel
            exact Frame.rfl' _
          · exact Frame.rfl' _
        · apply Frame.ite
          · apply Frame.after (frame_historyLost _)
            · decide +kernel
            exact Frame.rfl' _
          · apply Frame.ite
            · apply Frame.after (frame_toneRestart _ _)
              · decide +kernel
              exact Frame.rfl' _
            · apply Frame.ite
              · apply Frame.after (frame_classDeclared _)
                · decide +kernel
                exact Frame.rfl' _
              · apply Frame.ite
                · apply Frame.after (frame_checkEntry _)
                  · decide +kernel
                  exact Frame.rfl' _
                · apply Frame.ite
                  · apply Frame.after (frame_ringChanged _ _ _ _)
                    · decide +kernel
                    exact Frame.rfl' _
                  · apply Frame.ite
                    · apply Frame.after (frame_showGpio _)
                      · decide +kernel
                      exact Frame.rfl' _
                    · exact Frame.rfl' _

theorem frame_setMasked (s : State) (o : Nat) (m : Word) (v : Word) :
    Frame [.pins, .regs, .plt, .link, .master, .way, .p57, .intake, .ech, .call, .wake, .hif, .pwr, .cfg, .dbg, .free] none s (State.setMasked s o m v) := by
  unfold State.setMasked
  apply Frame.ite
  · exact Frame.rfl' _
  · apply Frame.after (frame_regChanged _ _ _ _)
    · decide +kernel
    apply Frame.after (frame_setReg _ _ _)
    · rfl
    exact Frame.rfl' _

theorem frame_takeEntries (s : State) (x : PendingGroup) :
    Frame [.pins, .regs, .plt, .link, .master, .way, .p57, .intake, .mix, .ech, .call, .wake, .hif, .pwr, .cfg, .dbg, .free] none s (State.takeEntries s x) := by
  unfold State.takeEntries
  apply Frame.ite
  · apply Frame.set_mix
    · rfl
    apply Frame.foldl
    · exact Frame.rfl' _
    · intro _ _ _
      apply Frame.after (frame_setMasked _ _ _ _)
      · decide +kernel
      assumption
  · apply Frame.foldl
    · exact Frame.rfl' _
    · intro _ _ _
      apply Frame.after (frame_setMasked _ _ _ _)
      · decide +kernel
      assumption

theorem frame_freeElem (s : State) (e : Nat) :
    Frame [.pins, .dbg] (some []) s (State.freeElem s e) := by
  unfold State.freeElem
  apply Frame.after (frame_showGpio _)
  · decide +kernel
  apply Frame.set_dbg
  · rfl
  exact Frame.rfl' _

theorem frame_loseMessages (s : State) :
    Frame [.link, .master, .way] (some []) s (State.loseMessages s) := by
  unfold State.loseMessages
  apply Frame.set_master_way
  · rfl
  apply Frame.after (frame_modLnk _ _ _)
  · decide +kernel
  apply Frame.after (frame_modLnk _ _ _)
  · decide +kernel
  exact Frame.rfl' _

theorem frame_startWarm (s : State) :
    Frame [.pins, .regs, .link, .master, .way, .mix, .cfg, .dbg] (some [0x0034, 0x6830, 0x6844]) s (State.startWarm s) := by
  unfold State.startWarm
  apply Frame.ite
  · exact Frame.rfl' _
  · apply Frame.set_mix_cfg
    · rfl
    apply Frame.after (frame_loseMessages _)
    · decide +kernel
    apply Frame.after (frame_freeElem _ _)
    · decide +kernel
    apply Frame.after (frame_bump _ _)
    · decide +kernel
    apply Frame.after (frame_bumpGen _ _ _)
    · decide +kernel
    exact Frame.rfl' _

theorem frame_latchRead (s : State) (o : Nat) :
    Frame [.regs] (some [0x4818, 0x4824, 0x500C, 0x7004, 0x7014]) s (State.latchRead s o) := by
  unfold State.latchRead
  apply Frame.ite
  · apply Frame.after (frame_wr _ _ _)
    · decide +kernel
    apply Frame.after (frame_wr _ _ _)
    · decide +kernel
    exact Frame.rfl' _
  · apply Frame.ite
    · apply Frame.after (frame_wr _ _ _)
      · decide +kernel
      exact Frame.rfl' _
    · apply Frame.ite
      · apply Frame.after (frame_wr _ _ _)
        · decide +kernel
        exact Frame.rfl' _
      · apply Frame.ite
        · apply Frame.after (frame_wr _ _ _)
          · decide +kernel
          exact Frame.rfl' _
        · exact Frame.rfl' _

theorem frame_readDone (s : State) (o : Nat) (clear : Bool) :
    Frame [.pins, .regs] none s (State.readDone s o clear) := by
  unfold State.readDone
  try dsimp -proj only
  split
  · apply Frame.after (frame_latchRead _ _)
    · decide +kernel
    exact Frame.rfl' _
  · apply Frame.ite
    · apply Frame.after (frame_latchRead _ _)
      · decide +kernel
      exact Frame.rfl' _
    · apply Frame.ite
      · apply Frame.after (frame_showLed _)
        · decide +kernel
        apply Frame.after (frame_setReg _ _ _)
        · rfl
        apply Frame.after (frame_latchRead _ _)
        · decide +kernel
        exact Frame.rfl' _
      · apply Frame.after (frame_setReg _ _ _)
        · rfl
        apply Frame.after (frame_latchRead _ _)
        · decide +kernel
        exact Frame.rfl' _

theorem frame_restartTrace (s : State) :
    Frame [.regs, .dbg] (some [0x6028]) s (State.restartTrace s) := by
  unfold State.restartTrace
  apply Frame.after (frame_put _ _ _)
  · decide +kernel
  apply Frame.after (frame_put _ _ _)
  · decide +kernel
  apply Frame.after (frame_wr _ _ _)
  · decide +kernel
  apply Frame.set_dbg
  · rfl
  exact Frame.rfl' _

theorem frame_actWo (s : State) (p : Path) (o : Nat) (v : Word) :
    Frame [.pins, .regs, .link, .master, .way, .mix, .hif, .toll, .cfg, .dbg] none s (State.actWo s p o v) := by
  unfold State.actWo
  apply Frame.ite
  · apply Frame.ite
    · apply Frame.after (frame_put _ _ _)
      · decide +kernel
      exact Frame.rfl' _
    · exact Frame.rfl' _
  · apply Frame.ite
    · apply Frame.ite
      · apply Frame.after (frame_startWarm _)
        · decide +kernel
        exact Frame.rfl' _
      · exact Frame.rfl' _
    · apply Frame.ite
      · apply Frame.after (frame_tollCmd _ _ _ _)
        · decide +kernel
        exact Frame.rfl' _
      · apply Frame.ite
        · apply Frame.after (frame_tollData _ _ _ _)
          · decide +kernel
          exact Frame.rfl' _
        · apply Frame.ite
          · apply Frame.after (frame_tollData _ _ _ _)
            · decide +kernel
            exact Frame.rfl' _
          · apply Frame.ite
            · apply Frame.after (frame_tollData _ _ _ _)
              · decide +kernel
              exact Frame.rfl' _
            · exact Frame.rfl' _

theorem frame_cutQuotas (s : State) (excess n : Nat) : Frame [.hif] (some []) s (cutQuotas s excess n) := by
  induction n generalizing s excess with
  | zero => exact Frame.rfl' s
  | succ n ih =>
    unfold cutQuotas
    exact (frame_modClient s n _).trans (ih _ _)

theorem frame_setLock (s : State) :
    Frame [.regs, .hif] (some [0x0020]) s (State.setLock s) := by
  unfold State.setLock
  exact Frame.ite (Frame.rfl' s) (Frame.after (frame_cutQuotas _ _ _) (by decide +kernel) ((frame_put s _ _).mono (by decide +kernel)))


theorem frame_actW1s (s : State) (o : Nat) (v : Word) :
    Frame [.pins, .regs, .hif] (some [0x0020, 0x1804]) s (State.actW1s s o v) := by
  unfold State.actW1s
  apply Frame.ite
  · apply Frame.ite
    · apply Frame.after (frame_setLock _)
      · decide +kernel
      exact Frame.rfl' _
    · exact Frame.rfl' _
  · apply Frame.ite
    · apply Frame.ite
      · apply Frame.after (frame_reqWakeN _)
        · decide +kernel
        exact Frame.rfl' _
      · exact Frame.rfl' _
    · exact Frame.rfl' _

theorem frame_direct (s : State) (o : Nat) (m : Word) (v : Word) :
    Frame [.cfg] (some []) s (State.direct s o m v) := by
  unfold State.direct
  apply Frame.set_cfg
  · rfl
  exact Frame.rfl' _

theorem frame_writeWord (s : State) (p : Path) (o : Nat) (v : Word) :
    Frame [.pins, .regs, .plt, .link, .master, .way, .p57, .intake, .mix, .ech, .call, .wake, .hif, .toll, .pwr, .cfg, .dbg, .free] none s (State.writeWord s p o v) := by
  unfold State.writeWord
  try dsimp -proj only
  split
  · apply Frame.after (frame_bump _ _)
    · decide +kernel
    exact Frame.rfl' _
  · apply Frame.ite
    · apply Frame.ite
      · apply Frame.after (frame_countLocked _)
        · decide +kernel
        exact Frame.rfl' _
      · exact Frame.rfl' _
    · apply Frame.after (frame_actW1s _ _ _)
      · decide +kernel
      apply Frame.after (frame_actWo _ _ _ _)
      · decide +kernel
      apply Frame.ite
      · apply Frame.ite
        · apply Frame.after (frame_restartTrace _)
          · decide +kernel
          apply Frame.after (frame_setMasked _ _ _ _)
          · decide +kernel
          apply Frame.ite
          · apply Frame.ite
            · apply Frame.after (frame_countLocked _)
              · decide +kernel
              exact Frame.rfl' _
            · exact Frame.rfl' _
          · apply Frame.after (frame_direct _ _ _ _)
            · decide +kernel
            apply Frame.ite
            · apply Frame.after (frame_countLocked _)
              · decide +kernel
              exact Frame.rfl' _
            · exact Frame.rfl' _
        · apply Frame.after (frame_setMasked _ _ _ _)
          · decide +kernel
          apply Frame.ite
          · apply Frame.ite
            · apply Frame.after (frame_countLocked _)
              · decide +kernel
              exact Frame.rfl' _
            · exact Frame.rfl' _
          · apply Frame.after (frame_direct _ _ _ _)
            · decide +kernel
            apply Frame.ite
            · apply Frame.after (frame_countLocked _)
              · decide +kernel
              exact Frame.rfl' _
            · exact Frame.rfl' _
      · apply Frame.after (frame_setReg _ _ _)
        · rfl
        apply Frame.ite
        · apply Frame.after (frame_restartTrace _)
          · decide +kernel
          apply Frame.after (frame_setMasked _ _ _ _)
          · decide +kernel
          apply Frame.ite
          · apply Frame.ite
            · apply Frame.after (frame_countLocked _)
              · decide +kernel
              exact Frame.rfl' _
            · exact Frame.rfl' _
          · apply Frame.after (frame_direct _ _ _ _)
            · decide +kernel
            apply Frame.ite
            · apply Frame.after (frame_countLocked _)
              · decide +kernel
              exact Frame.rfl' _
            · exact Frame.rfl' _
        · apply Frame.after (frame_setMasked _ _ _ _)
          · decide +kernel
          apply Frame.ite
          · apply Frame.ite
            · apply Frame.after (frame_countLocked _)
              · decide +kernel
              exact Frame.rfl' _
            · exact Frame.rfl' _
          · apply Frame.after (frame_direct _ _ _ _)
            · decide +kernel
            apply Frame.ite
            · apply Frame.after (frame_countLocked _)
              · decide +kernel
              exact Frame.rfl' _
            · exact Frame.rfl' _

theorem frame_latchCommand (s : State) (o : Nat) :
    Frame [.regs] (some [0x4818, 0x4824, 0x500C, 0x7004, 0x7014]) s (State.latchCommand s o) := by
  unfold State.latchCommand
  apply Frame.ite
  · exact Frame.rfl' _
  · apply Frame.after (frame_latchRead _ _)
    · decide +kernel
    exact Frame.rfl' _

theorem frame_barWrite (s : State) (o : Nat) (v : Word) :
    Frame [.pins, .regs, .plt, .phy, .link, .master, .rear, .way, .stack, .p57, .intake, .mix, .ech, .call, .mic, .wake, .hif, .tag, .toll, .pwr, .cfg, .dbg, .free] none s (State.barWrite s o v) := by
  unfold State.barWrite
  try dsimp -proj only
  apply Frame.ite
  · apply Frame.ite
    · apply Frame.after (frame_writeWord _ _ _ _)
      · decide +kernel
      exact Frame.rfl' _
    · exact Frame.rfl' _
  · split
    · apply Frame.after (frame_writeWord _ _ _ _)
      · decide +kernel
      first | assumption | exact (frame_reach _ _ _ _ (by assumption)).mono (by decide +kernel)
    · exact Frame.rfl' _

theorem frame_badSize (s : State) :
    Frame [.regs] (some [0x0040]) s (State.badSize s) := by
  unfold State.badSize
  apply Frame.ite
  · apply Frame.after (frame_bump _ _)
    · decide +kernel
    exact Frame.rfl' _
  · exact Frame.rfl' _

theorem frame_barRead (s : State) (o : Nat) :
    Frame [.pins, .regs, .plt, .phy, .link, .master, .rear, .way, .stack, .intake, .mix, .ech, .call, .mic, .wake, .hif, .tag, .toll, .pwr, .cfg, .dbg] none s (State.barRead s o) := by
  unfold State.barRead
  try dsimp -proj only
  apply Frame.ite
  · exact Frame.rfl' _
  · split
    · apply Frame.after (frame_readDone _ _ _)
      · decide +kernel
      first | assumption | exact (frame_reach _ _ _ _ (by assumption)).mono (by decide +kernel)
    · exact Frame.rfl' _

theorem frame_sbRead (s : State) (o : Nat) :
    Frame [.pins, .regs, .plt, .phy, .link, .master, .rear, .way, .stack, .intake, .mix, .ech, .call, .mic, .wake, .hif, .tag, .toll, .pwr, .cfg, .dbg] none s (State.sbRead s o).1 := by
  unfold State.sbRead
  try dsimp -proj only
  split
  · apply Frame.after (frame_readDone _ _ _)
    · decide +kernel
    first | assumption | exact (frame_reach _ _ _ _ (by assumption)).mono (by decide +kernel)
  · exact Frame.rfl' _

theorem frame_sbWrite (s : State) (o : Nat) (v : Word) :
    Frame [.pins, .regs, .plt, .phy, .link, .master, .rear, .way, .stack, .p57, .intake, .mix, .ech, .call, .mic, .wake, .hif, .tag, .toll, .pwr, .cfg, .dbg, .free] none s (State.sbWrite s o v) := by
  unfold State.sbWrite
  try dsimp -proj only
  split
  · apply Frame.after (frame_writeWord _ _ _ _)
    · decide +kernel
    first | assumption | exact (frame_reach _ _ _ _ (by assumption)).mono (by decide +kernel)
  · exact Frame.rfl' _

end Sys2Proof.Laws
end

