-- ==== Sys2Proof/Laws/FramesStaging.lean ====
section
/-! SUPPORT. What each operation of Machine/Staging.lean may change, one lemma each: the parts of the state and, where they are few, the registers. -/

namespace Sys2Proof.Laws

open Sys2Proof.Machine

set_option Elab.async false

theorem frame_applyDirect (s : State) :
    Frame [.pins, .regs, .plt, .link, .master, .way, .p57, .intake, .mix, .ech, .call, .wake, .hif, .pwr, .cfg, .dbg, .free] none s (State.applyDirect s) := by
  unfold State.applyDirect
  apply Frame.foldl
  · apply Frame.set_cfg
    · rfl
    exact Frame.rfl' _
  · intro _ _ _
    apply Frame.after (frame_takeEntries _ _)
    · decide +kernel
    assumption

theorem frame_shedLoads (s : State) :
    Frame [.intake] (some []) s (State.shedLoads s) := by
  unfold State.shedLoads
  try dsimp -proj only
  split
  · apply Frame.ite
    · apply Frame.set_intake
      · rfl
      exact Frame.rfl' _
    · exact Frame.rfl' _
  · exact Frame.rfl' _

theorem frame_takeEpoch (s : State) (g : CfgGroup) :
    Frame [.regs] none s (State.takeEpoch s g) := by
  unfold State.takeEpoch
  apply Frame.after (frame_wr _ _ _)
  · rfl
  exact Frame.rfl' _

theorem frame_epochDone (s : State) :
    Frame [.regs, .hif, .cfg, .dbg] (some (evRegs ++ [0x0024, 0x1414, 0x6028, 0x6848])) s (State.epochDone s) := by
  unfold State.epochDone
  try dsimp -proj only
  apply Frame.ite
  · exact Frame.rfl' _
  · apply Frame.after (frame_raise _ _ _ _ _ _)
    · decide +kernel
    split
    · apply Frame.after (frame_finishWhere _ _ _ _ _ _)
      · decide +kernel
      apply Frame.set_cfg
      · rfl
      apply Frame.after (frame_put _ _ _)
      · decide +kernel
      exact Frame.rfl' _
    · apply Frame.after (frame_put _ _ _)
      · decide +kernel
      exact Frame.rfl' _

theorem frame_beginApply (s : State) (a : Word) :
    Frame [.regs, .hif, .cfg, .dbg] none s (State.beginApply s a) := by
  unfold State.beginApply
  apply Frame.after (frame_epochDone _)
  · decide +kernel
  apply Frame.foldl
  · apply Frame.after (frame_stim _ _ _)
    · decide +kernel
    apply Frame.after (frame_wr _ _ _)
    · decide +kernel
    apply Frame.after (frame_put _ _ _)
    · decide +kernel
    apply Frame.set_cfg
    · rfl
    apply Frame.after (frame_wrapInc _ _)
    · decide +kernel
    exact Frame.rfl' _
  · intro _ _ _
    apply Frame.after (frame_takeEpoch _ _)
    · decide +kernel
    assumption

theorem frame_configCycle (s : State) :
    Frame [.pins, .regs, .plt, .link, .master, .way, .p57, .intake, .mix, .ech, .call, .wake, .hif, .pwr, .cfg, .dbg, .free] none s (State.configCycle s) := by
  unfold State.configCycle
  try dsimp -proj only
  split
  · apply Frame.ite
    · apply Frame.after (frame_beginApply _ _)
      · decide +kernel
      apply Frame.after (frame_shedLoads _)
      · decide +kernel
      apply Frame.after (frame_applyDirect _)
      · decide +kernel
      exact Frame.rfl' _
    · apply Frame.after (frame_shedLoads _)
      · decide +kernel
      apply Frame.after (frame_applyDirect _)
      · decide +kernel
      exact Frame.rfl' _
  · apply Frame.after (frame_shedLoads _)
    · decide +kernel
    apply Frame.after (frame_applyDirect _)
    · decide +kernel
    exact Frame.rfl' _

theorem frame_setNibble (s : State) (g : CfgGroup) (v : Nat) :
    Frame [.cfg] (some []) s (State.setNibble s g v) := by
  unfold State.setNibble
  apply Frame.set_cfg
  · rfl
  exact Frame.rfl' _

theorem frame_moveGroups (s : State) :
    Frame [.cfg] (some []) s (State.moveGroups s) := by
  unfold State.moveGroups
  apply Frame.foldl
  · apply Frame.set_cfg
    · rfl
    exact Frame.rfl' _
  · intro _ _ _
    apply Frame.after (frame_setNibble _ _ _)
    · decide +kernel
    assumption

theorem frame_doConfigApply (s : State) (c : Nat) (j : Nat) (d : Desc) (atDue : Bool) :
    Frame [.regs, .hif, .cfg, .dbg] none s (State.doConfigApply s c j d atDue) := by
  unfold State.doConfigApply
  apply Frame.ite
  · apply Frame.after (frame_finish _ _ _ _ _ _)
    · decide +kernel
    exact Frame.rfl' _
  · apply Frame.ite
    · apply Frame.after (frame_finish _ _ _ _ _ _)
      · decide +kernel
      exact Frame.rfl' _
    · apply Frame.ite
      · apply Frame.after (frame_beginApply _ _)
        · decide +kernel
        apply Frame.set_cfg
        · rfl
        apply Frame.after (frame_setPhase _ _ _ _)
        · decide +kernel
        exact Frame.rfl' _
      · apply Frame.set_cfg
        · rfl
        apply Frame.after (frame_setPhase _ _ _ _)
        · decide +kernel
        exact Frame.rfl' _

theorem frame_applyGroup (s : State) (x : PendingGroup) :
    Frame [.pins, .regs, .plt, .link, .master, .way, .p57, .intake, .mix, .ech, .call, .wake, .hif, .pwr, .cfg, .dbg, .free] none s (State.applyGroup s x) := by
  unfold State.applyGroup
  apply Frame.after (frame_epochDone _)
  · decide +kernel
  apply Frame.after (frame_stim _ _ _)
  · decide +kernel
  apply Frame.ite
  · apply Frame.after (frame_takeEpoch _ _)
    · decide +kernel
    apply Frame.after (frame_takeEntries _ _)
    · decide +kernel
    apply Frame.set_cfg
    · rfl
    exact Frame.rfl' _
  · apply Frame.after (frame_setNibble _ _ _)
    · decide +kernel
    apply Frame.after (frame_takeEpoch _ _)
    · decide +kernel
    apply Frame.after (frame_takeEntries _ _)
    · decide +kernel
    apply Frame.set_cfg
    · rfl
    exact Frame.rfl' _

theorem frame_groupPoint (s : State) (g : CfgGroup) :
    Frame [.pins, .regs, .plt, .link, .master, .way, .p57, .intake, .mix, .ech, .call, .wake, .hif, .pwr, .cfg, .dbg, .free] none s (State.groupPoint s g) := by
  unfold State.groupPoint
  try dsimp -proj only
  split
  · apply Frame.ite
    · apply Frame.after (frame_applyGroup _ _)
      · decide +kernel
      exact Frame.rfl' _
    · exact Frame.rfl' _
  · exact Frame.rfl' _

theorem frame_doConfigStage (s : State) (c : Nat) (j : Nat) (d : Desc) (buf : List Byte) :
    Frame [.regs, .hif, .cfg, .dbg] (some [0x1414, 0x6028, 0x6848]) s (State.doConfigStage s c j d buf) := by
  unfold State.doConfigStage
  try dsimp -proj only
  apply Frame.ite
  · apply Frame.after (frame_finish _ _ _ _ _ _)
    · decide +kernel
    exact Frame.rfl' _
  · apply Frame.ite
    · apply Frame.after (frame_finish _ _ _ _ _ _)
      · decide +kernel
      exact Frame.rfl' _
    · apply Frame.ite
      · apply Frame.after (frame_finish _ _ _ _ _ _)
        · decide +kernel
        apply Frame.set_cfg
        · rfl
        exact Frame.rfl' _
      · split
        · apply Frame.after (frame_finish _ _ _ _ _ _)
          · decide +kernel
          exact Frame.rfl' _
        · apply Frame.ite
          · apply Frame.after (frame_finish _ _ _ _ _ _)
            · decide +kernel
            exact Frame.rfl' _
          · apply Frame.after (frame_finish _ _ _ _ _ _)
            · decide +kernel
            apply Frame.set_cfg
            · rfl
            exact Frame.rfl' _

end Sys2Proof.Laws
end

