-- ==== Sys2Proof/Laws/FramesResets.lean ====
section
/-! SUPPORT. What each operation of Machine/Resets.lean may change, one lemma each: the parts of the state and, where they are few, the registers. -/

namespace Sys2Proof.Laws

open Sys2Proof.Machine

set_option Elab.async false

theorem frame_fullResetBy (s : State) (f : Field) (powerOn : Bool) (held : Bool) :
    Frame [.mem, .pins, .regs, .plt, .phy, .link, .master, .rear, .way, .stack, .p57, .intake, .mix, .ech, .call, .mic, .wake, .hif, .sby, .tag, .cart, .toll, .pwr, .cfg, .dbg, .free] none s (State.fullResetBy s f powerOn held) := by
  unfold State.fullResetBy
  refine Frame.after (frame_put _ _ _) rfl (Frame.set_pwr _ rfl (Frame.foldl ?_ (fun t b h => Frame.after (frame_loseBank _ _) rfl h)))
  refine ⟨fun p hp => ?_, fun l hl => by simp at hl, fun c => ⟨wf_filter _ _ _ (keptInReset powerOn) c.1 (fun _ _ => rfl), c.2, c.3, ?_, c.5⟩⟩
  · cases p <;> first | rfl | exact absurd (by decide) hp
  · rfl


theorem frame_resetBlock (s : State) (x1 : ResetBlock) :
    Frame [.pins, .regs, .plt, .mix, .ech, .wake, .hif, .tag, .toll, .dbg] none s (State.resetBlock s x1) := by
  unfold State.resetBlock
  try dsimp -proj only
  split
  · apply Frame.after (frame_settleAll _)
    · decide +kernel
    apply Frame.after (frame_finishEvery _ _ _)
    · decide +kernel
    apply Frame.after (frame_bump _ _)
    · decide +kernel
    apply Frame.after (frame_resetEcho _)
    · decide +kernel
    apply Frame.after (frame_freeElem _ _)
    · decide +kernel
    apply Frame.after (frame_bumpGen _ _ _)
    · decide +kernel
    exact Frame.rfl' _
  · apply Frame.after (frame_bump _ _)
    · decide +kernel
    apply Frame.after (frame_resetWake _)
    · decide +kernel
    apply Frame.after (frame_freeElem _ _)
    · decide +kernel
    apply Frame.after (frame_bumpGen _ _ _)
    · decide +kernel
    exact Frame.rfl' _
  · apply Frame.after (frame_settleAll _)
    · decide +kernel
    apply Frame.after (frame_finishEvery _ _ _)
    · decide +kernel
    apply Frame.set_tag
    · rfl
    apply Frame.after (frame_bumpGen _ _ _)
    · decide +kernel
    exact Frame.rfl' _
  · apply Frame.after (frame_settleAll _)
    · decide +kernel
    apply Frame.after (frame_finishEvery _ _ _)
    · decide +kernel
    apply Frame.after (frame_tollReset _)
    · decide +kernel
    apply Frame.after (frame_bumpGen _ _ _)
    · decide +kernel
    exact Frame.rfl' _

theorem frame_lsRestart (s : State) :
    Frame [.regs, .plt, .master, .way] (some [0x2110, 0x2130, 0x7008]) s (State.lsRestart s) := by
  unfold State.lsRestart
  apply Frame.set_plt
  · rfl
  apply Frame.after (frame_put _ _ _)
  · decide +kernel
  apply Frame.after (frame_stepDown _ _)
  · decide +kernel
  apply Frame.after (frame_stepDown _ _)
  · decide +kernel
  exact Frame.rfl' _

theorem frame_onHalt (s : State) (e : Nat) :
    Frame [.regs, .phy, .mix] (some [0x29C0]) s (State.onHalt s e) := by
  unfold State.onHalt
  apply Frame.ite
  · apply Frame.after (frame_endPlayback _)
    · decide +kernel
    exact Frame.rfl' _
  · apply Frame.ite
    · apply Frame.set_phy
      · rfl
      exact Frame.rfl' _
    · exact Frame.rfl' _

theorem frame_stirBank (s : State) (b : Nat) :
    Frame [.mem, .free] (some []) s (State.stirBank s b) := by
  refine ⟨fun p hp => ?_, fun _ _ o _ => rfl, fun c => ⟨c.1, ?_, c.3, c.4, c.5⟩⟩
  · cases p <;> first | rfl | exact absurd (by decide) hp
  · refine wf_filter _ _ _ (fun k => decide (k / 0x20000 ≠ b)) c.2 (fun k hk => ?_)
    have hk : b ≠ k / 0x20000 := fun h => by simp [h] at hk
    simp [State.stirBank, sramByte, List.getD_eq_getElem?_getD, List.getElem?_set_ne hk]


theorem frame_haltOne (s : State) (c : Nat) (e : Nat) :
    Frame [.mem, .regs, .phy, .mix, .dbg, .free] (some [0x29C0, 0x6004]) s (State.haltOne s c e) := by
  unfold State.haltOne
  apply Frame.ite
  · exact Frame.rfl' _
  · apply Frame.after (frame_onHalt _ _)
    · decide +kernel
    apply Frame.after (frame_bump _ _)
    · decide +kernel
    apply Frame.foldl
    · apply Frame.after (frame_takeFree _ _)
      · decide +kernel
      apply Frame.set_dbg
      · rfl
      exact Frame.rfl' _
    · intro _ _ _
      apply Frame.after (frame_stirBank _ _)
      · decide +kernel
      assumption

theorem frame_haltElems (s : State) (mask : Nat) (c : Nat) :
    Frame [.mem, .pins, .regs, .phy, .mix, .dbg, .free] (some [0x29C0, 0x6004, 0x6028]) s (State.haltElems s mask c) := by
  unfold State.haltElems
  apply Frame.ite
  · exact Frame.rfl' _
  · apply Frame.after (frame_showGpio _)
    · decide +kernel
    apply Frame.after (frame_traceAny _ _ _ _)
    · decide +kernel
    apply Frame.foldl
    · apply Frame.foldl
      · exact Frame.rfl' _
      · intro _ _ _
        apply Frame.after (frame_haltOne _ _ _)
        · decide +kernel
        assumption
    · intro _ _ _
      apply Frame.after (frame_haltOne _ _ _)
      · decide +kernel
      assumption

theorem frame_loadModel (s : State) :
    Frame [.regs, .wake] (some [0x4804, 0x6840]) s (State.loadModel s) := by
  unfold State.loadModel
  try dsimp -proj only
  split
  · exact Frame.rfl' _
  · apply Frame.ite
    · apply Frame.after (frame_put _ _ _)
      · decide +kernel
      exact Frame.rfl' _
    · apply Frame.after (frame_wr _ _ _)
      · decide +kernel
      apply Frame.after (frame_wr _ _ _)
      · decide +kernel
      apply Frame.after (frame_put _ _ _)
      · decide +kernel
      apply Frame.set_wake
      · rfl
      exact Frame.rfl' _

theorem frame_bootP57 (s : State) :
    Frame [.regs, .p57] (some [0x0A04]) s (State.bootP57 s) := by
  unfold State.bootP57
  apply Frame.ite
  · apply Frame.set_p57
    · rfl
    apply Frame.after (frame_put _ _ _)
    · decide +kernel
    exact Frame.rfl' _
  · apply Frame.after (frame_put _ _ _)
    · decide +kernel
    exact Frame.rfl' _

theorem frame_checkPatch (s : State) :
    Frame [.regs] (some [0x0024, 0x6840]) s (State.checkPatch s) := by
  unfold State.checkPatch
  try dsimp -proj only
  split
  · apply Frame.after (frame_put _ _ _)
    · decide +kernel
    apply Frame.after (frame_put _ _ _)
    · decide +kernel
    apply Frame.after (frame_wr _ _ _)
    · decide +kernel
    exact Frame.rfl' _
  · apply Frame.after (frame_put _ _ _)
    · decide +kernel
    apply Frame.after (frame_put _ _ _)
    · decide +kernel
    apply Frame.after (frame_wr _ _ _)
    · decide +kernel
    exact Frame.rfl' _

theorem frame_bootTag (s : State) :
    Frame [.regs, .hif, .sby, .tag, .cart, .dbg, .free] (some (evRegs ++ [0x1414, 0x5004, 0x5010, 0x5014, 0x501C, 0x6028, 0x6848])) s (State.bootTag s) := by
  unfold State.bootTag
  apply Frame.ite
  · exact Frame.rfl' _
  · apply Frame.ite
    · apply Frame.after (frame_queueTag _ _)
      · decide +kernel
      apply Frame.after (frame_put _ _ _)
      · decide +kernel
      exact Frame.rfl' _
    · apply Frame.after (frame_tryTag _)
      · decide +kernel
      apply Frame.after (frame_put _ _ _)
      · decide +kernel
      exact Frame.rfl' _

theorem frame_applyReg (s : State) (e : StageEntry) :
    Frame [.regs] none s (State.applyReg s e) := by
  unfold State.applyReg
  apply Frame.ite
  · apply Frame.after (frame_setReg _ _ _)
    · rfl
    exact Frame.rfl' _
  · apply Frame.after (frame_bump _ _)
    · decide +kernel
    exact Frame.rfl' _

theorem frame_applyRecord (s : State) (r : Record) :
    Frame [.regs, .hif] none s (State.applyRecord s r) := by
  unfold State.applyRecord
  try dsimp -proj only
  split
  · apply Frame.foldl
    · exact Frame.rfl' _
    · intro _ _ _
      apply Frame.after (frame_applyReg _ _)
      · decide +kernel
      assumption
  · apply Frame.set_hif
    · rfl
    exact Frame.rfl' _
  · exact Frame.rfl' _

theorem frame_applyRecords (s : State) :
    Frame [.pins, .regs, .plt, .link, .master, .way, .mix, .wake, .hif, .pwr, .cfg, .dbg] none s (State.applyRecords s) := by
  unfold State.applyRecords
  apply Frame.after (frame_showGpio _)
  · decide +kernel
  apply Frame.foldl
  · apply Frame.set_mix
    · rfl
    apply Frame.foldl
    · exact Frame.rfl' _
    · intro _ _ _
      apply Frame.after (frame_applyRecord _ _)
      · decide +kernel
      assumption
  · intro _ _ _
    apply Frame.ite
    · apply Frame.after (frame_enableRing _ _)
      · decide +kernel
      assumption
    · assumption

theorem frame_bootApply (s : State) :
    Frame [.pins, .regs, .plt, .phy, .link, .master, .way, .mix, .wake, .hif, .pwr, .cfg, .dbg] none s (State.bootApply s) := by
  unfold State.bootApply
  try dsimp -proj only
  apply Frame.set_phy
  · rfl
  split
  · apply Frame.after (frame_put _ _ _)
    · decide +kernel
    exact Frame.rfl' _
  · apply Frame.ite
    · apply Frame.after (frame_setLock _)
      · decide +kernel
      apply Frame.after (frame_applyRecords _)
      · decide +kernel
      exact Frame.rfl' _
    · apply Frame.after (frame_applyRecords _)
      · decide +kernel
      exact Frame.rfl' _

theorem frame_bootManifest (s : State) :
    Frame [.regs, .cfg] (some [0x6840]) s (State.bootManifest s) := by
  unfold State.bootManifest
  try dsimp -proj only
  split
  · apply Frame.after (frame_wr _ _ _)
    · decide +kernel
    apply Frame.set_cfg
    · rfl
    exact Frame.rfl' _
  · apply Frame.after (frame_wr _ _ _)
    · decide +kernel
    apply Frame.set_cfg
    · rfl
    exact Frame.rfl' _

theorem frame_bootStep (s : State) (x1 : Nat) :
    Frame [.pins, .regs, .plt, .phy, .link, .master, .way, .p57, .mix, .wake, .hif, .sby, .tag, .cart, .pwr, .cfg, .dbg, .free] none s (State.bootStep s x1) := by
  unfold State.bootStep
  try dsimp -proj only
  split
  · apply Frame.after (frame_relevel _)
    · decide +kernel
    apply Frame.after (frame_wr _ _ _)
    · decide +kernel
    exact Frame.rfl' _
  · exact Frame.rfl' _
  · apply Frame.after (frame_bootP57 _)
    · decide +kernel
    exact Frame.rfl' _
  · apply Frame.after (frame_bootManifest _)
    · decide +kernel
    exact Frame.rfl' _
  · apply Frame.after (frame_checkPatch _)
    · decide +kernel
    exact Frame.rfl' _
  · apply Frame.after (frame_bootApply _)
    · decide +kernel
    exact Frame.rfl' _
  · apply Frame.after (frame_settleAll _)
    · decide +kernel
    apply Frame.after (frame_bootTag _)
    · decide +kernel
    apply Frame.ite
    · exact Frame.rfl' _
    · apply Frame.after (frame_trainLink _)
      · decide +kernel
      exact Frame.rfl' _
  · apply Frame.after (frame_loadModel _)
    · decide +kernel
    exact Frame.rfl' _

theorem frame_endControl (s : State) :
    Frame [.regs, .plt, .link, .master, .way, .call, .hif, .tag, .cfg, .dbg] none s (State.endControl s) := by
  unfold State.endControl
  try dsimp -proj only
  apply Frame.after (frame_finishEvery _ _ _)
  · decide +kernel
  apply Frame.set_call_tag_cfg
  · rfl
  apply Frame.after (frame_dropDeadlines _ _)
  · decide +kernel
  apply Frame.foldl
  · apply Frame.foldl
    · exact Frame.rfl' _
    · intro _ _ _
      apply Frame.after (frame_releaseJob _ _)
      · decide +kernel
      assumption
  · intro _ _ _
    split
    · apply Frame.after (frame_setSession _ _ _)
      · decide +kernel
      apply Frame.after (frame_dropTalk _ _ _)
      · decide +kernel
      assumption
    · assumption

theorem frame_faultReset (s : State) (x1 : Elem) :
    Frame [.pins, .regs, .plt, .link, .master, .way, .mix, .ech, .wake, .hif, .tag, .toll, .cfg, .dbg] none s (State.faultReset s x1) := by
  unfold State.faultReset
  try dsimp -proj only
  split
  · apply Frame.after (frame_startWarm _)
    · decide +kernel
    exact Frame.rfl' _
  · apply Frame.after (frame_resetBlock _ _)
    · decide +kernel
    exact Frame.rfl' _
  · apply Frame.after (frame_resetBlock _ _)
    · decide +kernel
    exact Frame.rfl' _
  · apply Frame.after (frame_lsRestart _)
    · decide +kernel
    apply Frame.after (frame_bumpGen _ _ _)
    · decide +kernel
    exact Frame.rfl' _

end Sys2Proof.Laws
end

