-- ==== Sys2Proof/Laws/FramesDebug.lean ====
section
/-! SUPPORT. What each operation of Machine/Debug.lean may change, one lemma each: the parts of the state and, where they are few, the registers. -/

namespace Sys2Proof.Laws

open Sys2Proof.Machine

set_option Elab.async false

theorem frame_closeSession (s : State) (t : Transport) :
    Frame [.dbg] (some []) s (State.closeSession s t) := by
  unfold State.closeSession
  apply Frame.set_dbg
  · rfl
  exact Frame.rfl' _

theorem frame_answerCmd (s : State) (c : Nat) (bytes : List Byte) :
    Frame [.regs, .hif, .sby, .dbg] (some [0x1414, 0x6028, 0x6848]) s (State.answerCmd s c bytes) := by
  unfold State.answerCmd
  try dsimp -proj only
  split
  · exact Frame.rfl' _
  · split
    · exact Frame.rfl' _
    · apply Frame.after (frame_deliver _ _ _ _ _ _ _)
      · decide +kernel
      exact Frame.rfl' _

theorem frame_postReply (s : State) (a : Nat) (session : Nat) (bytes : List Byte) :
    Frame [.regs, .link, .master, .way] (some [0x2084, 0x20C4]) s (State.postReply s a session bytes) := by
  unfold State.postReply
  apply Frame.foldl
  · exact Frame.rfl' _
  · intro _ _ _
    apply Frame.after (frame_post _ _ _)
    · decide +kernel
    assumption

theorem frame_sendReply (s : State) (r : MonReq) (cmd : Nat) (st : MonStatus) (payload : List Byte) :
    Frame [.regs, .link, .master, .way, .hif, .sby, .dbg] (some [0x1414, 0x2084, 0x20C4, 0x6028, 0x6848]) s (State.sendReply s r cmd st payload) := by
  unfold State.sendReply
  try dsimp -proj only
  split
  · apply Frame.set_dbg
    · rfl
    apply Frame.set_dbg
    · rfl
    exact Frame.rfl' _
  · apply Frame.after (frame_answerCmd _ _ _)
    · decide +kernel
    apply Frame.set_dbg
    · rfl
    exact Frame.rfl' _
  · apply Frame.after (frame_answerCmd _ _ _)
    · decide +kernel
    apply Frame.set_dbg
    · rfl
    exact Frame.rfl' _
  · apply Frame.after (frame_postReply _ _ _ _)
    · decide +kernel
    apply Frame.set_dbg
    · rfl
    exact Frame.rfl' _

theorem frame_makeReset (s : State) (r : MonReq) :
    Frame [.mem, .pins, .regs, .plt, .phy, .link, .master, .rear, .way, .stack, .p57, .intake, .mix, .ech, .call, .mic, .wake, .hif, .sby, .tag, .cart, .toll, .pwr, .cfg, .dbg, .free] none s (State.makeReset s r) := by
  unfold State.makeReset
  try dsimp -proj only
  split
  · apply Frame.after (frame_fullResetBy _ _ _ _)
    · decide +kernel
    exact Frame.rfl' _
  · apply Frame.ite
    · apply Frame.after (frame_sendReply _ _ _ _ _)
      · decide +kernel
      apply Frame.after (frame_startWarm _)
      · decide +kernel
      exact Frame.rfl' _
    · apply Frame.after (frame_startWarm _)
      · decide +kernel
      apply Frame.after (frame_sendReply _ _ _ _ _)
      · decide +kernel
      exact Frame.rfl' _
  · apply Frame.after (frame_resetBlock _ _)
    · decide +kernel
    apply Frame.after (frame_sendReply _ _ _ _ _)
    · decide +kernel
    exact Frame.rfl' _

theorem frame_wakeResident (s : State) :
    Frame [.regs, .plt, .phy, .link, .master, .rear, .way, .stack, .intake, .mix, .ech, .call, .mic, .wake, .hif, .tag, .toll, .pwr, .cfg, .dbg] none s (State.wakeResident s) := by
  unfold State.wakeResident
  apply Frame.ite
  · exact Frame.rfl' _
  · apply Frame.ite
    · apply Frame.after (frame_exitToRun _)
      · decide +kernel
      exact Frame.rfl' _
    · apply Frame.ite
      · exact Frame.rfl' _
      · apply Frame.after (frame_wakeBy _ _)
        · decide +kernel
        exact Frame.rfl' _

theorem frame_openSession (s : State) (t : Transport) :
    Frame [.dbg] (some []) s (State.openSession s t) := by
  unfold State.openSession
  apply Frame.ite
  · exact Frame.rfl' _
  · apply Frame.set_dbg
    · rfl
    exact Frame.rfl' _

theorem frame_monStatus (s : State) (r : MonReq) :
    Frame [] (some []) s (State.monStatus s r).state := by
  unfold State.monStatus
  try dsimp -proj only
  split
  · exact Frame.rfl' _
  · exact Frame.rfl' _

theorem frame_monReset (s : State) (r : MonReq) :
    Frame [] (some []) s (State.monReset s r).state := by
  unfold State.monReset
  try dsimp -proj only
  split
  · exact Frame.rfl' _
  · split
    · exact Frame.rfl' _
    · exact Frame.rfl' _

theorem frame_monFlashRead (s : State) (r : MonReq) :
    Frame [] (some []) s (State.monFlashRead s r).state := by
  unfold State.monFlashRead
  try dsimp -proj only
  split
  · exact Frame.rfl' _
  · split
    · exact Frame.rfl' _
    · exact Frame.rfl' _

theorem frame_monFlashWrite (s : State) (r : MonReq) :
    Frame [.mem, .free] (some []) s (State.monFlashWrite s r).state := by
  unfold State.monFlashWrite
  try dsimp -proj only
  split
  · exact Frame.rfl' _
  · split
    · exact Frame.rfl' _
    · apply Frame.after (frame_takeFree _ _)
      · decide +kernel
      apply Frame.set_mem
      · rfl
      · first | exact wf_setList _ _ _ _ | exact id
      · first | exact wf_setList _ _ _ _ | exact id
      exact Frame.rfl' _

theorem frame_monStim (s : State) (r : MonReq) :
    Frame [.regs, .dbg] (some [0x6028]) s (State.monStim s r).state := by
  unfold State.monStim
  try dsimp -proj only
  split
  · exact Frame.rfl' _
  · apply Frame.after (frame_stim _ _ _)
    · decide +kernel
    exact Frame.rfl' _

theorem frame_resumeOne (s : State) (e : Nat) :
    Frame [.pins, .regs, .plt, .master, .way, .dbg] (some [0x2110, 0x2130, 0x7008]) s (State.resumeOne s e) := by
  unfold State.resumeOne
  apply Frame.ite
  · apply Frame.after (frame_lsRestart _)
    · decide +kernel
    apply Frame.after (frame_freeElem _ _)
    · decide +kernel
    exact Frame.rfl' _
  · apply Frame.after (frame_freeElem _ _)
    · decide +kernel
    exact Frame.rfl' _

theorem frame_monResume (s : State) (r : MonReq) :
    Frame [.pins, .regs, .plt, .master, .way, .hif, .dbg] (some [0x1414, 0x2110, 0x2130, 0x6028, 0x6848, 0x7008, 0x7040]) s (State.monResume s r).state := by
  unfold State.monResume
  try dsimp -proj only
  split
  · exact Frame.rfl' _
  · apply Frame.ite
    · apply Frame.foldl
      · exact Frame.rfl' _
      · intro _ _ _
        apply Frame.after (frame_resumeOne _ _)
        · decide +kernel
        assumption
    · apply Frame.after (frame_settleAll _)
      · decide +kernel
      apply Frame.after (frame_traceAny _ _ _ _)
      · decide +kernel
      apply Frame.foldl
      · exact Frame.rfl' _
      · intro _ _ _
        apply Frame.after (frame_resumeOne _ _)
        · decide +kernel
        assumption

theorem frame_monClose (s : State) (r : MonReq) :
    Frame [.dbg] (some []) s (State.monClose s r).state := by
  unfold State.monClose
  try dsimp -proj only
  split
  · exact Frame.rfl' _
  · apply Frame.after (frame_closeSession _ _)
    · decide +kernel
    exact Frame.rfl' _

theorem frame_monStep (s : State) (r : MonReq) :
    Frame [.pins, .dbg] (some []) s (State.monStep s r).state := by
  unfold State.monStep
  try dsimp -proj only
  split
  · exact Frame.rfl' _
  · split
    · exact Frame.rfl' _
    · split
      · exact Frame.rfl' _
      · split
        · exact Frame.rfl' _
        · apply Frame.set_dbg
          · rfl
          apply Frame.after (frame_freeElem _ _)
          · decide +kernel
          exact Frame.rfl' _

theorem frame_monHalt (s : State) (r : MonReq) :
    Frame [.mem, .pins, .regs, .phy, .mix, .dbg, .free] (some [0x29C0, 0x6004, 0x6028]) s (State.monHalt s r).state := by
  unfold State.monHalt
  try dsimp -proj only
  split
  · exact Frame.rfl' _
  · split
    · exact Frame.rfl' _
    · split
      · exact Frame.rfl' _
      · apply Frame.after (frame_haltElems _ _ _)
        · decide +kernel
        exact Frame.rfl' _

theorem frame_monRegRead (s : State) (r : MonReq) :
    Frame [.pins, .regs] none s (State.monRegRead s r).state := by
  have hf : ∀ (l : List Nat) (acc : State × List Byte), Frame [.pins, .regs] none s acc.1 →
      Frame [.pins, .regs] none s (l.foldl (fun (x : State × List Byte) k =>
        (x.1.readDone k !bitOf (byteAt r.payload 3) 0, x.2 ++ toLe 4 (BitVec.toNat (x.1.value k)))) acc).1 := by
    intro l
    induction l with
    | nil => exact fun acc h => h
    | cons k l ih => exact fun acc h => ih _ (Frame.after (frame_readDone acc.1 k _) (by decide +kernel) h)
  unfold State.monRegRead
  dsimp -proj only
  split
  · exact Frame.rfl' s
  · split
    · exact Frame.rfl' s
    · exact hf _ (s, []) (Frame.rfl' s)


theorem frame_monOtpRead (s : State) (r : MonReq) :
    Frame [] (some []) s (State.monOtpRead s r).state := by
  unfold State.monOtpRead
  try dsimp -proj only
  split
  · exact Frame.rfl' _
  · exact Frame.rfl' _

theorem frame_monFlashErase (s : State) (r : MonReq) :
    Frame [.mem] (some []) s (State.monFlashErase s r).state := by
  unfold State.monFlashErase
  try dsimp -proj only
  split
  · exact Frame.rfl' _
  · split
    · exact Frame.rfl' _
    · apply Frame.set_mem
      · rfl
      · first | exact wf_setList _ _ _ _ | exact fun h => wf_filter _ _ _ (fun k => decide (k < leAt r.payload 0 4) || decide (leAt r.payload 0 4 + 4096 * leAt r.payload 4 2 ≤ k)) h (fun _ _ => rfl) | exact id
      · first | exact wf_setList _ _ _ _ | exact fun h => wf_filter _ _ _ (fun k => decide (k < leAt r.payload 0 4) || decide (leAt r.payload 0 4 + 4096 * leAt r.payload 4 2 ≤ k)) h (fun _ _ => rfl) | exact id
      exact Frame.rfl' _

theorem frame_monPing (s : State) (r : MonReq) :
    Frame [] (some []) s (State.monPing s r).state := by
  unfold State.monPing
  try dsimp -proj only
  split
  · exact Frame.rfl' _
  · exact Frame.rfl' _

theorem frame_monElemRead (s : State) (r : MonReq) :
    Frame [] (some []) s (State.monElemRead s r).state := by
  unfold State.monElemRead
  try dsimp -proj only
  split
  · exact Frame.rfl' _
  · split
    · exact Frame.rfl' _
    · split
      · exact Frame.rfl' _
      · exact Frame.rfl' _

theorem frame_monElemWrite (s : State) (r : MonReq) :
    Frame [.regs, .dbg] (some [0x6014]) s (State.monElemWrite s r).state := by
  unfold State.monElemWrite
  try dsimp -proj only
  split
  · exact Frame.rfl' _
  · split
    · exact Frame.rfl' _
    · split
      · exact Frame.rfl' _
      · apply Frame.after (frame_put _ _ _)
        · decide +kernel
        apply Frame.set_dbg
        · rfl
        exact Frame.rfl' _

theorem frame_monRegWrite (s : State) (r : MonReq) :
    Frame [.pins, .regs, .plt, .link, .master, .way, .p57, .intake, .mix, .ech, .call, .wake, .hif, .toll, .pwr, .cfg, .dbg, .free] none s (State.monRegWrite s r).state := by
  unfold State.monRegWrite
  try dsimp -proj only
  split
  · exact Frame.rfl' _
  · split
    · exact Frame.rfl' _
    · split
      · exact Frame.rfl' _
      · apply Frame.foldl
        · exact Frame.rfl' _
        · intro _ _ _
          apply Frame.after (frame_writeWord _ _ _ _)
          · decide +kernel
          assumption

theorem frame_monTraceRead (s : State) (r : MonReq) :
    Frame [] (some []) s (State.monTraceRead s r).state := by
  unfold State.monTraceRead
  try dsimp -proj only
  split
  · exact Frame.rfl' _
  · split
    · exact Frame.rfl' _
    · exact Frame.rfl' _

theorem frame_monMemWrite (s : State) (r : MonReq) :
    Frame [.mem, .regs] (some [0x6014]) s (State.monMemWrite s r).state := by
  unfold State.monMemWrite
  try dsimp -proj only
  split
  · exact Frame.rfl' _
  · split
    · exact Frame.rfl' _
    · split
      · exact Frame.rfl' _
      · split
        · exact Frame.rfl' _
        · apply Frame.after (frame_put _ _ _)
          · decide +kernel
          apply Frame.set_mem
          · rfl
          · first | exact wf_setList _ _ _ _ | exact id
          · first | exact wf_setList _ _ _ _ | exact id
          exact Frame.rfl' _

theorem frame_monMemRead (s : State) (r : MonReq) :
    Frame [] (some []) s (State.monMemRead s r).state := by
  unfold State.monMemRead
  try dsimp -proj only
  split
  · exact Frame.rfl' _
  · split
    · exact Frame.rfl' _
    · exact Frame.rfl' _

theorem frame_monFetch (s : State) (r : MonReq) :
    Frame [] (some []) s (State.monFetch s r).state := by
  unfold State.monFetch
  try dsimp -proj only
  split
  · exact Frame.rfl' _
  · exact Frame.rfl' _

theorem frame_monOp (s : State) (cmd : Nat) (r : MonReq) :
    Frame [.mem, .pins, .regs, .plt, .phy, .link, .master, .way, .p57, .intake, .mix, .ech, .call, .wake, .hif, .toll, .pwr, .cfg, .dbg, .free] none s (State.monOp s cmd r).state := by
  unfold State.monOp
  try dsimp -proj only
  split
  · apply Frame.after (frame_monPing _ _)
    · decide +kernel
    exact Frame.rfl' _
  · apply Frame.after (frame_monStatus _ _)
    · decide +kernel
    exact Frame.rfl' _
  · apply Frame.after (frame_monClose _ _)
    · decide +kernel
    exact Frame.rfl' _
  · apply Frame.after (frame_monFetch _ _)
    · decide +kernel
    exact Frame.rfl' _
  · apply Frame.after (frame_monRegRead _ _)
    · decide +kernel
    exact Frame.rfl' _
  · apply Frame.after (frame_monRegWrite _ _)
    · decide +kernel
    exact Frame.rfl' _
  · apply Frame.after (frame_monHalt _ _)
    · decide +kernel
    exact Frame.rfl' _
  · apply Frame.after (frame_monResume _ _)
    · decide +kernel
    exact Frame.rfl' _
  · apply Frame.after (frame_monStep _ _)
    · decide +kernel
    exact Frame.rfl' _
  · apply Frame.after (frame_monElemRead _ _)
    · decide +kernel
    exact Frame.rfl' _
  · apply Frame.after (frame_monElemWrite _ _)
    · decide +kernel
    exact Frame.rfl' _
  · apply Frame.after (frame_monMemRead _ _)
    · decide +kernel
    exact Frame.rfl' _
  · apply Frame.after (frame_monMemWrite _ _)
    · decide +kernel
    exact Frame.rfl' _
  · apply Frame.after (frame_monOtpRead _ _)
    · decide +kernel
    exact Frame.rfl' _
  · apply Frame.after (frame_monTraceRead _ _)
    · decide +kernel
    exact Frame.rfl' _
  · apply Frame.after (frame_monStim _ _)
    · decide +kernel
    exact Frame.rfl' _
  · apply Frame.after (frame_monFlashRead _ _)
    · decide +kernel
    exact Frame.rfl' _
  · apply Frame.after (frame_monFlashErase _ _)
    · decide +kernel
    exact Frame.rfl' _
  · apply Frame.after (frame_monFlashWrite _ _)
    · decide +kernel
    exact Frame.rfl' _
  · apply Frame.after (frame_monReset _ _)
    · decide +kernel
    exact Frame.rfl' _
  · exact Frame.rfl' _

theorem frame_serve (s : State) (cmd : Nat) (r : MonReq) :
    Frame [.mem, .pins, .regs, .plt, .phy, .link, .master, .rear, .way, .stack, .p57, .intake, .mix, .ech, .call, .mic, .wake, .hif, .sby, .tag, .cart, .toll, .pwr, .cfg, .dbg, .free] none s (State.serve s cmd r) := by
  unfold State.serve
  apply Frame.ite
  · exact Frame.rfl' _
  · apply Frame.ite
    · apply Frame.after (frame_sendReply _ _ _ _ _)
      · decide +kernel
      apply Frame.after (frame_bump _ _)
      · decide +kernel
      exact Frame.rfl' _
    · apply Frame.ite
      · apply Frame.after (frame_sendReply _ _ _ _ _)
        · decide +kernel
        apply Frame.ite
        · apply Frame.after (frame_wakeResident _)
          · decide +kernel
          apply Frame.after (frame_openSession _ _)
          · decide +kernel
          exact Frame.rfl' _
        · apply Frame.after (frame_openSession _ _)
          · decide +kernel
          exact Frame.rfl' _
      · apply Frame.ite
        · apply Frame.after (frame_monOp _ _ _)
          · decide +kernel
          apply Frame.ite
          · apply Frame.after (frame_wakeResident _)
            · decide +kernel
            apply Frame.after (frame_openSession _ _)
            · decide +kernel
            exact Frame.rfl' _
          · apply Frame.after (frame_openSession _ _)
            · decide +kernel
            exact Frame.rfl' _
        · apply Frame.ite
          · apply Frame.after (frame_makeReset _ _)
            · decide +kernel
            apply Frame.after (frame_monOp _ _ _)
            · decide +kernel
            apply Frame.ite
            · apply Frame.after (frame_wakeResident _)
              · decide +kernel
              apply Frame.after (frame_openSession _ _)
              · decide +kernel
              exact Frame.rfl' _
            · apply Frame.after (frame_openSession _ _)
              · decide +kernel
              exact Frame.rfl' _
          · apply Frame.after (frame_sendReply _ _ _ _ _)
            · decide +kernel
            apply Frame.after (frame_monOp _ _ _)
            · decide +kernel
            apply Frame.ite
            · apply Frame.after (frame_wakeResident _)
              · decide +kernel
              apply Frame.after (frame_openSession _ _)
              · decide +kernel
              exact Frame.rfl' _
            · apply Frame.after (frame_openSession _ _)
              · decide +kernel
              exact Frame.rfl' _

theorem frame_packetIn (s : State) (t : Transport) (b : List Byte) :
    Frame [.mem, .pins, .regs, .plt, .phy, .link, .master, .rear, .way, .stack, .p57, .intake, .mix, .ech, .call, .mic, .wake, .hif, .sby, .tag, .cart, .toll, .pwr, .cfg, .dbg, .free] none s (State.packetIn s t b) := by
  unfold State.packetIn
  try dsimp -proj only
  split
  · apply Frame.after (frame_serve _ _ _)
    · decide +kernel
    exact Frame.rfl' _
  · apply Frame.after (frame_bump _ _)
    · decide +kernel
    exact Frame.rfl' _

theorem frame_runMonitorCmd (s : State) (c : Nat) (j : Nat) (d : Desc) (packet : List Byte) :
    Frame [.mem, .pins, .regs, .plt, .phy, .link, .master, .rear, .way, .stack, .p57, .intake, .mix, .ech, .call, .mic, .wake, .hif, .sby, .tag, .cart, .toll, .pwr, .cfg, .dbg, .free] none s (State.runMonitorCmd s c j d packet) := by
  unfold State.runMonitorCmd
  apply Frame.ite
  · apply Frame.after (frame_finish _ _ _ _ _ _)
    · decide +kernel
    exact Frame.rfl' _
  · apply Frame.ite
    · apply Frame.after (frame_finish _ _ _ _ _ _)
      · decide +kernel
      apply Frame.after (frame_packetIn _ _ _)
      · decide +kernel
      exact Frame.rfl' _
    · apply Frame.after (frame_packetIn _ _ _)
      · decide +kernel
      apply Frame.after (frame_setPhase _ _ _ _)
      · decide +kernel
      exact Frame.rfl' _

theorem frame_keepReply (s : State) (session : Nat) (b : List Byte) :
    Frame [.dbg] (some []) s (State.keepReply s session b) := by
  unfold State.keepReply
  apply Frame.set_dbg
  · rfl
  exact Frame.rfl' _

theorem frame_monFragment (s : State) (src : Nat) (p : List Byte) :
    Frame [.mem, .pins, .regs, .plt, .phy, .link, .master, .rear, .way, .stack, .p57, .intake, .mix, .ech, .call, .mic, .wake, .hif, .sby, .tag, .cart, .toll, .pwr, .cfg, .dbg, .free] none s (State.monFragment s src p) := by
  unfold State.monFragment
  try dsimp -proj only
  split
  · apply Frame.set_dbg
    · rfl
    exact Frame.rfl' _
  · apply Frame.ite
    · apply Frame.ite
      · apply Frame.after (frame_keepReply _ _ _)
        · decide +kernel
        apply Frame.set_dbg
        · rfl
        exact Frame.rfl' _
      · apply Frame.after (frame_packetIn _ _ _)
        · decide +kernel
        apply Frame.set_dbg
        · rfl
        exact Frame.rfl' _
    · apply Frame.set_dbg
      · rfl
      apply Frame.set_dbg
      · rfl
      exact Frame.rfl' _

theorem frame_uartScan (s : State) (x1 : Nat) (x2 : List Byte) :
    Frame [.mem, .pins, .regs, .plt, .phy, .link, .master, .rear, .way, .stack, .p57, .intake, .mix, .ech, .call, .mic, .wake, .hif, .sby, .tag, .cart, .toll, .pwr, .cfg, .dbg, .free] none s (State.uartScan s x1 x2).1 := by
  induction x1 generalizing s x2 with
  | zero => exact Frame.rfl' s
  | succ n ih =>
    unfold State.uartScan
    split
    · exact Frame.rfl' s
    · dsimp -proj only
      split
      · exact Frame.rfl' s
      · split
        · exact ((frame_packetIn s _ _).mono (by decide +kernel)).trans (ih _ _)
        · exact ((frame_bump s _).mono (by decide +kernel)).trans (ih _ _)


end Sys2Proof.Laws
end

