-- ==== Sys2Proof/Laws/FramesLineTime.lean ====
section
/-! SUPPORT. What each operation of Machine/LineTime.lean may change, one lemma each: the parts of the state and, where they are few, the registers. -/

namespace Sys2Proof.Laws

open Sys2Proof.Machine

set_option Elab.async false

theorem frame_islandStep (s : State) :
    Frame [.regs, .hif] (some (evRegs ++ [0x2130])) s (State.islandStep s) := by
  unfold State.islandStep
  apply Frame.ite
  · exact Frame.rfl' _
  · apply Frame.foldl
    · apply Frame.after (frame_put _ _ _)
      · decide +kernel
      exact Frame.rfl' _
    · intro _ _ _
      apply Frame.after (frame_routeLost _ _ _ _)
      · decide +kernel
      assumption

theorem frame_checkEpochs (s : State) (x : Beacon) (since : Word) :
    Frame [.regs, .rear] (some [0x2118]) s (State.checkEpochs s x since) := by
  unfold State.checkEpochs
  apply Frame.ite
  · apply Frame.set_rear
    · rfl
    exact Frame.rfl' _
  · apply Frame.ite
    · apply Frame.after (frame_put _ _ _)
      · decide +kernel
      apply Frame.set_rear
      · rfl
      apply Frame.set_rear
      · rfl
      exact Frame.rfl' _
    · apply Frame.set_rear
      · rfl
      exact Frame.rfl' _

theorem frame_changeMaster (s : State) (x : Beacon) (old : Beacon) (rebased : Bool) :
    Frame [.regs, .link, .master, .rear, .way, .hif] (some (evRegs ++ [0x2084, 0x20C4, 0x2110])) s (State.changeMaster s x old rebased) := by
  unfold State.changeMaster
  apply Frame.ite
  · apply Frame.after (frame_statusDue _ _)
    · decide +kernel
    apply Frame.after (frame_raise _ _ _ _ _ _)
    · decide +kernel
    apply Frame.set_rear
    · rfl
    apply Frame.ite
    · apply Frame.foldl
      · exact Frame.rfl' _
      · intro _ _ _
        apply Frame.after (frame_routeLost _ _ _ _)
        · decide +kernel
        assumption
    · exact Frame.rfl' _
  · apply Frame.after (frame_put _ _ _)
    · decide +kernel
    apply Frame.after (frame_modLnk _ _ _)
    · decide +kernel
    apply Frame.after (frame_statusDue _ _)
    · decide +kernel
    apply Frame.after (frame_raise _ _ _ _ _ _)
    · decide +kernel
    apply Frame.set_rear
    · rfl
    apply Frame.ite
    · apply Frame.foldl
      · exact Frame.rfl' _
      · intro _ _ _
        apply Frame.after (frame_routeLost _ _ _ _)
        · decide +kernel
        assumption
    · exact Frame.rfl' _

theorem frame_dropUnits (s : State) :
    Frame [.regs, .plt] (some [0x7040]) s (State.dropUnits s) := by
  unfold State.dropUnits
  apply Frame.set_plt
  · rfl
  apply Frame.foldl
  · exact Frame.rfl' _
  · intro _ _ _
    apply Frame.after (frame_clrBit _ _ _)
    · decide +kernel
    apply Frame.after (frame_setBit _ _ _)
    · decide +kernel
    assumption

theorem frame_shiftCycles (s : State) (d : Dword) :
    Frame [.phy, .link, .way, .mix, .wake, .hif, .tag, .pwr, .cfg, .dbg] (some []) s (State.shiftCycles s d) := by
  unfold State.shiftCycles
  apply Frame.set_phy_link_way_mix_wake_hif_tag_pwr_cfg_dbg
  · rfl
  exact Frame.rfl' _

theorem frame_rebaseTo (s : State) (c : Word) :
    Frame [.regs, .plt, .phy, .link, .way, .mix, .wake, .hif, .tag, .pwr, .cfg, .dbg, .free] (some [0x1414, 0x4830, 0x6028, 0x6848, 0x7008, 0x7040]) s (State.rebaseTo s c) := by
  unfold State.rebaseTo
  apply Frame.after (frame_historyLost _)
  · decide +kernel
  apply Frame.after (frame_moveGroups _)
  · decide +kernel
  apply Frame.after (frame_finishEvery _ _ _)
  · decide +kernel
  apply Frame.after (frame_wrapInc _ _)
  · decide +kernel
  apply Frame.set_plt
  · rfl
  apply Frame.after (frame_dropUnits _)
  · decide +kernel
  apply Frame.after (frame_shiftCycles _ _)
  · decide +kernel
  exact Frame.rfl' _

theorem frame_adoptCycle (s : State) (x : Beacon) (j : Placing) :
    Frame [.regs, .plt, .phy, .link, .master, .way, .mix, .wake, .hif, .tag, .pwr, .cfg, .dbg, .free] (some (evRegs ++ [0x1414, 0x2080, 0x2084, 0x20C0, 0x20C4, 0x4830, 0x6028, 0x6848, 0x7008, 0x7040])) s (State.adoptCycle s x j) := by
  unfold State.adoptCycle
  apply Frame.ite
  · apply Frame.ite
    · apply Frame.after (frame_giveUpAddress _ _ _)
      · decide +kernel
      apply Frame.after (frame_rebaseTo _ _)
      · decide +kernel
      exact Frame.rfl' _
    · apply Frame.after (frame_rebaseTo _ _)
      · decide +kernel
      exact Frame.rfl' _
  · apply Frame.set_plt
    · rfl
    exact Frame.rfl' _

theorem frame_startDue (s : State) (c : Nat) (j : Nat) (d : Desc) (buf : List Byte) :
    Frame [.regs, .link, .master, .way, .mix, .call, .wake, .hif, .cfg, .dbg] none s (State.startDue s c j d buf) := by
  unfold State.startDue
  try dsimp -proj only
  split
  · apply Frame.after (frame_doNop _ _ _)
    · decide +kernel
    exact Frame.rfl' _
  · apply Frame.after (frame_doListenSet _ _ _ _ _)
    · decide +kernel
    exact Frame.rfl' _
  · apply Frame.after (frame_doTalkOpen _ _ _ _)
    · decide +kernel
    exact Frame.rfl' _
  · apply Frame.after (frame_doTalkClose _ _ _ _)
    · decide +kernel
    exact Frame.rfl' _
  · apply Frame.after (frame_doPrecedenceSet _ _ _ _ _)
    · decide +kernel
    exact Frame.rfl' _
  · apply Frame.after (frame_doRoomSet _ _ _ _ _)
    · decide +kernel
    exact Frame.rfl' _
  · apply Frame.after (frame_doCallSend _ _ _ _)
    · decide +kernel
    exact Frame.rfl' _
  · apply Frame.after (frame_doLedgerSend _ _ _ _ _)
    · decide +kernel
    exact Frame.rfl' _
  · apply Frame.after (frame_doConfigApply _ _ _ _ _)
    · decide +kernel
    exact Frame.rfl' _
  · exact Frame.rfl' _

theorem frame_endHoldover (s : State) :
    Frame [.regs, .plt] (some [0x7008]) s (State.endHoldover s) := by
  unfold State.endHoldover
  apply Frame.set_plt
  · rfl
  apply Frame.after (frame_wr _ _ _)
  · decide +kernel
  apply Frame.after (frame_put _ _ _)
  · decide +kernel
  apply Frame.after (frame_put _ _ _)
  · decide +kernel
  exact Frame.rfl' _

theorem frame_setBRole (s : State) (n : Nat) :
    Frame [.regs, .hif] (some (evRegs ++ [0x2130])) s (State.setBRole s n) := by
  unfold State.setBRole
  apply Frame.ite
  · exact Frame.rfl' _
  · apply Frame.ite
    · apply Frame.after (frame_routeLost _ _ _ _)
      · decide +kernel
      apply Frame.after (frame_wr _ _ _)
      · decide +kernel
      exact Frame.rfl' _
    · apply Frame.ite
      · apply Frame.after (frame_routeLost _ _ _ _)
        · decide +kernel
        apply Frame.after (frame_wr _ _ _)
        · decide +kernel
        exact Frame.rfl' _
      · apply Frame.after (frame_wr _ _ _)
        · decide +kernel
        exact Frame.rfl' _

theorem frame_stopB (s : State) (n : Nat) :
    Frame [.regs, .link, .master, .way, .hif] (some (evRegs ++ [0x2084, 0x20C4, 0x2130])) s (State.stopB s n) := by
  unfold State.stopB
  apply Frame.set_way
  · rfl
  apply Frame.after (frame_put _ _ _)
  · decide +kernel
  apply Frame.after (frame_setBRole _ _)
  · decide +kernel
  apply Frame.foldl
  · exact Frame.rfl' _
  · intro _ _ _
    apply Frame.after (frame_dropTalk _ _ _)
    · decide +kernel
    assumption

theorem frame_takeAddr (s : State) (p : Port) :
    Frame [.regs] (some [0x2080, 0x20C0]) s (State.takeAddr s p) := by
  unfold State.takeAddr
  apply Frame.ite
  · exact Frame.rfl' _
  · apply Frame.after (frame_wr_lk _ _ _ _)
    · decide +kernel
    apply Frame.after (frame_wr_lk _ _ _ _)
    · decide +kernel
    apply Frame.after (frame_put_lk _ _ _ _)
    · decide +kernel
    exact Frame.rfl' _

theorem frame_enterSelf (s : State) (p : Port) :
    Frame [.regs, .master, .way, .p57, .intake] (some [0x2080, 0x20C0, 0x210C, 0x2118]) s (State.enterSelf s p) := by
  unfold State.enterSelf
  try dsimp -proj only
  split
  · apply Frame.after (frame_showAdmitted _ _)
    · decide +kernel
    apply Frame.after (frame_ownClass _ _)
    · decide +kernel
    apply Frame.after (frame_modMst _ _ _)
    · decide +kernel
    apply Frame.after (frame_takeAddr _ _)
    · decide +kernel
    exact Frame.rfl' _
  · apply Frame.after (frame_modMst _ _ _)
    · decide +kernel
    apply Frame.after (frame_takeAddr _ _)
    · decide +kernel
    exact Frame.rfl' _

theorem frame_postAudit (s : State) (p : Port) (part : Nat) (demand : Bool) (empty : Bool) :
    Frame [.regs, .link, .master, .way] (some [0x2084, 0x20C4]) s (State.postAudit s p part demand empty) := by
  unfold State.postAudit
  apply Frame.after (frame_post _ _ _)
  · decide +kernel
  exact Frame.rfl' _

theorem frame_coldStart (s : State) (p : Port) :
    Frame [.regs, .link, .master, .way] (some [0x2084, 0x20C4, 0x2118]) s (State.coldStart s p) := by
  unfold State.coldStart
  apply Frame.after (frame_bump _ _)
  · decide +kernel
  apply Frame.after (frame_post _ _ _)
  · decide +kernel
  apply Frame.after (frame_postAudit _ _ _ _ _)
  · decide +kernel
  apply Frame.after (frame_postAudit _ _ _ _ _)
  · decide +kernel
  exact Frame.rfl' _

theorem frame_startB (s : State) :
    Frame [.regs, .link, .master, .way, .p57, .intake, .hif] (some (evRegs ++ [0x2080, 0x2084, 0x20C0, 0x20C4, 0x210C, 0x2118, 0x2130])) s (State.startB s) := by
  unfold State.startB
  try dsimp -proj only
  split
  · exact Frame.rfl' _
  · split
    · apply Frame.ite
      · apply Frame.after (frame_coldStart _ _)
        · decide +kernel
        apply Frame.after (frame_enterSelf _ _)
        · decide +kernel
        apply Frame.after (frame_setBRole _ _)
        · decide +kernel
        apply Frame.set_way
        · rfl
        exact Frame.rfl' _
      · apply Frame.after (frame_enterSelf _ _)
        · decide +kernel
        apply Frame.after (frame_setBRole _ _)
        · decide +kernel
        apply Frame.set_way
        · rfl
        exact Frame.rfl' _
    · apply Frame.after (frame_enterSelf _ _)
      · decide +kernel
      apply Frame.after (frame_setBRole _ _)
      · decide +kernel
      apply Frame.set_way
      · rfl
      exact Frame.rfl' _

theorem frame_wayStep (s : State) (x : Beacon) :
    Frame [.regs, .link, .master, .way, .p57, .intake, .hif] (some (evRegs ++ [0x2080, 0x2084, 0x20C0, 0x20C4, 0x210C, 0x2118, 0x2130])) s (State.wayStep s x) := by
  unfold State.wayStep
  apply Frame.ite
  · apply Frame.ite
    · apply Frame.after (frame_stopB _ _)
      · decide +kernel
      exact Frame.rfl' _
    · exact Frame.rfl' _
  · apply Frame.ite
    · apply Frame.ite
      · apply Frame.after (frame_stopB _ _)
        · decide +kernel
        exact Frame.rfl' _
      · apply Frame.after (frame_setBRole _ _)
        · decide +kernel
        exact Frame.rfl' _
    · apply Frame.ite
      · apply Frame.set_way
        · rfl
        apply Frame.after (frame_put _ _ _)
        · decide +kernel
        exact Frame.rfl' _
      · apply Frame.ite
        · exact Frame.rfl' _
        · apply Frame.ite
          · apply Frame.after (frame_startB _)
            · decide +kernel
            exact Frame.rfl' _
          · exact Frame.rfl' _

theorem frame_countMismatch (s : State) (d : Int) :
    Frame [.regs] (some [0x2090]) s (State.countMismatch s d) := by
  unfold State.countMismatch
  apply Frame.ite
  · apply Frame.after (frame_bump _ _)
    · decide +kernel
    exact Frame.rfl' _
  · apply Frame.ite
    · apply Frame.after (frame_bump _ _)
      · decide +kernel
      exact Frame.rfl' _
    · exact Frame.rfl' _

theorem frame_mismatchStep (s : State) (j : Placing) (d : Int) :
    Frame [.regs, .plt, .link, .master, .way, .hif] (some (evRegs ++ [0x2084, 0x2090, 0x2094, 0x20C4, 0x7008])) s (State.mismatchStep s j d) := by
  unfold State.mismatchStep
  apply Frame.ite
  · apply Frame.set_plt
    · rfl
    exact Frame.rfl' _
  · apply Frame.ite
    · apply Frame.set_plt
      · rfl
      apply Frame.after (frame_countMismatch _ _)
      · decide +kernel
      exact Frame.rfl' _
    · apply Frame.set_plt
      · rfl
      apply Frame.after (frame_bump _ _)
      · decide +kernel
      apply Frame.after (frame_put _ _ _)
      · decide +kernel
      apply Frame.after (frame_loseAll _ _ _)
      · decide +kernel
      apply Frame.after (frame_raise _ _ _ _ _ _)
      · decide +kernel
      apply Frame.after (frame_countMismatch _ _)
      · decide +kernel
      exact Frame.rfl' _

theorem frame_lockStep (s : State) (j : Placing) :
    Frame [.regs, .plt] (some [0x7008]) s (State.lockStep s j) := by
  unfold State.lockStep
  apply Frame.ite
  · apply Frame.ite
    · apply Frame.after (frame_put _ _ _)
      · decide +kernel
      exact Frame.rfl' _
    · exact Frame.rfl' _
  · apply Frame.ite
    · apply Frame.after (frame_put _ _ _)
      · decide +kernel
      apply Frame.after (frame_put _ _ _)
      · decide +kernel
      apply Frame.set_plt
      · rfl
      apply Frame.ite
      · apply Frame.after (frame_put _ _ _)
        · decide +kernel
        exact Frame.rfl' _
      · exact Frame.rfl' _
    · apply Frame.set_plt
      · rfl
      apply Frame.ite
      · apply Frame.after (frame_put _ _ _)
        · decide +kernel
        exact Frame.rfl' _
      · exact Frame.rfl' _

theorem frame_followRole (s : State) (x : Beacon) :
    Frame [.regs] (some [0x2110]) s (State.followRole s x) := by
  unfold State.followRole
  apply Frame.after (frame_wr _ _ _)
  · decide +kernel
  exact Frame.rfl' _

theorem frame_beaconOnB (s : State) (b : BeaconBurst) :
    Frame [.regs, .link, .master, .way, .hif, .dbg] (some (evRegs ++ [0x2040, 0x2050, 0x2084, 0x20C4, 0x2130, 0x6028])) s (State.beaconOnB s b) := by
  unfold State.beaconOnB
  try dsimp -proj only
  apply Frame.ite
  · apply Frame.after (frame_stim _ _ _)
    · decide +kernel
    apply Frame.after (frame_bump_rx _ _ _)
    · decide +kernel
    exact Frame.rfl' _
  · apply Frame.ite
    · split
      · apply Frame.ite
        · apply Frame.after (frame_stopB _ _)
          · decide +kernel
          apply Frame.set_way
          · rfl
          exact Frame.rfl' _
        · apply Frame.set_way
          · rfl
          exact Frame.rfl' _
      · apply Frame.set_way
        · rfl
        exact Frame.rfl' _
    · apply Frame.ite
      · apply Frame.after (frame_setBRole _ _)
        · decide +kernel
        apply Frame.set_way
        · rfl
        exact Frame.rfl' _
      · apply Frame.set_way
        · rfl
        exact Frame.rfl' _

theorem frame_followState (s : State) (x : Beacon) (wasDown : Bool) :
    Frame [.regs, .hif] (some (evRegs ++ [0x2084, 0x20C4])) s (State.followState s x wasDown) := by
  unfold State.followState
  apply Frame.ite
  · exact Frame.rfl' _
  · apply Frame.ite
    · apply Frame.after (frame_raise _ _ _ _ _ _)
      · decide +kernel
      exact Frame.rfl' _
    · apply Frame.after (frame_setLineState _ _ _)
      · decide +kernel
      exact Frame.rfl' _

theorem frame_joinCycle (s : State) (x : Beacon) :
    Frame [.link, .way] (some []) s (State.joinCycle s x) := by
  unfold State.joinCycle
  apply Frame.ite
  · apply Frame.after (frame_modLnk _ _ _)
    · decide +kernel
    exact Frame.rfl' _
  · exact Frame.rfl' _

theorem frame_acceptBeacon (s : State) (x : Beacon) (d : Int) :
    Frame [.regs, .plt, .phy, .link, .master, .rear, .way, .p57, .intake, .mix, .wake, .hif, .tag, .pwr, .cfg, .dbg, .free] (some (evRegs ++ [0x1414, 0x2080, 0x2084, 0x2090, 0x2094, 0x20C0, 0x20C4, 0x210C, 0x2110, 0x2118, 0x2130, 0x4830, 0x6028, 0x6848, 0x7008, 0x700C, 0x7040])) s (State.acceptBeacon s x d) := by
  unfold State.acceptBeacon
  try dsimp -proj only
  apply Frame.after (frame_wayStep _ _)
  · decide +kernel
  apply Frame.after (frame_joinCycle _ _)
  · decide +kernel
  apply Frame.ite
  · apply Frame.after (frame_modLnk _ _ _)
    · decide +kernel
    split
    · apply Frame.ite
      · apply Frame.after (frame_changeMaster _ _ _ _)
        · decide +kernel
        apply Frame.after (frame_checkEpochs _ _ _)
        · decide +kernel
        apply Frame.after (frame_followState _ _ _)
        · decide +kernel
        apply Frame.after (frame_followRole _ _)
        · decide +kernel
        apply Frame.after (frame_wr _ _ _)
        · decide +kernel
        apply Frame.after (frame_takeFree _ _)
        · decide +kernel
        apply Frame.after (frame_wr _ _ _)
        · decide +kernel
        apply Frame.set_plt
        · rfl
        apply Frame.after (frame_modLnk _ _ _)
        · decide +kernel
        apply Frame.after (frame_endHoldover _)
        · decide +kernel
        apply Frame.after (frame_lockStep _ _)
        · decide +kernel
        apply Frame.after (frame_adoptCycle _ _ _)
        · decide +kernel
        apply Frame.after (frame_mismatchStep _ _ _)
        · decide +kernel
        exact Frame.rfl' _
      · apply Frame.after (frame_checkEpochs _ _ _)
        · decide +kernel
        apply Frame.after (frame_followState _ _ _)
        · decide +kernel
        apply Frame.after (frame_followRole _ _)
        · decide +kernel
        apply Frame.after (frame_wr _ _ _)
        · decide +kernel
        apply Frame.after (frame_takeFree _ _)
        · decide +kernel
        apply Frame.after (frame_wr _ _ _)
        · decide +kernel
        apply Frame.set_plt
        · rfl
        apply Frame.after (frame_modLnk _ _ _)
        · decide +kernel
        apply Frame.after (frame_endHoldover _)
        · decide +kernel
        apply Frame.after (frame_lockStep _ _)
        · decide +kernel
        apply Frame.after (frame_adoptCycle _ _ _)
        · decide +kernel
        apply Frame.after (frame_mismatchStep _ _ _)
        · decide +kernel
        exact Frame.rfl' _
    · apply Frame.after (frame_checkEpochs _ _ _)
      · decide +kernel
      apply Frame.after (frame_followState _ _ _)
      · decide +kernel
      apply Frame.after (frame_followRole _ _)
      · decide +kernel
      apply Frame.after (frame_wr _ _ _)
      · decide +kernel
      apply Frame.after (frame_takeFree _ _)
      · decide +kernel
      apply Frame.after (frame_wr _ _ _)
      · decide +kernel
      apply Frame.set_plt
      · rfl
      apply Frame.after (frame_modLnk _ _ _)
      · decide +kernel
      apply Frame.after (frame_endHoldover _)
      · decide +kernel
      apply Frame.after (frame_lockStep _ _)
      · decide +kernel
      apply Frame.after (frame_adoptCycle _ _ _)
      · decide +kernel
      apply Frame.after (frame_mismatchStep _ _ _)
      · decide +kernel
      exact Frame.rfl' _
  · split
    · apply Frame.ite
      · apply Frame.after (frame_changeMaster _ _ _ _)
        · decide +kernel
        apply Frame.after (frame_checkEpochs _ _ _)
        · decide +kernel
        apply Frame.after (frame_followState _ _ _)
        · decide +kernel
        apply Frame.after (frame_followRole _ _)
        · decide +kernel
        apply Frame.after (frame_wr _ _ _)
        · decide +kernel
        apply Frame.after (frame_takeFree _ _)
        · decide +kernel
        apply Frame.after (frame_wr _ _ _)
        · decide +kernel
        apply Frame.set_plt
        · rfl
        apply Frame.after (frame_modLnk _ _ _)
        · decide +kernel
        apply Frame.after (frame_endHoldover _)
        · decide +kernel
        apply Frame.after (frame_lockStep _ _)
        · decide +kernel
        apply Frame.after (frame_adoptCycle _ _ _)
        · decide +kernel
        apply Frame.after (frame_mismatchStep _ _ _)
        · decide +kernel
        exact Frame.rfl' _
      · apply Frame.after (frame_checkEpochs _ _ _)
        · decide +kernel
        apply Frame.after (frame_followState _ _ _)
        · decide +kernel
        apply Frame.after (frame_followRole _ _)
        · decide +kernel
        apply Frame.after (frame_wr _ _ _)
        · decide +kernel
        apply Frame.after (frame_takeFree _ _)
        · decide +kernel
        apply Frame.after (frame_wr _ _ _)
        · decide +kernel
        apply Frame.set_plt
        · rfl
        apply Frame.after (frame_modLnk _ _ _)
        · decide +kernel
        apply Frame.after (frame_endHoldover _)
        · decide +kernel
        apply Frame.after (frame_lockStep _ _)
        · decide +kernel
        apply Frame.after (frame_adoptCycle _ _ _)
        · decide +kernel
        apply Frame.after (frame_mismatchStep _ _ _)
        · decide +kernel
        exact Frame.rfl' _
    · apply Frame.after (frame_checkEpochs _ _ _)
      · decide +kernel
      apply Frame.after (frame_followState _ _ _)
      · decide +kernel
      apply Frame.after (frame_followRole _ _)
      · decide +kernel
      apply Frame.after (frame_wr _ _ _)
      · decide +kernel
      apply Frame.after (frame_takeFree _ _)
      · decide +kernel
      apply Frame.after (frame_wr _ _ _)
      · decide +kernel
      apply Frame.set_plt
      · rfl
      apply Frame.after (frame_modLnk _ _ _)
      · decide +kernel
      apply Frame.after (frame_endHoldover _)
      · decide +kernel
      apply Frame.after (frame_lockStep _ _)
      · decide +kernel
      apply Frame.after (frame_adoptCycle _ _ _)
      · decide +kernel
      apply Frame.after (frame_mismatchStep _ _ _)
      · decide +kernel
      exact Frame.rfl' _

theorem frame_beaconOnA (s : State) (b : BeaconBurst) :
    Frame [.regs, .plt, .phy, .link, .master, .rear, .way, .p57, .intake, .mix, .wake, .hif, .tag, .pwr, .cfg, .dbg, .free] (some (evRegs ++ [0x1414, 0x2040, 0x2080, 0x2084, 0x2090, 0x2094, 0x20C0, 0x20C4, 0x210C, 0x2110, 0x2118, 0x2130, 0x4830, 0x6028, 0x6848, 0x7008, 0x700C, 0x7040])) s (State.beaconOnA s b) := by
  unfold State.beaconOnA
  try dsimp -proj only
  apply Frame.ite
  · apply Frame.after (frame_stim _ _ _)
    · decide +kernel
    apply Frame.after (frame_bump _ _)
    · decide +kernel
    apply Frame.ite
    · apply Frame.set_plt
      · rfl
      exact Frame.rfl' _
    · exact Frame.rfl' _
  · apply Frame.ite
    · split
      · apply Frame.ite
        · apply Frame.after (frame_acceptBeacon _ _ _)
          · decide +kernel
          apply Frame.after (frame_stepDown _ _)
          · decide +kernel
          apply Frame.ite
          · apply Frame.set_plt
            · rfl
            exact Frame.rfl' _
          · exact Frame.rfl' _
        · apply Frame.ite
          · apply Frame.set_plt
            · rfl
            exact Frame.rfl' _
          · exact Frame.rfl' _
      · apply Frame.after (frame_acceptBeacon _ _ _)
        · decide +kernel
        apply Frame.after (frame_stepDown _ _)
        · decide +kernel
        apply Frame.ite
        · apply Frame.set_plt
          · rfl
          exact Frame.rfl' _
        · exact Frame.rfl' _
    · apply Frame.ite
      · apply Frame.ite
        · apply Frame.set_plt
          · rfl
          exact Frame.rfl' _
        · exact Frame.rfl' _
      · apply Frame.after (frame_acceptBeacon _ _ _)
        · decide +kernel
        apply Frame.ite
        · apply Frame.after (frame_stepDown _ _)
          · decide +kernel
          apply Frame.ite
          · apply Frame.set_plt
            · rfl
            exact Frame.rfl' _
          · exact Frame.rfl' _
        · apply Frame.ite
          · apply Frame.set_plt
            · rfl
            exact Frame.rfl' _
          · exact Frame.rfl' _

end Sys2Proof.Laws
end

