-- ==== Sys2Proof/Laws/FramesMastery.lean ====
section
/-! SUPPORT. What each operation of Machine/Mastery.lean may change, one lemma each: the parts of the state and, where they are few, the registers. -/

namespace Sys2Proof.Laws

open Sys2Proof.Machine

set_option Elab.async false

theorem frame_pollNode (s : State) (p : Port) (a : Nat) (reason : Nat) :
    Frame [.regs, .link, .master, .way] (some [0x2084, 0x20C4]) s (State.pollNode s p a reason) := by
  unfold State.pollNode
  try dsimp -proj only
  split
  · exact Frame.rfl' _
  · apply Frame.ite
    · exact Frame.rfl' _
    · apply Frame.after (frame_post _ _ _)
      · decide +kernel
      apply Frame.after (frame_modMst _ _ _)
      · decide +kernel
      exact Frame.rfl' _

theorem frame_ownRouteEnds (s : State) (p : Port) (l : MLease) :
    Frame [.regs, .hif] (some evRegs) s (State.ownRouteEnds s p l) := by
  unfold State.ownRouteEnds
  apply Frame.ite
  · apply Frame.after (frame_routeLost _ _ _ _)
    · decide +kernel
    exact Frame.rfl' _
  · exact Frame.rfl' _

theorem frame_ownTime (s : State) (p : Port) (b : Beacon) :
    Frame [.regs, .plt, .link, .master, .way, .p57, .intake, .hif] (some (evRegs ++ [0x2080, 0x2084, 0x20C0, 0x20C4, 0x210C, 0x2110, 0x2118, 0x2130, 0x7008])) s (State.ownTime s p b) := by
  unfold State.ownTime
  try dsimp -proj only
  split
  · apply Frame.after (frame_setLineState _ _ _)
    · decide +kernel
    apply Frame.after (frame_modLnk _ _ _)
    · decide +kernel
    exact Frame.rfl' _
  · apply Frame.after (frame_wayStep _ _)
    · decide +kernel
    apply Frame.ite
    · apply Frame.after (frame_put _ _ _)
      · decide +kernel
      apply Frame.after (frame_wr _ _ _)
      · decide +kernel
      apply Frame.after (frame_endHoldover _)
      · decide +kernel
      apply Frame.after (frame_put _ _ _)
      · decide +kernel
      apply Frame.after (frame_put _ _ _)
      · decide +kernel
      apply Frame.after (frame_setLineState _ _ _)
      · decide +kernel
      apply Frame.after (frame_modLnk _ _ _)
      · decide +kernel
      exact Frame.rfl' _
    · apply Frame.after (frame_wr _ _ _)
      · decide +kernel
      apply Frame.after (frame_endHoldover _)
      · decide +kernel
      apply Frame.after (frame_put _ _ _)
      · decide +kernel
      apply Frame.after (frame_put _ _ _)
      · decide +kernel
      apply Frame.after (frame_setLineState _ _ _)
      · decide +kernel
      apply Frame.after (frame_modLnk _ _ _)
      · decide +kernel
      exact Frame.rfl' _

theorem frame_collide (s : State) (p : Port) (draw : Nat) :
    Frame [.regs, .link, .master, .rear, .way] (some [0x2110, 0x2130]) s (State.collide s p draw) := by
  unfold State.collide
  apply Frame.ite
  · apply Frame.set_rear
    · rfl
    apply Frame.after (frame_modLnk _ _ _)
    · decide +kernel
    apply Frame.after (frame_put _ _ _)
    · decide +kernel
    apply Frame.after (frame_wr _ _ _)
    · decide +kernel
    apply Frame.after (frame_stepDown _ _)
    · decide +kernel
    apply Frame.after (frame_bump _ _)
    · decide +kernel
    exact Frame.rfl' _
  · apply Frame.ite
    · apply Frame.ite
      · apply Frame.after (frame_bump _ _)
        · decide +kernel
        exact Frame.rfl' _
      · apply Frame.after (frame_modMst _ _ _)
        · decide +kernel
        apply Frame.after (frame_bump _ _)
        · decide +kernel
        exact Frame.rfl' _
    · apply Frame.ite
      · apply Frame.ite
        · apply Frame.after (frame_stepDown _ _)
          · decide +kernel
          apply Frame.after (frame_bump _ _)
          · decide +kernel
          exact Frame.rfl' _
        · apply Frame.after (frame_modMst _ _ _)
          · decide +kernel
          apply Frame.after (frame_bump _ _)
          · decide +kernel
          exact Frame.rfl' _
      · apply Frame.after (frame_modMst _ _ _)
        · decide +kernel
        apply Frame.after (frame_wr _ _ _)
        · decide +kernel
        apply Frame.after (frame_stepDown _ _)
        · decide +kernel
        apply Frame.after (frame_bump _ _)
        · decide +kernel
        exact Frame.rfl' _

theorem frame_removeNode (s : State) (p : Port) (r : MasterRow) :
    Frame [.regs, .phy, .link, .master, .way, .p57, .intake] (some [0x2084, 0x20C4, 0x210C, 0x2118]) s (State.removeNode s p r) := by
  unfold State.removeNode
  apply Frame.after (frame_nameRear _ _)
  · decide +kernel
  apply Frame.after (frame_offerClasses _ _)
  · decide +kernel
  apply Frame.after (frame_untrain _ _ _)
  · decide +kernel
  apply Frame.after (frame_rosterDelta _ _ _)
  · decide +kernel
  apply Frame.after (frame_modMst _ _ _)
  · decide +kernel
  exact Frame.rfl' _

end Sys2Proof.Laws
end

