-- ==== Sys2Proof/Laws/FramesCascade.lean ====
section
/-! SUPPORT. What each operation of Machine/Cascade.lean may change, one lemma each: the parts of the state and, where they are few, the registers. -/

namespace Sys2Proof.Laws

open Sys2Proof.Machine

set_option Elab.async false

theorem frame_wayShift (s : State) :
    Frame [.way] (some []) s (State.wayShift s) := by
  unfold State.wayShift
  apply Frame.set_way
  · rfl
  exact Frame.rfl' _

theorem frame_freeOwn (s : State) (p : Port) (ks : List Nat) :
    Frame [.regs, .link, .master, .way] (some [0x2084, 0x20C4]) s (State.freeOwn s p ks) := by
  unfold State.freeOwn
  apply Frame.after (frame_leaseChange _ _ _)
  · decide +kernel
  apply Frame.after (frame_modLnk _ _ _)
  · decide +kernel
  exact Frame.rfl' _

theorem frame_releaseProxy (s : State) (x : Proxy) (ks : List Nat) :
    Frame [.regs, .link, .master, .way] (some [0x2084, 0x20C4]) s (State.releaseProxy s x ks) := by
  unfold State.releaseProxy
  apply Frame.ite
  · exact Frame.rfl' _
  · apply Frame.ite
    · apply Frame.after (frame_freeOwn _ _ _)
      · decide +kernel
      exact Frame.rfl' _
    · apply Frame.after (frame_queueRelease _ _ _ _)
      · decide +kernel
      exact Frame.rfl' _

theorem frame_endProxy (s : State) (x : Proxy) :
    Frame [.regs, .link, .master, .way] (some [0x2084, 0x20C4]) s (State.endProxy s x) := by
  unfold State.endProxy
  apply Frame.after (frame_cancelReqs _ _ _)
  · decide +kernel
  apply Frame.after (frame_releaseProxy _ _ _)
  · decide +kernel
  apply Frame.set_way
  · rfl
  exact Frame.rfl' _

theorem frame_startProxy (s : State) (p : Port) (row : LeaseRow) (live : List Nat) (cus : List Nat) :
    Frame [.regs, .link, .master, .way] (some [0x2084, 0x20C4]) s (State.startProxy s p row live cus) := by
  unfold State.startProxy
  apply Frame.after (frame_requestLease _ _ _ _ _ _ _ _)
  · decide +kernel
  apply Frame.set_way
  · rfl
  exact Frame.rfl' _

theorem frame_coverSlot (s : State) (p : Port) (rows : List (Nat × LeaseRow)) (k : Nat) (row : LeaseRow) :
    Frame [.regs, .link, .master, .way] (some [0x2084, 0x20C4]) s (State.coverSlot s p rows k row) := by
  unfold State.coverSlot
  apply Frame.ite
  · exact Frame.rfl' _
  · apply Frame.after (frame_startProxy _ _ _ _ _)
    · decide +kernel
    exact Frame.rfl' _

theorem frame_followProxy (s : State) (rows : List (Nat × LeaseRow)) (x : Proxy) :
    Frame [.regs, .link, .master, .way] (some [0x2084, 0x20C4]) s (State.followProxy s rows x) := by
  unfold State.followProxy
  apply Frame.ite
  · apply Frame.after (frame_endProxy _ _)
    · decide +kernel
    exact Frame.rfl' _
  · apply Frame.ite
    · exact Frame.rfl' _
    · apply Frame.after (frame_releaseProxy _ _ _)
      · decide +kernel
      apply Frame.set_way
      · rfl
      exact Frame.rfl' _

theorem frame_proxyPort (s : State) (p : Port) :
    Frame [.regs, .link, .master, .way] (some [0x2084, 0x20C4]) s (State.proxyPort s p) := by
  unfold State.proxyPort
  apply Frame.ite
  · apply Frame.foldl
    · exact Frame.rfl' _
    · intro _ _ _
      apply Frame.after (frame_endProxy _ _)
      · decide +kernel
      assumption
  · apply Frame.foldl
    · apply Frame.foldl
      · exact Frame.rfl' _
      · intro _ _ _
        apply Frame.after (frame_followProxy _ _ _)
        · decide +kernel
        assumption
    · intro _ _ _
      apply Frame.after (frame_coverSlot _ _ _ _ _)
      · decide +kernel
      assumption

theorem frame_proxyUpdate (s : State) :
    Frame [.regs, .link, .master, .way] (some [0x2084, 0x20C4]) s (State.proxyUpdate s) := by
  unfold State.proxyUpdate
  apply Frame.ite
  · apply Frame.after (frame_proxyPort _ _)
    · decide +kernel
    apply Frame.after (frame_proxyPort _ _)
    · decide +kernel
    exact Frame.rfl' _
  · exact Frame.rfl' _

theorem frame_forwardCall (s : State) (p : Port) (payload : List Byte) :
    Frame [.regs, .link, .master, .way, .call] (some [0x2084, 0x20C4]) s (State.forwardCall s p payload) := by
  unfold State.forwardCall
  apply Frame.ite
  · exact Frame.rfl' _
  · apply Frame.after (frame_post _ _ _)
    · decide +kernel
    apply Frame.set_way_call
    · rfl
    exact Frame.rfl' _

theorem frame_composeForward (s : State) (src : Port) (caller : Nat) (d : List Byte) :
    Frame [.regs, .link, .master, .way] (some [0x2084, 0x20C4]) s (State.composeForward s src caller d).1 := by
  unfold State.composeForward
  try dsimp -proj only
  split
  · apply Frame.ite
    · apply Frame.after (frame_releaseProxy _ _ _)
      · decide +kernel
      exact Frame.rfl' _
    · exact Frame.rfl' _
  · exact Frame.rfl' _

theorem frame_memberGone (s : State) (n : Nat) :
    Frame [.regs, .stack, .hif, .dbg] (some [0x1414, 0x6028, 0x6848, 0x7804]) s (State.memberGone s n) := by
  unfold State.memberGone
  apply Frame.after (frame_finishEvery _ _ _)
  · decide +kernel
  apply Frame.set_stack
  · rfl
  apply Frame.after (frame_clrBit _ _ _)
  · decide +kernel
  exact Frame.rfl' _

theorem frame_stackEntry (s : State) (n : Nat) (e : StackEntry) :
    Frame [.regs, .hif, .dbg] (some (evRegs ++ [0x1414, 0x6028, 0x6848])) s (State.stackEntry s n e) := by
  unfold State.stackEntry
  try dsimp -proj only
  apply Frame.ite
  · exact Frame.rfl' _
  · apply Frame.ite
    · apply Frame.after (frame_eventTo _ _ _)
      · decide +kernel
      exact Frame.rfl' _
    · split
      · apply Frame.ite
        · apply Frame.after (frame_modClient _ _ _)
          · decide +kernel
          exact Frame.rfl' _
        · apply Frame.after (frame_abortRun _ _ _ _)
          · decide +kernel
          apply Frame.after (frame_modClient _ _ _)
          · decide +kernel
          exact Frame.rfl' _
      · exact Frame.rfl' _

theorem frame_keepSlot (s : State) (k : Nat) (x : RxSlot) :
    Frame [.way] (some []) s (State.keepSlot s k x) := by
  unfold State.keepSlot
  try dsimp -proj only
  split
  · apply Frame.set_way
    · rfl
    exact Frame.rfl' _
  · apply Frame.set_way
    · rfl
    exact Frame.rfl' _

theorem frame_forwardAck (s : State) (p : Port) (d : List Byte) :
    Frame [.regs, .link, .master, .way] (some [0x2084, 0x20C4]) s (State.forwardAck s p d) := by
  unfold State.forwardAck
  try dsimp -proj only
  apply Frame.ite
  · exact Frame.rfl' _
  · split
    · apply Frame.after (frame_post _ _ _)
      · decide +kernel
      exact Frame.rfl' _
    · exact Frame.rfl' _

end Sys2Proof.Laws
end

