-- ==== Sys2Proof/Laws/FramesLineRx.lean ====
section
/-! SUPPORT. What each operation of Machine/LineRx.lean may change, one lemma each: the parts of the state and, where they are few, the registers. -/

namespace Sys2Proof.Laws

open Sys2Proof.Machine

set_option Elab.async false

theorem frame_admitNode (s : State) (p : Port) (old : Option MasterRow) (a : Nat) (uid : Uid) (nonce : Nat) (rtd : Nat) :
    Frame [.regs, .link, .master, .way] (some [0x2084, 0x20C4, 0x210C, 0x2118]) s (State.admitNode s p old a uid nonce rtd) := by
  unfold State.admitNode
  apply Frame.after (frame_showAdmitted _ _)
  · decide +kernel
  apply Frame.after (frame_rosterDelta _ _ _)
  · decide +kernel
  apply Frame.after (frame_post _ _ _)
  · decide +kernel
  apply Frame.after (frame_modMst _ _ _)
  · decide +kernel
  exact Frame.rfl' _

theorem frame_rangStanding (s : State) (p : Port) :
    Frame [.link, .way] (some []) s (State.rangStanding s p) := by
  unfold State.rangStanding
  try dsimp -proj only
  split
  · apply Frame.after (frame_modLnk _ _ _)
    · decide +kernel
    exact Frame.rfl' _
  · apply Frame.after (frame_modLnk _ _ _)
    · decide +kernel
    exact Frame.rfl' _

theorem frame_request (s : State) (p : Port) (q : MReq) :
    Frame [.regs, .link, .master, .way] (some [0x2084, 0x20C4]) s (State.request s p q) := by
  unfold State.request
  try dsimp -proj only
  split
  · apply Frame.after (frame_grantOut _ _ _)
    · decide +kernel
    exact Frame.rfl' _
  · apply Frame.after (frame_takeRequest _ _ _)
    · decide +kernel
    exact Frame.rfl' _

theorem frame_leaseReqFrom (s : State) (p : Port) (a : Nat) (d : List Byte) :
    Frame [.regs, .link, .master, .way] (some [0x2084, 0x20C4]) s (State.leaseReqFrom s p a d) := by
  unfold State.leaseReqFrom
  try dsimp -proj only
  split
  · apply Frame.ite
    · apply Frame.after (frame_request _ _ _)
      · decide +kernel
      exact Frame.rfl' _
    · apply Frame.after (frame_grantOut _ _ _)
      · decide +kernel
      exact Frame.rfl' _
  · apply Frame.ite
    · apply Frame.after (frame_modMst _ _ _)
      · decide +kernel
      exact Frame.rfl' _
    · exact Frame.rfl' _
  · apply Frame.after (frame_grantOut _ _ _)
    · decide +kernel
    apply Frame.after (frame_modMst _ _ _)
    · decide +kernel
    exact Frame.rfl' _
  · exact Frame.rfl' _

theorem frame_bellFrom (s : State) (p : Port) (a : Nat) :
    Frame [.regs, .link, .master, .way] (some [0x2084, 0x20C4]) s (State.bellFrom s p a) := by
  unfold State.bellFrom
  try dsimp -proj only
  split
  · apply Frame.ite
    · apply Frame.after (frame_rosterDelta _ _ _)
      · decide +kernel
      apply Frame.after (frame_modMst _ _ _)
      · decide +kernel
      apply Frame.after (frame_hearNode _ _ _)
      · decide +kernel
      exact Frame.rfl' _
    · apply Frame.after (frame_hearNode _ _ _)
      · decide +kernel
      exact Frame.rfl' _
  · apply Frame.after (frame_hearNode _ _ _)
    · decide +kernel
    exact Frame.rfl' _

theorem frame_requestSent (s : State) (p : Port) (o : MsgOwner) :
    Frame [.regs, .link, .way, .hif, .dbg] (some [0x1414, 0x6028, 0x6848]) s (State.requestSent s p o) := by
  unfold State.requestSent
  try dsimp -proj only
  split
  · apply Frame.after (frame_modLnk _ _ _)
    · decide +kernel
    exact Frame.rfl' _
  · split
    · split
      · apply Frame.after (frame_finish _ _ _ _ _ _)
        · decide +kernel
        apply Frame.after (frame_setSession _ _ _)
        · decide +kernel
        apply Frame.after (frame_modLnk _ _ _)
        · decide +kernel
        exact Frame.rfl' _
      · exact Frame.rfl' _
    · exact Frame.rfl' _
  · exact Frame.rfl' _

theorem frame_joinFrom (s : State) (p : Port) (uid : Uid) (nonce : Nat) (rtd : Nat) :
    Frame [.regs, .link, .master, .way] (some [0x2084, 0x20C4, 0x210C, 0x2118]) s (State.joinFrom s p uid nonce rtd) := by
  unfold State.joinFrom
  try dsimp -proj only
  split
  · apply Frame.after (frame_nameRear _ _)
    · decide +kernel
    apply Frame.after (frame_admitNode _ _ _ _ _ _ _)
    · decide +kernel
    apply Frame.ite
    · apply Frame.after (frame_modMst _ _ _)
      · decide +kernel
      apply Frame.after (frame_triggerActive _ _)
      · decide +kernel
      apply Frame.after (frame_modMst _ _ _)
      · decide +kernel
      exact Frame.rfl' _
    · apply Frame.after (frame_triggerActive _ _)
      · decide +kernel
      apply Frame.after (frame_modMst _ _ _)
      · decide +kernel
      exact Frame.rfl' _
  · split
    · apply Frame.after (frame_nameRear _ _)
      · decide +kernel
      apply Frame.after (frame_admitNode _ _ _ _ _ _ _)
      · decide +kernel
      apply Frame.after (frame_triggerActive _ _)
      · decide +kernel
      apply Frame.after (frame_modMst _ _ _)
      · decide +kernel
      exact Frame.rfl' _
    · apply Frame.after (frame_post _ _ _)
      · decide +kernel
      apply Frame.after (frame_triggerActive _ _)
      · decide +kernel
      apply Frame.after (frame_modMst _ _ _)
      · decide +kernel
      exact Frame.rfl' _

theorem frame_bellRequest (s : State) (p : Port) (a : Nat) (with2 : Bool) :
    Frame [.regs, .link, .master, .way] (some [0x2084, 0x20C4]) s (State.bellRequest s p a with2) := by
  unfold State.bellRequest
  try dsimp -proj only
  split
  · apply Frame.after (frame_request _ _ _)
    · decide +kernel
    exact Frame.rfl' _
  · exact Frame.rfl' _

theorem frame_chooseOwner (s : State) (p : Port) (rang2 : List Nat) (rang0 : List Nat) :
    Frame [.master, .way] (some []) s (State.chooseOwner s p rang2 rang0) := by
  unfold State.chooseOwner
  try dsimp -proj only
  split
  · apply Frame.after (frame_modMst _ _ _)
    · decide +kernel
    exact Frame.rfl' _
  · apply Frame.ite
    · apply Frame.after (frame_modMst _ _ _)
      · decide +kernel
      exact Frame.rfl' _
    · split
      · apply Frame.after (frame_modMst _ _ _)
        · decide +kernel
        exact Frame.rfl' _
      · apply Frame.ite
        · apply Frame.after (frame_modMst _ _ _)
          · decide +kernel
          exact Frame.rfl' _
        · split
          · apply Frame.after (frame_modMst _ _ _)
            · decide +kernel
            exact Frame.rfl' _
          · apply Frame.after (frame_modMst _ _ _)
            · decide +kernel
            exact Frame.rfl' _

theorem frame_dueRepeats (s : State) (p : Port) :
    Frame [.regs, .link, .master, .way] (some [0x2084, 0x20C4]) s (State.dueRepeats s p) := by
  unfold State.dueRepeats
  apply Frame.after (frame_modMst _ _ _)
  · decide +kernel
  apply Frame.foldl
  · exact Frame.rfl' _
  · intro _ _ _
    apply Frame.after (frame_post _ _ _)
    · decide +kernel
    assumption

theorem frame_ownRequests (s : State) (p : Port) :
    Frame [.regs, .link, .master, .way, .hif, .dbg] (some [0x1414, 0x2084, 0x20C4, 0x6028, 0x6848]) s (State.ownRequests s p) := by
  unfold State.ownRequests
  try dsimp -proj only
  split
  · exact Frame.rfl' _
  · apply Frame.foldl
    · apply Frame.after (frame_modLnk _ _ _)
      · decide +kernel
      split
      · apply Frame.after (frame_request _ _ _)
        · decide +kernel
        apply Frame.after (frame_rangStanding _ _)
        · decide +kernel
        exact Frame.rfl' _
      · exact Frame.rfl' _
    · intro _ _ _
      apply Frame.after (frame_requestSent _ _ _)
      · decide +kernel
      apply Frame.after (frame_leaseReqFrom _ _ _ _)
      · decide +kernel
      assumption

theorem frame_slotFailed (s : State) (p : Port) (k : Nat) (holder : Option Nat) :
    Frame [.regs, .phy, .link, .master, .way, .dbg] (some [0x2040, 0x2050, 0x2084, 0x20C4, 0x6028]) s (State.slotFailed s p k holder) := by
  unfold State.slotFailed
  try dsimp -proj only
  apply Frame.after (frame_stim _ _ _)
  · decide +kernel
  split
  · apply Frame.after (frame_chargeCrc _ _ _)
    · decide +kernel
    apply Frame.after (frame_modLnk _ _ _)
    · decide +kernel
    apply Frame.after (frame_bump_rx _ _ _)
    · decide +kernel
    exact Frame.rfl' _
  · apply Frame.after (frame_modLnk _ _ _)
    · decide +kernel
    apply Frame.after (frame_bump_rx _ _ _)
    · decide +kernel
    exact Frame.rfl' _

theorem frame_slotSource (s : State) (p : Port) (k : Nat) (holder : Option Nat) (x : RxSlot) :
    Frame [.regs, .phy, .link, .master, .way, .hif, .free] (some (evRegs ++ [0x2048, 0x2058, 0x2080, 0x2084, 0x20C0, 0x20C4])) s (State.slotSource s p k holder x) := by
  unfold State.slotSource
  try dsimp -proj only
  apply Frame.ite
  · apply Frame.after (frame_modMst _ _ _)
    · decide +kernel
    apply Frame.after (frame_hearNode _ _ _)
    · decide +kernel
    apply Frame.ite
    · apply Frame.after (frame_ownAddrSeen _ _)
      · decide +kernel
      split
      · apply Frame.ite
        · apply Frame.after (frame_adaptTaps _ _ _)
          · decide +kernel
          apply Frame.after (frame_creditCrc _ _ _)
          · decide +kernel
          exact Frame.rfl' _
        · apply Frame.after (frame_bump_rx _ _ _)
          · decide +kernel
          exact Frame.rfl' _
      · exact Frame.rfl' _
    · split
      · apply Frame.ite
        · apply Frame.after (frame_adaptTaps _ _ _)
          · decide +kernel
          apply Frame.after (frame_creditCrc _ _ _)
          · decide +kernel
          exact Frame.rfl' _
        · apply Frame.after (frame_bump_rx _ _ _)
          · decide +kernel
          exact Frame.rfl' _
      · exact Frame.rfl' _
  · apply Frame.ite
    · apply Frame.after (frame_ownAddrSeen _ _)
      · decide +kernel
      split
      · apply Frame.ite
        · apply Frame.after (frame_adaptTaps _ _ _)
          · decide +kernel
          apply Frame.after (frame_creditCrc _ _ _)
          · decide +kernel
          exact Frame.rfl' _
        · apply Frame.after (frame_bump_rx _ _ _)
          · decide +kernel
          exact Frame.rfl' _
      · exact Frame.rfl' _
    · split
      · apply Frame.ite
        · apply Frame.after (frame_adaptTaps _ _ _)
          · decide +kernel
          apply Frame.after (frame_creditCrc _ _ _)
          · decide +kernel
          exact Frame.rfl' _
        · apply Frame.after (frame_bump_rx _ _ _)
          · decide +kernel
          exact Frame.rfl' _
      · exact Frame.rfl' _

end Sys2Proof.Laws
end

