-- ==== Sys2Proof/Laws/FramesLineTx.lean ====
section
/-! SUPPORT. What each operation of Machine/LineTx.lean may change, one lemma each: the parts of the state and, where they are few, the registers. -/

namespace Sys2Proof.Laws

open Sys2Proof.Machine

set_option Elab.async false

theorem frame_masterSent (s : State) (p : Port) (m : Msg) (sequence : Half) (payload : List Byte) :
    Frame [.regs, .link, .master, .way, .call, .hif, .dbg] (some (evRegs ++ [0x1414, 0x2084, 0x20C4, 0x6028, 0x6848])) s (State.masterSent s p m sequence payload) := by
  unfold State.masterSent
  apply Frame.ite
  · apply Frame.ite
    · exact Frame.rfl' _
    · apply Frame.after (frame_proxyUpdate _)
      · decide +kernel
      apply Frame.after (frame_takeGrants _ _ _)
      · decide +kernel
      apply Frame.after (frame_modMst _ _ _)
      · decide +kernel
      exact Frame.rfl' _
  · apply Frame.ite
    · apply Frame.after (frame_leaseChange _ _ _)
      · decide +kernel
      exact Frame.rfl' _
    · apply Frame.ite
      · apply Frame.after (frame_modMst _ _ _)
        · decide +kernel
        exact Frame.rfl' _
      · apply Frame.ite
        · apply Frame.after (frame_pollNode _ _ _ _)
          · decide +kernel
          exact Frame.rfl' _
        · apply Frame.ite
          · apply Frame.after (frame_modMst _ _ _)
            · decide +kernel
            apply Frame.after (frame_modLnk _ _ _)
            · decide +kernel
            exact Frame.rfl' _
          · exact Frame.rfl' _

theorem frame_ring (s : State) (p : Port) (a : Nat) (advance : Nat) (ks : List Nat) :
    Frame [.phy] (some []) s (State.ring s p a advance ks) := by
  unfold State.ring
  apply Frame.foldl
  · exact Frame.rfl' _
  · intro _ _ _
    apply Frame.after (frame_drive _ _)
    · decide +kernel
    assumption

theorem frame_ringSleepers (s : State) (p : Port) :
    Frame [.phy] (some []) s (State.ringSleepers s p) := by
  unfold State.ringSleepers
  apply Frame.foldl
  · exact Frame.rfl' _
  · intro _ _ _
    apply Frame.foldl
    · assumption
    · intro _ _ _
      apply Frame.after (frame_ring _ _ _ _ _)
      · decide +kernel
      assumption

theorem frame_ringOwn (s : State) (p : Port) (a : Nat) :
    Frame [.phy, .link, .way] (some []) s (State.ringOwn s p a) := by
  unfold State.ringOwn
  apply Frame.ite
  · apply Frame.after (frame_rangStanding _ _)
    · decide +kernel
    apply Frame.after (frame_ring _ _ _ _ _)
    · decide +kernel
    exact Frame.rfl' _
  · apply Frame.after (frame_ring _ _ _ _ _)
    · decide +kernel
    exact Frame.rfl' _

theorem frame_talkClosed (s : State) (c : Nat) (id : Half) (n : Nat) :
    Frame [.regs, .hif, .dbg] (some [0x1414, 0x6028, 0x6848]) s (State.talkClosed s c id n) := by
  unfold State.talkClosed
  apply Frame.after (frame_finishWhere _ _ _ _ _ _)
  · decide +kernel
  apply Frame.after (frame_setSession _ _ _)
  · decide +kernel
  exact Frame.rfl' _

theorem frame_driveFrame (s : State) (p : Port) (source : Byte) (destination : Byte) (typ : Byte) (sequence : Half) (flags : Half) (payload : List Byte) :
    Frame [.regs, .phy, .dbg] (some [0x6028]) s (State.driveFrame s p source destination typ sequence flags payload) := by
  unfold State.driveFrame
  apply Frame.after (frame_stim _ _ _)
  · decide +kernel
  apply Frame.after (frame_drive _ _)
  · decide +kernel
  exact Frame.rfl' _

theorem frame_sendRangeReply (s : State) (p : Port) (a : Nat) (reason : Byte) :
    Frame [.regs, .phy, .link, .way, .dbg] (some [0x6028]) s (State.sendRangeReply s p a reason) := by
  unfold State.sendRangeReply
  apply Frame.after (frame_modLnk _ _ _)
  · decide +kernel
  apply Frame.after (frame_driveFrame _ _ _ _ _ _ _ _)
  · decide +kernel
  exact Frame.rfl' _

theorem frame_contents (s : State) (p : Port) (m : Msg) :
    Frame [.regs, .link, .master, .way, .call, .wake, .hif, .dbg] (some [0x1414, 0x2084, 0x20C4, 0x6028, 0x6848]) s (State.contents s p m).1 := by
  unfold State.contents
  try dsimp -proj only
  split
  · apply Frame.after (frame_composeCall _ _)
    · decide +kernel
    exact Frame.rfl' _
  · apply Frame.after (frame_composeForward _ _ _ _)
    · decide +kernel
    exact Frame.rfl' _
  · exact Frame.rfl' _
  · exact Frame.rfl' _
  · exact Frame.rfl' _
  · exact Frame.rfl' _

theorem frame_statusSent (s : State) (p : Port) :
    Frame [.mem, .pins, .regs, .plt, .phy, .link, .way, .pwr, .dbg, .free] (some [0x0890, 0x0A04, 0x6028]) s (State.statusSent s p) := by
  unfold State.statusSent
  try dsimp -proj only
  split
  · apply Frame.after (frame_enterSleep _ _)
    · decide +kernel
    apply Frame.after (frame_checkEntry _)
    · decide +kernel
    apply Frame.after (frame_modLnk _ _ _)
    · decide +kernel
    exact Frame.rfl' _
  · apply Frame.after (frame_checkEntry _)
    · decide +kernel
    apply Frame.after (frame_modLnk _ _ _)
    · decide +kernel
    exact Frame.rfl' _

theorem frame_lastOf (s : State) (p : Port) (ks : List Nat) :
    Frame [.link, .way] (some []) s (State.lastOf s p ks) := by
  unfold State.lastOf
  apply Frame.after (frame_modLnk _ _ _)
  · decide +kernel
  exact Frame.rfl' _

theorem frame_ownerSent (s : State) (p : Port) (m : Msg) (sequence : Half) (payload : List Byte) :
    Frame [.mem, .pins, .regs, .plt, .phy, .link, .master, .way, .hif, .pwr, .dbg, .free] (some [0x0890, 0x0A04, 0x1414, 0x6028, 0x6848]) s (State.ownerSent s p m sequence payload) := by
  unfold State.ownerSent
  have h1 : Frame [.mem, .pins, .regs, .plt, .phy, .link, .master, .way, .hif, .pwr, .dbg, .free] (some [0x0890, 0x0A04, 0x1414, 0x6028, 0x6848]) s (if m.typ.toNat = tyLeaseRelease then s.lastOf p (releasedSlots payload) else s) :=
    Frame.ite ((frame_lastOf s _ _).mono (by decide +kernel)) (Frame.rfl' s)
  revert h1
  generalize (if m.typ.toNat = tyLeaseRelease then s.lastOf p (releasedSlots payload) else s) = t
  intro h1
  dsimp -proj only
  cases m.owner with
  | leaseReq i => exact Frame.after (frame_requestSent _ _ _) (by decide +kernel) h1
  | cancel c i => exact Frame.after (frame_requestSent _ _ _) (by decide +kernel) h1
  | release c i n => exact Frame.after (frame_talkClosed _ _ _ _) (by decide +kernel) h1
  | host c i => exact Frame.after (frame_finishWhere _ _ _ _ _ _) (by decide +kernel) h1
  | checkpointEnd => exact Frame.after (frame_modMst _ _ _) (by decide +kernel) h1
  | audit part demand empty => exact Frame.ite (Frame.after (frame_modMst _ _ _) (by decide +kernel) h1) h1
  | status => exact Frame.after (frame_statusSent _ _) (by decide +kernel) h1
  | none => exact h1
  | call r => exact h1
  | quiet => exact h1
  | forward a b => exact h1


theorem frame_sendMsg (s : State) (p : Port) (a : Nat) (m : Msg) :
    Frame [.mem, .pins, .regs, .plt, .phy, .link, .master, .way, .call, .wake, .hif, .pwr, .dbg, .free] (some (evRegs ++ [0x0890, 0x0A04, 0x1414, 0x2084, 0x20C4, 0x6028, 0x6848])) s (State.sendMsg s p a m) := by
  unfold State.sendMsg
  apply Frame.after (frame_ownerSent _ _ _ _ _)
  · decide +kernel
  apply Frame.ite
  · apply Frame.ite
    · apply Frame.after (frame_masterSent _ _ _ _ _)
      · decide +kernel
      apply Frame.after (frame_driveFrame _ _ _ _ _ _ _ _)
      · decide +kernel
      apply Frame.ite
      · apply Frame.after (frame_contents _ _ _)
        · decide +kernel
        apply Frame.after (frame_modLnk _ _ _)
        · decide +kernel
        exact Frame.rfl' _
      · apply Frame.after (frame_modLnk _ _ _)
        · decide +kernel
        apply Frame.after (frame_contents _ _ _)
        · decide +kernel
        apply Frame.after (frame_modLnk _ _ _)
        · decide +kernel
        exact Frame.rfl' _
    · apply Frame.after (frame_wakeSleepers _ _ _)
      · decide +kernel
      apply Frame.after (frame_masterSent _ _ _ _ _)
      · decide +kernel
      apply Frame.after (frame_driveFrame _ _ _ _ _ _ _ _)
      · decide +kernel
      apply Frame.ite
      · apply Frame.after (frame_contents _ _ _)
        · decide +kernel
        apply Frame.after (frame_modLnk _ _ _)
        · decide +kernel
        exact Frame.rfl' _
      · apply Frame.after (frame_modLnk _ _ _)
        · decide +kernel
        apply Frame.after (frame_contents _ _ _)
        · decide +kernel
        apply Frame.after (frame_modLnk _ _ _)
        · decide +kernel
        exact Frame.rfl' _
  · apply Frame.after (frame_driveFrame _ _ _ _ _ _ _ _)
    · decide +kernel
    apply Frame.ite
    · apply Frame.after (frame_contents _ _ _)
      · decide +kernel
      apply Frame.after (frame_modLnk _ _ _)
      · decide +kernel
      exact Frame.rfl' _
    · apply Frame.after (frame_modLnk _ _ _)
      · decide +kernel
      apply Frame.after (frame_contents _ _ _)
      · decide +kernel
      apply Frame.after (frame_modLnk _ _ _)
      · decide +kernel
      exact Frame.rfl' _

theorem frame_sessionSent (s : State) (o : LeaseOwner) :
    Frame [.regs, .hif, .dbg] (some [0x1414, 0x6028, 0x6848]) s (State.sessionSent s o) := by
  unfold State.sessionSent
  try dsimp -proj only
  split
  · split
    · apply Frame.after (frame_raiseDone _ _ _)
      · decide +kernel
      apply Frame.after (frame_setSession _ _ _)
      · decide +kernel
      exact Frame.rfl' _
    · exact Frame.rfl' _
  · exact Frame.rfl' _

end Sys2Proof.Laws
end

