-- ==== Sys2Proof/Laws/FramesLedgerIn.lean ====
section
/-! SUPPORT. What each operation of Machine/LedgerIn.lean may change, one lemma each: the parts of the state and, where they are few, the registers. -/

namespace Sys2Proof.Laws

open Sys2Proof.Machine

set_option Elab.async false

theorem frame_abandonFill (s : State) :
    Frame [.regs, .rear] (some [0x2118]) s (State.abandonFill s) := by
  unfold State.abandonFill
  apply Frame.after (frame_bump _ _)
  · decide +kernel
  apply Frame.set_rear
  · rfl
  exact Frame.rfl' _

theorem frame_promote (s : State) (x : Fill) :
    Frame [.regs, .rear] (some [0x2114, 0x2118]) s (State.promote s x) := by
  unfold State.promote
  apply Frame.ite
  · apply Frame.after (frame_abandonFill _)
    · decide +kernel
    exact Frame.rfl' _
  · apply Frame.after (frame_setReg _ _ _)
    · decide +kernel
    apply Frame.set_rear
    · rfl
    exact Frame.rfl' _

theorem frame_fillPart (s : State) (x : Fill) :
    Frame [.regs, .rear] (some [0x2114, 0x2118]) s (State.fillPart s x) := by
  unfold State.fillPart
  apply Frame.ite
  · apply Frame.after (frame_promote _ _)
    · decide +kernel
    exact Frame.rfl' _
  · apply Frame.set_rear
    · rfl
    exact Frame.rfl' _

theorem frame_takePart (s : State) (d : List Byte) :
    Frame [.regs, .rear] (some [0x2114, 0x2118]) s (State.takePart s d) := by
  unfold State.takePart
  try dsimp -proj only
  apply Frame.ite
  · apply Frame.after (frame_fillPart _ _)
    · decide +kernel
    exact Frame.rfl' _
  · split
    · exact Frame.rfl' _
    · apply Frame.ite
      · apply Frame.after (frame_fillPart _ _)
        · decide +kernel
        exact Frame.rfl' _
      · apply Frame.after (frame_abandonFill _)
        · decide +kernel
        exact Frame.rfl' _

theorem frame_relay (s : State) (f : LedgerFrame) :
    Frame [.master, .way] (some []) s (State.relay s f) := by
  unfold State.relay
  apply Frame.ite
  · apply Frame.after (frame_wakeSleepers _ _ _)
    · decide +kernel
    exact Frame.rfl' _
  · exact Frame.rfl' _

theorem frame_playsCall (s : State) (x : CallIn) (d : List Byte) :
    Frame [.regs, .mix] (some [0x29C0, 0x29C4]) s (State.playsCall s x d) := by
  unfold State.playsCall
  apply Frame.ite
  · apply Frame.after (frame_planPlayback _ _ _ _ _ _ _ _)
    · decide +kernel
    exact Frame.rfl' _
  · exact Frame.rfl' _

theorem frame_takeClass (s : State) (p : Port) (c : Nat) :
    Frame [.p57, .intake] (some []) s (State.takeClass s p c) := by
  unfold State.takeClass
  try dsimp -proj only
  split
  · apply Frame.after (frame_ownClass _ _)
    · decide +kernel
    exact Frame.rfl' _
  · exact Frame.rfl' _

theorem frame_takeTiming (s : State) (p : Port) (rtd : Nat) (cls : Nat) :
    Frame [.regs, .link, .way, .p57, .intake] (some [0x2080, 0x20C0, 0x2110]) s (State.takeTiming s p rtd cls) := by
  unfold State.takeTiming
  apply Frame.ite
  · apply Frame.after (frame_put _ _ _)
    · decide +kernel
    apply Frame.after (frame_modLnk _ _ _)
    · decide +kernel
    apply Frame.after (frame_takeClass _ _ _)
    · decide +kernel
    apply Frame.after (frame_wr_lk _ _ _ _)
    · decide +kernel
    exact Frame.rfl' _
  · apply Frame.after (frame_takeClass _ _ _)
    · decide +kernel
    apply Frame.after (frame_wr_lk _ _ _ _)
    · decide +kernel
    exact Frame.rfl' _

theorem frame_takeAddress (s : State) (p : Port) (addr : Nat) (rtd : Nat) (cls : Nat) :
    Frame [.regs, .link, .master, .way, .p57, .intake] (some [0x2080, 0x2084, 0x20C0, 0x20C4]) s (State.takeAddress s p addr rtd cls) := by
  unfold State.takeAddress
  apply Frame.after (frame_statusDue _ _)
  · decide +kernel
  apply Frame.after (frame_takeClass _ _ _)
  · decide +kernel
  apply Frame.after (frame_modLnk _ _ _)
  · decide +kernel
  apply Frame.after (frame_wr_lk _ _ _ _)
  · decide +kernel
  apply Frame.after (frame_wr_lk _ _ _ _)
  · decide +kernel
  apply Frame.after (frame_put_lk _ _ _ _)
  · decide +kernel
  exact Frame.rfl' _

theorem frame_takeAssign (s : State) (p : Port) (d : List Byte) :
    Frame [.regs, .link, .master, .way, .p57, .intake, .hif, .free] (some (evRegs ++ [0x2080, 0x2084, 0x20C0, 0x20C4, 0x2110])) s (State.takeAssign s p d) := by
  unfold State.takeAssign
  try dsimp -proj only
  split
  · apply Frame.ite
    · apply Frame.after (frame_takeAddress _ _ _ _ _)
      · decide +kernel
      exact Frame.rfl' _
    · exact Frame.rfl' _
  · apply Frame.ite
    · apply Frame.after (frame_takeTiming _ _ _ _)
      · decide +kernel
      exact Frame.rfl' _
    · exact Frame.rfl' _
  · apply Frame.ite
    · apply Frame.after (frame_takeFree _ _)
      · decide +kernel
      apply Frame.after (frame_modLnk _ _ _)
      · decide +kernel
      exact Frame.rfl' _
    · exact Frame.rfl' _
  · apply Frame.ite
    · apply Frame.after (frame_giveUpAddress _ _ _)
      · decide +kernel
      exact Frame.rfl' _
    · exact Frame.rfl' _
  · exact Frame.rfl' _

theorem frame_ranged (s : State) (p : Port) (r : MasterRow) (rtd : Nat) :
    Frame [.regs, .link, .master, .way] (some [0x2084, 0x20C4]) s (State.ranged s p r rtd) := by
  unfold State.ranged
  apply Frame.ite
  · apply Frame.after (frame_modMst _ _ _)
    · decide +kernel
    exact Frame.rfl' _
  · apply Frame.after (frame_post _ _ _)
    · decide +kernel
    apply Frame.after (frame_modMst _ _ _)
    · decide +kernel
    apply Frame.after (frame_modMst _ _ _)
    · decide +kernel
    exact Frame.rfl' _

theorem frame_pollStale (s : State) (p : Port) (a : Nat) :
    Frame [.regs, .link, .master, .way] (some [0x2084, 0x20C4]) s (State.pollStale s p a) := by
  unfold State.pollStale
  try dsimp -proj only
  split
  · exact Frame.rfl' _
  · apply Frame.ite
    · exact Frame.rfl' _
    · apply Frame.after (frame_modMst _ _ _)
      · decide +kernel
      apply Frame.after (frame_pollNode _ _ _ _)
      · decide +kernel
      exact Frame.rfl' _

theorem frame_statusFrom (s : State) (p : Port) (old : MasterRow) (d : List Byte) :
    Frame [.regs, .link, .master, .way, .p57, .intake] (some [0x2084, 0x20C4, 0x210C, 0x2118]) s (State.statusFrom s p old d) := by
  unfold State.statusFrom
  apply Frame.after (frame_nameRear _ _)
  · decide +kernel
  apply Frame.after (frame_offerClasses _ _)
  · decide +kernel
  apply Frame.foldl
  · apply Frame.ite
    · apply Frame.after (frame_modMst _ _ _)
      · decide +kernel
      exact Frame.rfl' _
    · apply Frame.after (frame_rosterDelta _ _ _)
      · decide +kernel
      apply Frame.after (frame_modMst _ _ _)
      · decide +kernel
      exact Frame.rfl' _
  · intro _ _ _
    apply Frame.after (frame_pollStale _ _ _)
    · decide +kernel
    assumption

theorem frame_callAcked (s : State) (p : Port) (d : List Byte) :
    Frame [.pins, .regs, .call, .hif, .dbg] (some (evRegs ++ [0x1804, 0x6028])) s (State.callAcked s p d) := by
  unfold State.callAcked
  try dsimp -proj only
  split
  · exact Frame.rfl' _
  · split
    · exact Frame.rfl' _
    · apply Frame.ite
      · exact Frame.rfl' _
      · apply Frame.after (frame_answerWakes _)
        · decide +kernel
        apply Frame.after (frame_raise _ _ _ _ _ _)
        · decide +kernel
        apply Frame.after (frame_setCall _ _ _)
        · decide +kernel
        exact Frame.rfl' _

end Sys2Proof.Laws
end

