-- ==== Sys2Proof/Laws/FramesCycleTime.lean ====
section
/-! SUPPORT. What each operation of Machine/CycleTime.lean may change, one lemma each: the parts of the state and, where they are few, the registers. -/

namespace Sys2Proof.Laws

open Sys2Proof.Machine

set_option Elab.async false

theorem frame_countTimeout (s : State) (p : Port) :
    Frame [.regs] (some [0x2094, 0x20D4]) s (State.countTimeout s p) := by
  unfold State.countTimeout
  apply Frame.after (frame_bump_lk _ _ _)
  · decide +kernel
  exact Frame.rfl' _

theorem frame_timeoutJoin (s : State) (draw : Nat) :
    Frame [.regs, .link, .way] (some [0x2094, 0x20D4]) s (State.timeoutJoin s draw) := by
  unfold State.timeoutJoin
  try dsimp -proj only
  split
  · exact Frame.rfl' _
  · apply Frame.ite
    · exact Frame.rfl' _
    · apply Frame.after (frame_modLnk _ _ _)
      · decide +kernel
      apply Frame.after (frame_bump _ _)
      · decide +kernel
      apply Frame.after (frame_countTimeout _ _)
      · decide +kernel
      exact Frame.rfl' _

theorem frame_quietFollow (s : State) :
    Frame [.regs, .link, .way, .hif] (some (evRegs ++ [0x2084, 0x20C4])) s (State.quietFollow s) := by
  unfold State.quietFollow
  try dsimp -proj only
  split
  · exact Frame.rfl' _
  · apply Frame.ite
    · exact Frame.rfl' _
    · apply Frame.ite
      · apply Frame.after (frame_modLnk _ _ _)
        · decide +kernel
        exact Frame.rfl' _
      · apply Frame.after (frame_setLineState _ _ _)
        · decide +kernel
        apply Frame.after (frame_modLnk _ _ _)
        · decide +kernel
        exact Frame.rfl' _

theorem frame_noiseFloor (s : State) (o : CycleObs) :
    Frame [.regs] none s (State.noiseFloor s o) := by
  unfold State.noiseFloor
  try dsimp -proj only
  split
  · apply Frame.ite
    · apply Frame.after (frame_wr _ _ _)
      · decide +kernel
      split
      · apply Frame.ite
        · apply Frame.after (frame_wr _ _ _)
          · decide +kernel
          exact Frame.rfl' _
        · exact Frame.rfl' _
      · exact Frame.rfl' _
    · split
      · apply Frame.ite
        · apply Frame.after (frame_wr _ _ _)
          · decide +kernel
          exact Frame.rfl' _
        · exact Frame.rfl' _
      · exact Frame.rfl' _
  · split
    · apply Frame.ite
      · apply Frame.after (frame_wr _ _ _)
        · decide +kernel
        exact Frame.rfl' _
      · exact Frame.rfl' _
    · exact Frame.rfl' _

theorem frame_masterCycle (s : State) (p : Port) (c : Word) :
    Frame [.master, .way] (some []) s (State.masterCycle s p c) := by
  unfold State.masterCycle
  apply Frame.ite
  · apply Frame.ite
    · apply Frame.after (frame_modMst _ _ _)
      · decide +kernel
      exact Frame.rfl' _
    · exact Frame.rfl' _
  · apply Frame.after (frame_modMst _ _ _)
    · decide +kernel
    apply Frame.ite
    · apply Frame.after (frame_modMst _ _ _)
      · decide +kernel
      exact Frame.rfl' _
    · exact Frame.rfl' _

theorem frame_advanceHistory (s : State) :
    Frame [.regs, .link, .master, .way, .wake] (some [0x2084, 0x20C4]) s (State.advanceHistory s) := by
  unfold State.advanceHistory
  try dsimp -proj only
  split
  · exact Frame.rfl' _
  · apply Frame.ite
    · apply Frame.foldl
      · apply Frame.set_wake
        · rfl
        exact Frame.rfl' _
      · intro _ _ _
        apply Frame.after (frame_releaseCatchUp _ _)
        · decide +kernel
        assumption
    · apply Frame.set_wake
      · rfl
      exact Frame.rfl' _

theorem frame_endOfCycle (s : State) (c : Word) (o : CycleObs) :
    Frame [.regs, .link, .master, .way, .wake] none s (State.endOfCycle s c o) := by
  unfold State.endOfCycle
  apply Frame.after (frame_wayShift _)
  · decide +kernel
  apply Frame.after (frame_modLnk _ _ _)
  · decide +kernel
  apply Frame.after (frame_modLnk _ _ _)
  · decide +kernel
  apply Frame.after (frame_advanceHistory _)
  · decide +kernel
  apply Frame.after (frame_masterCycle _ _ _)
  · decide +kernel
  apply Frame.after (frame_masterCycle _ _ _)
  · decide +kernel
  apply Frame.after (frame_noiseFloor _ _)
  · decide +kernel
  exact Frame.rfl' _

theorem frame_endRaises (s : State) :
    Frame [.regs, .hif, .dbg] (some [0x1414, 0x6028, 0x6848]) s (State.endRaises s) := by
  unfold State.endRaises
  apply Frame.foldl
  · exact Frame.rfl' _
  · intro _ _ _
    apply Frame.ite
    · assumption
    · apply Frame.after (frame_raiseDone _ _ _)
      · decide +kernel
      assumption

theorem frame_powerCycle (s : State) :
    Frame [.regs, .link, .master, .way, .pwr] (some [0x0890, 0x2084, 0x20C4]) s (State.powerCycle s) := by
  unfold State.powerCycle
  apply Frame.after (frame_checkEntry _)
  · decide +kernel
  apply Frame.ite
  · apply Frame.after (frame_statusDue _ _)
    · decide +kernel
    apply Frame.set_pwr
    · rfl
    apply Frame.ite
    · apply Frame.after (frame_holdCycle _)
      · decide +kernel
      exact Frame.rfl' _
    · exact Frame.rfl' _
  · apply Frame.set_pwr
    · rfl
    apply Frame.ite
    · apply Frame.after (frame_holdCycle _)
      · decide +kernel
      exact Frame.rfl' _
    · exact Frame.rfl' _

theorem frame_syncOwnRow (s : State) (p : Port) :
    Frame [.regs, .link, .master, .way] (some [0x2084, 0x20C4]) s (State.syncOwnRow s p) := by
  unfold State.syncOwnRow
  try dsimp -proj only
  split
  · apply Frame.ite
    · apply Frame.after (frame_modMst _ _ _)
      · decide +kernel
      exact Frame.rfl' _
    · apply Frame.after (frame_rosterDelta _ _ _)
      · decide +kernel
      apply Frame.after (frame_modMst _ _ _)
      · decide +kernel
      exact Frame.rfl' _
  · exact Frame.rfl' _

theorem frame_newSettings (s : State) :
    Frame [.pins, .regs, .plt, .link, .master, .way, .p57, .intake, .mix, .ech, .call, .wake, .hif, .pwr, .cfg, .dbg, .free] none s (State.newSettings s) := by
  unfold State.newSettings
  apply Frame.ite
  · apply Frame.after (frame_syncOwnRow _ _)
    · decide +kernel
    apply Frame.after (frame_syncOwnRow _ _)
    · decide +kernel
    apply Frame.after (frame_configCycle _)
    · decide +kernel
    apply Frame.after (frame_applyChanges _)
    · decide +kernel
    exact Frame.rfl' _
  · exact Frame.rfl' _

theorem frame_audioCycle (s : State) (c : Dword) (o : CycleObs) :
    Frame [.pins, .regs, .link, .master, .way, .mix, .ech, .call, .mic, .wake, .hif, .dbg, .free] none s (State.audioCycle s c o) := by
  unfold State.audioCycle
  apply Frame.ite
  · apply Frame.after (frame_streamsCycle _ _)
    · decide +kernel
    apply Frame.after (frame_recordHistory _ _)
    · decide +kernel
    apply Frame.after (frame_wakeCycle _ _)
    · decide +kernel
    apply Frame.after (frame_micCycle _)
    · decide +kernel
    apply Frame.after (frame_mixCycle _ _ _)
    · decide +kernel
    apply Frame.after (frame_echCycle _ _)
    · decide +kernel
    apply Frame.after (frame_callCycle _ _)
    · decide +kernel
    exact Frame.rfl' _
  · apply Frame.after (frame_wakeCycle _ _)
    · decide +kernel
    apply Frame.after (frame_micCycle _)
    · decide +kernel
    apply Frame.after (frame_mixCycle _ _ _)
    · decide +kernel
    apply Frame.after (frame_echCycle _ _)
    · decide +kernel
    apply Frame.after (frame_callCycle _ _)
    · decide +kernel
    exact Frame.rfl' _

theorem frame_beginJoin (s : State) (draw : Nat) :
    Frame [.link, .way] (some []) s (State.beginJoin s draw) := by
  unfold State.beginJoin
  apply Frame.ite
  · apply Frame.after (frame_modLnk _ _ _)
    · decide +kernel
    exact Frame.rfl' _
  · exact Frame.rfl' _

theorem frame_advance (s : State) :
    Frame [.plt, .link, .hif] (some []) s (State.advance s) := by
  unfold State.advance
  apply Frame.set_plt_link_hif
  · rfl
  exact Frame.rfl' _

theorem frame_cycleBoundary (s : State) (o : CycleObs) :
    Frame [.pins, .regs, .plt, .phy, .link, .master, .way, .p57, .intake, .mix, .ech, .call, .mic, .wake, .hif, .pwr, .cfg, .dbg, .free] none s (State.cycleBoundary s o) := by
  unfold State.cycleBoundary
  apply Frame.after (frame_settleAll _)
  · decide +kernel
  apply Frame.after (frame_powerCycle _)
  · decide +kernel
  apply Frame.after (frame_proxyUpdate _)
  · decide +kernel
  apply Frame.after (frame_beginJoin _ _)
  · decide +kernel
  apply Frame.after (frame_endRaises _)
  · decide +kernel
  apply Frame.set_phy
  · rfl
  apply Frame.after (frame_audioCycle _ _ _)
  · decide +kernel
  apply Frame.after (frame_newSettings _)
  · decide +kernel
  apply Frame.after (frame_quietFollow _)
  · decide +kernel
  apply Frame.after (frame_advance _)
  · decide +kernel
  apply Frame.after (frame_endOfCycle _ _ _)
  · decide +kernel
  exact Frame.rfl' _

theorem frame_repeatReq (s : State) (p : Port) (q : TalkReq) :
    Frame [.regs, .link, .master, .way, .call, .hif, .dbg] (some (evRegs ++ [0x1414, 0x2084, 0x2094, 0x20C4, 0x20D4, 0x6028, 0x6848])) s (State.repeatReq s p q) := by
  unfold State.repeatReq
  apply Frame.ite
  · apply Frame.after (frame_endRequest _ _ _ _ _)
    · decide +kernel
    apply Frame.after (frame_countTimeout _ _)
    · decide +kernel
    exact Frame.rfl' _
  · apply Frame.ite
    · apply Frame.after (frame_modLnk _ _ _)
      · decide +kernel
      apply Frame.after (frame_modLnk _ _ _)
      · decide +kernel
      apply Frame.after (frame_countTimeout _ _)
      · decide +kernel
      exact Frame.rfl' _
    · apply Frame.after (frame_post _ _ _)
      · decide +kernel
      apply Frame.after (frame_modLnk _ _ _)
      · decide +kernel
      apply Frame.after (frame_countTimeout _ _)
      · decide +kernel
      exact Frame.rfl' _

theorem frame_timeoutReq (s : State) (f : TalkReq → Bool) :
    Frame [.regs, .link, .master, .way, .call, .hif, .dbg] (some (evRegs ++ [0x1414, 0x2084, 0x2094, 0x20C4, 0x20D4, 0x6028, 0x6848])) s (State.timeoutReq s f) := by
  unfold State.timeoutReq
  try dsimp -proj only
  split
  · apply Frame.after (frame_repeatReq _ _ _)
    · decide +kernel
    exact Frame.rfl' _
  · split
    · apply Frame.after (frame_repeatReq _ _ _)
      · decide +kernel
      exact Frame.rfl' _
    · exact Frame.rfl' _

theorem frame_timeoutPoll (s : State) (p : Port) (a : Nat) :
    Frame [.regs, .link, .master, .way] (some [0x2084, 0x2094, 0x20C4, 0x20D4]) s (State.timeoutPoll s p a) := by
  unfold State.timeoutPoll
  try dsimp -proj only
  split
  · exact Frame.rfl' _
  · split
    · exact Frame.rfl' _
    · apply Frame.ite
      · exact Frame.rfl' _
      · apply Frame.after (frame_pollNode _ _ _ _)
        · decide +kernel
        apply Frame.after (frame_modMst _ _ _)
        · decide +kernel
        apply Frame.after (frame_countTimeout _ _)
        · decide +kernel
        exact Frame.rfl' _

end Sys2Proof.Laws
end

