-- ==== Sys2Proof/Laws/Exec.lean ====
section
/-! SUPPORT. The state a command answers, for the lemmas that say what each command can change (Exec*.lean). -/

namespace Sys2Proof.Laws

open Sys2Proof.Machine

/-- The next state of an outcome; `s` where there is none. -/
def nextOf (s : State) (o : Host.Outcome State Fault Refusal) : State := match o with | .next t => t | _ => s

end Sys2Proof.Laws
end

