-- ==== Sys2Proof/Laws/ExecAudio.lean ====
section
/-! SUPPORT. What each command of a family can change, in any state: one lemma `frame_exec<Command>` for each command of mixing, echo and call detection, microphones and streams. -/

namespace Sys2Proof.Laws

open Sys2Proof.Machine

set_option Elab.async false

theorem frame_execReconvergenceEnd (s : State) :
    Frame [.regs] (some [0x3080]) s (nextOf s (execReconvergenceEnd s)) := by
  unfold execReconvergenceEnd
  try dsimp -proj only [nextOf]
  apply Frame.ite
  · apply Frame.after (frame_put _ _ _)
    · decide +kernel
    exact Frame.rfl' _
  · exact Frame.rfl' _

theorem frame_execPvddSpkRestored (s : State) :
    Frame [.pins] (some []) s (nextOf s (execPvddSpkRestored s)) := by
  unfold execPvddSpkRestored
  try dsimp -proj only [nextOf]
  apply Frame.set_pins
  · rfl
  exact Frame.rfl' _

theorem frame_execCallEndHold (r : Fin 8) (s : State) :
    Frame [.regs, .link, .master, .way, .mix, .call, .wake, .hif, .dbg] (some (evRegs ++ [0x1414, 0x2084, 0x20C4, 0x6028, 0x6848])) s (nextOf s (execCallEndHold r s)) := by
  unfold execCallEndHold
  try dsimp -proj only [nextOf]
  try dsimp -proj only
  split
  all_goals try dsimp -proj only [nextOf]
  · apply Frame.ite
    · exact Frame.rfl' _
    · apply Frame.ite
      · apply Frame.after (frame_endCall _ _ _)
        · decide +kernel
        exact Frame.rfl' _
      · apply Frame.ite
        · apply Frame.after (frame_endCall _ _ _)
          · decide +kernel
          exact Frame.rfl' _
        · exact Frame.rfl' _
  · exact Frame.rfl' _

theorem frame_execAnnunciatorOvercurrent (s : State) :
    Frame [.regs, .mix] (some [0x29C0]) s (nextOf s (execAnnunciatorOvercurrent s)) := by
  unfold execAnnunciatorOvercurrent
  try dsimp -proj only [nextOf]
  apply Frame.ite
  · apply Frame.after (frame_put _ _ _)
    · decide +kernel
    apply Frame.set_mix
    · rfl
    exact Frame.rfl' _
  · exact Frame.rfl' _

theorem frame_execRingTimeout (r : Fin 8) (s : State) :
    Frame [.regs, .link, .master, .way, .mix, .call, .wake, .hif, .dbg] (some (evRegs ++ [0x1414, 0x2084, 0x20C4, 0x3918, 0x6028, 0x6848])) s (nextOf s (execRingTimeout r s)) := by
  unfold execRingTimeout
  try dsimp -proj only [nextOf]
  try dsimp -proj only
  split
  all_goals try dsimp -proj only [nextOf]
  · apply Frame.ite
    · apply Frame.ite
      · apply Frame.after (frame_reRing _ _)
        · decide +kernel
        apply Frame.after (frame_setCall _ _ _)
        · decide +kernel
        apply Frame.after (frame_bump _ _)
        · decide +kernel
        exact Frame.rfl' _
      · apply Frame.after (frame_endCall _ _ _)
        · decide +kernel
        apply Frame.after (frame_bump _ _)
        · decide +kernel
        exact Frame.rfl' _
    · exact Frame.rfl' _
  · exact Frame.rfl' _

theorem frame_execCatchUpPlaybackStart (s : State) :
    Frame [.regs, .mix] (some [0x29C0]) s (nextOf s (execCatchUpPlaybackStart s)) := by
  unfold execCatchUpPlaybackStart
  try dsimp -proj only [nextOf]
  try dsimp -proj only
  split
  all_goals try dsimp -proj only [nextOf]
  · apply Frame.ite
    · apply Frame.after (frame_put _ _ _)
      · decide +kernel
      apply Frame.set_mix
      · rfl
      exact Frame.rfl' _
    · exact Frame.rfl' _
  · exact Frame.rfl' _

theorem frame_execMicStartEnd (s : State) :
    Frame [.regs] (some [0x4060]) s (nextOf s (execMicStartEnd s)) := by
  unfold execMicStartEnd
  try dsimp -proj only [nextOf]
  apply Frame.ite
  · apply Frame.after (frame_put _ _ _)
    · decide +kernel
    exact Frame.rfl' _
  · exact Frame.rfl' _

theorem frame_execCallAnswer (c : Client) (s : State) :
    Frame [.pins, .regs, .plt, .link, .master, .way, .mix, .call, .wake, .hif, .dbg] (some (evRegs ++ [0x1414, 0x1804, 0x2084, 0x20C4, 0x6028, 0x6848, 0x7040])) s (nextOf s (execCallAnswer c s)) := by
  unfold execCallAnswer
  try dsimp -proj only [nextOf]
  refine frame_command _ _ _ _ _ ?_ (fun t j d => ?_)
  · decide +kernel
  · apply Frame.after (frame_doCallAnswer _ _ _ _)
    · decide +kernel
    exact Frame.rfl' _

theorem frame_execAsrcLock (s : State) :
    Frame [.regs] (some [0x29C0]) s (nextOf s (execAsrcLock s)) := by
  unfold execAsrcLock
  try dsimp -proj only [nextOf]
  apply Frame.ite
  · apply Frame.after (frame_put _ _ _)
    · decide +kernel
    exact Frame.rfl' _
  · exact Frame.rfl' _

theorem frame_execToneDetectorStart (n : Fin 16) (s : State) :
    Frame [.regs, .link, .master, .way, .mix, .call, .wake, .hif, .dbg] (some (evRegs ++ [0x1414, 0x2084, 0x20C4, 0x3918, 0x6028, 0x6848])) s (nextOf s (execToneDetectorStart n s)) := by
  unfold execToneDetectorStart
  try dsimp -proj only [nextOf]
  apply Frame.ite
  · apply Frame.ite
    · apply Frame.after (frame_callIn _ _)
      · decide +kernel
      apply Frame.after (frame_toneEvent _ _ _)
      · decide +kernel
      apply Frame.after (frame_setTone _ _ _)
      · decide +kernel
      exact Frame.rfl' _
    · apply Frame.after (frame_toneEvent _ _ _)
      · decide +kernel
      apply Frame.after (frame_setTone _ _ _)
      · decide +kernel
      exact Frame.rfl' _
  · exact Frame.rfl' _

theorem frame_execMuteOn (s : State) :
    Frame [.pins, .regs, .plt, .phy, .link, .master, .rear, .way, .stack, .intake, .mix, .ech, .call, .mic, .wake, .hif, .tag, .toll, .pwr, .cfg, .dbg, .free] none s (nextOf s (execMuteOn s)) := by
  unfold execMuteOn
  try dsimp -proj only [nextOf]
  apply Frame.ite
  · apply Frame.after (frame_put _ _ _)
    · decide +kernel
    apply Frame.set_pins
    · rfl
    exact Frame.rfl' _
  · apply Frame.after (frame_wakeBy _ _)
    · decide +kernel
    apply Frame.after (frame_tellMute _ _)
    · decide +kernel
    apply Frame.foldl
    · apply Frame.set_wake
      · rfl
      apply Frame.after (frame_stopMics _)
      · decide +kernel
      apply Frame.after (frame_wr _ _ _)
      · decide +kernel
      apply Frame.after (frame_dropProbes _)
      · decide +kernel
      apply Frame.after (frame_discardWake _)
      · decide +kernel
      apply Frame.after (frame_stim _ _ _)
      · decide +kernel
      apply Frame.after (frame_bump _ _)
      · decide +kernel
      apply Frame.after (frame_put _ _ _)
      · decide +kernel
      apply Frame.after (frame_put _ _ _)
      · decide +kernel
      apply Frame.set_pins
      · rfl
      exact Frame.rfl' _
    · intro _ _ _
      apply Frame.after (frame_releaseCatchUp _ _)
      · decide +kernel
      assumption

theorem frame_execPushToTalkRelease (s : State) :
    Frame [.pins, .regs, .link, .master, .way, .call] (some [0x2084, 0x20C4]) s (nextOf s (execPushToTalkRelease s)) := by
  unfold execPushToTalkRelease
  try dsimp -proj only [nextOf]
  apply Frame.ite
  · apply Frame.after (frame_dropTalk _ _ _)
    · decide +kernel
    apply Frame.set_pins_call
    · rfl
    exact Frame.rfl' _
  · apply Frame.set_pins_call
    · rfl
    exact Frame.rfl' _

theorem frame_execMicBridgeEnd (s : State) :
    Frame [.regs, .mic] (some [0x4060]) s (nextOf s (execMicBridgeEnd s)) := by
  unfold execMicBridgeEnd
  try dsimp -proj only [nextOf]
  apply Frame.ite
  · apply Frame.after (frame_put _ _ _)
    · decide +kernel
    apply Frame.set_mic
    · rfl
    exact Frame.rfl' _
  · exact Frame.rfl' _

theorem frame_execHowlGainStep (s : State) :
    Frame [.regs, .ech] (some [0x3080]) s (nextOf s (execHowlGainStep s)) := by
  unfold execHowlGainStep
  try dsimp -proj only [nextOf]
  apply Frame.ite
  · apply Frame.after (frame_wr _ _ _)
    · decide +kernel
    apply Frame.set_ech
    · rfl
    exact Frame.rfl' _
  · apply Frame.ite
    · apply Frame.after (frame_wr _ _ _)
      · decide +kernel
      apply Frame.set_ech
      · rfl
      exact Frame.rfl' _
    · exact Frame.rfl' _

theorem frame_execAsrcLockLoss (s : State) :
    Frame [.regs] (some [0x29C0]) s (nextOf s (execAsrcLockLoss s)) := by
  unfold execAsrcLockLoss
  try dsimp -proj only [nextOf]
  apply Frame.after (frame_put _ _ _)
  · decide +kernel
  exact Frame.rfl' _

theorem frame_execPvddSpkLow (s : State) :
    Frame [.pins] (some []) s (nextOf s (execPvddSpkLow s)) := by
  unfold execPvddSpkLow
  try dsimp -proj only [nextOf]
  apply Frame.set_pins
  · rfl
  exact Frame.rfl' _

theorem frame_execStuckWindow (constant : BitVec 8) (s : State) :
    Frame [.regs, .mic, .hif] (some (evRegs ++ [0x4050, 0x4054, 0x4064])) s (nextOf s (execStuckWindow constant s)) := by
  unfold execStuckWindow
  try dsimp -proj only [nextOf]
  apply Frame.ite
  · apply Frame.set_mic
    · rfl
    exact Frame.rfl' _
  · apply Frame.ite
    · apply Frame.foldl
      · apply Frame.set_mic
        · rfl
        apply Frame.after (frame_wr _ _ _)
        · decide +kernel
        exact Frame.rfl' _
      · intro _ _ _
        apply Frame.ite
        · apply Frame.after (frame_startProbe _ _ _)
          · decide +kernel
          assumption
        · assumption
    · apply Frame.after (frame_setCauses _ _)
      · decide +kernel
      apply Frame.set_mic
      · rfl
      apply Frame.after (frame_wr _ _ _)
      · decide +kernel
      exact Frame.rfl' _

theorem frame_execHowlFound (freq : BitVec 13) (s : State) :
    Frame [.regs, .ech, .hif] none s (nextOf s (execHowlFound freq s)) := by
  unfold execHowlFound
  try dsimp -proj only [nextOf]
  try dsimp -proj only
  apply Frame.ite
  · exact Frame.rfl' _
  · split
    all_goals try dsimp -proj only [nextOf]
    · apply Frame.after (frame_raise _ _ _ _ _ _)
      · decide +kernel
      apply Frame.after (frame_showNotches _)
      · decide +kernel
      apply Frame.set_ech
      · rfl
      apply Frame.after (frame_bump _ _)
      · decide +kernel
      exact Frame.rfl' _
    · apply Frame.after (frame_raise _ _ _ _ _ _)
      · decide +kernel
      apply Frame.after (frame_wr _ _ _)
      · decide +kernel
      apply Frame.set_ech
      · rfl
      apply Frame.after (frame_bump _ _)
      · decide +kernel
      exact Frame.rfl' _

theorem frame_execAnnunciatorRetry (s : State) :
    Frame [.regs, .mix] (some [0x29C0]) s (nextOf s (execAnnunciatorRetry s)) := by
  unfold execAnnunciatorRetry
  try dsimp -proj only [nextOf]
  try dsimp -proj only
  split
  all_goals try dsimp -proj only [nextOf]
  · apply Frame.set_mix
    · rfl
    exact Frame.rfl' _
  · apply Frame.after (frame_put _ _ _)
    · decide +kernel
    apply Frame.set_mix
    · rfl
    exact Frame.rfl' _
  · exact Frame.rfl' _

theorem frame_execPushToTalkStart (s : State) :
    Frame [.pins, .regs, .plt, .phy, .link, .master, .rear, .way, .stack, .intake, .mix, .ech, .call, .mic, .wake, .hif, .tag, .toll, .pwr, .cfg, .dbg] none s (nextOf s (execPushToTalkStart s)) := by
  unfold execPushToTalkStart
  try dsimp -proj only [nextOf]
  apply Frame.ite
  · apply Frame.after (frame_wakeBy _ _)
    · decide +kernel
    apply Frame.set_pins
    · rfl
    exact Frame.rfl' _
  · apply Frame.ite
    · apply Frame.after (frame_askPtt _)
      · decide +kernel
      apply Frame.set_call
      · rfl
      apply Frame.after (frame_wakeBy _ _)
      · decide +kernel
      apply Frame.set_pins
      · rfl
      exact Frame.rfl' _
    · apply Frame.set_call
      · rfl
      apply Frame.after (frame_wakeBy _ _)
      · decide +kernel
      apply Frame.set_pins
      · rfl
      exact Frame.rfl' _

theorem frame_execMicModeChange (s : State) :
    Frame [.regs, .mic, .wake, .hif, .dbg, .free] (some [0x1414, 0x4060, 0x4830, 0x6028, 0x6848]) s (nextOf s (execMicModeChange s)) := by
  unfold execMicModeChange
  try dsimp -proj only [nextOf]
  apply Frame.ite
  · exact Frame.rfl' _
  · apply Frame.ite
    · apply Frame.after (frame_stopMics _)
      · decide +kernel
      apply Frame.after (frame_wr _ _ _)
      · decide +kernel
      apply Frame.after (frame_dropProbes _)
      · decide +kernel
      exact Frame.rfl' _
    · apply Frame.ite
      · apply Frame.after (frame_startMics _)
        · decide +kernel
        apply Frame.after (frame_wr _ _ _)
        · decide +kernel
        apply Frame.after (frame_dropProbes _)
        · decide +kernel
        exact Frame.rfl' _
      · apply Frame.after (frame_bridgeMics _)
        · decide +kernel
        apply Frame.after (frame_wr _ _ _)
        · decide +kernel
        apply Frame.after (frame_dropProbes _)
        · decide +kernel
        exact Frame.rfl' _

theorem frame_execCallSend (c : Client) (s : State) :
    Frame [.regs, .plt, .link, .master, .way, .mix, .call, .wake, .hif, .dbg] (some (evRegs ++ [0x1414, 0x2084, 0x20C4, 0x3918, 0x6028, 0x6848, 0x7040])) s (nextOf s (execCallSend c s)) := by
  unfold execCallSend
  try dsimp -proj only [nextOf]
  refine frame_command _ _ _ _ _ ?_ (fun t j d => ?_)
  · decide +kernel
  · apply Frame.after (frame_doCallSend _ _ _ _)
    · decide +kernel
    exact Frame.rfl' _

theorem frame_execDeclineKey (s : State) :
    Frame [.regs, .plt, .phy, .link, .master, .rear, .way, .stack, .intake, .mix, .ech, .call, .mic, .wake, .hif, .tag, .toll, .pwr, .cfg, .dbg] none s (nextOf s (execDeclineKey s)) := by
  unfold execDeclineKey
  try dsimp -proj only [nextOf]
  apply Frame.ite
  · apply Frame.set_call
    · rfl
    apply Frame.after (frame_wakeBy _ _)
    · decide +kernel
    exact Frame.rfl' _
  · apply Frame.ite
    · apply Frame.after (frame_declineKey _)
      · decide +kernel
      apply Frame.after (frame_wakeBy _ _)
      · decide +kernel
      exact Frame.rfl' _
    · apply Frame.after (frame_wakeBy _ _)
      · decide +kernel
      exact Frame.rfl' _

theorem frame_execTalkKeyPress (s : State) :
    Frame [.pins, .regs, .plt, .phy, .link, .master, .rear, .way, .stack, .intake, .mix, .ech, .call, .mic, .wake, .hif, .tag, .toll, .pwr, .cfg, .dbg] none s (nextOf s (execTalkKeyPress s)) := by
  unfold execTalkKeyPress
  try dsimp -proj only [nextOf]
  apply Frame.ite
  · apply Frame.set_call
    · rfl
    apply Frame.after (frame_wakeBy _ _)
    · decide +kernel
    exact Frame.rfl' _
  · apply Frame.ite
    · apply Frame.after (frame_talkKey _)
      · decide +kernel
      apply Frame.after (frame_wakeBy _ _)
      · decide +kernel
      exact Frame.rfl' _
    · apply Frame.after (frame_wakeBy _ _)
      · decide +kernel
      exact Frame.rfl' _

theorem frame_execTopPrecHoldExpiry (s : State) :
    Frame [.regs] (some [0x29C0]) s (nextOf s (execTopPrecHoldExpiry s)) := by
  unfold execTopPrecHoldExpiry
  try dsimp -proj only [nextOf]
  apply Frame.ite
  · apply Frame.after (frame_wr _ _ _)
    · decide +kernel
    exact Frame.rfl' _
  · exact Frame.rfl' _

theorem frame_execToneDetectorEnd (n : Fin 16) (s : State) :
    Frame [.regs, .call, .hif] (some evRegs) s (nextOf s (execToneDetectorEnd n s)) := by
  unfold execToneDetectorEnd
  try dsimp -proj only [nextOf]
  apply Frame.ite
  · apply Frame.after (frame_toneOver _ _)
    · decide +kernel
    apply Frame.after (frame_toneEvent _ _ _)
    · decide +kernel
    apply Frame.after (frame_setTone _ _ _)
    · decide +kernel
    exact Frame.rfl' _
  · exact Frame.rfl' _

theorem frame_execNotchRelease (n : Fin 4) (s : State) :
    Frame [.regs, .ech] none s (nextOf s (execNotchRelease n s)) := by
  unfold execNotchRelease
  try dsimp -proj only [nextOf]
  try dsimp -proj only
  split
  all_goals try dsimp -proj only [nextOf]
  · apply Frame.ite
    · apply Frame.after (frame_showNotches _)
      · decide +kernel
      apply Frame.set_ech
      · rfl
      exact Frame.rfl' _
    · exact Frame.rfl' _
  · exact Frame.rfl' _

theorem frame_execMuteOff (s : State) :
    Frame [.pins, .regs, .plt, .phy, .link, .master, .rear, .way, .stack, .intake, .mix, .ech, .call, .mic, .wake, .hif, .tag, .toll, .pwr, .cfg, .dbg] none s (nextOf s (execMuteOff s)) := by
  unfold execMuteOff
  try dsimp -proj only [nextOf]
  apply Frame.ite
  · exact Frame.rfl' _
  · apply Frame.after (frame_wakeBy _ _)
    · decide +kernel
    apply Frame.after (frame_tellMute _ _)
    · decide +kernel
    apply Frame.ite
    · apply Frame.set_pins
      · rfl
      apply Frame.set_mic
      · rfl
      apply Frame.after (frame_wr _ _ _)
      · decide +kernel
      apply Frame.after (frame_stim _ _ _)
      · decide +kernel
      apply Frame.after (frame_put _ _ _)
      · decide +kernel
      apply Frame.after (frame_put _ _ _)
      · decide +kernel
      exact Frame.rfl' _
    · apply Frame.set_mic
      · rfl
      apply Frame.after (frame_wr _ _ _)
      · decide +kernel
      apply Frame.after (frame_stim _ _ _)
      · decide +kernel
      apply Frame.after (frame_put _ _ _)
      · decide +kernel
      apply Frame.after (frame_put _ _ _)
      · decide +kernel
      exact Frame.rfl' _

theorem frame_execProbeDecision (w : Fin 4) (aFollows : Bool) (bFollows : Bool) (s : State) :
    Frame [.regs, .mic, .hif] (some (evRegs ++ [0x4050, 0x4054])) s (nextOf s (execProbeDecision w aFollows bFollows s)) := by
  unfold execProbeDecision
  try dsimp -proj only [nextOf]
  try dsimp -proj only
  split
  all_goals try dsimp -proj only [nextOf]
  · exact Frame.rfl' _
  · apply Frame.after (frame_recover _ _)
    · decide +kernel
    apply Frame.after (frame_setCauses _ _)
    · decide +kernel
    apply Frame.set_mic
    · rfl
    exact Frame.rfl' _

theorem frame_execHistoryFetchOverrun (stream : Fin 32) (s : State) :
    Frame [.regs, .wake, .hif, .dbg, .free] (some [0x1414, 0x4830, 0x6028, 0x6848]) s (nextOf s (execHistoryFetchOverrun stream s)) := by
  unfold execHistoryFetchOverrun
  try dsimp -proj only [nextOf]
  try dsimp -proj only
  split
  all_goals try dsimp -proj only [nextOf]
  · apply Frame.ite
    · apply Frame.after (frame_endFetch _ _)
      · decide +kernel
      exact Frame.rfl' _
    · exact Frame.rfl' _
  · apply Frame.after (frame_endFetch _ _)
    · decide +kernel
    exact Frame.rfl' _
  · exact Frame.rfl' _

theorem frame_execProbeRetry (w : Fin 4) (s : State) :
    Frame [.regs, .mic, .hif] (some (evRegs ++ [0x4050, 0x4054, 0x4064])) s (nextOf s (execProbeRetry w s)) := by
  unfold execProbeRetry
  try dsimp -proj only [nextOf]
  apply Frame.ite
  · exact Frame.rfl' _
  · apply Frame.ite
    · apply Frame.after (frame_startProbe _ _ _)
      · decide +kernel
      apply Frame.after (frame_recover _ _)
      · decide +kernel
      exact Frame.rfl' _
    · apply Frame.after (frame_recover _ _)
      · decide +kernel
      exact Frame.rfl' _

theorem frame_execChimeEntryEnd (s : State) :
    Frame [.mix] (some []) s (nextOf s (execChimeEntryEnd s)) := by
  unfold execChimeEntryEnd
  try dsimp -proj only [nextOf]
  try dsimp -proj only
  split
  all_goals try dsimp -proj only [nextOf]
  · exact Frame.rfl' _
  · split
    all_goals try dsimp -proj only [nextOf]
    · apply Frame.after (frame_beginChime _ _ _)
      · decide +kernel
      apply Frame.set_mix
      · rfl
      exact Frame.rfl' _
    · apply Frame.ite
      · apply Frame.ite
        · apply Frame.set_mix
          · rfl
          exact Frame.rfl' _
        · apply Frame.ite
          · apply Frame.set_mix
            · rfl
            exact Frame.rfl' _
          · apply Frame.after (frame_stopChime _)
            · decide +kernel
            exact Frame.rfl' _
      · apply Frame.set_mix
        · rfl
        exact Frame.rfl' _

theorem frame_execWakeEvent (start : Dword) (score : Byte) (s : State) :
    Frame [.regs, .wake] (some [0x4830]) s (nextOf s (execWakeEvent start score s)) := by
  unfold execWakeEvent
  try dsimp -proj only [nextOf]
  apply Frame.ite
  · exact Frame.rfl' _
  · apply Frame.ite
    · apply Frame.after (frame_bump _ _)
      · decide +kernel
      exact Frame.rfl' _
    · apply Frame.set_wake
      · rfl
      exact Frame.rfl' _

end Sys2Proof.Laws
end

