-- ==== Sys2Proof/Laws/ExecHost.lean ====
section
/-! SUPPORT. What each command of a family can change, in any state: one lemma `frame_exec<Command>` for each command of the host link, descriptors, the standby port, the check units and the cartridge. -/

namespace Sys2Proof.Laws

open Sys2Proof.Machine

set_option Elab.async false

theorem frame_execTalkOpen (c : Client) (s : State) :
    Frame [.regs, .plt, .link, .master, .way, .hif, .dbg] (some [0x1414, 0x2084, 0x20C4, 0x6028, 0x6848, 0x7040]) s (nextOf s (execTalkOpen c s)) := by
  unfold execTalkOpen
  try dsimp -proj only [nextOf]
  refine frame_command _ _ _ _ _ ?_ (fun t j d => ?_)
  · decide +kernel
  · apply Frame.after (frame_doTalkOpen _ _ _ _)
    · decide +kernel
    exact Frame.rfl' _

theorem frame_execLinkDown (s : State) :
    Frame [.regs, .plt, .link, .master, .way, .wake, .hif, .pwr, .cfg] none s (nextOf s (execLinkDown s)) := by
  unfold execLinkDown
  try dsimp -proj only [nextOf]
  apply Frame.ite
  · exact Frame.rfl' _
  · apply Frame.set_hif
    · rfl
    apply Frame.after (frame_showLink _ _ _)
    · decide +kernel
    apply Frame.after (frame_flr _)
    · decide +kernel
    exact Frame.rfl' _

theorem frame_execEventSubscribe (c : Client) (s : State) :
    Frame [.regs, .plt, .hif, .dbg] (some [0x1414, 0x6028, 0x6848, 0x7040]) s (nextOf s (execEventSubscribe c s)) := by
  unfold execEventSubscribe
  try dsimp -proj only [nextOf]
  refine frame_command _ _ _ _ _ ?_ (fun t j d => ?_)
  · decide +kernel
  · apply Frame.after (frame_doSubscribe _ _ _ _)
    · decide +kernel
    exact Frame.rfl' _

theorem frame_execTagSerialLoRead (s : State) :
    Frame [.regs] (some [0x4818, 0x4824, 0x500C, 0x7004, 0x7014]) s (nextOf s (execTagSerialLoRead s)) := by
  unfold execTagSerialLoRead
  try dsimp -proj only [nextOf]
  apply Frame.after (frame_latchCommand _ _)
  · decide +kernel
  exact Frame.rfl' _

theorem frame_execTagWrite (c : Client) (buf : List Byte) (s : State) :
    Frame [.regs, .plt, .hif, .sby, .tag, .cart, .dbg, .free] (some (evRegs ++ [0x1414, 0x5004, 0x5010, 0x5014, 0x501C, 0x6028, 0x6848, 0x7040])) s (nextOf s (execTagWrite c buf s)) := by
  unfold execTagWrite
  try dsimp -proj only [nextOf]
  refine frame_command _ _ _ _ _ ?_ (fun t j d => ?_)
  · decide +kernel
  · apply Frame.after (frame_doTagWrite _ _ _ _ _)
    · decide +kernel
    exact Frame.rfl' _

theorem frame_execTagLockRelease (s : State) :
    Frame [.cart] (some []) s (nextOf s (execTagLockRelease s)) := by
  unfold execTagLockRelease
  try dsimp -proj only [nextOf]
  apply Frame.set_cart
  · rfl
  · first | exact id | exact wf_put _ _ _ | exact wf_post _ _ _ _ _ | exact wf_writeRows _ _ _ | exact fun _ => rfl
  exact Frame.rfl' _

theorem frame_execPowerVote (c : Client) (s : State) :
    Frame [.regs, .plt, .hif, .pwr, .dbg] none s (nextOf s (execPowerVote c s)) := by
  unfold execPowerVote
  try dsimp -proj only [nextOf]
  refine frame_command _ _ _ _ _ ?_ (fun t j d => ?_)
  · decide +kernel
  · apply Frame.after (frame_doPowerVote _ _ _ _)
    · decide +kernel
    exact Frame.rfl' _

theorem frame_execConfigGroupApply (g : CfgGroup) (s : State) :
    Frame [.pins, .regs, .plt, .link, .master, .way, .p57, .intake, .mix, .ech, .call, .wake, .hif, .pwr, .cfg, .dbg, .free] none s (nextOf s (execConfigGroupApply g s)) := by
  unfold execConfigGroupApply
  try dsimp -proj only [nextOf]
  apply Frame.after (frame_settleAll _)
  · decide +kernel
  apply Frame.after (frame_groupPoint _ _)
  · decide +kernel
  exact Frame.rfl' _

theorem frame_execContactlessSessionLimit (s : State) :
    Frame [.cart] (some []) s (nextOf s (execContactlessSessionLimit s)) := by
  unfold execContactlessSessionLimit
  try dsimp -proj only [nextOf]
  apply Frame.ite
  · apply Frame.set_cart
    · rfl
    · first | exact id | exact wf_put _ _ _ | exact wf_post _ _ _ _ _ | exact wf_writeRows _ _ _ | exact fun _ => rfl
    exact Frame.rfl' _
  · exact Frame.rfl' _

theorem frame_execStreamBuf (c : Client) (buf : List Byte) (s : State) :
    Frame [.regs, .plt, .wake, .hif, .dbg, .free] (some [0x1414, 0x6028, 0x6848, 0x7040]) s (nextOf s (execStreamBuf c buf s)) := by
  unfold execStreamBuf
  try dsimp -proj only [nextOf]
  refine frame_command _ _ _ _ _ ?_ (fun t j d => ?_)
  · decide +kernel
  · apply Frame.after (frame_doStreamBuf _ _ _ _ _)
    · decide +kernel
    exact Frame.rfl' _

theorem frame_execLineOkRise (s : State) :
    Frame [.regs, .plt, .phy, .link, .master, .rear, .way, .stack, .p57, .intake, .mix, .ech, .call, .mic, .wake, .hif, .sby, .tag, .cart, .toll, .pwr, .cfg, .dbg, .free] none s (nextOf s (execLineOkRise s)) := by
  unfold execLineOkRise
  try dsimp -proj only [nextOf]
  apply Frame.after (frame_countInsertion _)
  · decide +kernel
  apply Frame.set_p57
  · rfl
  exact Frame.rfl' _

theorem frame_execTollFinish (p : Path) (n : Fin 4) (s : State) :
    Frame wide none s (nextOf s (execTollFinish p n s)) := by
  unfold execTollFinish
  try dsimp -proj only [nextOf]
  refine Frame.mono (frame_tollWrite _ _ _ _ (fun t => ?_)) ?_
  · apply Frame.after (frame_tollFinish _ _ _)
    · decide +kernel
    exact Frame.rfl' _
  · decide +kernel

theorem frame_execCqHeadDoorbell (c : Fin 16) (size : AccSize) (v : Word) (s : State) :
    Frame [.regs, .plt, .phy, .link, .master, .rear, .way, .stack, .intake, .mix, .ech, .call, .mic, .wake, .hif, .tag, .toll, .pwr, .cfg, .dbg] none s (nextOf s (execCqHeadDoorbell c size v s)) := by
  unfold execCqHeadDoorbell
  try dsimp -proj only [nextOf]
  apply Frame.after (frame_ringDoorbell _ _ _ _ _)
  · decide +kernel
  exact Frame.rfl' _

theorem frame_execConfigApply (c : Client) (s : State) :
    Frame [.regs, .plt, .hif, .cfg, .dbg] none s (nextOf s (execConfigApply c s)) := by
  unfold execConfigApply
  try dsimp -proj only [nextOf]
  refine frame_command _ _ _ _ _ ?_ (fun t j d => ?_)
  · decide +kernel
  · apply Frame.after (frame_doConfigApply _ _ _ _ _)
    · decide +kernel
    exact Frame.rfl' _

theorem frame_execTollData32 (p : Path) (n : Fin 4) (v : Word) (s : State) :
    Frame wide none s (nextOf s (execTollData32 p n v s)) := by
  unfold execTollData32
  try dsimp -proj only [nextOf]
  refine Frame.mono (frame_tollWrite _ _ _ _ (fun t => ?_)) ?_
  · apply Frame.after (frame_tollData _ _ _ _)
    · decide +kernel
    exact Frame.rfl' _
  · decide +kernel

theorem frame_execCartridgeAbsent (s : State) :
    Frame [.pins, .regs, .plt, .phy, .link, .master, .rear, .way, .stack, .intake, .mix, .ech, .call, .mic, .wake, .hif, .tag, .cart, .toll, .pwr, .cfg, .dbg] none s (nextOf s (execCartridgeAbsent s)) := by
  unfold execCartridgeAbsent
  dsimp -proj only [nextOf]
  refine Frame.after (frame_raise _ _ _ _ _ _) (by decide +kernel) (Frame.foldl ?_ (fun u o h => Frame.after (frame_cutShort u o) (by decide +kernel) h))
  refine Frame.after (frame_wr _ _ _) (by decide +kernel) (Frame.after (frame_put _ _ _) (by decide +kernel) (Frame.after (frame_put _ _ _) (by decide +kernel)
    (Frame.after (frame_put _ _ _) (by decide +kernel) ?_)))
  exact Frame.set_pins_tag_cart _ _ _ rfl (fun _ => rfl) ((frame_wakeBy s 512).mono (by decide +kernel))

theorem out_next {w : List Part} {r : Option (List Nat)} {s t : State} (h : Frame w r s t) : Frame w r s (nextOf s (.next t)) := h

theorem settled_frame (u : State) (c : Nat) (s : State) (h : Frame [.regs, .plt, .link, .master, .way, .wake, .hif, .pwr, .cfg, .dbg] none s u) :
    Frame [.regs, .plt, .link, .master, .way, .wake, .hif, .pwr, .cfg, .dbg] none s (u.settle c) := Frame.after (frame_settle u c) (by decide +kernel) h

theorem finished_frame (s : State) (c j : Nat) (st : Status) (r i : Word) :
    Frame [.regs, .plt, .link, .master, .way, .wake, .hif, .pwr, .cfg, .dbg] none s (s.finish c j st r i) := (frame_finish s c j st r i).mono (by decide +kernel)

theorem freed_frame (s u : State) (n : Nat) (h : Frame [.regs, .plt, .link, .master, .way, .wake, .hif, .pwr, .cfg, .dbg] none s u) :
    Frame [.regs, .plt, .link, .master, .way, .wake, .hif, .pwr, .cfg, .dbg] none s (u.freeStream n) := Frame.after (frame_freeStream u n) (by decide +kernel) h

theorem aborted_frame (s : State) (x : InFlight) (c j : Nat) (r : Word) :
    Frame [.regs, .plt, .link, .master, .way, .wake, .hif, .pwr, .cfg, .dbg] none s (((s.releaseJob x).bump F.HIF_ERR.buf_dma).finish c j .aborted r 0) :=
  Frame.after (frame_finish _ c j .aborted r 0) (by decide +kernel) (Frame.after (frame_bump _ F.HIF_ERR.buf_dma) (by decide +kernel) ((frame_releaseJob s x).mono (by decide +kernel)))

theorem frame_execBufferTransferCompletion (c : Client) (id : Half) (ok : Bool) (moved : Nat) (s : State) :
    Frame [.regs, .plt, .link, .master, .way, .wake, .hif, .pwr, .cfg, .dbg] none s (nextOf s (execBufferTransferCompletion c id ok moved s)) := by
  unfold execBufferTransferCompletion
  cases s.findFlight c (movesBuffer id) with
  | none => exact Frame.rfl' s
  | some j =>
  dsimp -proj only
  cases (s.client c).flight[j]? with
  | none => exact Frame.rfl' s
  | some x =>
  dsimp -proj only
  cases s.streamTurn c j x with
  | false => exact Frame.rfl' s
  | true =>
  rewrite [if_neg (by decide)]
  cases ok with
  | false =>
    rewrite [if_pos (show (!false) = true from rfl)]
    cases x.isStream with
    | true => rewrite [if_pos rfl]; exact out_next ((frame_clientFault s c 5).mono (by decide +kernel))
    | false => rewrite [if_neg (by decide)]; exact out_next (settled_frame _ c s (aborted_frame s x c j _))
  | true =>
    rewrite [if_neg (by decide)]
    cases x.phase with
    | writing a st r i =>
      dsimp -proj only
      cases x.isStream with
      | true => rewrite [if_pos rfl]; exact out_next (settled_frame _ c s (freed_frame _ _ _ (finished_frame s c j st r i)))
      | false => rewrite [if_neg (by decide)]; exact out_next (settled_frame _ c s (finished_frame s c j st r i))
    | job u a st r i => exact out_next (settled_frame _ c s ((frame_jobDone s c j u st r i).mono (by decide +kernel)))
    | _ => exact Frame.rfl' s

theorem frame_execDStateChange (d3hot : Bool) (s : State) :
    Frame [.regs, .plt, .phy, .link, .master, .rear, .way, .stack, .intake, .mix, .ech, .call, .mic, .wake, .hif, .tag, .toll, .pwr, .cfg, .dbg] none s (nextOf s (execDStateChange d3hot s)) := by
  unfold execDStateChange
  try dsimp -proj only [nextOf]
  apply Frame.ite
  · apply Frame.after (frame_wr _ _ _)
    · decide +kernel
    apply Frame.set_hif
    · rfl
    apply Frame.after (frame_wakeBy _ _)
    · decide +kernel
    exact Frame.rfl' _
  · exact Frame.rfl' _

theorem frame_execPerstNAssert (s : State) :
    Frame [.pins, .regs, .plt, .link, .master, .way, .wake, .hif, .pwr, .cfg] none s (nextOf s (execPerstNAssert s)) := by
  unfold execPerstNAssert
  try dsimp -proj only [nextOf]
  apply Frame.ite
  · apply Frame.set_pins
    · rfl
    exact Frame.rfl' _
  · apply Frame.set_hif
    · rfl
    apply Frame.after (frame_showLink _ _ _)
    · decide +kernel
    apply Frame.after (frame_flr _)
    · decide +kernel
    apply Frame.set_pins
    · rfl
    exact Frame.rfl' _

theorem frame_execHostWriteRefused (c : Fin 16) (s : State) :
    Frame [.regs, .plt, .link, .master, .way, .wake, .hif, .pwr, .cfg, .dbg] none s (nextOf s (execHostWriteRefused c s)) := by
  unfold execHostWriteRefused
  try dsimp -proj only [nextOf]
  apply Frame.ite
  · apply Frame.after (frame_clientFault _ _ _)
    · decide +kernel
    exact Frame.rfl' _
  · exact Frame.rfl' _

theorem frame_execSbyReqWakeN (s : State) :
    Frame [.pins, .regs, .hif] (some [0x1804]) s (nextOf s (execSbyReqWakeN s)) := by
  unfold execSbyReqWakeN
  try dsimp -proj only [nextOf]
  apply Frame.ite
  · exact Frame.rfl' _
  · apply Frame.after (frame_reqWakeN _)
    · decide +kernel
    exact Frame.rfl' _

theorem frame_execSbCompletionRead (clocked : Nat) (s : State) :
    Frame [.sby] (some []) s (nextOf s (execSbCompletionRead clocked s)) := by
  unfold execSbCompletionRead
  try dsimp -proj only [nextOf]
  apply Frame.ite
  · exact Frame.rfl' _
  · apply Frame.set_sby
    · rfl
    · first | exact id | exact wf_setList _ _ _ _
    exact Frame.rfl' _

theorem frame_execDeferredRetry (s : State) :
    Frame [.regs, .hif, .sby, .tag, .cart, .dbg, .free] (some (evRegs ++ [0x1414, 0x5004, 0x5010, 0x5014, 0x501C, 0x6028, 0x6848])) s (nextOf s (execDeferredRetry s)) := by
  unfold execDeferredRetry
  try dsimp -proj only [nextOf]
  apply Frame.ite
  · exact Frame.rfl' _
  · apply Frame.after (frame_tryTag _)
    · decide +kernel
    exact Frame.rfl' _

theorem frame_execContactlessWrite (page : Byte) (data : List Byte) (s : State) :
    Frame [.cart] (some []) s (nextOf s (execContactlessWrite page data s)) := by
  refine frame_contactlessDo s (fun c => if 20 ≤ page.toNat ∧ page.toNat ≤ 147 ∧ data.length = 4 then (c.put (0x240 + 4 * (page.toNat - 20)) data, [], true) else (c, [], false)) (fun c h => ?_)
  split
  · exact wf_put _ _ _ h
  · exact h

theorem frame_execEventAcknowledge (c : Fin 16) (size : AccSize) (v : Word) (s : State) :
    Frame [.regs, .plt, .phy, .link, .master, .rear, .way, .stack, .intake, .mix, .ech, .call, .mic, .wake, .hif, .tag, .toll, .pwr, .cfg, .dbg] none s (nextOf s (execEventAcknowledge c size v s)) := by
  unfold execEventAcknowledge
  try dsimp -proj only [nextOf]
  apply Frame.after (frame_ringDoorbell _ _ _ _ _)
  · decide +kernel
  exact Frame.rfl' _

theorem frame_execTagWiredWrite (addr : BitVec 11) (data : List Byte) (s : State) :
    Frame [.cart] (some []) s (nextOf s (execTagWiredWrite addr data s)) := by
  unfold execTagWiredWrite
  try dsimp -proj only [nextOf]
  exact frame_wiredDo _ _ (fun _ h => wf_wiredWrite _ _ _ h)

theorem frame_execTraceEnable (p : Path) (s : State) :
    Frame [.regs, .plt, .phy, .link, .master, .rear, .way, .stack, .intake, .mix, .ech, .call, .mic, .wake, .hif, .tag, .toll, .pwr, .cfg, .dbg] none s (nextOf s (execTraceEnable p s)) := by
  unfold execTraceEnable
  try dsimp -proj only [nextOf]
  try dsimp -proj only
  split
  all_goals try dsimp -proj only [nextOf]
  · apply Frame.ite
    · apply Frame.after (frame_countLocked _)
      · decide +kernel
      first | assumption | exact (frame_reach _ _ _ _ (by assumption)).mono (by decide +kernel)
    · apply Frame.after (frame_restartTrace _)
      · decide +kernel
      apply Frame.after (frame_put _ _ _)
      · decide +kernel
      first | assumption | exact (frame_reach _ _ _ _ (by assumption)).mono (by decide +kernel)
  · exact Frame.rfl' _

theorem frame_execPrecedenceSet (c : Client) (s : State) :
    Frame [.regs, .plt, .link, .master, .way, .mix, .hif, .dbg] none s (nextOf s (execPrecedenceSet c s)) := by
  unfold execPrecedenceSet
  try dsimp -proj only [nextOf]
  refine frame_command _ _ _ _ _ ?_ (fun t j d => ?_)
  · decide +kernel
  · apply Frame.after (frame_doPrecedenceSet _ _ _ _ _)
    · decide +kernel
    exact Frame.rfl' _

theorem frame_execFence (c : Client) (s : State) :
    Frame [.regs, .plt, .hif, .dbg] (some [0x1414, 0x6028, 0x6848, 0x7040]) s (nextOf s (execFence c s)) := by
  unfold execFence
  try dsimp -proj only [nextOf]
  refine frame_command _ _ _ _ _ ?_ (fun t j d => ?_)
  · decide +kernel
  · apply Frame.after (frame_doNop _ _ _)
    · decide +kernel
    exact Frame.rfl' _

theorem frame_execConfigStage (c : Client) (buf : List Byte) (s : State) :
    Frame [.regs, .plt, .hif, .cfg, .dbg] (some [0x1414, 0x6028, 0x6848, 0x7040]) s (nextOf s (execConfigStage c buf s)) := by
  unfold execConfigStage
  try dsimp -proj only [nextOf]
  refine frame_command _ _ _ _ _ ?_ (fun t j d => ?_)
  · decide +kernel
  · apply Frame.after (frame_doConfigStage _ _ _ _ _)
    · decide +kernel
    exact Frame.rfl' _

theorem frame_execPerstNDeassert (s : State) :
    Frame [.pins, .regs, .plt, .phy, .link, .master, .rear, .way, .stack, .intake, .mix, .ech, .call, .mic, .wake, .hif, .tag, .toll, .pwr, .cfg, .dbg, .free] none s (nextOf s (execPerstNDeassert s)) := by
  unfold execPerstNDeassert
  try dsimp -proj only [nextOf]
  apply Frame.ite
  · apply Frame.set_pins
    · rfl
    exact Frame.rfl' _
  · apply Frame.ite
    · apply Frame.after (frame_trainLink _)
      · decide +kernel
      apply Frame.after (frame_wakeBy _ _)
      · decide +kernel
      apply Frame.after (frame_put _ _ _)
      · decide +kernel
      apply Frame.set_hif
      · rfl
      apply Frame.set_pins
      · rfl
      exact Frame.rfl' _
    · apply Frame.after (frame_wakeBy _ _)
      · decide +kernel
      apply Frame.after (frame_put _ _ _)
      · decide +kernel
      apply Frame.set_hif
      · rfl
      apply Frame.set_pins
      · rfl
      exact Frame.rfl' _

theorem frame_execClientDrained (c : Fin 16) (s : State) :
    Frame [.hif] (some []) s (nextOf s (execClientDrained c s)) := by
  unfold execClientDrained
  try dsimp -proj only [nextOf]
  apply Frame.ite
  · apply Frame.after (frame_modClient _ _ _)
    · decide +kernel
    exact Frame.rfl' _
  · exact Frame.rfl' _

theorem frame_execSbyHostWakeTest (s : State) :
    Frame [.regs] (some [0x1804]) s (nextOf s (execSbyHostWakeTest s)) := by
  unfold execSbyHostWakeTest
  try dsimp -proj only [nextOf]
  apply Frame.ite
  · exact Frame.rfl' _
  · apply Frame.after (frame_put _ _ _)
    · decide +kernel
    exact Frame.rfl' _

theorem frame_execSbMailboxWrite (bytes : List Byte) (s : State) :
    Frame [.regs, .plt, .phy, .link, .master, .rear, .way, .stack, .intake, .mix, .ech, .call, .mic, .wake, .hif, .sby, .tag, .toll, .pwr, .cfg, .dbg] none s (nextOf s (execSbMailboxWrite bytes s)) := by
  unfold execSbMailboxWrite
  try dsimp -proj only [nextOf]
  apply Frame.ite
  · exact Frame.rfl' _
  · apply Frame.ite
    · apply Frame.after (frame_bump _ _)
      · decide +kernel
      apply Frame.set_sby
      · rfl
      · first | exact id | exact wf_setList _ _ _ _
      exact Frame.rfl' _
    · apply Frame.after (frame_settle _ _)
      · decide +kernel
      apply Frame.after (frame_modClient _ _ _)
      · decide +kernel
      apply Frame.set_hif
      · rfl
      apply Frame.after (frame_wakeBy _ _)
      · decide +kernel
      apply Frame.set_sby
      · rfl
      · first | exact id | exact wf_setList _ _ _ _
      exact Frame.rfl' _

theorem frame_execTollData16 (p : Path) (n : Fin 4) (v : Half) (s : State) :
    Frame wide none s (nextOf s (execTollData16 p n v s)) := by
  unfold execTollData16
  try dsimp -proj only [nextOf]
  refine Frame.mono (frame_tollWrite _ _ _ _ (fun t => ?_)) ?_
  · apply Frame.after (frame_tollData _ _ _ _)
    · decide +kernel
    exact Frame.rfl' _
  · decide +kernel

theorem frame_execTagRead (c : Client) (s : State) :
    Frame [.regs, .plt, .hif, .sby, .tag, .cart, .dbg, .free] (some (evRegs ++ [0x1414, 0x5004, 0x5010, 0x5014, 0x501C, 0x6028, 0x6848, 0x7040])) s (nextOf s (execTagRead c s)) := by
  unfold execTagRead
  try dsimp -proj only [nextOf]
  refine frame_command _ _ _ _ _ ?_ (fun t j d => ?_)
  · decide +kernel
  · apply Frame.after (frame_doTagRead _ _ _ _)
    · decide +kernel
    exact Frame.rfl' _

theorem frame_execDiag (c : Client) (buf : List Byte) (s : State) :
    Frame [.regs, .plt, .hif, .sby, .dbg] (some [0x1414, 0x6028, 0x6848, 0x7040]) s (nextOf s (execDiag c buf s)) := by
  unfold execDiag
  try dsimp -proj only [nextOf]
  refine frame_command _ _ _ _ _ ?_ (fun t j d => ?_)
  · decide +kernel
  · apply Frame.after (frame_doDiag _ _ _ _ _)
    · decide +kernel
    exact Frame.rfl' _

theorem frame_execTollStart (p : Path) (n : Fin 4) (mode : BitVec 2) (s : State) :
    Frame wide none s (nextOf s (execTollStart p n mode s)) := by
  unfold execTollStart
  try dsimp -proj only [nextOf]
  refine Frame.mono (frame_tollWrite _ _ _ _ (fun t => ?_)) ?_
  · apply Frame.after (frame_tollStart _ _ _ _)
    · decide +kernel
    exact Frame.rfl' _
  · decide +kernel

theorem frame_execCartridgePresent (image : List (Nat × Byte)) (s : State) :
    Frame [.pins, .regs, .plt, .phy, .link, .master, .rear, .way, .stack, .intake, .mix, .ech, .call, .mic, .wake, .hif, .sby, .tag, .cart, .toll, .pwr, .cfg, .dbg, .free] none s (nextOf s (execCartridgePresent image s)) := by
  have hm : Cells.wf tagFactory (image.foldl (fun m x => if x.1 < 2048 then Cells.set tagFactory m x.1 x.2 else m) []) = true := by
    apply wf_foldl
    · rfl
    · intro m x h; split
      · exact wf_set _ _ _ _ h
      · exact h
  unfold execCartridgePresent
  dsimp -proj only [nextOf]
  generalize image.foldl (fun m x => if x.1 < 2048 then Cells.set tagFactory m x.1 x.2 else m) [] = mem at hm
  have g := Frame.set_pins_cart (w := [.pins, .cart]) (r := none) (s := s) (t := s) { s.pins with cartDet := true } { Cart.reset with mem := mem } rfl (fun _ => hm) (Frame.rfl' s)
  generalize ({ s with pins := { s.pins with cartDet := true }, cart := { Cart.reset with mem := mem } } : State) = u at g
  have g2 : Frame [.pins, .regs, .plt, .phy, .link, .master, .rear, .way, .stack, .intake, .mix, .ech, .call, .mic, .wake, .hif, .tag, .cart, .toll, .pwr, .cfg, .dbg] none s ((u.wakeBy (512 + 256)).put F.TAG_STATUS.present true) := Frame.after (frame_put _ F.TAG_STATUS.present true) (by decide +kernel) (Frame.after (frame_wakeBy u (512 + 256)) (by decide +kernel) (g.mono (by decide +kernel)))
  generalize State.put _ _ _ = v at g2
  split
  · exact Frame.after (frame_queueTag v (.identity true)) (by decide +kernel) (g2.mono (by decide +kernel))
  · exact Frame.set_tag (t := v) _ rfl (g2.mono (by decide +kernel))

theorem frame_execTollData8 (p : Path) (n : Fin 4) (v : Byte) (s : State) :
    Frame wide none s (nextOf s (execTollData8 p n v s)) := by
  unfold execTollData8
  try dsimp -proj only [nextOf]
  refine Frame.mono (frame_tollWrite _ _ _ _ (fun t => ?_)) ?_
  · apply Frame.after (frame_tollData _ _ _ _)
    · decide +kernel
    exact Frame.rfl' _
  · decide +kernel

theorem frame_execTagArbitrationLoss (byte : Byte) (b : Fin 8) (s : State) :
    Frame [.regs] (some [0x5018]) s (nextOf s (execTagArbitrationLoss byte b s)) := by
  unfold execTagArbitrationLoss
  try dsimp -proj only [nextOf]
  apply Frame.after (frame_bump _ _)
  · decide +kernel
  apply Frame.after (frame_wr _ _ _)
  · decide +kernel
  apply Frame.after (frame_wr _ _ _)
  · decide +kernel
  exact Frame.rfl' _

theorem frame_execReadClearRead (off : Half) (size : AccSize) (s : State) :
    Frame [.pins, .regs, .plt, .phy, .link, .master, .rear, .way, .stack, .intake, .mix, .ech, .call, .mic, .wake, .hif, .tag, .toll, .pwr, .cfg, .dbg] none s (nextOf s (execReadClearRead off size s)) := by
  unfold execReadClearRead
  try dsimp -proj only [nextOf]
  try dsimp -proj only
  split
  all_goals try dsimp -proj only [nextOf]
  · apply Frame.ite
    · apply Frame.after (frame_barRead _ _)
      · decide +kernel
      exact Frame.rfl' _
    · apply Frame.after (frame_badSize _)
      · decide +kernel
      exact Frame.rfl' _
  · apply Frame.ite
    · apply Frame.after (frame_barRead _ _)
      · decide +kernel
      apply Frame.after (frame_barRead _ _)
      · decide +kernel
      exact Frame.rfl' _
    · apply Frame.after (frame_badSize _)
      · decide +kernel
      exact Frame.rfl' _
  · apply Frame.after (frame_badSize _)
    · decide +kernel
    exact Frame.rfl' _

theorem frame_execDescriptorFetchCompletion (c : Fin 16) (r : FetchResult) (s : State) :
    Frame [.regs, .plt, .link, .master, .way, .wake, .hif, .pwr, .cfg, .dbg] none s (nextOf s (execDescriptorFetchCompletion c r s)) := by
  unfold execDescriptorFetchCompletion
  try dsimp -proj only [nextOf]
  try dsimp -proj only
  apply Frame.ite
  · exact Frame.rfl' _
  · split
    all_goals try dsimp -proj only [nextOf]
    · apply Frame.after (frame_clientFault _ _ _)
      · decide +kernel
      exact Frame.rfl' _
    · apply Frame.ite
      · apply Frame.after (frame_modClient _ _ _)
        · decide +kernel
        exact Frame.rfl' _
      · apply Frame.after (frame_settle _ _)
        · decide +kernel
        apply Frame.after (frame_fetched _ _ _)
        · decide +kernel
        exact Frame.rfl' _

theorem frame_execLedgerSendWithdraw (c : Client) (s : State) :
    Frame [.regs, .plt, .link, .way, .hif, .dbg] (some [0x1414, 0x6028, 0x6848, 0x7040]) s (nextOf s (execLedgerSendWithdraw c s)) := by
  unfold execLedgerSendWithdraw
  try dsimp -proj only [nextOf]
  try dsimp -proj only
  split
  all_goals try dsimp -proj only [nextOf]
  · split
    all_goals try dsimp -proj only [nextOf]
    · apply Frame.after (frame_settle _ _)
      · decide +kernel
      apply Frame.after (frame_finish _ _ _ _ _ _)
      · decide +kernel
      apply Frame.after (frame_modLnk _ _ _)
      · decide +kernel
      exact Frame.rfl' _
    · exact Frame.rfl' _
  · exact Frame.rfl' _

theorem frame_execCheckJob (c : Client) (buf : List Byte) (s : State) :
    Frame [.regs, .plt, .hif, .sby, .dbg] none s (nextOf s (execCheckJob c buf s)) := by
  have g : Frame [.regs, .plt, .hif, .sby, .dbg] none s (s.command c 0x60 buf (fun s j d => s.doCheckJob c j d (s.bufferOf c d buf))) := by
    refine frame_command _ _ _ _ _ (by decide +kernel) (fun t j d => ?_)
    exact (frame_doCheckJob _ _ _ _ _).mono (by decide +kernel)
  unfold execCheckJob
  cases s.startable c 0x60 with
  | none => exact Frame.rfl' s
  | some x =>
    dsimp -proj only
    split
    · exact Frame.rfl' s
    · exact g

theorem frame_execWarmRestartRequest (s : State) :
    Frame [.pins, .regs, .link, .master, .way, .mix, .cfg, .dbg] (some [0x0034, 0x0040, 0x6830, 0x6844]) s (nextOf s (execWarmRestartRequest s)) := by
  unfold execWarmRestartRequest
  try dsimp -proj only [nextOf]
  apply Frame.ite
  · exact Frame.rfl' _
  · apply Frame.ite
    · apply Frame.after (frame_countLocked _)
      · decide +kernel
      exact Frame.rfl' _
    · apply Frame.after (frame_startWarm _)
      · decide +kernel
      exact Frame.rfl' _

theorem frame_execTagBudgetExpiry (s : State) :
    Frame [.regs, .hif, .tag, .dbg] (some (evRegs ++ [0x1414, 0x501C, 0x6028, 0x6848])) s (nextOf s (execTagBudgetExpiry s)) := by
  unfold execTagBudgetExpiry
  cases s.tag.ops with
  | nil => exact Frame.rfl' s
  | cons o rest =>
  dsimp -proj only
  have g : Frame [.regs, .hif, .tag, .dbg] (some (evRegs ++ [0x1414, 0x501C, 0x6028, 0x6848])) s (s.bump F.TAG_ERR.contended) := (frame_bump s F.TAG_ERR.contended).mono (by decide +kernel)
  generalize s.bump F.TAG_ERR.contended = u at g
  cases o with
  | identity ins => exact Frame.set_tag (t := u) _ rfl g
  | host c id => exact Frame.after (frame_finishWhere _ c _ .tagContended 0 0) (by decide +kernel) (Frame.set_tag (t := u) _ rfl g)
  | life d post ov => exact Frame.after (frame_deferOp _ d post ov) (by decide +kernel) (Frame.set_tag (t := u) _ rfl g)

theorem frame_execLedgerSend (c : Client) (buf : List Byte) (s : State) :
    Frame [.regs, .plt, .link, .master, .way, .hif, .dbg] (some [0x1414, 0x2084, 0x20C4, 0x6028, 0x6848, 0x7040]) s (nextOf s (execLedgerSend c buf s)) := by
  unfold execLedgerSend
  try dsimp -proj only [nextOf]
  refine frame_command _ _ _ _ _ ?_ (fun t j d => ?_)
  · decide +kernel
  · apply Frame.after (frame_doLedgerSend _ _ _ _ _)
    · decide +kernel
    exact Frame.rfl' _

theorem frame_execSetupLock (p : Path) (s : State) :
    Frame [.regs, .plt, .phy, .link, .master, .rear, .way, .stack, .intake, .mix, .ech, .call, .mic, .wake, .hif, .tag, .toll, .pwr, .cfg, .dbg] none s (nextOf s (execSetupLock p s)) := by
  unfold execSetupLock
  try dsimp -proj only [nextOf]
  try dsimp -proj only
  split
  all_goals try dsimp -proj only [nextOf]
  · apply Frame.after (frame_setLock _)
    · decide +kernel
    first | assumption | exact (frame_reach _ _ _ _ (by assumption)).mono (by decide +kernel)
  · exact Frame.rfl' _

theorem frame_execTollAbort (p : Path) (n : Fin 4) (s : State) :
    Frame wide none s (nextOf s (execTollAbort p n s)) := by
  unfold execTollAbort
  try dsimp -proj only [nextOf]
  refine Frame.mono (frame_tollWrite _ _ _ _ (fun t => ?_)) ?_
  · apply Frame.after (frame_tollAbort _ _ _)
    · decide +kernel
    exact Frame.rfl' _
  · decide +kernel

theorem frame_execHistoryFetch (c : Client) (s : State) :
    Frame [.regs, .plt, .wake, .hif, .dbg, .free] (some [0x1414, 0x6028, 0x6848, 0x7040]) s (nextOf s (execHistoryFetch c s)) := by
  unfold execHistoryFetch
  try dsimp -proj only [nextOf]
  refine frame_command _ _ _ _ _ ?_ (fun t j d => ?_)
  · decide +kernel
  · apply Frame.after (frame_doHistoryFetch _ _ _ _)
    · decide +kernel
    exact Frame.rfl' _

theorem frame_execSbyHostWakeActive (s : State) :
    Frame [.regs] (some [0x1804]) s (nextOf s (execSbyHostWakeActive s)) := by
  unfold execSbyHostWakeActive
  try dsimp -proj only [nextOf]
  apply Frame.ite
  · exact Frame.rfl' _
  · apply Frame.after (frame_put _ _ _)
    · decide +kernel
    exact Frame.rfl' _

theorem frame_execRoomSet (c : Client) (s : State) :
    Frame [.regs, .plt, .link, .master, .way, .mix, .hif, .dbg] none s (nextOf s (execRoomSet c s)) := by
  unfold execRoomSet
  try dsimp -proj only [nextOf]
  refine frame_command _ _ _ _ _ ?_ (fun t j d => ?_)
  · decide +kernel
  · apply Frame.after (frame_doRoomSet _ _ _ _ _)
    · decide +kernel
    exact Frame.rfl' _

theorem sbReads_frame (f : Nat → Nat) (l : List Nat) (s : State) (x : State × List Byte)
    (h : Frame [.pins, .regs, .plt, .phy, .link, .master, .rear, .way, .stack, .intake, .mix, .ech, .call, .mic, .wake, .hif, .tag, .toll, .pwr, .cfg, .dbg] none s x.1) :
    Frame [.pins, .regs, .plt, .phy, .link, .master, .rear, .way, .stack, .intake, .mix, .ech, .call, .mic, .wake, .hif, .tag, .toll, .pwr, .cfg, .dbg] none s
      (l.foldl (fun (x : State × List Byte) i => let (t, v) := x.1.sbRead (f i); (t, x.2 ++ toLe 4 v.toNat)) x).1 := by
  induction l generalizing x with
  | nil => exact h
  | cons i l ih => exact ih _ ((frame_sbRead x.1 (f i)).after (by decide +kernel) h)

theorem frame_execSbRegisterRead (addr : Half) (words : Nat) (s : State) :
    Frame [.pins, .regs, .plt, .phy, .link, .master, .rear, .way, .stack, .intake, .mix, .ech, .call, .mic, .wake, .hif, .sby, .tag, .toll, .pwr, .cfg, .dbg] none s (nextOf s (execSbRegisterRead addr words s)) := by
  unfold execSbRegisterRead
  dsimp -proj only [nextOf]
  split
  · exact Frame.rfl' s
  · have g := sbReads_frame (fun i => sbOffset addr i) (List.range words) s (s, []) (Frame.rfl' s)
    generalize List.foldl _ _ _ = y at g
    obtain ⟨t, bytes⟩ := y
    exact Frame.set_sby (t := t) _ rfl (fun c => c) (g.mono (by decide +kernel))

theorem frame_execWakeHistOldestLoRead (s : State) :
    Frame [.regs] (some [0x4818, 0x4824, 0x500C, 0x7004, 0x7014]) s (nextOf s (execWakeHistOldestLoRead s)) := by
  unfold execWakeHistOldestLoRead
  try dsimp -proj only [nextOf]
  apply Frame.after (frame_latchCommand _ _)
  · decide +kernel
  exact Frame.rfl' _

theorem frame_execTagAppend (data : List Byte) (s : State) :
    Frame [.cart] (some []) s (nextOf s (execTagAppend data s)) := by
  unfold execTagAppend
  try dsimp -proj only [nextOf]
  exact frame_wiredDo _ _ (fun _ h => wf_append _ _ h)

theorem frame_execContactlessRead (page : Byte) (s : State) :
    Frame [.cart] (some []) s (nextOf s (execContactlessRead page s)) := by
  refine frame_contactlessDo s (fun c => if page.toNat ≤ 163 then (c, (List.range 16).map (fun i => c.pageByte (4 * page.toNat + i)), true) else (c, [], false)) (fun c h => ?_)
  split <;> exact h

theorem frame_execSqTailDoorbell (c : Fin 16) (size : AccSize) (v : Word) (s : State) :
    Frame [.regs, .plt, .phy, .link, .master, .rear, .way, .stack, .intake, .mix, .ech, .call, .mic, .wake, .hif, .tag, .toll, .pwr, .cfg, .dbg] none s (nextOf s (execSqTailDoorbell c size v s)) := by
  unfold execSqTailDoorbell
  try dsimp -proj only [nextOf]
  apply Frame.after (frame_ringDoorbell _ _ _ _ _)
  · decide +kernel
  exact Frame.rfl' _

theorem frame_execSbBufferRead (off : Byte) (n : Nat) (s : State) :
    Frame [.sby, .free] (some []) s (nextOf s (execSbBufferRead off n s)) := by
  unfold execSbBufferRead
  try dsimp -proj only [nextOf]
  apply Frame.ite
  · exact Frame.rfl' _
  · apply Frame.ite
    · apply Frame.after (frame_takeFree _ _)
      · decide +kernel
      apply Frame.set_sby
      · rfl
      · first | exact id | exact wf_setList _ _ _ _
      exact Frame.rfl' _
    · apply Frame.set_sby
      · rfl
      · first | exact id | exact wf_setList _ _ _ _
      exact Frame.rfl' _

theorem frame_execDescriptorFetch (c : Fin 16) (s : State) :
    Frame [.hif] (some []) s (nextOf s (execDescriptorFetch c s)) := by
  unfold execDescriptorFetch
  try dsimp -proj only [nextOf]
  apply Frame.ite
  · apply Frame.after (frame_modClient _ _ _)
    · decide +kernel
    apply Frame.set_hif
    · rfl
    exact Frame.rfl' _
  · exact Frame.rfl' _

theorem sbWrites_frame (f : Nat → Nat) (l : List Word) (s : State) (x : State × Nat)
    (h : Frame [.pins, .regs, .plt, .phy, .link, .master, .rear, .way, .stack, .p57, .intake, .mix, .ech, .call, .mic, .wake, .hif, .tag, .toll, .pwr, .cfg, .dbg, .free] none s x.1) :
    Frame [.pins, .regs, .plt, .phy, .link, .master, .rear, .way, .stack, .p57, .intake, .mix, .ech, .call, .mic, .wake, .hif, .tag, .toll, .pwr, .cfg, .dbg, .free] none s
      (l.foldl (fun (x : State × Nat) v => (x.1.sbWrite (f x.2) v, x.2 + 1)) x).1 := by
  induction l generalizing x with
  | nil => exact h
  | cons v l ih => exact ih _ ((frame_sbWrite x.1 (f x.2) v).after (by decide +kernel) h)

theorem frame_execSbRegisterWrite (addr : Half) (ws : List Word) (s : State) :
    Frame [.pins, .regs, .plt, .phy, .link, .master, .rear, .way, .stack, .p57, .intake, .mix, .ech, .call, .mic, .wake, .hif, .tag, .toll, .pwr, .cfg, .dbg, .free] none s (nextOf s (execSbRegisterWrite addr ws s)) := by
  unfold execSbRegisterWrite
  dsimp -proj only [nextOf]
  split
  · exact Frame.rfl' s
  · exact sbWrites_frame (fun i => sbOffset addr i) ws s (s, 0) (Frame.rfl' s)
theorem frame_execStreamClose (c : Client) (s : State) :
    Frame [.regs, .plt, .hif, .dbg] (some [0x1414, 0x6028, 0x6848, 0x7040]) s (nextOf s (execStreamClose c s)) := by
  unfold execStreamClose
  try dsimp -proj only [nextOf]
  refine frame_command _ _ _ _ _ ?_ (fun t j d => ?_)
  · decide +kernel
  · apply Frame.after (frame_doStreamClose _ _ _ _)
    · decide +kernel
    exact Frame.rfl' _

theorem frame_execTagTransactionRetry (s : State) :
    Frame [.regs, .hif, .sby, .tag, .cart, .dbg, .free] (some (evRegs ++ [0x1414, 0x5004, 0x5010, 0x5014, 0x501C, 0x6028, 0x6848])) s (nextOf s (execTagTransactionRetry s)) := by
  unfold execTagTransactionRetry
  try dsimp -proj only [nextOf]
  apply Frame.ite
  · exact Frame.rfl' _
  · apply Frame.after (frame_tryTag _)
    · decide +kernel
    exact Frame.rfl' _

theorem frame_execTalkClose (c : Client) (s : State) :
    Frame [.regs, .plt, .link, .master, .way, .hif, .dbg] (some [0x1414, 0x2084, 0x20C4, 0x6028, 0x6848, 0x7040]) s (nextOf s (execTalkClose c s)) := by
  unfold execTalkClose
  try dsimp -proj only [nextOf]
  refine frame_command _ _ _ _ _ ?_ (fun t j d => ?_)
  · decide +kernel
  · apply Frame.after (frame_doTalkClose _ _ _ _)
    · decide +kernel
    exact Frame.rfl' _

theorem frame_execStreamOpen (c : Client) (s : State) :
    Frame [.regs, .plt, .hif, .dbg] (some [0x1414, 0x6028, 0x6848, 0x7040]) s (nextOf s (execStreamOpen c s)) := by
  unfold execStreamOpen
  try dsimp -proj only [nextOf]
  refine frame_command _ _ _ _ _ ?_ (fun t j d => ?_)
  · decide +kernel
  · apply Frame.after (frame_doStreamOpen _ _ _ _)
    · decide +kernel
    exact Frame.rfl' _

theorem frame_execNop (c : Client) (s : State) :
    Frame [.regs, .plt, .hif, .dbg] (some [0x1414, 0x6028, 0x6848, 0x7040]) s (nextOf s (execNop c s)) := by
  unfold execNop
  try dsimp -proj only [nextOf]
  refine frame_command _ _ _ _ _ ?_ (fun t j d => ?_)
  · decide +kernel
  · apply Frame.after (frame_doNop _ _ _)
    · decide +kernel
    exact Frame.rfl' _

theorem frame_execSbBufferWrite (off : Byte) (data : List Byte) (s : State) :
    Frame [.sby] (some []) s (nextOf s (execSbBufferWrite off data s)) := by
  unfold execSbBufferWrite
  try dsimp -proj only [nextOf]
  apply Frame.ite
  · exact Frame.rfl' _
  · apply Frame.set_sby
    · rfl
    · first | exact id | exact wf_setList _ _ _ _
    exact Frame.rfl' _

theorem frame_execLinkPowerStateChange (l : LinkState) (s : State) :
    Frame [.regs, .hif, .pwr, .free] (some [0x0890, 0x1408]) s (nextOf s (execLinkPowerStateChange l s)) := by
  unfold execLinkPowerStateChange
  try dsimp -proj only [nextOf]
  apply Frame.ite
  · exact Frame.rfl' _
  · apply Frame.ite
    · apply Frame.after (frame_checkEntry _)
      · decide +kernel
      apply Frame.after (frame_showLink _ _ _)
      · decide +kernel
      exact Frame.rfl' _
    · apply Frame.ite
      · apply Frame.after (frame_checkEntry _)
        · decide +kernel
        apply Frame.after (frame_trainLink _)
        · decide +kernel
        exact Frame.rfl' _
      · exact Frame.rfl' _

theorem frame_execTdmSafePoint (s : State) :
    Frame [.pins, .regs, .plt, .link, .master, .way, .p57, .intake, .mix, .ech, .call, .wake, .hif, .pwr, .cfg, .dbg, .free] none s (nextOf s (execTdmSafePoint s)) := by
  unfold execTdmSafePoint
  try dsimp -proj only [nextOf]
  apply Frame.ite
  · apply Frame.after (frame_settleAll _)
    · decide +kernel
    apply Frame.after (frame_groupPoint _ _)
    · decide +kernel
    exact Frame.rfl' _
  · apply Frame.ite
    · apply Frame.set_mix
      · rfl
      exact Frame.rfl' _
    · exact Frame.rfl' _

theorem frame_execRingEnable (c : Fin 16) (s : State) :
    Frame [.regs, .plt, .phy, .link, .master, .rear, .way, .stack, .intake, .mix, .ech, .call, .mic, .wake, .hif, .tag, .toll, .pwr, .cfg, .dbg] none s (nextOf s (execRingEnable c s)) := by
  unfold execRingEnable
  try dsimp -proj only [nextOf]
  try dsimp -proj only
  split
  all_goals try dsimp -proj only [nextOf]
  · apply Frame.ite
    · first | assumption | exact (frame_reach _ _ _ _ (by assumption)).mono (by decide +kernel)
    · apply Frame.after (frame_enableRing _ _)
      · decide +kernel
      first | assumption | exact (frame_reach _ _ _ _ (by assumption)).mono (by decide +kernel)
  · exact Frame.rfl' _

theorem frame_execTagLifePost (c : Client) (s : State) :
    Frame [.regs, .plt, .hif, .sby, .tag, .cart, .dbg, .free] (some (evRegs ++ [0x1414, 0x5004, 0x5010, 0x5014, 0x501C, 0x6028, 0x6848, 0x7040])) s (nextOf s (execTagLifePost c s)) := by
  unfold execTagLifePost
  try dsimp -proj only [nextOf]
  refine frame_command _ _ _ _ _ ?_ (fun t j d => ?_)
  · decide +kernel
  · apply Frame.after (frame_doLifePost _ _ _ _)
    · decide +kernel
    exact Frame.rfl' _

theorem frame_execCompletionWrite (c : Client) (s : State) :
    Frame [.regs, .plt, .hif, .sby, .dbg] (some [0x1404, 0x1414, 0x6028, 0x6848, 0x7040]) s (nextOf s (execCompletionWrite c s)) := by
  unfold execCompletionWrite
  try dsimp -proj only [nextOf]
  try dsimp -proj only
  split
  all_goals try dsimp -proj only [nextOf]
  · exact Frame.rfl' _
  · apply Frame.ite
    · apply Frame.ite
      · apply Frame.after (frame_settle _ _)
        · decide +kernel
        apply Frame.after (frame_placeEntry _ _)
        · decide +kernel
        exact Frame.rfl' _
      · exact Frame.rfl' _
    · apply Frame.ite
      · apply Frame.after (frame_settle _ _)
        · decide +kernel
        apply Frame.after (frame_writeEntry _ _ _)
        · decide +kernel
        exact Frame.rfl' _
      · exact Frame.rfl' _

theorem frame_execPltLpcCycleRead (s : State) :
    Frame [.regs] (some [0x4818, 0x4824, 0x500C, 0x7004, 0x7014]) s (nextOf s (execPltLpcCycleRead s)) := by
  unfold execPltLpcCycleRead
  try dsimp -proj only [nextOf]
  apply Frame.after (frame_latchCommand _ _)
  · decide +kernel
  exact Frame.rfl' _

theorem frame_execPerfRequest (c : Client) (s : State) :
    Frame [.regs, .plt, .hif, .pwr, .dbg] (some [0x0880, 0x1414, 0x6028, 0x6848, 0x7040]) s (nextOf s (execPerfRequest c s)) := by
  unfold execPerfRequest
  try dsimp -proj only [nextOf]
  refine frame_command _ _ _ _ _ ?_ (fun t j d => ?_)
  · decide +kernel
  · apply Frame.after (frame_doPerfRequest _ _ _ _)
    · decide +kernel
    exact Frame.rfl' _

theorem frame_execWakeLastStartLoRead (s : State) :
    Frame [.regs] (some [0x4818, 0x4824, 0x500C, 0x7004, 0x7014]) s (nextOf s (execWakeLastStartLoRead s)) := by
  unfold execWakeLastStartLoRead
  try dsimp -proj only [nextOf]
  apply Frame.after (frame_latchCommand _ _)
  · decide +kernel
  exact Frame.rfl' _

theorem frame_execBusMasterEnableChange (bme : Bool) (s : State) :
    Frame [.regs, .plt, .phy, .link, .master, .rear, .way, .stack, .intake, .mix, .ech, .call, .mic, .wake, .hif, .tag, .toll, .pwr, .cfg, .dbg] none s (nextOf s (execBusMasterEnableChange bme s)) := by
  unfold execBusMasterEnableChange
  try dsimp -proj only [nextOf]
  apply Frame.ite
  · apply Frame.set_hif
    · rfl
    apply Frame.after (frame_wakeBy _ _)
    · decide +kernel
    exact Frame.rfl' _
  · exact Frame.rfl' _

theorem frame_execRegisterWrite (off : Half) (size : AccSize) (v : Dword) (s : State) :
    Frame [.pins, .regs, .plt, .phy, .link, .master, .rear, .way, .stack, .p57, .intake, .mix, .ech, .call, .mic, .wake, .hif, .tag, .toll, .pwr, .cfg, .dbg, .free] none s (nextOf s (execRegisterWrite off size v s)) := by
  unfold execRegisterWrite
  try dsimp -proj only [nextOf]
  try dsimp -proj only
  split
  all_goals try dsimp -proj only [nextOf]
  · apply Frame.ite
    · apply Frame.after (frame_barWrite _ _ _)
      · decide +kernel
      exact Frame.rfl' _
    · apply Frame.after (frame_badSize _)
      · decide +kernel
      exact Frame.rfl' _
  · apply Frame.ite
    · apply Frame.after (frame_barWrite _ _ _)
      · decide +kernel
      apply Frame.after (frame_barWrite _ _ _)
      · decide +kernel
      exact Frame.rfl' _
    · apply Frame.after (frame_badSize _)
      · decide +kernel
      exact Frame.rfl' _
  · apply Frame.after (frame_badSize _)
    · decide +kernel
    exact Frame.rfl' _

theorem frame_execRingDisable (c : Fin 16) (s : State) :
    Frame [.regs, .plt, .phy, .link, .master, .rear, .way, .stack, .intake, .mix, .ech, .call, .mic, .wake, .hif, .tag, .toll, .pwr, .cfg, .dbg] none s (nextOf s (execRingDisable c s)) := by
  unfold execRingDisable
  try dsimp -proj only [nextOf]
  try dsimp -proj only
  split
  all_goals try dsimp -proj only [nextOf]
  · apply Frame.after (frame_disableRing _ _)
    · decide +kernel
    first | assumption | exact (frame_reach _ _ _ _ (by assumption)).mono (by decide +kernel)
  · exact Frame.rfl' _

theorem frame_execListenSet (c : Client) (s : State) :
    Frame [.regs, .plt, .link, .master, .way, .mix, .hif, .dbg] none s (nextOf s (execListenSet c s)) := by
  unfold execListenSet
  try dsimp -proj only [nextOf]
  refine frame_command _ _ _ _ _ ?_ (fun t j d => ?_)
  · decide +kernel
  · apply Frame.after (frame_doListenSet _ _ _ _ _)
    · decide +kernel
    exact Frame.rfl' _

theorem frame_execVectorFire (c : Fin 16) (s : State) :
    Frame [.regs, .hif] (some [0x1404]) s (nextOf s (execVectorFire c s)) := by
  unfold execVectorFire
  try dsimp -proj only [nextOf]
  apply Frame.ite
  · apply Frame.after (frame_fireClient _ _)
    · decide +kernel
    exact Frame.rfl' _
  · exact Frame.rfl' _

theorem frame_execTagWiredRead (addr : BitVec 11) (n : Nat) (s : State) :
    Frame [.cart] (some []) s (nextOf s (execTagWiredRead addr n s)) := by
  unfold execTagWiredRead
  try dsimp -proj only [nextOf]
  exact frame_wiredDo _ _ (fun _ h => h)

theorem frame_execFunctionLevelReset (s : State) :
    Frame [.regs, .plt, .phy, .link, .master, .rear, .way, .stack, .intake, .mix, .ech, .call, .mic, .wake, .hif, .tag, .toll, .pwr, .cfg, .dbg] none s (nextOf s (execFunctionLevelReset s)) := by
  unfold execFunctionLevelReset
  try dsimp -proj only [nextOf]
  apply Frame.ite
  · exact Frame.rfl' _
  · apply Frame.after (frame_flr _)
    · decide +kernel
    apply Frame.after (frame_wakeBy _ _)
    · decide +kernel
    exact Frame.rfl' _

end Sys2Proof.Laws
end

