-- ==== Sys2Proof/Laws/ExecLine.lean ====
section
/-! SUPPORT. What each command of a family can change, in any state: one lemma `frame_exec<Command>` for each command of the line: time, signal, link, mastership and cascade. -/

namespace Sys2Proof.Laws

open Sys2Proof.Machine

set_option Elab.async false

theorem frame_execCheckpoint (f : LedgerFrame) (s : State) :
    Frame wide none s (nextOf s (execCheckpoint f s)) := by
  unfold execCheckpoint
  try dsimp -proj only [nextOf]
  refine Frame.mono (frame_frame _ _ _ _ _ (fun t => ?_)) ?_
  · apply Frame.ite
    · apply Frame.after (frame_takePart _ _)
      · decide +kernel
      exact Frame.rfl' _
    · exact Frame.rfl' _
  · decide +kernel

theorem frame_execCall (f : LedgerFrame) (s : State) :
    Frame wide none s (nextOf s (execCall f s)) := by
  unfold execCall
  try dsimp -proj only [nextOf]
  refine Frame.mono (frame_frame _ _ _ _ _ (fun t => ?_)) ?_
  · apply Frame.ite
    · apply Frame.after (frame_relay _ _)
      · decide +kernel
      exact Frame.rfl' _
    · apply Frame.after (frame_forwardCall _ _ _)
      · decide +kernel
      apply Frame.ite
      · apply Frame.after (frame_playsCall _ _ _)
        · decide +kernel
        apply Frame.after (frame_callIn _ _)
        · decide +kernel
        apply Frame.after (frame_modLnk _ _ _)
        · decide +kernel
        apply Frame.after (frame_relay _ _)
        · decide +kernel
        exact Frame.rfl' _
      · apply Frame.after (frame_modLnk _ _ _)
        · decide +kernel
        apply Frame.after (frame_relay _ _)
        · decide +kernel
        exact Frame.rfl' _
  · decide +kernel

theorem frame_execLineDown (p : Port) (s : State) :
    Frame [.regs, .plt, .phy, .link, .master, .rear, .way, .stack, .intake, .mix, .ech, .call, .mic, .wake, .hif, .tag, .toll, .pwr, .cfg, .dbg] none s (nextOf s (execLineDown p s)) := by
  unfold execLineDown
  try dsimp -proj only [nextOf]
  apply Frame.ite
  · apply Frame.after (frame_islandStep _)
    · decide +kernel
    apply Frame.after (frame_endAllCalls _ _)
    · decide +kernel
    apply Frame.after (frame_raise _ _ _ _ _ _)
    · decide +kernel
    apply Frame.set_plt
    · rfl
    apply Frame.after (frame_put _ _ _)
    · decide +kernel
    apply Frame.after (frame_put _ _ _)
    · decide +kernel
    apply Frame.ite
    · apply Frame.after (frame_wakeBy _ _)
      · decide +kernel
      exact Frame.rfl' _
    · exact Frame.rfl' _
  · exact Frame.rfl' _

theorem frame_execRoster (f : LedgerFrame) (s : State) :
    Frame wide none s (nextOf s (execRoster f s)) := by
  unfold execRoster
  try dsimp -proj only [nextOf]
  refine Frame.mono (frame_frame _ _ _ _ _ (fun t => ?_)) ?_
  · apply Frame.ite
    · exact Frame.rfl' _
    · apply Frame.after (frame_takeRoster _ _ _)
      · decide +kernel
      exact Frame.rfl' _
  · decide +kernel

theorem frame_execRangingBellSend (s : State) :
    Frame [.phy, .link, .way] (some []) s (nextOf s (execRangingBellSend s)) := by
  unfold execRangingBellSend
  try dsimp -proj only [nextOf]
  try dsimp -proj only
  split
  all_goals try dsimp -proj only [nextOf]
  · apply Frame.ite
    · apply Frame.after (frame_modLnk _ _ _)
      · decide +kernel
      apply Frame.after (frame_drive _ _)
      · decide +kernel
      exact Frame.rfl' _
    · exact Frame.rfl' _
  · exact Frame.rfl' _

theorem frame_execBellSend (p : Port) (s : State) :
    Frame [.phy, .link, .way] (some []) s (nextOf s (execBellSend p s)) := by
  unfold execBellSend
  try dsimp -proj only [nextOf]
  try dsimp -proj only
  apply Frame.ite
  · exact Frame.rfl' _
  · apply Frame.ite
    · apply Frame.after (frame_ringSleepers _ _)
      · decide +kernel
      exact Frame.rfl' _
    · split
      all_goals try dsimp -proj only [nextOf]
      · apply Frame.ite
        · exact Frame.rfl' _
        · apply Frame.after (frame_ringOwn _ _ _)
          · decide +kernel
          exact Frame.rfl' _
      · exact Frame.rfl' _

theorem frame_execLeaseReq (f : LedgerFrame) (s : State) :
    Frame wide none s (nextOf s (execLeaseReq f s)) := by
  unfold execLeaseReq
  try dsimp -proj only [nextOf]
  refine Frame.mono (frame_frame _ _ _ _ _ (fun t => ?_)) ?_
  · apply Frame.ite
    · apply Frame.after (frame_leaseReqFrom _ _ _ _)
      · decide +kernel
      exact Frame.rfl' _
    · exact Frame.rfl' _
  · decide +kernel

theorem frame_execAddressAssign (f : LedgerFrame) (s : State) :
    Frame wide none s (nextOf s (execAddressAssign f s)) := by
  unfold execAddressAssign
  try dsimp -proj only [nextOf]
  refine Frame.mono (frame_frame _ _ _ _ _ (fun t => ?_)) ?_
  · apply Frame.ite
    · apply Frame.after (frame_takeAssign _ _ _)
      · decide +kernel
      exact Frame.rfl' _
    · exact Frame.rfl' _
  · decide +kernel

theorem frame_execScheduledDescriptorStart (c : Client) (s : State) :
    Frame [.regs, .plt, .link, .master, .way, .mix, .call, .wake, .hif, .cfg, .dbg] none s (nextOf s (execScheduledDescriptorStart c s)) := by
  unfold execScheduledDescriptorStart
  try dsimp -proj only [nextOf]
  try dsimp -proj only
  apply Frame.ite
  · exact Frame.rfl' _
  · split
    all_goals try dsimp -proj only [nextOf]
    · exact Frame.rfl' _
    · apply Frame.after (frame_settle _ _)
      · decide +kernel
      apply Frame.after (frame_startDue _ _ _ _ _)
      · decide +kernel
      apply Frame.after (frame_stim _ _ _)
      · decide +kernel
      apply Frame.after (frame_dropDeadlines _ _)
      · decide +kernel
      exact Frame.rfl' _

theorem frame_execLeaseLapse (p : Port) (k : Fin 64) (s : State) :
    Frame [.regs, .link, .master, .way, .hif] (some (evRegs ++ [0x2084, 0x2094, 0x20C4, 0x20D4])) s (nextOf s (execLeaseLapse p k s)) := by
  unfold execLeaseLapse
  try dsimp -proj only [nextOf]
  try dsimp -proj only
  split
  all_goals try dsimp -proj only [nextOf]
  · apply Frame.ite
    · apply Frame.after (frame_ownRouteEnds _ _ _)
      · decide +kernel
      apply Frame.after (frame_bump_lk _ _ _)
      · decide +kernel
      apply Frame.after (frame_leaseChange _ _ _)
      · decide +kernel
      exact Frame.rfl' _
    · exact Frame.rfl' _
  · exact Frame.rfl' _

theorem frame_execBeaconSend (p : Port) (differing : Nat) (draw : Fin 16) (s : State) :
    Frame [.regs, .plt, .phy, .link, .master, .rear, .way, .p57, .intake, .hif] (some (evRegs ++ [0x2080, 0x2084, 0x20C0, 0x20C4, 0x210C, 0x2110, 0x2118, 0x2130, 0x7008])) s (nextOf s (execBeaconSend p differing draw s)) := by
  unfold execBeaconSend
  try dsimp -proj only [nextOf]
  try dsimp -proj only
  split
  all_goals try dsimp -proj only [nextOf]
  · exact Frame.rfl' _
  · apply Frame.ite
    · exact Frame.rfl' _
    · apply Frame.ite
      · apply Frame.after (frame_collide _ _ _)
        · decide +kernel
        apply Frame.after (frame_ownTime _ _ _)
        · decide +kernel
        apply Frame.after (frame_drive _ _)
        · decide +kernel
        apply Frame.after (frame_modMst _ _ _)
        · decide +kernel
        exact Frame.rfl' _
      · apply Frame.after (frame_ownTime _ _ _)
        · decide +kernel
        apply Frame.after (frame_drive _ _)
        · decide +kernel
        apply Frame.after (frame_modMst _ _ _)
        · decide +kernel
        exact Frame.rfl' _

theorem frame_execWaystationStandbyExpiry (s : State) :
    Frame [.regs, .link, .master, .way, .p57, .intake, .hif] (some (evRegs ++ [0x2080, 0x2084, 0x20C0, 0x20C4, 0x210C, 0x2118, 0x2130])) s (nextOf s (execWaystationStandbyExpiry s)) := by
  unfold execWaystationStandbyExpiry
  try dsimp -proj only [nextOf]
  apply Frame.ite
  · apply Frame.ite
    · apply Frame.after (frame_startB _)
      · decide +kernel
      apply Frame.after (frame_wr _ _ _)
      · decide +kernel
      apply Frame.set_way
      · rfl
      exact Frame.rfl' _
    · apply Frame.after (frame_wr _ _ _)
      · decide +kernel
      apply Frame.set_way
      · rfl
      exact Frame.rfl' _
  · exact Frame.rfl' _

theorem frame_execLedgerResponseTimeout (w : Awaited) (s : State) :
    Frame [.regs, .link, .master, .way, .call, .hif, .dbg] (some (evRegs ++ [0x1414, 0x2084, 0x2094, 0x20C4, 0x20D4, 0x6028, 0x6848])) s (nextOf s (execLedgerResponseTimeout w s)) := by
  unfold execLedgerResponseTimeout
  try dsimp -proj only [nextOf]
  try dsimp -proj only
  apply Frame.ite
  · exact Frame.rfl' _
  · split
    all_goals try dsimp -proj only [nextOf]
    · apply Frame.after (frame_timeoutReq _ _)
      · decide +kernel
      exact Frame.rfl' _
    · apply Frame.after (frame_timeoutReq _ _)
      · decide +kernel
      exact Frame.rfl' _
    · apply Frame.after (frame_timeoutPoll _ _ _)
      · decide +kernel
      exact Frame.rfl' _
    · apply Frame.after (frame_timeoutJoin _ _)
      · decide +kernel
      exact Frame.rfl' _

theorem frame_execHornDetected (s : State) :
    Frame [.regs, .hif] (some (evRegs ++ [0x2084, 0x20C4])) s (nextOf s (execHornDetected s)) := by
  unfold execHornDetected
  try dsimp -proj only [nextOf]
  apply Frame.ite
  · apply Frame.after (frame_setLineState _ _ _)
    · decide +kernel
    exact Frame.rfl' _
  · exact Frame.rfl' _

theorem frame_execLedgerFrameSend (p : Port) (s : State) :
    Frame [.mem, .pins, .regs, .plt, .phy, .link, .master, .way, .call, .wake, .hif, .pwr, .dbg, .free] (some (evRegs ++ [0x0890, 0x0A04, 0x1414, 0x2084, 0x20C4, 0x6028, 0x6848])) s (nextOf s (execLedgerFrameSend p s)) := by
  unfold execLedgerFrameSend
  try dsimp -proj only [nextOf]
  try dsimp -proj only
  split
  all_goals try dsimp -proj only [nextOf]
  · exact Frame.rfl' _
  · apply Frame.ite
    · exact Frame.rfl' _
    · split
      all_goals try dsimp -proj only [nextOf]
      · apply Frame.after (frame_sendRangeReply _ _ _ _)
        · decide +kernel
        exact Frame.rfl' _
      · split
        all_goals try dsimp -proj only [nextOf]
        · apply Frame.after (frame_sendMsg _ _ _ _)
          · decide +kernel
          exact Frame.rfl' _
        · exact Frame.rfl' _

theorem frame_execBeaconCommit (p : Port) (ccReady : Bool) (s : State) :
    Frame [.plt, .master, .way] (some []) s (nextOf s (execBeaconCommit p ccReady s)) := by
  unfold execBeaconCommit
  try dsimp -proj only [nextOf]
  apply Frame.ite
  · exact Frame.rfl' _
  · apply Frame.ite
    · apply Frame.after (frame_modMst _ _ _)
      · decide +kernel
      apply Frame.set_plt
      · rfl
      exact Frame.rfl' _
    · apply Frame.ite
      · apply Frame.after (frame_modMst _ _ _)
        · decide +kernel
        apply Frame.set_plt
        · rfl
        exact Frame.rfl' _
      · apply Frame.after (frame_modMst _ _ _)
        · decide +kernel
        apply Frame.set_plt
        · rfl
        exact Frame.rfl' _

theorem frame_execFirmwareCompareFire (u : Fin 6) (s : State) :
    Frame [.regs, .plt, .phy, .link, .master, .rear, .way, .stack, .intake, .mix, .ech, .call, .mic, .wake, .hif, .tag, .toll, .pwr, .cfg, .dbg] none s (nextOf s (execFirmwareCompareFire u s)) := by
  unfold execFirmwareCompareFire
  try dsimp -proj only [nextOf]
  try dsimp -proj only
  split
  all_goals try dsimp -proj only [nextOf]
  · exact Frame.rfl' _
  · apply Frame.ite
    · exact Frame.rfl' _
    · apply Frame.ite
      · apply Frame.ite
        · exact Frame.rfl' _
        · apply Frame.after (frame_wakeBy _ _)
          · decide +kernel
          apply Frame.after (frame_stim _ _ _)
          · decide +kernel
          exact Frame.rfl' _
      · apply Frame.ite
        · exact Frame.rfl' _
        · apply Frame.after (frame_wakeBy _ _)
          · decide +kernel
          apply Frame.after (frame_armUnits _ _)
          · decide +kernel
          apply Frame.after (frame_clrBit _ _ _)
          · decide +kernel
          apply Frame.set_plt
          · rfl
          apply Frame.ite
          · apply Frame.after (frame_setBit _ _ _)
            · decide +kernel
            apply Frame.after (frame_stim _ _ _)
            · decide +kernel
            exact Frame.rfl' _
          · apply Frame.after (frame_stim _ _ _)
            · decide +kernel
            exact Frame.rfl' _

theorem frame_execRosterEntryExpiry (p : Port) (a : Fin 128) (s : State) :
    Frame [.regs, .phy, .link, .master, .way, .p57, .intake] (some [0x2084, 0x20C4, 0x210C, 0x2118]) s (nextOf s (execRosterEntryExpiry p a s)) := by
  unfold execRosterEntryExpiry
  try dsimp -proj only [nextOf]
  try dsimp -proj only
  split
  all_goals try dsimp -proj only [nextOf]
  · apply Frame.ite
    · apply Frame.after (frame_removeNode _ _ _)
      · decide +kernel
      exact Frame.rfl' _
    · exact Frame.rfl' _
  · exact Frame.rfl' _

theorem frame_execStackWindow (n : Fin 4) (bytes : List Byte) (entries : List StackEntry) (s : State) :
    Frame [.regs, .stack, .hif, .dbg] (some (evRegs ++ [0x1414, 0x6028, 0x6848, 0x7804])) s (nextOf s (execStackWindow n bytes entries s)) := by
  unfold execStackWindow
  try dsimp -proj only [nextOf]
  apply Frame.ite
  · exact Frame.rfl' _
  · apply Frame.ite
    · apply Frame.foldl
      · apply Frame.set_stack
        · rfl
        apply Frame.after (frame_setBit _ _ _)
        · decide +kernel
        apply Frame.after (frame_setBit _ _ _)
        · decide +kernel
        exact Frame.rfl' _
      · intro _ _ _
        apply Frame.after (frame_stackEntry _ _ _)
        · decide +kernel
        assumption
    · apply Frame.ite
      · apply Frame.after (frame_memberGone _ _)
        · decide +kernel
        apply Frame.set_stack
        · rfl
        apply Frame.after (frame_bump _ _)
        · decide +kernel
        exact Frame.rfl' _
      · apply Frame.set_stack
        · rfl
        apply Frame.after (frame_bump _ _)
        · decide +kernel
        exact Frame.rfl' _

theorem frame_execCycleBoundary (o : CycleObs) (s : State) :
    Frame [.pins, .regs, .plt, .phy, .link, .master, .way, .p57, .intake, .mix, .ech, .call, .mic, .wake, .hif, .pwr, .cfg, .dbg, .free] none s (nextOf s (execCycleBoundary o s)) := by
  unfold execCycleBoundary
  try dsimp -proj only [nextOf]
  apply Frame.ite
  · apply Frame.after (frame_cycleBoundary _ _)
    · decide +kernel
    exact Frame.rfl' _
  · exact Frame.rfl' _

theorem frame_execJoinRequestSend (nonce : BitVec 10) (s : State) :
    Frame [.phy, .link, .way] (some []) s (nextOf s (execJoinRequestSend nonce s)) := by
  unfold execJoinRequestSend
  try dsimp -proj only [nextOf]
  apply Frame.ite
  · apply Frame.after (frame_modLnk _ _ _)
    · decide +kernel
    apply Frame.after (frame_drive _ _)
    · decide +kernel
    exact Frame.rfl' _
  · exact Frame.rfl' _

theorem frame_execGroupPush (f : LedgerFrame) (s : State) :
    Frame wide none s (nextOf s (execGroupPush f s)) := by
  unfold execGroupPush
  try dsimp -proj only [nextOf]
  refine (fun h => Frame.ite (Frame.after (frame_relay _ _) (by decide +kernel) h) h) ?_
  refine Frame.mono (frame_frame _ _ _ _ _ (fun t => ?_)) ?_
  · apply Frame.ite
    · apply Frame.set_mix
      · rfl
      exact Frame.rfl' _
    · exact Frame.rfl' _
  · decide +kernel

theorem frame_execElectionStart (s : State) :
    Frame [.regs, .master, .rear] (some [0x2110]) s (nextOf s (execElectionStart s)) := by
  unfold execElectionStart
  try dsimp -proj only [nextOf]
  apply Frame.ite
  · apply Frame.set_master_rear
    · rfl
    apply Frame.after (frame_wr _ _ _)
    · decide +kernel
    exact Frame.rfl' _
  · exact Frame.rfl' _

theorem frame_execRangingBellReceived (p : Port) (position : Fin 16) (arrival : Nat) (s : State) :
    Frame [.regs, .link, .master, .way] (some [0x2084, 0x20C4]) s (nextOf s (execRangingBellReceived p position arrival s)) := by
  unfold execRangingBellReceived
  try dsimp -proj only [nextOf]
  try dsimp -proj only
  split
  all_goals try dsimp -proj only [nextOf]
  · apply Frame.ite
    · exact Frame.rfl' _
    · apply Frame.after (frame_post _ _ _)
      · decide +kernel
      apply Frame.after (frame_modMst _ _ _)
      · decide +kernel
      exact Frame.rfl' _
  · exact Frame.rfl' _

theorem frame_execStrobePulseEnd (u : Fin 2) (s : State) :
    Frame [.pins, .plt] (some []) s (nextOf s (execStrobePulseEnd u s)) := by
  unfold execStrobePulseEnd
  try dsimp -proj only [nextOf]
  apply Frame.after (frame_showGpio _)
  · decide +kernel
  apply Frame.set_plt
  · rfl
  exact Frame.rfl' _

theorem frame_execElectionDelayExpiry (s : State) :
    Frame [.regs, .plt, .link, .master, .way, .p57, .intake, .hif] (some (evRegs ++ [0x2080, 0x2084, 0x20C0, 0x20C4, 0x210C, 0x2110, 0x2118])) s (nextOf s (execElectionDelayExpiry s)) := by
  unfold execElectionDelayExpiry
  try dsimp -proj only [nextOf]
  apply Frame.ite
  · apply Frame.after (frame_modMst _ _ _)
    · decide +kernel
    apply Frame.after (frame_enterSelf _ _)
    · decide +kernel
    apply Frame.after (frame_wr_lk _ _ _ _)
    · decide +kernel
    apply Frame.set_master
    · rfl
    apply Frame.after (frame_wr _ _ _)
    · decide +kernel
    apply Frame.after (frame_modLnk _ _ _)
    · decide +kernel
    apply Frame.after (frame_loseAll _ _ _)
    · decide +kernel
    apply Frame.ite
    · exact Frame.rfl' _
    · apply Frame.set_plt
      · rfl
      exact Frame.rfl' _
  · exact Frame.rfl' _

theorem frame_execSlotSend (p : Port) (k : Fin 64) (s : State) :
    Frame [.regs, .phy, .master, .way, .hif, .dbg, .free] (some [0x1414, 0x6028, 0x6848]) s (nextOf s (execSlotSend p k s)) := by
  unfold execSlotSend
  try dsimp -proj only [nextOf]
  try dsimp -proj only
  split
  all_goals try dsimp -proj only [nextOf]
  · apply Frame.ite
    · exact Frame.rfl' _
    · apply Frame.after (frame_sessionSent _ _)
      · decide +kernel
      apply Frame.ite
      · apply Frame.after (frame_modMst _ _ _)
        · decide +kernel
        apply Frame.after (frame_takeFree _ _)
        · decide +kernel
        apply Frame.after (frame_drive _ _)
        · decide +kernel
        exact Frame.rfl' _
      · apply Frame.after (frame_takeFree _ _)
        · decide +kernel
        apply Frame.after (frame_drive _ _)
        · decide +kernel
        exact Frame.rfl' _
  · exact Frame.rfl' _

theorem frame_execJoinRequestReceived (j : JoinBurst) (s : State) :
    Frame [.regs, .plt, .link, .master, .way] (some [0x2048, 0x2058, 0x2084, 0x20C4, 0x210C, 0x2118]) s (nextOf s (execJoinRequestReceived j s)) := by
  unfold execJoinRequestReceived
  try dsimp -proj only [nextOf]
  apply Frame.ite
  · exact Frame.rfl' _
  · apply Frame.ite
    · apply Frame.after (frame_bump_rx _ _ _)
      · decide +kernel
      apply Frame.set_plt
      · rfl
      exact Frame.rfl' _
    · apply Frame.ite
      · apply Frame.set_plt
        · rfl
        exact Frame.rfl' _
      · apply Frame.after (frame_joinFrom _ _ _ _ _)
        · decide +kernel
        apply Frame.set_plt
        · rfl
        exact Frame.rfl' _

theorem frame_execBellFieldRead (p : Port) (os : List BellObs) (s : State) :
    Frame [.regs, .plt, .link, .master, .way, .hif, .dbg] (some [0x1414, 0x2084, 0x20C4, 0x6028, 0x6848]) s (nextOf s (execBellFieldRead p os s)) := by
  unfold execBellFieldRead
  try dsimp -proj only [nextOf]
  apply Frame.ite
  · exact Frame.rfl' _
  · apply Frame.ite
    · apply Frame.after (frame_dueRepeats _ _)
      · decide +kernel
      apply Frame.after (frame_ownRequests _ _)
      · decide +kernel
      apply Frame.foldl
      · apply Frame.ite
        · apply Frame.foldl
          · apply Frame.set_plt
            · rfl
            exact Frame.rfl' _
          · intro _ _ _
            apply Frame.after (frame_bellFrom _ _ _)
            · decide +kernel
            assumption
        · apply Frame.after (frame_triggerActive _ _)
          · decide +kernel
          apply Frame.foldl
          · apply Frame.set_plt
            · rfl
            exact Frame.rfl' _
          · intro _ _ _
            apply Frame.after (frame_bellFrom _ _ _)
            · decide +kernel
            assumption
      · intro _ _ _
        apply Frame.after (frame_bellRequest _ _ _ _)
        · decide +kernel
        assumption
    · apply Frame.after (frame_chooseOwner _ _ _ _)
      · decide +kernel
      apply Frame.after (frame_dueRepeats _ _)
      · decide +kernel
      apply Frame.after (frame_ownRequests _ _)
      · decide +kernel
      apply Frame.foldl
      · apply Frame.ite
        · apply Frame.foldl
          · apply Frame.set_plt
            · rfl
            exact Frame.rfl' _
          · intro _ _ _
            apply Frame.after (frame_bellFrom _ _ _)
            · decide +kernel
            assumption
        · apply Frame.after (frame_triggerActive _ _)
          · decide +kernel
          apply Frame.foldl
          · apply Frame.set_plt
            · rfl
            exact Frame.rfl' _
          · intro _ _ _
            apply Frame.after (frame_bellFrom _ _ _)
            · decide +kernel
            assumption
      · intro _ _ _
        apply Frame.after (frame_bellRequest _ _ _ _)
        · decide +kernel
        assumption

theorem frame_execNodeStatusPeriodic (s : State) :
    Frame [.regs, .plt, .phy, .link, .master, .rear, .way, .stack, .intake, .mix, .ech, .call, .mic, .wake, .hif, .tag, .toll, .pwr, .cfg, .dbg] none s (nextOf s (execNodeStatusPeriodic s)) := by
  unfold execNodeStatusPeriodic
  try dsimp -proj only [nextOf]
  apply Frame.ite
  · apply Frame.after (frame_statusDue _ _)
    · decide +kernel
    apply Frame.ite
    · apply Frame.after (frame_exitToRun _)
      · decide +kernel
      exact Frame.rfl' _
    · exact Frame.rfl' _
  · exact Frame.rfl' _

theorem frame_execTime (f : LedgerFrame) (s : State) :
    Frame wide none s (nextOf s (execTime f s)) := by
  unfold execTime
  try dsimp -proj only [nextOf]
  refine Frame.mono (frame_frame _ _ _ _ _ (fun t => ?_)) ?_
  · apply Frame.ite
    · apply Frame.after (frame_wr _ _ _)
      · decide +kernel
      exact Frame.rfl' _
    · exact Frame.rfl' _
  · decide +kernel

theorem frame_execMonitor (f : LedgerFrame) (s : State) :
    Frame wide none s (nextOf s (execMonitor f s)) := by
  unfold execMonitor
  try dsimp -proj only [nextOf]
  refine (fun h => Frame.ite (Frame.after (frame_relay _ _) (by decide +kernel) h) h) ?_
  refine Frame.mono (frame_frame _ _ _ _ _ (fun t => ?_)) ?_
  · apply Frame.ite
    · apply Frame.after (frame_bump _ _)
      · decide +kernel
      exact Frame.rfl' _
    · apply Frame.after (frame_monFragment _ _ _)
      · decide +kernel
      exact Frame.rfl' _
  · decide +kernel

theorem frame_execLeaseGrant (f : LedgerFrame) (s : State) :
    Frame wide none s (nextOf s (execLeaseGrant f s)) := by
  unfold execLeaseGrant
  try dsimp -proj only [nextOf]
  refine Frame.mono (frame_frame _ _ _ _ _ (fun t => ?_)) ?_
  · apply Frame.ite
    · exact Frame.rfl' _
    · apply Frame.after (frame_proxyUpdate _)
      · decide +kernel
      apply Frame.after (frame_takeGrants _ _ _)
      · decide +kernel
      exact Frame.rfl' _
  · decide +kernel

theorem frame_execRangePoll (f : LedgerFrame) (s : State) :
    Frame wide none s (nextOf s (execRangePoll f s)) := by
  unfold execRangePoll
  try dsimp -proj only [nextOf]
  refine Frame.mono (frame_frame _ _ _ _ _ (fun t => ?_)) ?_
  · apply Frame.ite
    · apply Frame.after (frame_modLnk _ _ _)
      · decide +kernel
      exact Frame.rfl' _
    · exact Frame.rfl' _
  · decide +kernel

theorem frame_execNodeStatus (f : LedgerFrame) (s : State) :
    Frame wide none s (nextOf s (execNodeStatus f s)) := by
  unfold execNodeStatus
  try dsimp -proj only [nextOf]
  try dsimp -proj only
  refine Frame.mono (frame_frame _ _ _ _ _ (fun t => ?_)) ?_
  · apply Frame.ite
    · split
      all_goals try dsimp -proj only [nextOf]
      · apply Frame.after (frame_statusFrom _ _ _ _)
        · decide +kernel
        exact Frame.rfl' _
      · exact Frame.rfl' _
    · exact Frame.rfl' _
  · decide +kernel

theorem frame_execRangeReply (f : LedgerFrame) (arrival : Nat) (s : State) :
    Frame wide none s (nextOf s (execRangeReply f arrival s)) := by
  unfold execRangeReply
  try dsimp -proj only [nextOf]
  try dsimp -proj only
  apply Frame.ite
  · apply Frame.after (frame_trainEq _ _ _)
    · decide +kernel
    refine Frame.mono (frame_frame _ _ _ _ _ (fun t => ?_)) ?_
    · split
      all_goals try dsimp -proj only [nextOf]
      · apply Frame.ite
        · apply Frame.after (frame_ranged _ _ _ _)
          · decide +kernel
          exact Frame.rfl' _
        · exact Frame.rfl' _
      · exact Frame.rfl' _
    · decide +kernel
  · refine Frame.mono (frame_frame _ _ _ _ _ (fun t => ?_)) ?_
    · split
      all_goals try dsimp -proj only [nextOf]
      · apply Frame.ite
        · apply Frame.after (frame_ranged _ _ _ _)
          · decide +kernel
          exact Frame.rfl' _
        · exact Frame.rfl' _
      · exact Frame.rfl' _
    · decide +kernel

theorem frame_execQuietEntry (p : Port) (s : State) :
    Frame [.regs, .link, .master, .way] (some [0x2084, 0x20C4]) s (nextOf s (execQuietEntry p s)) := by
  unfold execQuietEntry
  try dsimp -proj only [nextOf]
  apply Frame.ite
  · apply Frame.after (frame_post _ _ _)
    · decide +kernel
    exact Frame.rfl' _
  · exact Frame.rfl' _

theorem frame_execHornStart (p : Port) (s : State) :
    Frame [.phy] (some []) s (nextOf s (execHornStart p s)) := by
  unfold execHornStart
  try dsimp -proj only [nextOf]
  apply Frame.ite
  · apply Frame.after (frame_drive _ _)
    · decide +kernel
    apply Frame.set_phy
    · rfl
    exact Frame.rfl' _
  · exact Frame.rfl' _

theorem frame_execLeaseRelease (f : LedgerFrame) (s : State) :
    Frame wide none s (nextOf s (execLeaseRelease f s)) := by
  unfold execLeaseRelease
  try dsimp -proj only [nextOf]
  refine Frame.mono (frame_frame _ _ _ _ _ (fun t => ?_)) ?_
  · apply Frame.ite
    · apply Frame.after (frame_leaseChange _ _ _)
      · decide +kernel
      exact Frame.rfl' _
    · exact Frame.rfl' _
  · decide +kernel

theorem frame_execLeaseLostNoBeacon (s : State) :
    Frame [.regs, .link, .master, .way, .hif] (some (evRegs ++ [0x2084, 0x20C4])) s (nextOf s (execLeaseLostNoBeacon s)) := by
  unfold execLeaseLostNoBeacon
  try dsimp -proj only [nextOf]
  apply Frame.ite
  · apply Frame.after (frame_loseAll _ _ _)
    · decide +kernel
    exact Frame.rfl' _
  · exact Frame.rfl' _

theorem frame_execBeaconAccepted (b : BeaconBurst) (s : State) :
    Frame [.regs, .plt, .phy, .link, .master, .rear, .way, .p57, .intake, .mix, .wake, .hif, .tag, .pwr, .cfg, .dbg, .free] (some (evRegs ++ [0x1414, 0x2040, 0x2050, 0x2080, 0x2084, 0x2090, 0x2094, 0x20C0, 0x20C4, 0x210C, 0x2110, 0x2118, 0x2130, 0x4830, 0x6028, 0x6848, 0x7008, 0x700C, 0x7040])) s (nextOf s (execBeaconAccepted b s)) := by
  unfold execBeaconAccepted
  try dsimp -proj only [nextOf]
  try dsimp -proj only
  apply Frame.ite
  · exact Frame.rfl' _
  · split
    all_goals try dsimp -proj only [nextOf]
    · apply Frame.after (frame_beaconOnA _ _)
      · decide +kernel
      exact Frame.rfl' _
    · apply Frame.after (frame_beaconOnB _ _)
      · decide +kernel
      exact Frame.rfl' _

theorem frame_execStackHeader (bytes : List Byte) (s : State) :
    Frame [.regs, .stack] (some [0x0034, 0x7804, 0x7808]) s (nextOf s (execStackHeader bytes s)) := by
  unfold execStackHeader
  try dsimp -proj only [nextOf]
  apply Frame.ite
  · exact Frame.rfl' _
  · apply Frame.set_stack
    · rfl
    apply Frame.after (frame_wr _ _ _)
    · decide +kernel
    apply Frame.after (frame_wr _ _ _)
    · decide +kernel
    apply Frame.ite
    · exact Frame.rfl' _
    · apply Frame.after (frame_put _ _ _)
      · decide +kernel
      apply Frame.after (frame_wr _ _ _)
      · decide +kernel
      exact Frame.rfl' _

theorem frame_execCollisionBackoffExpiry (p : Port) (s : State) :
    Frame [.master, .way] (some []) s (nextOf s (execCollisionBackoffExpiry p s)) := by
  unfold execCollisionBackoffExpiry
  try dsimp -proj only [nextOf]
  apply Frame.ite
  · apply Frame.after (frame_modMst _ _ _)
    · decide +kernel
    exact Frame.rfl' _
  · exact Frame.rfl' _

theorem frame_execPowerDirective (f : LedgerFrame) (s : State) :
    Frame wide none s (nextOf s (execPowerDirective f s)) := by
  unfold execPowerDirective
  try dsimp -proj only [nextOf]
  try dsimp -proj only
  refine Frame.mono (frame_frame _ _ _ _ _ (fun t => ?_)) ?_
  · apply Frame.ite
    · exact Frame.rfl' _
    · split
      all_goals try dsimp -proj only [nextOf]
      · apply Frame.after (frame_modLnk _ _ _)
        · decide +kernel
        exact Frame.rfl' _
      · apply Frame.ite
        · apply Frame.after (frame_takeClass _ _ _)
          · decide +kernel
          exact Frame.rfl' _
        · exact Frame.rfl' _
      · exact Frame.rfl' _
  · decide +kernel

theorem frame_execTakeoverReclaim (p : Port) (part : Fin 2) (s : State) :
    Frame [.regs, .link, .master, .way] (some [0x2084, 0x20C4]) s (nextOf s (execTakeoverReclaim p part s)) := by
  unfold execTakeoverReclaim
  try dsimp -proj only [nextOf]
  try dsimp -proj only
  split
  all_goals try dsimp -proj only [nextOf]
  · exact Frame.rfl' _
  · apply Frame.ite
    · exact Frame.rfl' _
    · apply Frame.after (frame_leaseChange _ _ _)
      · decide +kernel
      apply Frame.after (frame_modMst _ _ _)
      · decide +kernel
      exact Frame.rfl' _

theorem frame_execRosterFullPart (p : Port) (s : State) :
    Frame [.regs, .link, .master, .way] (some [0x2084, 0x20C4]) s (nextOf s (execRosterFullPart p s)) := by
  unfold execRosterFullPart
  try dsimp -proj only [nextOf]
  apply Frame.ite
  · apply Frame.after (frame_modMst _ _ _)
    · decide +kernel
    apply Frame.after (frame_rosterPart _ _ _)
    · decide +kernel
    exact Frame.rfl' _
  · exact Frame.rfl' _

theorem frame_execQuietCycle (p : Port) (s : State) :
    Frame [.regs, .master, .way, .hif] (some (evRegs ++ [0x2084, 0x20C4])) s (nextOf s (execQuietCycle p s)) := by
  unfold execQuietCycle
  try dsimp -proj only [nextOf]
  try dsimp -proj only
  split
  all_goals try dsimp -proj only [nextOf]
  · apply Frame.ite
    · apply Frame.after (frame_setLineState _ _ _)
      · decide +kernel
      apply Frame.after (frame_modMst _ _ _)
      · decide +kernel
      exact Frame.rfl' _
    · exact Frame.rfl' _
  · exact Frame.rfl' _

theorem frame_execHornEnd (p : Port) (s : State) :
    Frame [.phy] (some []) s (nextOf s (execHornEnd p s)) := by
  unfold execHornEnd
  try dsimp -proj only [nextOf]
  apply Frame.ite
  · apply Frame.set_phy
    · rfl
    exact Frame.rfl' _
  · exact Frame.rfl' _

theorem frame_execLeaseAuditPeriodic (p : Port) (s : State) :
    Frame [.regs, .link, .master, .way] (some [0x2084, 0x20C4]) s (nextOf s (execLeaseAuditPeriodic p s)) := by
  unfold execLeaseAuditPeriodic
  try dsimp -proj only [nextOf]
  apply Frame.ite
  · apply Frame.after (frame_postAudit _ _ _ _ _)
    · decide +kernel
    apply Frame.after (frame_postAudit _ _ _ _ _)
    · decide +kernel
    exact Frame.rfl' _
  · exact Frame.rfl' _

theorem frame_execReRangingEnd (s : State) :
    Frame [.regs, .link, .master, .rear, .way] (some [0x2084, 0x20C4, 0x2110]) s (nextOf s (execReRangingEnd s)) := by
  unfold execReRangingEnd
  try dsimp -proj only [nextOf]
  try dsimp -proj only
  split
  all_goals try dsimp -proj only [nextOf]
  · apply Frame.ite
    · exact Frame.rfl' _
    · apply Frame.after (frame_put _ _ _)
      · decide +kernel
      apply Frame.after (frame_modLnk _ _ _)
      · decide +kernel
      exact Frame.rfl' _
  · apply Frame.ite
    · exact Frame.rfl' _
    · apply Frame.after (frame_nameRear _ _)
      · decide +kernel
      apply Frame.foldl
      · apply Frame.after (frame_put _ _ _)
        · decide +kernel
        apply Frame.set_master_rear
        · rfl
        exact Frame.rfl' _
      · intro _ _ _
        apply Frame.after (frame_pollNode _ _ _ _)
        · decide +kernel
        assumption
  · exact Frame.rfl' _

theorem frame_execCheckpointSnapshot (p : Port) (s : State) :
    Frame [.regs, .link, .master, .way] (some [0x2084, 0x20C4]) s (nextOf s (execCheckpointSnapshot p s)) := by
  unfold execCheckpointSnapshot
  try dsimp -proj only [nextOf]
  try dsimp -proj only
  split
  all_goals try dsimp -proj only [nextOf]
  · exact Frame.rfl' _
  · apply Frame.ite
    · exact Frame.rfl' _
    · apply Frame.after (frame_postParts _ _ _ _ _ _ _ _)
      · decide +kernel
      apply Frame.after (frame_modMst _ _ _)
      · decide +kernel
      exact Frame.rfl' _

theorem frame_execLeaseAudit (f : LedgerFrame) (s : State) :
    Frame wide none s (nextOf s (execLeaseAudit f s)) := by
  unfold execLeaseAudit
  try dsimp -proj only [nextOf]
  refine Frame.mono (frame_frame _ _ _ _ _ (fun t => ?_)) ?_
  · apply Frame.ite
    · exact Frame.rfl' _
    · apply Frame.after (frame_proxyUpdate _)
      · decide +kernel
      apply Frame.after (frame_takeAudit _ _ _)
      · decide +kernel
      exact Frame.rfl' _
  · decide +kernel

theorem frame_execTakeover (s : State) :
    Frame [.regs, .link, .master, .rear, .way, .p57, .intake] (some [0x2080, 0x2084, 0x20C0, 0x20C4, 0x210C, 0x2110, 0x2118]) s (nextOf s (execTakeover s)) := by
  unfold execTakeover
  try dsimp -proj only [nextOf]
  try dsimp -proj only
  split
  all_goals try dsimp -proj only [nextOf]
  · exact Frame.rfl' _
  · apply Frame.ite
    · exact Frame.rfl' _
    · apply Frame.ite
      · apply Frame.ite
        · apply Frame.after (frame_coldStart _ _)
          · decide +kernel
          apply Frame.after (frame_enterSelf _ _)
          · decide +kernel
          apply Frame.ite
          · apply Frame.after (frame_wr_lk _ _ _ _)
            · decide +kernel
            apply Frame.after (frame_modLnk _ _ _)
            · decide +kernel
            apply Frame.after (frame_bump _ _)
            · decide +kernel
            apply Frame.after (frame_put _ _ _)
            · decide +kernel
            apply Frame.after (frame_put _ _ _)
            · decide +kernel
            apply Frame.after (frame_wr _ _ _)
            · decide +kernel
            apply Frame.set_master_rear
            · rfl
            exact Frame.rfl' _
          · apply Frame.after (frame_modLnk _ _ _)
            · decide +kernel
            apply Frame.after (frame_bump _ _)
            · decide +kernel
            apply Frame.after (frame_put _ _ _)
            · decide +kernel
            apply Frame.after (frame_put _ _ _)
            · decide +kernel
            apply Frame.after (frame_wr _ _ _)
            · decide +kernel
            apply Frame.set_master_rear
            · rfl
            exact Frame.rfl' _
        · apply Frame.after (frame_postAudit _ _ _ _ _)
          · decide +kernel
          apply Frame.after (frame_postAudit _ _ _ _ _)
          · decide +kernel
          apply Frame.after (frame_enterSelf _ _)
          · decide +kernel
          apply Frame.ite
          · apply Frame.after (frame_wr_lk _ _ _ _)
            · decide +kernel
            apply Frame.after (frame_modLnk _ _ _)
            · decide +kernel
            apply Frame.after (frame_bump _ _)
            · decide +kernel
            apply Frame.after (frame_put _ _ _)
            · decide +kernel
            apply Frame.after (frame_put _ _ _)
            · decide +kernel
            apply Frame.after (frame_wr _ _ _)
            · decide +kernel
            apply Frame.set_master_rear
            · rfl
            exact Frame.rfl' _
          · apply Frame.after (frame_modLnk _ _ _)
            · decide +kernel
            apply Frame.after (frame_bump _ _)
            · decide +kernel
            apply Frame.after (frame_put _ _ _)
            · decide +kernel
            apply Frame.after (frame_put _ _ _)
            · decide +kernel
            apply Frame.after (frame_wr _ _ _)
            · decide +kernel
            apply Frame.set_master_rear
            · rfl
            exact Frame.rfl' _
      · apply Frame.after (frame_modMst _ _ _)
        · decide +kernel
        apply Frame.ite
        · apply Frame.after (frame_coldStart _ _)
          · decide +kernel
          apply Frame.after (frame_enterSelf _ _)
          · decide +kernel
          apply Frame.ite
          · apply Frame.after (frame_wr_lk _ _ _ _)
            · decide +kernel
            apply Frame.after (frame_modLnk _ _ _)
            · decide +kernel
            apply Frame.after (frame_bump _ _)
            · decide +kernel
            apply Frame.after (frame_put _ _ _)
            · decide +kernel
            apply Frame.after (frame_put _ _ _)
            · decide +kernel
            apply Frame.after (frame_wr _ _ _)
            · decide +kernel
            apply Frame.set_master_rear
            · rfl
            exact Frame.rfl' _
          · apply Frame.after (frame_modLnk _ _ _)
            · decide +kernel
            apply Frame.after (frame_bump _ _)
            · decide +kernel
            apply Frame.after (frame_put _ _ _)
            · decide +kernel
            apply Frame.after (frame_put _ _ _)
            · decide +kernel
            apply Frame.after (frame_wr _ _ _)
            · decide +kernel
            apply Frame.set_master_rear
            · rfl
            exact Frame.rfl' _
        · apply Frame.after (frame_postAudit _ _ _ _ _)
          · decide +kernel
          apply Frame.after (frame_postAudit _ _ _ _ _)
          · decide +kernel
          apply Frame.after (frame_enterSelf _ _)
          · decide +kernel
          apply Frame.ite
          · apply Frame.after (frame_wr_lk _ _ _ _)
            · decide +kernel
            apply Frame.after (frame_modLnk _ _ _)
            · decide +kernel
            apply Frame.after (frame_bump _ _)
            · decide +kernel
            apply Frame.after (frame_put _ _ _)
            · decide +kernel
            apply Frame.after (frame_put _ _ _)
            · decide +kernel
            apply Frame.after (frame_wr _ _ _)
            · decide +kernel
            apply Frame.set_master_rear
            · rfl
            exact Frame.rfl' _
          · apply Frame.after (frame_modLnk _ _ _)
            · decide +kernel
            apply Frame.after (frame_bump _ _)
            · decide +kernel
            apply Frame.after (frame_put _ _ _)
            · decide +kernel
            apply Frame.after (frame_put _ _ _)
            · decide +kernel
            apply Frame.after (frame_wr _ _ _)
            · decide +kernel
            apply Frame.set_master_rear
            · rfl
            exact Frame.rfl' _

theorem frame_execBeaconMissing (p : Port) (s : State) :
    Frame [.regs, .plt, .way] (some [0x7008]) s (nextOf s (execBeaconMissing p s)) := by
  unfold execBeaconMissing
  try dsimp -proj only [nextOf]
  try dsimp -proj only
  split
  all_goals try dsimp -proj only [nextOf]
  · apply Frame.ite
    · exact Frame.rfl' _
    · apply Frame.set_plt
      · rfl
      apply Frame.after (frame_bump _ _)
      · decide +kernel
      apply Frame.after (frame_put _ _ _)
      · decide +kernel
      exact Frame.rfl' _
  · apply Frame.ite
    · apply Frame.set_way
      · rfl
      exact Frame.rfl' _
    · exact Frame.rfl' _

theorem frame_execSlotReceived (k : Fin 64) (b : SlotBurst) (s : State) :
    Frame [.regs, .phy, .link, .master, .way, .mix, .hif, .dbg, .free] (some (evRegs ++ [0x2040, 0x2044, 0x2048, 0x2050, 0x2054, 0x2058, 0x2080, 0x2084, 0x20C0, 0x20C4, 0x6028])) s (nextOf s (execSlotReceived k b s)) := by
  unfold execSlotReceived
  try dsimp -proj only [nextOf]
  apply Frame.ite
  · exact Frame.rfl' _
  · apply Frame.ite
    · apply Frame.after (frame_slotFailed _ _ _ _)
      · decide +kernel
      exact Frame.rfl' _
    · apply Frame.ite
      · apply Frame.after (frame_bump_rx _ _ _)
        · decide +kernel
        apply Frame.after (frame_slotSource _ _ _ _ _)
        · decide +kernel
        exact Frame.rfl' _
      · apply Frame.ite
        · apply Frame.set_mix
          · rfl
          apply Frame.ite
          · apply Frame.after (frame_keepSlot _ _ _)
            · decide +kernel
            apply Frame.after (frame_slotSource _ _ _ _ _)
            · decide +kernel
            exact Frame.rfl' _
          · apply Frame.after (frame_slotSource _ _ _ _ _)
            · decide +kernel
            exact Frame.rfl' _
        · apply Frame.ite
          · apply Frame.after (frame_keepSlot _ _ _)
            · decide +kernel
            apply Frame.after (frame_slotSource _ _ _ _ _)
            · decide +kernel
            exact Frame.rfl' _
          · apply Frame.after (frame_slotSource _ _ _ _ _)
            · decide +kernel
            exact Frame.rfl' _

theorem frame_execTimePeriodic (p : Port) (utc : Dword) (offset : Half) (valid : Bool) (s : State) :
    Frame [.regs, .link, .master, .way] (some [0x2084, 0x20C4]) s (nextOf s (execTimePeriodic p utc offset valid s)) := by
  unfold execTimePeriodic
  try dsimp -proj only [nextOf]
  apply Frame.ite
  · apply Frame.after (frame_post _ _ _)
    · decide +kernel
    exact Frame.rfl' _
  · exact Frame.rfl' _

theorem frame_execBellReceived (o : BellObs) (s : State) :
    Frame [.regs, .plt, .phy, .link, .master, .rear, .way, .stack, .intake, .mix, .ech, .call, .mic, .wake, .hif, .tag, .toll, .pwr, .cfg, .dbg] none s (nextOf s (execBellReceived o s)) := by
  unfold execBellReceived
  try dsimp -proj only [nextOf]
  apply Frame.ite
  · exact Frame.rfl' _
  · apply Frame.ite
    · apply Frame.after (frame_wakeBy _ _)
      · decide +kernel
      exact Frame.rfl' _
    · apply Frame.ite
      · apply Frame.set_pwr
        · rfl
        apply Frame.after (frame_wakeBy _ _)
        · decide +kernel
        exact Frame.rfl' _
      · exact Frame.rfl' _

theorem frame_execStrobePulseStart (u : Fin 2) (s : State) :
    Frame [.pins, .plt] (some []) s (nextOf s (execStrobePulseStart u s)) := by
  unfold execStrobePulseStart
  try dsimp -proj only [nextOf]
  apply Frame.ite
  · apply Frame.after (frame_showGpio _)
    · decide +kernel
    apply Frame.set_plt
    · rfl
    exact Frame.rfl' _
  · exact Frame.rfl' _

theorem frame_execCallAck (f : LedgerFrame) (s : State) :
    Frame wide none s (nextOf s (execCallAck f s)) := by
  unfold execCallAck
  try dsimp -proj only [nextOf]
  refine Frame.mono (frame_frame _ _ _ _ _ (fun t => ?_)) ?_
  · apply Frame.after (frame_forwardAck _ _ _)
    · decide +kernel
    apply Frame.after (frame_callAcked _ _ _)
    · decide +kernel
    apply Frame.after (frame_relay _ _)
    · decide +kernel
    exact Frame.rfl' _
  · decide +kernel

end Sys2Proof.Laws
end

