-- ==== Sys2Proof/Laws/ExecSystem.lean ====
section
/-! SUPPORT. What each command of a family can change, in any state: one lemma `frame_exec<Command>` for each command of power, resets, boot and debug. -/

namespace Sys2Proof.Laws

open Sys2Proof.Machine

set_option Elab.async false

theorem frame_execRtcAlarm (s : State) :
    Frame [.regs, .plt, .phy, .link, .master, .rear, .way, .stack, .intake, .mix, .ech, .call, .mic, .wake, .hif, .tag, .toll, .pwr, .cfg, .dbg] none s (nextOf s (execRtcAlarm s)) := by
  unfold execRtcAlarm
  try dsimp -proj only [nextOf]
  apply Frame.ite
  · apply Frame.after (frame_wakeBy _ _)
    · decide +kernel
    apply Frame.after (frame_wr _ _ _)
    · decide +kernel
    exact Frame.rfl' _
  · exact Frame.rfl' _

theorem frame_execFullReset (powerOn : Bool) (s : State) :
    Frame [.mem, .pins, .regs, .plt, .phy, .link, .master, .rear, .way, .stack, .p57, .intake, .mix, .ech, .call, .mic, .wake, .hif, .sby, .tag, .cart, .toll, .pwr, .cfg, .dbg, .free] none s (nextOf s (execFullReset powerOn s)) := by
  unfold execFullReset
  try dsimp -proj only [nextOf]
  apply Frame.after (frame_fullResetBy _ _ _ _)
  · decide +kernel
  exact Frame.rfl' _

theorem frame_execP57SurgeERead (s : State) :
    Frame [.p57] (some []) s (nextOf s (execP57SurgeERead s)) := by
  unfold execP57SurgeERead
  try dsimp -proj only [nextOf]
  apply Frame.after (frame_modP57 _ _)
  · decide +kernel
  exact Frame.rfl' _

theorem frame_execP57HornDetect (levelMv : Nat) (s : State) :
    Frame [.regs, .plt, .phy, .link, .master, .rear, .way, .stack, .p57, .intake, .mix, .ech, .call, .mic, .wake, .hif, .tag, .toll, .pwr, .cfg, .dbg] none s (nextOf s (execP57HornDetect levelMv s)) := by
  unfold execP57HornDetect
  try dsimp -proj only [nextOf]
  apply Frame.ite
  · apply Frame.after (frame_hornWake _ _)
    · decide +kernel
    exact Frame.rfl' _
  · exact Frame.rfl' _

theorem frame_execHalt (r : MonReq) (s : State) :
    Frame [.mem, .pins, .regs, .plt, .phy, .link, .master, .rear, .way, .stack, .p57, .intake, .mix, .ech, .call, .mic, .wake, .hif, .sby, .tag, .cart, .toll, .pwr, .cfg, .dbg, .free] none s (nextOf s (execHalt r s)) := by
  unfold execHalt
  try dsimp -proj only [nextOf]
  apply Frame.after (frame_serve _ _ _)
  · decide +kernel
  exact Frame.rfl' _

theorem frame_execP57InputRise (s : State) :
    Frame [.p57] (some []) s (nextOf s (execP57InputRise s)) := by
  unfold execP57InputRise
  try dsimp -proj only [nextOf]
  apply Frame.after (frame_modP57 _ _)
  · decide +kernel
  exact Frame.rfl' _

theorem frame_execBootStepDone (s : State) :
    Frame [.pins, .regs, .plt, .phy, .link, .master, .way, .p57, .mix, .wake, .hif, .sby, .tag, .cart, .pwr, .cfg, .dbg, .free] none s (nextOf s (execBootStepDone s)) := by
  unfold execBootStepDone
  try dsimp -proj only [nextOf]
  apply Frame.ite
  · exact Frame.rfl' _
  · apply Frame.after (frame_bootStep _ _)
    · decide +kernel
    apply Frame.set_cfg
    · rfl
    exact Frame.rfl' _

theorem frame_execHost5Deselect (s : State) :
    Frame [.p57] (some []) s (nextOf s (execHost5Deselect s)) := by
  unfold execHost5Deselect
  try dsimp -proj only [nextOf]
  apply Frame.after (frame_modP57 _ _)
  · decide +kernel
  exact Frame.rfl' _

theorem frame_execP57Thermal (s : State) :
    Frame [.p57] (some []) s (nextOf s (execP57Thermal s)) := by
  unfold execP57Thermal
  try dsimp -proj only [nextOf]
  apply Frame.after (frame_modP57 _ _)
  · decide +kernel
  exact Frame.rfl' _

theorem frame_execWarmRestartOverrun (s : State) :
    Frame [.mem, .pins, .regs, .plt, .phy, .link, .master, .rear, .way, .stack, .p57, .intake, .mix, .ech, .call, .mic, .wake, .hif, .sby, .tag, .cart, .toll, .pwr, .cfg, .dbg, .free] none s (nextOf s (execWarmRestartOverrun s)) := by
  unfold execWarmRestartOverrun
  try dsimp -proj only [nextOf]
  apply Frame.ite
  · apply Frame.after (frame_fullResetBy _ _ _ _)
    · decide +kernel
    exact Frame.rfl' _
  · exact Frame.rfl' _

theorem frame_execP57CauseWrite (v : Byte) (s : State) :
    Frame [.p57] (some []) s (nextOf s (execP57CauseWrite v s)) := by
  unfold execP57CauseWrite
  try dsimp -proj only [nextOf]
  apply Frame.after (frame_modP57 _ _)
  · decide +kernel
  exact Frame.rfl' _

theorem frame_execHost5Select (s : State) :
    Frame [.p57] (some []) s (nextOf s (execHost5Select s)) := by
  unfold execHost5Select
  try dsimp -proj only [nextOf]
  apply Frame.after (frame_modP57 _ _)
  · decide +kernel
  exact Frame.rfl' _

theorem frame_execUartByteGap (s : State) :
    Frame [.dbg] (some []) s (nextOf s (execUartByteGap s)) := by
  unfold execUartByteGap
  try dsimp -proj only [nextOf]
  apply Frame.set_dbg
  · rfl
  exact Frame.rfl' _

theorem frame_execBrownoutSustained (s : State) :
    Frame [.regs, .intake, .hif] (some evRegs) s (nextOf s (execBrownoutSustained s)) := by
  unfold execBrownoutSustained
  try dsimp -proj only [nextOf]
  apply Frame.ite
  · apply Frame.after (frame_evBrownout _ _ _)
    · decide +kernel
    apply Frame.set_intake
    · rfl
    exact Frame.rfl' _
  · exact Frame.rfl' _

theorem frame_execPgRestored (ack : Bool) (lowMs : Nat) (s : State) :
    Frame [.regs, .plt, .phy, .link, .master, .rear, .way, .stack, .p57, .intake, .mix, .ech, .call, .mic, .wake, .hif, .sby, .tag, .cart, .toll, .pwr, .cfg, .dbg, .free] none s (nextOf s (execPgRestored ack lowMs s)) := by
  unfold execPgRestored
  try dsimp -proj only [nextOf]
  apply Frame.ite
  · apply Frame.after (frame_restorePg _ _)
    · decide +kernel
    apply Frame.after (frame_wakeBy _ _)
    · decide +kernel
    apply Frame.after (frame_put _ _ _)
    · decide +kernel
    apply Frame.after (frame_modP57 _ _)
    · decide +kernel
    exact Frame.rfl' _
  · apply Frame.after (frame_keepRetry _ _)
    · decide +kernel
    apply Frame.after (frame_wakeBy _ _)
    · decide +kernel
    apply Frame.after (frame_put _ _ _)
    · decide +kernel
    apply Frame.after (frame_modP57 _ _)
    · decide +kernel
    exact Frame.rfl' _

theorem frame_execReplyFetch (r : MonReq) (s : State) :
    Frame [.mem, .pins, .regs, .plt, .phy, .link, .master, .rear, .way, .stack, .p57, .intake, .mix, .ech, .call, .mic, .wake, .hif, .sby, .tag, .cart, .toll, .pwr, .cfg, .dbg, .free] none s (nextOf s (execReplyFetch r s)) := by
  unfold execReplyFetch
  try dsimp -proj only [nextOf]
  apply Frame.after (frame_serve _ _ _)
  · decide +kernel
  exact Frame.rfl' _

theorem frame_execMonitorCmd (c : Client) (buf : List Byte) (s : State) :
    Frame [.mem, .pins, .regs, .plt, .phy, .link, .master, .rear, .way, .stack, .p57, .intake, .mix, .ech, .call, .mic, .wake, .hif, .sby, .tag, .cart, .toll, .pwr, .cfg, .dbg, .free] none s (nextOf s (execMonitorCmd c buf s)) := by
  unfold execMonitorCmd
  try dsimp -proj only [nextOf]
  try dsimp -proj only
  split
  all_goals try dsimp -proj only [nextOf]
  · exact Frame.rfl' _
  · apply Frame.ite
    · exact Frame.rfl' _
    · apply Frame.after (frame_settle _ _)
      · decide +kernel
      split
      all_goals try dsimp -proj only [nextOf]
      · apply Frame.after (frame_finish _ _ _ _ _ _)
        · decide +kernel
        apply Frame.after (frame_stim _ _ _)
        · decide +kernel
        exact Frame.rfl' _
      · apply Frame.after (frame_runMonitorCmd _ _ _ _ _)
        · decide +kernel
        apply Frame.after (frame_stim _ _ _)
        · decide +kernel
        exact Frame.rfl' _

theorem frame_execShedRestore (s : State) :
    Frame [.regs, .pwr, .dbg] (some [0x0880, 0x0A08, 0x6028]) s (nextOf s (execShedRestore s)) := by
  unfold execShedRestore
  try dsimp -proj only [nextOf]
  apply Frame.ite
  · apply Frame.after (frame_setStep _ _)
    · decide +kernel
    exact Frame.rfl' _
  · exact Frame.rfl' _

theorem frame_execStatus (r : MonReq) (s : State) :
    Frame [.mem, .pins, .regs, .plt, .phy, .link, .master, .rear, .way, .stack, .p57, .intake, .mix, .ech, .call, .mic, .wake, .hif, .sby, .tag, .cart, .toll, .pwr, .cfg, .dbg, .free] none s (nextOf s (execStatus r s)) := by
  unfold execStatus
  try dsimp -proj only [nextOf]
  apply Frame.after (frame_serve _ _ _)
  · decide +kernel
  exact Frame.rfl' _

theorem frame_execStimWrite (r : MonReq) (s : State) :
    Frame [.mem, .pins, .regs, .plt, .phy, .link, .master, .rear, .way, .stack, .p57, .intake, .mix, .ech, .call, .mic, .wake, .hif, .sby, .tag, .cart, .toll, .pwr, .cfg, .dbg, .free] none s (nextOf s (execStimWrite r s)) := by
  unfold execStimWrite
  try dsimp -proj only [nextOf]
  apply Frame.after (frame_serve _ _ _)
  · decide +kernel
  exact Frame.rfl' _

theorem frame_execTraceRead (r : MonReq) (s : State) :
    Frame [.mem, .pins, .regs, .plt, .phy, .link, .master, .rear, .way, .stack, .p57, .intake, .mix, .ech, .call, .mic, .wake, .hif, .sby, .tag, .cart, .toll, .pwr, .cfg, .dbg, .free] none s (nextOf s (execTraceRead r s)) := by
  unfold execTraceRead
  try dsimp -proj only [nextOf]
  apply Frame.after (frame_serve _ _ _)
  · decide +kernel
  exact Frame.rfl' _

theorem frame_execRegWrite (r : MonReq) (s : State) :
    Frame [.mem, .pins, .regs, .plt, .phy, .link, .master, .rear, .way, .stack, .p57, .intake, .mix, .ech, .call, .mic, .wake, .hif, .sby, .tag, .cart, .toll, .pwr, .cfg, .dbg, .free] none s (nextOf s (execRegWrite r s)) := by
  unfold execRegWrite
  try dsimp -proj only [nextOf]
  apply Frame.after (frame_serve _ _ _)
  · decide +kernel
  exact Frame.rfl' _

theorem frame_execOtpRead (r : MonReq) (s : State) :
    Frame [.mem, .pins, .regs, .plt, .phy, .link, .master, .rear, .way, .stack, .p57, .intake, .mix, .ech, .call, .mic, .wake, .hif, .sby, .tag, .cart, .toll, .pwr, .cfg, .dbg, .free] none s (nextOf s (execOtpRead r s)) := by
  unfold execOtpRead
  try dsimp -proj only [nextOf]
  apply Frame.after (frame_serve _ _ _)
  · decide +kernel
  exact Frame.rfl' _

theorem frame_execRegRead (r : MonReq) (s : State) :
    Frame [.mem, .pins, .regs, .plt, .phy, .link, .master, .rear, .way, .stack, .p57, .intake, .mix, .ech, .call, .mic, .wake, .hif, .sby, .tag, .cart, .toll, .pwr, .cfg, .dbg, .free] none s (nextOf s (execRegRead r s)) := by
  unfold execRegRead
  try dsimp -proj only [nextOf]
  apply Frame.after (frame_serve _ _ _)
  · decide +kernel
  exact Frame.rfl' _

theorem frame_execP57Overload (s : State) :
    Frame [.p57] (some []) s (nextOf s (execP57Overload s)) := by
  unfold execP57Overload
  try dsimp -proj only [nextOf]
  apply Frame.after (frame_modP57 _ _)
  · decide +kernel
  exact Frame.rfl' _

theorem frame_execElemWrite (r : MonReq) (s : State) :
    Frame [.mem, .pins, .regs, .plt, .phy, .link, .master, .rear, .way, .stack, .p57, .intake, .mix, .ech, .call, .mic, .wake, .hif, .sby, .tag, .cart, .toll, .pwr, .cfg, .dbg, .free] none s (nextOf s (execElemWrite r s)) := by
  unfold execElemWrite
  try dsimp -proj only [nextOf]
  apply Frame.after (frame_serve _ _ _)
  · decide +kernel
  exact Frame.rfl' _

theorem frame_execFlashWrite (r : MonReq) (s : State) :
    Frame [.mem, .pins, .regs, .plt, .phy, .link, .master, .rear, .way, .stack, .p57, .intake, .mix, .ech, .call, .mic, .wake, .hif, .sby, .tag, .cart, .toll, .pwr, .cfg, .dbg, .free] none s (nextOf s (execFlashWrite r s)) := by
  unfold execFlashWrite
  try dsimp -proj only [nextOf]
  apply Frame.after (frame_serve _ _ _)
  · decide +kernel
  exact Frame.rfl' _

theorem frame_execRefusalReport (s : State) :
    Frame [.regs, .hif, .pwr] none s (nextOf s (execRefusalReport s)) := by
  unfold execRefusalReport
  try dsimp -proj only [nextOf]
  try dsimp -proj only
  split
  all_goals try dsimp -proj only [nextOf]
  · apply Frame.after (frame_tellRefused _ _)
    · decide +kernel
    apply Frame.after (frame_refreshRefusals _)
    · decide +kernel
    exact Frame.rfl' _
  · apply Frame.after (frame_refreshRefusals _)
    · decide +kernel
    exact Frame.rfl' _

theorem frame_execStepDone (e : Elem) (s : State) :
    Frame [.mem, .pins, .regs, .phy, .link, .master, .way, .mix, .hif, .sby, .dbg, .free] (some [0x1414, 0x2084, 0x20C4, 0x29C0, 0x6004, 0x6028, 0x6848]) s (nextOf s (execStepDone e s)) := by
  unfold execStepDone
  try dsimp -proj only [nextOf]
  try dsimp -proj only
  split
  all_goals try dsimp -proj only [nextOf]
  · exact Frame.rfl' _
  · apply Frame.ite
    · apply Frame.after (frame_sendReply _ _ _ _ _)
      · decide +kernel
      apply Frame.after (frame_takeFree _ _)
      · decide +kernel
      apply Frame.set_dbg
      · rfl
      exact Frame.rfl' _
    · apply Frame.after (frame_sendReply _ _ _ _ _)
      · decide +kernel
      apply Frame.after (frame_haltElems _ _ _)
      · decide +kernel
      apply Frame.set_dbg
      · rfl
      exact Frame.rfl' _

theorem frame_execPerfLevelChangeDone (s : State) :
    Frame [.regs, .hif, .pwr, .dbg] (some [0x0880, 0x1414, 0x6028, 0x6848]) s (nextOf s (execPerfLevelChangeDone s)) := by
  unfold execPerfLevelChangeDone
  try dsimp -proj only [nextOf]
  apply Frame.ite
  · apply Frame.foldl
    · apply Frame.after (frame_stim _ _ _)
      · decide +kernel
      apply Frame.set_pwr
      · rfl
      apply Frame.after (frame_wr _ _ _)
      · decide +kernel
      exact Frame.rfl' _
    · intro _ _ _
      apply Frame.after (frame_perfDone _ _)
      · decide +kernel
      assumption
  · exact Frame.rfl' _

theorem frame_execWarmRestartEnd (s : State) :
    Frame [.pins, .regs, .plt, .link, .master, .way, .mix, .call, .wake, .hif, .sby, .tag, .cart, .pwr, .cfg, .dbg, .free] none s (nextOf s (execWarmRestartEnd s)) := by
  unfold execWarmRestartEnd
  try dsimp -proj only [nextOf]
  apply Frame.ite
  · exact Frame.rfl' _
  · apply Frame.after (frame_settleAll _)
    · decide +kernel
    apply Frame.ite
    · apply Frame.after (frame_actLatchedKeys _)
      · decide +kernel
      apply Frame.after (frame_actHeldWake _)
      · decide +kernel
      apply Frame.foldl
      · apply Frame.after (frame_endControl _)
        · decide +kernel
        apply Frame.after (frame_checkPatch _)
        · decide +kernel
        apply Frame.set_cfg
        · rfl
        exact Frame.rfl' _
      · intro _ _ _
        apply Frame.after (frame_unlatch _ _)
        · decide +kernel
        assumption
    · apply Frame.after (frame_tryTag _)
      · decide +kernel
      apply Frame.after (frame_actLatchedKeys _)
      · decide +kernel
      apply Frame.after (frame_actHeldWake _)
      · decide +kernel
      apply Frame.foldl
      · apply Frame.after (frame_endControl _)
        · decide +kernel
        apply Frame.after (frame_checkPatch _)
        · decide +kernel
        apply Frame.set_cfg
        · rfl
        exact Frame.rfl' _
      · intro _ _ _
        apply Frame.after (frame_unlatch _ _)
        · decide +kernel
        assumption

theorem frame_execWatchdogExpiry (s : State) :
    Frame [.mem, .pins, .regs, .plt, .phy, .link, .master, .rear, .way, .stack, .p57, .intake, .mix, .ech, .call, .mic, .wake, .hif, .sby, .tag, .cart, .toll, .pwr, .cfg, .dbg, .free] none s (nextOf s (execWatchdogExpiry s)) := by
  unfold execWatchdogExpiry
  try dsimp -proj only [nextOf]
  apply Frame.ite
  · exact Frame.rfl' _
  · apply Frame.ite
    · apply Frame.after (frame_fullResetBy _ _ _ _)
      · decide +kernel
      exact Frame.rfl' _
    · apply Frame.set_cfg
      · rfl
      apply Frame.after (frame_startWarm _)
      · decide +kernel
      apply Frame.after (frame_bump _ _)
      · decide +kernel
      exact Frame.rfl' _

theorem frame_execShedStep (s : State) :
    Frame [.regs, .pwr, .dbg] (some [0x0880, 0x0A08, 0x6028]) s (nextOf s (execShedStep s)) := by
  unfold execShedStep
  try dsimp -proj only [nextOf]
  apply Frame.ite
  · apply Frame.after (frame_setStep _ _)
    · decide +kernel
    exact Frame.rfl' _
  · exact Frame.rfl' _

theorem frame_execTelemetryCopy (m : P57Telem) (s : State) :
    Frame [.regs, .p57] (some [0x0A04, 0x0A0C, 0x0A10]) s (nextOf s (execTelemetryCopy m s)) := by
  unfold execTelemetryCopy
  try dsimp -proj only [nextOf]
  apply Frame.ite
  · apply Frame.after (frame_put _ _ _)
    · decide +kernel
    apply Frame.after (frame_wr _ _ _)
    · decide +kernel
    apply Frame.after (frame_wr _ _ _)
    · decide +kernel
    apply Frame.after (frame_wr _ _ _)
    · decide +kernel
    apply Frame.after (frame_wr _ _ _)
    · decide +kernel
    apply Frame.after (frame_modP57 _ _)
    · decide +kernel
    exact Frame.rfl' _
  · apply Frame.after (frame_modP57 _ _)
    · decide +kernel
    exact Frame.rfl' _

theorem frame_execIntakeBusRetry (ack : Bool) (s : State) :
    Frame [.regs, .plt, .phy, .link, .master, .rear, .way, .stack, .p57, .intake, .mix, .ech, .call, .mic, .wake, .hif, .sby, .tag, .cart, .toll, .pwr, .cfg, .dbg, .free] none s (nextOf s (execIntakeBusRetry ack s)) := by
  unfold execIntakeBusRetry
  cases s.intake.retry with
  | none => exact Frame.rfl' s
  | some x =>
  obtain ⟨what, n⟩ := x
  cases ack with
  | true =>
    cases what with
    | none => exact Frame.after (frame_serveAttention _) (by decide +kernel) (Frame.set_intake (t := s) _ rfl (Frame.rfl' s))
    | some ms => exact Frame.after (frame_restorePg _ ms) (by decide +kernel) (Frame.set_intake (t := s) _ rfl (Frame.rfl' s))
  | false =>
    have g : Frame [.regs, .intake, .hif] none s (State.bump { s with intake := { s.intake with retry := none, waiting := true } } F.PWR_INTAKE_STATUS.bus_err) := Frame.after (frame_bump { s with intake := { s.intake with retry := none, waiting := true } } F.PWR_INTAKE_STATUS.bus_err) (by decide +kernel) (Frame.set_intake (t := s) _ rfl (Frame.rfl' s))
    have key : ∀ v, Frame [.regs, .intake, .hif] none s v → Frame [.regs, .plt, .phy, .link, .master, .rear, .way, .stack, .p57, .intake, .mix, .ech, .call, .mic, .wake, .hif, .sby, .tag, .cart, .toll, .pwr, .cfg, .dbg, .free] none s
       (nextOf s (if n < 2 then .next { s with intake := { s.intake with retry := some (what, n + 1) } } else .next (if v.p57.pg then v.evBrownout 3 0 else v))) := by
      intro v g
      split
      · exact Frame.set_intake (t := s) _ rfl (Frame.rfl' s)
      · refine Frame.mono (w := [.regs, .intake, .hif]) (r := none) ?_ (by decide +kernel)
        show Frame _ _ s (if v.p57.pg then v.evBrownout 3 0 else v)
        split
        · exact Frame.after (frame_evBrownout v 3 0) (by decide +kernel) g
        · exact g
    exact key _ g

theorem frame_execResume (r : MonReq) (s : State) :
    Frame [.mem, .pins, .regs, .plt, .phy, .link, .master, .rear, .way, .stack, .p57, .intake, .mix, .ech, .call, .mic, .wake, .hif, .sby, .tag, .cart, .toll, .pwr, .cfg, .dbg, .free] none s (nextOf s (execResume r s)) := by
  unfold execResume
  try dsimp -proj only [nextOf]
  apply Frame.after (frame_serve _ _ _)
  · decide +kernel
  exact Frame.rfl' _

theorem frame_execResetRelease (s : State) :
    Frame [.pins] (some []) s (nextOf s (execResetRelease s)) := by
  unfold execResetRelease
  try dsimp -proj only [nextOf]
  apply Frame.set_pins
  · rfl
  exact Frame.rfl' _

theorem frame_execExternalTrigger (gpio : Fin 8) (s : State) :
    Frame [.mem, .pins, .regs, .phy, .mix, .dbg, .free] (some [0x29C0, 0x6004, 0x6028]) s (nextOf s (execExternalTrigger gpio s)) := by
  unfold execExternalTrigger
  try dsimp -proj only [nextOf]
  apply Frame.ite
  · apply Frame.after (frame_haltElems _ _ _)
    · decide +kernel
    exact Frame.rfl' _
  · exact Frame.rfl' _

theorem frame_execRtcTick (s : State) :
    Frame [.regs] (some [0x0870]) s (nextOf s (execRtcTick s)) := by
  unfold execRtcTick
  try dsimp -proj only [nextOf]
  apply Frame.ite
  · apply Frame.after (frame_wr _ _ _)
    · decide +kernel
    exact Frame.rfl' _
  · exact Frame.rfl' _

theorem frame_execSurgeStart (s : State) :
    Frame [.p57] (some []) s (nextOf s (execSurgeStart s)) := by
  unfold execSurgeStart
  try dsimp -proj only [nextOf]
  apply Frame.after (frame_modP57 _ _)
  · decide +kernel
  exact Frame.rfl' _

theorem frame_execIntakeAttention (ack : Bool) (s : State) :
    Frame [.regs, .plt, .phy, .link, .master, .rear, .way, .stack, .p57, .intake, .mix, .ech, .call, .mic, .wake, .hif, .sby, .tag, .cart, .toll, .pwr, .cfg, .dbg, .free] none s (nextOf s (execIntakeAttention ack s)) := by
  unfold execIntakeAttention
  try dsimp -proj only [nextOf]
  apply Frame.ite
  · apply Frame.ite
    · apply Frame.after (frame_serveAttention _)
      · decide +kernel
      exact Frame.rfl' _
    · apply Frame.after (frame_keepRetry _ _)
      · decide +kernel
      exact Frame.rfl' _
  · exact Frame.rfl' _

theorem frame_execS1Exit (s : State) :
    Frame [.regs, .pwr, .dbg] (some [0x6028]) s (nextOf s (execS1Exit s)) := by
  unfold execS1Exit
  try dsimp -proj only [nextOf]
  apply Frame.ite
  · apply Frame.after (frame_stim _ _ _)
    · decide +kernel
    apply Frame.set_pwr
    · rfl
    exact Frame.rfl' _
  · exact Frame.rfl' _

theorem frame_execShedExhausted (s : State) :
    Frame [.regs, .intake, .hif] (some evRegs) s (nextOf s (execShedExhausted s)) := by
  unfold execShedExhausted
  try dsimp -proj only [nextOf]
  apply Frame.ite
  · apply Frame.after (frame_evBrownout _ _ _)
    · decide +kernel
    apply Frame.set_intake
    · rfl
    exact Frame.rfl' _
  · exact Frame.rfl' _

theorem frame_execSurgeEnd (mj : Nat) (s : State) :
    Frame [.p57] (some []) s (nextOf s (execSurgeEnd mj s)) := by
  unfold execSurgeEnd
  try dsimp -proj only [nextOf]
  apply Frame.after (frame_modP57 _ _)
  · decide +kernel
  exact Frame.rfl' _

theorem frame_execWatchCycle (s : State) :
    Frame [.phy] (some []) s (nextOf s (execWatchCycle s)) := by
  unfold execWatchCycle
  try dsimp -proj only [nextOf]
  apply Frame.ite
  · apply Frame.set_phy
    · rfl
    exact Frame.rfl' _
  · exact Frame.rfl' _

theorem frame_execFlashRead (r : MonReq) (s : State) :
    Frame [.mem, .pins, .regs, .plt, .phy, .link, .master, .rear, .way, .stack, .p57, .intake, .mix, .ech, .call, .mic, .wake, .hif, .sby, .tag, .cart, .toll, .pwr, .cfg, .dbg, .free] none s (nextOf s (execFlashRead r s)) := by
  unfold execFlashRead
  try dsimp -proj only [nextOf]
  apply Frame.after (frame_serve _ _ _)
  · decide +kernel
  exact Frame.rfl' _

theorem frame_execP57RestartDelay (inputUp : Bool) (s : State) :
    Frame [.p57] (some []) s (nextOf s (execP57RestartDelay inputUp s)) := by
  unfold execP57RestartDelay
  try dsimp -proj only [nextOf]
  apply Frame.after (frame_modP57 _ _)
  · decide +kernel
  exact Frame.rfl' _

theorem frame_execFlashErase (r : MonReq) (s : State) :
    Frame [.mem, .pins, .regs, .plt, .phy, .link, .master, .rear, .way, .stack, .p57, .intake, .mix, .ech, .call, .mic, .wake, .hif, .sby, .tag, .cart, .toll, .pwr, .cfg, .dbg, .free] none s (nextOf s (execFlashErase r s)) := by
  unfold execFlashErase
  try dsimp -proj only [nextOf]
  apply Frame.after (frame_serve _ _ _)
  · decide +kernel
  exact Frame.rfl' _

theorem frame_execSleepHoldExpiry (s : State) :
    Frame [.mem, .pins, .regs, .plt, .phy, .link, .master, .way, .hif, .pwr, .dbg, .free] none s (nextOf s (execSleepHoldExpiry s)) := by
  unfold execSleepHoldExpiry
  try dsimp -proj only [nextOf]
  try dsimp -proj only
  apply Frame.ite
  · split
    all_goals try dsimp -proj only [nextOf]
    · apply Frame.after (frame_startEntry _ _)
      · decide +kernel
      exact Frame.rfl' _
    · exact Frame.rfl' _
  · exact Frame.rfl' _

theorem frame_execElemRead (r : MonReq) (s : State) :
    Frame [.mem, .pins, .regs, .plt, .phy, .link, .master, .rear, .way, .stack, .p57, .intake, .mix, .ech, .call, .mic, .wake, .hif, .sby, .tag, .cart, .toll, .pwr, .cfg, .dbg, .free] none s (nextOf s (execElemRead r s)) := by
  unfold execElemRead
  try dsimp -proj only [nextOf]
  apply Frame.after (frame_serve _ _ _)
  · decide +kernel
  exact Frame.rfl' _

theorem frame_execS1Entry (s : State) :
    Frame [.regs, .pwr, .dbg] (some [0x6028]) s (nextOf s (execS1Entry s)) := by
  unfold execS1Entry
  try dsimp -proj only [nextOf]
  apply Frame.ite
  · apply Frame.after (frame_stim _ _ _)
    · decide +kernel
    apply Frame.set_pwr
    · rfl
    exact Frame.rfl' _
  · exact Frame.rfl' _

theorem frame_execInrushTimeout (s : State) :
    Frame [.p57] (some []) s (nextOf s (execInrushTimeout s)) := by
  unfold execInrushTimeout
  try dsimp -proj only [nextOf]
  apply Frame.after (frame_modP57 _ _)
  · decide +kernel
  exact Frame.rfl' _

theorem frame_execMonitorFragmentTimeout (addr : Fin 128) (session : Byte) (s : State) :
    Frame [.dbg] (some []) s (nextOf s (execMonitorFragmentTimeout addr session s)) := by
  unfold execMonitorFragmentTimeout
  try dsimp -proj only [nextOf]
  apply Frame.set_dbg
  · rfl
  exact Frame.rfl' _

theorem frame_execReset (r : MonReq) (s : State) :
    Frame [.mem, .pins, .regs, .plt, .phy, .link, .master, .rear, .way, .stack, .p57, .intake, .mix, .ech, .call, .mic, .wake, .hif, .sby, .tag, .cart, .toll, .pwr, .cfg, .dbg, .free] none s (nextOf s (execReset r s)) := by
  unfold execReset
  try dsimp -proj only [nextOf]
  apply Frame.after (frame_serve _ _ _)
  · decide +kernel
  exact Frame.rfl' _

theorem frame_execRtcCrystalLoss (s : State) :
    Frame [.pins] (some []) s (nextOf s (execRtcCrystalLoss s)) := by
  unfold execRtcCrystalLoss
  try dsimp -proj only [nextOf]
  apply Frame.set_pins
  · rfl
  exact Frame.rfl' _

theorem frame_execTraceData (s : State) :
    Frame [.dbg] (some []) s (nextOf s (execTraceData s)) := by
  unfold execTraceData
  try dsimp -proj only [nextOf]
  apply Frame.ite
  · apply Frame.set_dbg
    · rfl
    exact Frame.rfl' _
  · exact Frame.rfl' _

theorem frame_execMemRead (r : MonReq) (s : State) :
    Frame [.mem, .pins, .regs, .plt, .phy, .link, .master, .rear, .way, .stack, .p57, .intake, .mix, .ech, .call, .mic, .wake, .hif, .sby, .tag, .cart, .toll, .pwr, .cfg, .dbg, .free] none s (nextOf s (execMemRead r s)) := by
  unfold execMemRead
  try dsimp -proj only [nextOf]
  apply Frame.after (frame_serve _ _ _)
  · decide +kernel
  exact Frame.rfl' _

theorem frame_execPgFall (s : State) :
    Frame [.regs, .p57, .intake, .pwr] (some [0x0880, 0x0A04]) s (nextOf s (execPgFall s)) := by
  unfold execPgFall
  try dsimp -proj only [nextOf]
  apply Frame.ite
  · apply Frame.after (frame_put _ _ _)
    · decide +kernel
    apply Frame.after (frame_modP57 _ _)
    · decide +kernel
    exact Frame.rfl' _
  · apply Frame.after (frame_relevel _)
    · decide +kernel
    apply Frame.set_intake
    · rfl
    apply Frame.after (frame_put _ _ _)
    · decide +kernel
    apply Frame.after (frame_modP57 _ _)
    · decide +kernel
    exact Frame.rfl' _

theorem frame_execWakeSource (bits : BitVec 13) (s : State) :
    Frame [.regs, .plt, .phy, .link, .master, .rear, .way, .stack, .intake, .mix, .ech, .call, .mic, .wake, .hif, .tag, .toll, .pwr, .cfg, .dbg] none s (nextOf s (execWakeSource bits s)) := by
  unfold execWakeSource
  try dsimp -proj only [nextOf]
  apply Frame.ite
  · exact Frame.rfl' _
  · apply Frame.after (frame_wakeBy _ _)
    · decide +kernel
    exact Frame.rfl' _

theorem frame_execInrushEnd (s : State) :
    Frame [.p57] (some []) s (nextOf s (execInrushEnd s)) := by
  unfold execInrushEnd
  try dsimp -proj only [nextOf]
  apply Frame.after (frame_modP57 _ _)
  · decide +kernel
  exact Frame.rfl' _

theorem frame_execElementInternalFault (e : Elem) (s : State) :
    Frame [.mem, .pins, .regs, .plt, .phy, .link, .master, .way, .mix, .ech, .wake, .hif, .tag, .toll, .cfg, .dbg, .free] none s (nextOf s (execElementInternalFault e s)) := by
  unfold execElementInternalFault
  try dsimp -proj only [nextOf]
  apply Frame.ite
  · exact Frame.rfl' _
  · apply Frame.ite
    · apply Frame.after (frame_haltElems _ _ _)
      · decide +kernel
      exact Frame.rfl' _
    · apply Frame.after (frame_faultReset _ _)
      · decide +kernel
      exact Frame.rfl' _

theorem frame_execUartPacket (bytes : List Byte) (s : State) :
    Frame [.mem, .pins, .regs, .plt, .phy, .link, .master, .rear, .way, .stack, .p57, .intake, .mix, .ech, .call, .mic, .wake, .hif, .sby, .tag, .cart, .toll, .pwr, .cfg, .dbg, .free] none s (nextOf s (execUartPacket bytes s)) := by
  unfold execUartPacket
  try dsimp -proj only [nextOf]
  apply Frame.ite
  · exact Frame.rfl' _
  · apply Frame.set_dbg
    · rfl
    apply Frame.after (frame_uartScan _ _ _)
    · decide +kernel
    apply Frame.set_dbg
    · rfl
    exact Frame.rfl' _

theorem frame_execVin33Loss (s : State) :
    Frame [.mem, .pins, .regs, .plt, .phy, .link, .master, .rear, .way, .stack, .p57, .intake, .mix, .ech, .call, .mic, .wake, .hif, .sby, .tag, .cart, .toll, .pwr, .cfg, .dbg, .free] none s (nextOf s (execVin33Loss s)) := by
  unfold execVin33Loss
  try dsimp -proj only [nextOf]
  apply Frame.after (frame_fullResetBy _ _ _ _)
  · decide +kernel
  exact Frame.rfl' _

theorem frame_execP57ActivityDetect (levelMv : Nat) (s : State) :
    Frame [.regs, .plt, .phy, .link, .master, .rear, .way, .stack, .p57, .intake, .mix, .ech, .call, .mic, .wake, .hif, .tag, .toll, .pwr, .cfg, .dbg] none s (nextOf s (execP57ActivityDetect levelMv s)) := by
  unfold execP57ActivityDetect
  try dsimp -proj only [nextOf]
  apply Frame.ite
  · apply Frame.after (frame_hornWake _ _)
    · decide +kernel
    exact Frame.rfl' _
  · exact Frame.rfl' _

theorem frame_execMemWrite (r : MonReq) (s : State) :
    Frame [.mem, .pins, .regs, .plt, .phy, .link, .master, .rear, .way, .stack, .p57, .intake, .mix, .ech, .call, .mic, .wake, .hif, .sby, .tag, .cart, .toll, .pwr, .cfg, .dbg, .free] none s (nextOf s (execMemWrite r s)) := by
  unfold execMemWrite
  try dsimp -proj only [nextOf]
  apply Frame.after (frame_serve _ _ _)
  · decide +kernel
  exact Frame.rfl' _

theorem frame_execMonitorSessionIdle (t : Transport) (s : State) :
    Frame [.dbg] (some []) s (nextOf s (execMonitorSessionIdle t s)) := by
  unfold execMonitorSessionIdle
  try dsimp -proj only [nextOf]
  apply Frame.after (frame_closeSession _ _)
  · decide +kernel
  exact Frame.rfl' _

theorem frame_execP57InputFall (s : State) :
    Frame [.p57] (some []) s (nextOf s (execP57InputFall s)) := by
  unfold execP57InputFall
  try dsimp -proj only [nextOf]
  apply Frame.after (frame_modP57 _ _)
  · decide +kernel
  exact Frame.rfl' _

theorem frame_execClose (r : MonReq) (s : State) :
    Frame [.mem, .pins, .regs, .plt, .phy, .link, .master, .rear, .way, .stack, .p57, .intake, .mix, .ech, .call, .mic, .wake, .hif, .sby, .tag, .cart, .toll, .pwr, .cfg, .dbg, .free] none s (nextOf s (execClose r s)) := by
  unfold execClose
  try dsimp -proj only [nextOf]
  apply Frame.after (frame_serve _ _ _)
  · decide +kernel
  exact Frame.rfl' _

theorem frame_execPing (r : MonReq) (s : State) :
    Frame [.mem, .pins, .regs, .plt, .phy, .link, .master, .rear, .way, .stack, .p57, .intake, .mix, .ech, .call, .mic, .wake, .hif, .sby, .tag, .cart, .toll, .pwr, .cfg, .dbg, .free] none s (nextOf s (execPing r s)) := by
  unfold execPing
  try dsimp -proj only [nextOf]
  apply Frame.after (frame_serve _ _ _)
  · decide +kernel
  exact Frame.rfl' _

theorem frame_execSleepEntryAbort (s : State) :
    Frame [.pwr] (some []) s (nextOf s (execSleepEntryAbort s)) := by
  unfold execSleepEntryAbort
  try dsimp -proj only [nextOf]
  try dsimp -proj only
  split
  all_goals try dsimp -proj only [nextOf]
  · apply Frame.ite
    · apply Frame.set_pwr
      · rfl
      exact Frame.rfl' _
    · exact Frame.rfl' _
  · exact Frame.rfl' _

theorem frame_execStep (r : MonReq) (s : State) :
    Frame [.mem, .pins, .regs, .plt, .phy, .link, .master, .rear, .way, .stack, .p57, .intake, .mix, .ech, .call, .mic, .wake, .hif, .sby, .tag, .cart, .toll, .pwr, .cfg, .dbg, .free] none s (nextOf s (execStep r s)) := by
  unfold execStep
  try dsimp -proj only [nextOf]
  apply Frame.after (frame_serve _ _ _)
  · decide +kernel
  exact Frame.rfl' _

theorem frame_execP57PowerWarning (avgMw : Nat) (s : State) :
    Frame [.p57, .intake] (some []) s (nextOf s (execP57PowerWarning avgMw s)) := by
  unfold execP57PowerWarning
  try dsimp -proj only [nextOf]
  apply Frame.ite
  · apply Frame.after (frame_modP57 _ _)
    · decide +kernel
    exact Frame.rfl' _
  · apply Frame.ite
    · apply Frame.after (frame_warnClear _)
      · decide +kernel
      apply Frame.after (frame_modP57 _ _)
      · decide +kernel
      exact Frame.rfl' _
    · exact Frame.rfl' _

end Sys2Proof.Laws
end

