-- ==== Sys2Proof/Laws/State.lean ====
section
/-! SUPPORT. What each update of one part, and the shared operations on registers, clients and packets, leaves of every field of `State`: one
lemma for each field and each update. -/

namespace Sys2Proof.Laws

open Sys2Proof.Machine

/-! `setReg` -/

@[simp] theorem setReg_dev (s : State) (o : Nat) (v : Word) : (s.setReg o v).dev = s.dev := rfl
@[simp] theorem setReg_mem (s : State) (o : Nat) (v : Word) : (s.setReg o v).mem = s.mem := rfl
@[simp] theorem setReg_pins (s : State) (o : Nat) (v : Word) : (s.setReg o v).pins = s.pins := rfl
@[simp] theorem setReg_plt (s : State) (o : Nat) (v : Word) : (s.setReg o v).plt = s.plt := rfl
@[simp] theorem setReg_phy (s : State) (o : Nat) (v : Word) : (s.setReg o v).phy = s.phy := rfl
@[simp] theorem setReg_link (s : State) (o : Nat) (v : Word) : (s.setReg o v).link = s.link := rfl
@[simp] theorem setReg_master (s : State) (o : Nat) (v : Word) : (s.setReg o v).master = s.master := rfl
@[simp] theorem setReg_rear (s : State) (o : Nat) (v : Word) : (s.setReg o v).rear = s.rear := rfl
@[simp] theorem setReg_way (s : State) (o : Nat) (v : Word) : (s.setReg o v).way = s.way := rfl
@[simp] theorem setReg_stack (s : State) (o : Nat) (v : Word) : (s.setReg o v).stack = s.stack := rfl
@[simp] theorem setReg_p57 (s : State) (o : Nat) (v : Word) : (s.setReg o v).p57 = s.p57 := rfl
@[simp] theorem setReg_intake (s : State) (o : Nat) (v : Word) : (s.setReg o v).intake = s.intake := rfl
@[simp] theorem setReg_mix (s : State) (o : Nat) (v : Word) : (s.setReg o v).mix = s.mix := rfl
@[simp] theorem setReg_ech (s : State) (o : Nat) (v : Word) : (s.setReg o v).ech = s.ech := rfl
@[simp] theorem setReg_call (s : State) (o : Nat) (v : Word) : (s.setReg o v).call = s.call := rfl
@[simp] theorem setReg_mic (s : State) (o : Nat) (v : Word) : (s.setReg o v).mic = s.mic := rfl
@[simp] theorem setReg_wake (s : State) (o : Nat) (v : Word) : (s.setReg o v).wake = s.wake := rfl
@[simp] theorem setReg_hif (s : State) (o : Nat) (v : Word) : (s.setReg o v).hif = s.hif := rfl
@[simp] theorem setReg_sby (s : State) (o : Nat) (v : Word) : (s.setReg o v).sby = s.sby := rfl
@[simp] theorem setReg_tag (s : State) (o : Nat) (v : Word) : (s.setReg o v).tag = s.tag := rfl
@[simp] theorem setReg_cart (s : State) (o : Nat) (v : Word) : (s.setReg o v).cart = s.cart := rfl
@[simp] theorem setReg_toll (s : State) (o : Nat) (v : Word) : (s.setReg o v).toll = s.toll := rfl
@[simp] theorem setReg_pwr (s : State) (o : Nat) (v : Word) : (s.setReg o v).pwr = s.pwr := rfl
@[simp] theorem setReg_cfg (s : State) (o : Nat) (v : Word) : (s.setReg o v).cfg = s.cfg := rfl
@[simp] theorem setReg_dbg (s : State) (o : Nat) (v : Word) : (s.setReg o v).dbg = s.dbg := rfl
@[simp] theorem setReg_free (s : State) (o : Nat) (v : Word) : (s.setReg o v).free = s.free := rfl
@[simp] theorem setReg_pending (s : State) (o : Nat) (v : Word) : (s.setReg o v).pending = s.pending := rfl

/-! `wr` -/

@[simp] theorem wr_dev (s : State) (f : Field) (v : Nat) : (s.wr f v).dev = s.dev := rfl
@[simp] theorem wr_mem (s : State) (f : Field) (v : Nat) : (s.wr f v).mem = s.mem := rfl
@[simp] theorem wr_pins (s : State) (f : Field) (v : Nat) : (s.wr f v).pins = s.pins := rfl
@[simp] theorem wr_plt (s : State) (f : Field) (v : Nat) : (s.wr f v).plt = s.plt := rfl
@[simp] theorem wr_phy (s : State) (f : Field) (v : Nat) : (s.wr f v).phy = s.phy := rfl
@[simp] theorem wr_link (s : State) (f : Field) (v : Nat) : (s.wr f v).link = s.link := rfl
@[simp] theorem wr_master (s : State) (f : Field) (v : Nat) : (s.wr f v).master = s.master := rfl
@[simp] theorem wr_rear (s : State) (f : Field) (v : Nat) : (s.wr f v).rear = s.rear := rfl
@[simp] theorem wr_way (s : State) (f : Field) (v : Nat) : (s.wr f v).way = s.way := rfl
@[simp] theorem wr_stack (s : State) (f : Field) (v : Nat) : (s.wr f v).stack = s.stack := rfl
@[simp] theorem wr_p57 (s : State) (f : Field) (v : Nat) : (s.wr f v).p57 = s.p57 := rfl
@[simp] theorem wr_intake (s : State) (f : Field) (v : Nat) : (s.wr f v).intake = s.intake := rfl
@[simp] theorem wr_mix (s : State) (f : Field) (v : Nat) : (s.wr f v).mix = s.mix := rfl
@[simp] theorem wr_ech (s : State) (f : Field) (v : Nat) : (s.wr f v).ech = s.ech := rfl
@[simp] theorem wr_call (s : State) (f : Field) (v : Nat) : (s.wr f v).call = s.call := rfl
@[simp] theorem wr_mic (s : State) (f : Field) (v : Nat) : (s.wr f v).mic = s.mic := rfl
@[simp] theorem wr_wake (s : State) (f : Field) (v : Nat) : (s.wr f v).wake = s.wake := rfl
@[simp] theorem wr_hif (s : State) (f : Field) (v : Nat) : (s.wr f v).hif = s.hif := rfl
@[simp] theorem wr_sby (s : State) (f : Field) (v : Nat) : (s.wr f v).sby = s.sby := rfl
@[simp] theorem wr_tag (s : State) (f : Field) (v : Nat) : (s.wr f v).tag = s.tag := rfl
@[simp] theorem wr_cart (s : State) (f : Field) (v : Nat) : (s.wr f v).cart = s.cart := rfl
@[simp] theorem wr_toll (s : State) (f : Field) (v : Nat) : (s.wr f v).toll = s.toll := rfl
@[simp] theorem wr_pwr (s : State) (f : Field) (v : Nat) : (s.wr f v).pwr = s.pwr := rfl
@[simp] theorem wr_cfg (s : State) (f : Field) (v : Nat) : (s.wr f v).cfg = s.cfg := rfl
@[simp] theorem wr_dbg (s : State) (f : Field) (v : Nat) : (s.wr f v).dbg = s.dbg := rfl
@[simp] theorem wr_free (s : State) (f : Field) (v : Nat) : (s.wr f v).free = s.free := rfl
@[simp] theorem wr_pending (s : State) (f : Field) (v : Nat) : (s.wr f v).pending = s.pending := rfl

/-! `put` -/

@[simp] theorem put_dev (s : State) (f : Field) (b : Bool) : (s.put f b).dev = s.dev := rfl
@[simp] theorem put_mem (s : State) (f : Field) (b : Bool) : (s.put f b).mem = s.mem := rfl
@[simp] theorem put_pins (s : State) (f : Field) (b : Bool) : (s.put f b).pins = s.pins := rfl
@[simp] theorem put_plt (s : State) (f : Field) (b : Bool) : (s.put f b).plt = s.plt := rfl
@[simp] theorem put_phy (s : State) (f : Field) (b : Bool) : (s.put f b).phy = s.phy := rfl
@[simp] theorem put_link (s : State) (f : Field) (b : Bool) : (s.put f b).link = s.link := rfl
@[simp] theorem put_master (s : State) (f : Field) (b : Bool) : (s.put f b).master = s.master := rfl
@[simp] theorem put_rear (s : State) (f : Field) (b : Bool) : (s.put f b).rear = s.rear := rfl
@[simp] theorem put_way (s : State) (f : Field) (b : Bool) : (s.put f b).way = s.way := rfl
@[simp] theorem put_stack (s : State) (f : Field) (b : Bool) : (s.put f b).stack = s.stack := rfl
@[simp] theorem put_p57 (s : State) (f : Field) (b : Bool) : (s.put f b).p57 = s.p57 := rfl
@[simp] theorem put_intake (s : State) (f : Field) (b : Bool) : (s.put f b).intake = s.intake := rfl
@[simp] theorem put_mix (s : State) (f : Field) (b : Bool) : (s.put f b).mix = s.mix := rfl
@[simp] theorem put_ech (s : State) (f : Field) (b : Bool) : (s.put f b).ech = s.ech := rfl
@[simp] theorem put_call (s : State) (f : Field) (b : Bool) : (s.put f b).call = s.call := rfl
@[simp] theorem put_mic (s : State) (f : Field) (b : Bool) : (s.put f b).mic = s.mic := rfl
@[simp] theorem put_wake (s : State) (f : Field) (b : Bool) : (s.put f b).wake = s.wake := rfl
@[simp] theorem put_hif (s : State) (f : Field) (b : Bool) : (s.put f b).hif = s.hif := rfl
@[simp] theorem put_sby (s : State) (f : Field) (b : Bool) : (s.put f b).sby = s.sby := rfl
@[simp] theorem put_tag (s : State) (f : Field) (b : Bool) : (s.put f b).tag = s.tag := rfl
@[simp] theorem put_cart (s : State) (f : Field) (b : Bool) : (s.put f b).cart = s.cart := rfl
@[simp] theorem put_toll (s : State) (f : Field) (b : Bool) : (s.put f b).toll = s.toll := rfl
@[simp] theorem put_pwr (s : State) (f : Field) (b : Bool) : (s.put f b).pwr = s.pwr := rfl
@[simp] theorem put_cfg (s : State) (f : Field) (b : Bool) : (s.put f b).cfg = s.cfg := rfl
@[simp] theorem put_dbg (s : State) (f : Field) (b : Bool) : (s.put f b).dbg = s.dbg := rfl
@[simp] theorem put_free (s : State) (f : Field) (b : Bool) : (s.put f b).free = s.free := rfl
@[simp] theorem put_pending (s : State) (f : Field) (b : Bool) : (s.put f b).pending = s.pending := rfl

/-! `bumpBy` -/

@[simp] theorem bumpBy_dev (s : State) (f : Field) (n : Nat) : (s.bumpBy f n).dev = s.dev := rfl
@[simp] theorem bumpBy_mem (s : State) (f : Field) (n : Nat) : (s.bumpBy f n).mem = s.mem := rfl
@[simp] theorem bumpBy_pins (s : State) (f : Field) (n : Nat) : (s.bumpBy f n).pins = s.pins := rfl
@[simp] theorem bumpBy_plt (s : State) (f : Field) (n : Nat) : (s.bumpBy f n).plt = s.plt := rfl
@[simp] theorem bumpBy_phy (s : State) (f : Field) (n : Nat) : (s.bumpBy f n).phy = s.phy := rfl
@[simp] theorem bumpBy_link (s : State) (f : Field) (n : Nat) : (s.bumpBy f n).link = s.link := rfl
@[simp] theorem bumpBy_master (s : State) (f : Field) (n : Nat) : (s.bumpBy f n).master = s.master := rfl
@[simp] theorem bumpBy_rear (s : State) (f : Field) (n : Nat) : (s.bumpBy f n).rear = s.rear := rfl
@[simp] theorem bumpBy_way (s : State) (f : Field) (n : Nat) : (s.bumpBy f n).way = s.way := rfl
@[simp] theorem bumpBy_stack (s : State) (f : Field) (n : Nat) : (s.bumpBy f n).stack = s.stack := rfl
@[simp] theorem bumpBy_p57 (s : State) (f : Field) (n : Nat) : (s.bumpBy f n).p57 = s.p57 := rfl
@[simp] theorem bumpBy_intake (s : State) (f : Field) (n : Nat) : (s.bumpBy f n).intake = s.intake := rfl
@[simp] theorem bumpBy_mix (s : State) (f : Field) (n : Nat) : (s.bumpBy f n).mix = s.mix := rfl
@[simp] theorem bumpBy_ech (s : State) (f : Field) (n : Nat) : (s.bumpBy f n).ech = s.ech := rfl
@[simp] theorem bumpBy_call (s : State) (f : Field) (n : Nat) : (s.bumpBy f n).call = s.call := rfl
@[simp] theorem bumpBy_mic (s : State) (f : Field) (n : Nat) : (s.bumpBy f n).mic = s.mic := rfl
@[simp] theorem bumpBy_wake (s : State) (f : Field) (n : Nat) : (s.bumpBy f n).wake = s.wake := rfl
@[simp] theorem bumpBy_hif (s : State) (f : Field) (n : Nat) : (s.bumpBy f n).hif = s.hif := rfl
@[simp] theorem bumpBy_sby (s : State) (f : Field) (n : Nat) : (s.bumpBy f n).sby = s.sby := rfl
@[simp] theorem bumpBy_tag (s : State) (f : Field) (n : Nat) : (s.bumpBy f n).tag = s.tag := rfl
@[simp] theorem bumpBy_cart (s : State) (f : Field) (n : Nat) : (s.bumpBy f n).cart = s.cart := rfl
@[simp] theorem bumpBy_toll (s : State) (f : Field) (n : Nat) : (s.bumpBy f n).toll = s.toll := rfl
@[simp] theorem bumpBy_pwr (s : State) (f : Field) (n : Nat) : (s.bumpBy f n).pwr = s.pwr := rfl
@[simp] theorem bumpBy_cfg (s : State) (f : Field) (n : Nat) : (s.bumpBy f n).cfg = s.cfg := rfl
@[simp] theorem bumpBy_dbg (s : State) (f : Field) (n : Nat) : (s.bumpBy f n).dbg = s.dbg := rfl
@[simp] theorem bumpBy_free (s : State) (f : Field) (n : Nat) : (s.bumpBy f n).free = s.free := rfl
@[simp] theorem bumpBy_pending (s : State) (f : Field) (n : Nat) : (s.bumpBy f n).pending = s.pending := rfl

/-! `bump` -/

@[simp] theorem bump_dev (s : State) (f : Field) : (s.bump f).dev = s.dev := rfl
@[simp] theorem bump_mem (s : State) (f : Field) : (s.bump f).mem = s.mem := rfl
@[simp] theorem bump_pins (s : State) (f : Field) : (s.bump f).pins = s.pins := rfl
@[simp] theorem bump_plt (s : State) (f : Field) : (s.bump f).plt = s.plt := rfl
@[simp] theorem bump_phy (s : State) (f : Field) : (s.bump f).phy = s.phy := rfl
@[simp] theorem bump_link (s : State) (f : Field) : (s.bump f).link = s.link := rfl
@[simp] theorem bump_master (s : State) (f : Field) : (s.bump f).master = s.master := rfl
@[simp] theorem bump_rear (s : State) (f : Field) : (s.bump f).rear = s.rear := rfl
@[simp] theorem bump_way (s : State) (f : Field) : (s.bump f).way = s.way := rfl
@[simp] theorem bump_stack (s : State) (f : Field) : (s.bump f).stack = s.stack := rfl
@[simp] theorem bump_p57 (s : State) (f : Field) : (s.bump f).p57 = s.p57 := rfl
@[simp] theorem bump_intake (s : State) (f : Field) : (s.bump f).intake = s.intake := rfl
@[simp] theorem bump_mix (s : State) (f : Field) : (s.bump f).mix = s.mix := rfl
@[simp] theorem bump_ech (s : State) (f : Field) : (s.bump f).ech = s.ech := rfl
@[simp] theorem bump_call (s : State) (f : Field) : (s.bump f).call = s.call := rfl
@[simp] theorem bump_mic (s : State) (f : Field) : (s.bump f).mic = s.mic := rfl
@[simp] theorem bump_wake (s : State) (f : Field) : (s.bump f).wake = s.wake := rfl
@[simp] theorem bump_hif (s : State) (f : Field) : (s.bump f).hif = s.hif := rfl
@[simp] theorem bump_sby (s : State) (f : Field) : (s.bump f).sby = s.sby := rfl
@[simp] theorem bump_tag (s : State) (f : Field) : (s.bump f).tag = s.tag := rfl
@[simp] theorem bump_cart (s : State) (f : Field) : (s.bump f).cart = s.cart := rfl
@[simp] theorem bump_toll (s : State) (f : Field) : (s.bump f).toll = s.toll := rfl
@[simp] theorem bump_pwr (s : State) (f : Field) : (s.bump f).pwr = s.pwr := rfl
@[simp] theorem bump_cfg (s : State) (f : Field) : (s.bump f).cfg = s.cfg := rfl
@[simp] theorem bump_dbg (s : State) (f : Field) : (s.bump f).dbg = s.dbg := rfl
@[simp] theorem bump_free (s : State) (f : Field) : (s.bump f).free = s.free := rfl
@[simp] theorem bump_pending (s : State) (f : Field) : (s.bump f).pending = s.pending := rfl

/-! `wrapInc` -/

@[simp] theorem wrapInc_dev (s : State) (f : Field) : (s.wrapInc f).dev = s.dev := rfl
@[simp] theorem wrapInc_mem (s : State) (f : Field) : (s.wrapInc f).mem = s.mem := rfl
@[simp] theorem wrapInc_pins (s : State) (f : Field) : (s.wrapInc f).pins = s.pins := rfl
@[simp] theorem wrapInc_plt (s : State) (f : Field) : (s.wrapInc f).plt = s.plt := rfl
@[simp] theorem wrapInc_phy (s : State) (f : Field) : (s.wrapInc f).phy = s.phy := rfl
@[simp] theorem wrapInc_link (s : State) (f : Field) : (s.wrapInc f).link = s.link := rfl
@[simp] theorem wrapInc_master (s : State) (f : Field) : (s.wrapInc f).master = s.master := rfl
@[simp] theorem wrapInc_rear (s : State) (f : Field) : (s.wrapInc f).rear = s.rear := rfl
@[simp] theorem wrapInc_way (s : State) (f : Field) : (s.wrapInc f).way = s.way := rfl
@[simp] theorem wrapInc_stack (s : State) (f : Field) : (s.wrapInc f).stack = s.stack := rfl
@[simp] theorem wrapInc_p57 (s : State) (f : Field) : (s.wrapInc f).p57 = s.p57 := rfl
@[simp] theorem wrapInc_intake (s : State) (f : Field) : (s.wrapInc f).intake = s.intake := rfl
@[simp] theorem wrapInc_mix (s : State) (f : Field) : (s.wrapInc f).mix = s.mix := rfl
@[simp] theorem wrapInc_ech (s : State) (f : Field) : (s.wrapInc f).ech = s.ech := rfl
@[simp] theorem wrapInc_call (s : State) (f : Field) : (s.wrapInc f).call = s.call := rfl
@[simp] theorem wrapInc_mic (s : State) (f : Field) : (s.wrapInc f).mic = s.mic := rfl
@[simp] theorem wrapInc_wake (s : State) (f : Field) : (s.wrapInc f).wake = s.wake := rfl
@[simp] theorem wrapInc_hif (s : State) (f : Field) : (s.wrapInc f).hif = s.hif := rfl
@[simp] theorem wrapInc_sby (s : State) (f : Field) : (s.wrapInc f).sby = s.sby := rfl
@[simp] theorem wrapInc_tag (s : State) (f : Field) : (s.wrapInc f).tag = s.tag := rfl
@[simp] theorem wrapInc_cart (s : State) (f : Field) : (s.wrapInc f).cart = s.cart := rfl
@[simp] theorem wrapInc_toll (s : State) (f : Field) : (s.wrapInc f).toll = s.toll := rfl
@[simp] theorem wrapInc_pwr (s : State) (f : Field) : (s.wrapInc f).pwr = s.pwr := rfl
@[simp] theorem wrapInc_cfg (s : State) (f : Field) : (s.wrapInc f).cfg = s.cfg := rfl
@[simp] theorem wrapInc_dbg (s : State) (f : Field) : (s.wrapInc f).dbg = s.dbg := rfl
@[simp] theorem wrapInc_free (s : State) (f : Field) : (s.wrapInc f).free = s.free := rfl
@[simp] theorem wrapInc_pending (s : State) (f : Field) : (s.wrapInc f).pending = s.pending := rfl

/-! `setBit` -/

@[simp] theorem setBit_dev (s : State) (f : Field) (i : Nat) : (s.setBit f i).dev = s.dev := rfl
@[simp] theorem setBit_mem (s : State) (f : Field) (i : Nat) : (s.setBit f i).mem = s.mem := rfl
@[simp] theorem setBit_pins (s : State) (f : Field) (i : Nat) : (s.setBit f i).pins = s.pins := rfl
@[simp] theorem setBit_plt (s : State) (f : Field) (i : Nat) : (s.setBit f i).plt = s.plt := rfl
@[simp] theorem setBit_phy (s : State) (f : Field) (i : Nat) : (s.setBit f i).phy = s.phy := rfl
@[simp] theorem setBit_link (s : State) (f : Field) (i : Nat) : (s.setBit f i).link = s.link := rfl
@[simp] theorem setBit_master (s : State) (f : Field) (i : Nat) : (s.setBit f i).master = s.master := rfl
@[simp] theorem setBit_rear (s : State) (f : Field) (i : Nat) : (s.setBit f i).rear = s.rear := rfl
@[simp] theorem setBit_way (s : State) (f : Field) (i : Nat) : (s.setBit f i).way = s.way := rfl
@[simp] theorem setBit_stack (s : State) (f : Field) (i : Nat) : (s.setBit f i).stack = s.stack := rfl
@[simp] theorem setBit_p57 (s : State) (f : Field) (i : Nat) : (s.setBit f i).p57 = s.p57 := rfl
@[simp] theorem setBit_intake (s : State) (f : Field) (i : Nat) : (s.setBit f i).intake = s.intake := rfl
@[simp] theorem setBit_mix (s : State) (f : Field) (i : Nat) : (s.setBit f i).mix = s.mix := rfl
@[simp] theorem setBit_ech (s : State) (f : Field) (i : Nat) : (s.setBit f i).ech = s.ech := rfl
@[simp] theorem setBit_call (s : State) (f : Field) (i : Nat) : (s.setBit f i).call = s.call := rfl
@[simp] theorem setBit_mic (s : State) (f : Field) (i : Nat) : (s.setBit f i).mic = s.mic := rfl
@[simp] theorem setBit_wake (s : State) (f : Field) (i : Nat) : (s.setBit f i).wake = s.wake := rfl
@[simp] theorem setBit_hif (s : State) (f : Field) (i : Nat) : (s.setBit f i).hif = s.hif := rfl
@[simp] theorem setBit_sby (s : State) (f : Field) (i : Nat) : (s.setBit f i).sby = s.sby := rfl
@[simp] theorem setBit_tag (s : State) (f : Field) (i : Nat) : (s.setBit f i).tag = s.tag := rfl
@[simp] theorem setBit_cart (s : State) (f : Field) (i : Nat) : (s.setBit f i).cart = s.cart := rfl
@[simp] theorem setBit_toll (s : State) (f : Field) (i : Nat) : (s.setBit f i).toll = s.toll := rfl
@[simp] theorem setBit_pwr (s : State) (f : Field) (i : Nat) : (s.setBit f i).pwr = s.pwr := rfl
@[simp] theorem setBit_cfg (s : State) (f : Field) (i : Nat) : (s.setBit f i).cfg = s.cfg := rfl
@[simp] theorem setBit_dbg (s : State) (f : Field) (i : Nat) : (s.setBit f i).dbg = s.dbg := rfl
@[simp] theorem setBit_free (s : State) (f : Field) (i : Nat) : (s.setBit f i).free = s.free := rfl
@[simp] theorem setBit_pending (s : State) (f : Field) (i : Nat) : (s.setBit f i).pending = s.pending := rfl

/-! `takeFree` -/

@[simp] theorem takeFree_dev (s : State) (n : Nat) : (s.takeFree n).dev = s.dev := rfl
@[simp] theorem takeFree_mem (s : State) (n : Nat) : (s.takeFree n).mem = s.mem := rfl
@[simp] theorem takeFree_pins (s : State) (n : Nat) : (s.takeFree n).pins = s.pins := rfl
@[simp] theorem takeFree_regs (s : State) (n : Nat) : (s.takeFree n).regs = s.regs := rfl
@[simp] theorem takeFree_plt (s : State) (n : Nat) : (s.takeFree n).plt = s.plt := rfl
@[simp] theorem takeFree_phy (s : State) (n : Nat) : (s.takeFree n).phy = s.phy := rfl
@[simp] theorem takeFree_link (s : State) (n : Nat) : (s.takeFree n).link = s.link := rfl
@[simp] theorem takeFree_master (s : State) (n : Nat) : (s.takeFree n).master = s.master := rfl
@[simp] theorem takeFree_rear (s : State) (n : Nat) : (s.takeFree n).rear = s.rear := rfl
@[simp] theorem takeFree_way (s : State) (n : Nat) : (s.takeFree n).way = s.way := rfl
@[simp] theorem takeFree_stack (s : State) (n : Nat) : (s.takeFree n).stack = s.stack := rfl
@[simp] theorem takeFree_p57 (s : State) (n : Nat) : (s.takeFree n).p57 = s.p57 := rfl
@[simp] theorem takeFree_intake (s : State) (n : Nat) : (s.takeFree n).intake = s.intake := rfl
@[simp] theorem takeFree_mix (s : State) (n : Nat) : (s.takeFree n).mix = s.mix := rfl
@[simp] theorem takeFree_ech (s : State) (n : Nat) : (s.takeFree n).ech = s.ech := rfl
@[simp] theorem takeFree_call (s : State) (n : Nat) : (s.takeFree n).call = s.call := rfl
@[simp] theorem takeFree_mic (s : State) (n : Nat) : (s.takeFree n).mic = s.mic := rfl
@[simp] theorem takeFree_wake (s : State) (n : Nat) : (s.takeFree n).wake = s.wake := rfl
@[simp] theorem takeFree_hif (s : State) (n : Nat) : (s.takeFree n).hif = s.hif := rfl
@[simp] theorem takeFree_sby (s : State) (n : Nat) : (s.takeFree n).sby = s.sby := rfl
@[simp] theorem takeFree_tag (s : State) (n : Nat) : (s.takeFree n).tag = s.tag := rfl
@[simp] theorem takeFree_cart (s : State) (n : Nat) : (s.takeFree n).cart = s.cart := rfl
@[simp] theorem takeFree_toll (s : State) (n : Nat) : (s.takeFree n).toll = s.toll := rfl
@[simp] theorem takeFree_pwr (s : State) (n : Nat) : (s.takeFree n).pwr = s.pwr := rfl
@[simp] theorem takeFree_cfg (s : State) (n : Nat) : (s.takeFree n).cfg = s.cfg := rfl
@[simp] theorem takeFree_dbg (s : State) (n : Nat) : (s.takeFree n).dbg = s.dbg := rfl
@[simp] theorem takeFree_pending (s : State) (n : Nat) : (s.takeFree n).pending = s.pending := rfl
@[simp] theorem takeFree_rf (s : State) (n : Nat) (g : Field) : (s.takeFree n).rf g = s.rf g := rf_congr rfl g

/-! `setClient` -/

@[simp] theorem setClient_dev (s : State) (i : Nat) (c : ClientSt) : (s.setClient i c).dev = s.dev := rfl
@[simp] theorem setClient_mem (s : State) (i : Nat) (c : ClientSt) : (s.setClient i c).mem = s.mem := rfl
@[simp] theorem setClient_pins (s : State) (i : Nat) (c : ClientSt) : (s.setClient i c).pins = s.pins := rfl
@[simp] theorem setClient_regs (s : State) (i : Nat) (c : ClientSt) : (s.setClient i c).regs = s.regs := rfl
@[simp] theorem setClient_plt (s : State) (i : Nat) (c : ClientSt) : (s.setClient i c).plt = s.plt := rfl
@[simp] theorem setClient_phy (s : State) (i : Nat) (c : ClientSt) : (s.setClient i c).phy = s.phy := rfl
@[simp] theorem setClient_link (s : State) (i : Nat) (c : ClientSt) : (s.setClient i c).link = s.link := rfl
@[simp] theorem setClient_master (s : State) (i : Nat) (c : ClientSt) : (s.setClient i c).master = s.master := rfl
@[simp] theorem setClient_rear (s : State) (i : Nat) (c : ClientSt) : (s.setClient i c).rear = s.rear := rfl
@[simp] theorem setClient_way (s : State) (i : Nat) (c : ClientSt) : (s.setClient i c).way = s.way := rfl
@[simp] theorem setClient_stack (s : State) (i : Nat) (c : ClientSt) : (s.setClient i c).stack = s.stack := rfl
@[simp] theorem setClient_p57 (s : State) (i : Nat) (c : ClientSt) : (s.setClient i c).p57 = s.p57 := rfl
@[simp] theorem setClient_intake (s : State) (i : Nat) (c : ClientSt) : (s.setClient i c).intake = s.intake := rfl
@[simp] theorem setClient_mix (s : State) (i : Nat) (c : ClientSt) : (s.setClient i c).mix = s.mix := rfl
@[simp] theorem setClient_ech (s : State) (i : Nat) (c : ClientSt) : (s.setClient i c).ech = s.ech := rfl
@[simp] theorem setClient_call (s : State) (i : Nat) (c : ClientSt) : (s.setClient i c).call = s.call := rfl
@[simp] theorem setClient_mic (s : State) (i : Nat) (c : ClientSt) : (s.setClient i c).mic = s.mic := rfl
@[simp] theorem setClient_wake (s : State) (i : Nat) (c : ClientSt) : (s.setClient i c).wake = s.wake := rfl
@[simp] theorem setClient_sby (s : State) (i : Nat) (c : ClientSt) : (s.setClient i c).sby = s.sby := rfl
@[simp] theorem setClient_tag (s : State) (i : Nat) (c : ClientSt) : (s.setClient i c).tag = s.tag := rfl
@[simp] theorem setClient_cart (s : State) (i : Nat) (c : ClientSt) : (s.setClient i c).cart = s.cart := rfl
@[simp] theorem setClient_toll (s : State) (i : Nat) (c : ClientSt) : (s.setClient i c).toll = s.toll := rfl
@[simp] theorem setClient_pwr (s : State) (i : Nat) (c : ClientSt) : (s.setClient i c).pwr = s.pwr := rfl
@[simp] theorem setClient_cfg (s : State) (i : Nat) (c : ClientSt) : (s.setClient i c).cfg = s.cfg := rfl
@[simp] theorem setClient_dbg (s : State) (i : Nat) (c : ClientSt) : (s.setClient i c).dbg = s.dbg := rfl
@[simp] theorem setClient_free (s : State) (i : Nat) (c : ClientSt) : (s.setClient i c).free = s.free := rfl
@[simp] theorem setClient_pending (s : State) (i : Nat) (c : ClientSt) : (s.setClient i c).pending = s.pending := rfl
@[simp] theorem setClient_rf (s : State) (i : Nat) (c : ClientSt) (g : Field) : (s.setClient i c).rf g = s.rf g := rf_congr rfl g

/-! `modClient` -/

@[simp] theorem modClient_dev (s : State) (i : Nat) (f : ClientSt → ClientSt) : (s.modClient i f).dev = s.dev := rfl
@[simp] theorem modClient_mem (s : State) (i : Nat) (f : ClientSt → ClientSt) : (s.modClient i f).mem = s.mem := rfl
@[simp] theorem modClient_pins (s : State) (i : Nat) (f : ClientSt → ClientSt) : (s.modClient i f).pins = s.pins := rfl
@[simp] theorem modClient_regs (s : State) (i : Nat) (f : ClientSt → ClientSt) : (s.modClient i f).regs = s.regs := rfl
@[simp] theorem modClient_plt (s : State) (i : Nat) (f : ClientSt → ClientSt) : (s.modClient i f).plt = s.plt := rfl
@[simp] theorem modClient_phy (s : State) (i : Nat) (f : ClientSt → ClientSt) : (s.modClient i f).phy = s.phy := rfl
@[simp] theorem modClient_link (s : State) (i : Nat) (f : ClientSt → ClientSt) : (s.modClient i f).link = s.link := rfl
@[simp] theorem modClient_master (s : State) (i : Nat) (f : ClientSt → ClientSt) : (s.modClient i f).master = s.master := rfl
@[simp] theorem modClient_rear (s : State) (i : Nat) (f : ClientSt → ClientSt) : (s.modClient i f).rear = s.rear := rfl
@[simp] theorem modClient_way (s : State) (i : Nat) (f : ClientSt → ClientSt) : (s.modClient i f).way = s.way := rfl
@[simp] theorem modClient_stack (s : State) (i : Nat) (f : ClientSt → ClientSt) : (s.modClient i f).stack = s.stack := rfl
@[simp] theorem modClient_p57 (s : State) (i : Nat) (f : ClientSt → ClientSt) : (s.modClient i f).p57 = s.p57 := rfl
@[simp] theorem modClient_intake (s : State) (i : Nat) (f : ClientSt → ClientSt) : (s.modClient i f).intake = s.intake := rfl
@[simp] theorem modClient_mix (s : State) (i : Nat) (f : ClientSt → ClientSt) : (s.modClient i f).mix = s.mix := rfl
@[simp] theorem modClient_ech (s : State) (i : Nat) (f : ClientSt → ClientSt) : (s.modClient i f).ech = s.ech := rfl
@[simp] theorem modClient_call (s : State) (i : Nat) (f : ClientSt → ClientSt) : (s.modClient i f).call = s.call := rfl
@[simp] theorem modClient_mic (s : State) (i : Nat) (f : ClientSt → ClientSt) : (s.modClient i f).mic = s.mic := rfl
@[simp] theorem modClient_wake (s : State) (i : Nat) (f : ClientSt → ClientSt) : (s.modClient i f).wake = s.wake := rfl
@[simp] theorem modClient_sby (s : State) (i : Nat) (f : ClientSt → ClientSt) : (s.modClient i f).sby = s.sby := rfl
@[simp] theorem modClient_tag (s : State) (i : Nat) (f : ClientSt → ClientSt) : (s.modClient i f).tag = s.tag := rfl
@[simp] theorem modClient_cart (s : State) (i : Nat) (f : ClientSt → ClientSt) : (s.modClient i f).cart = s.cart := rfl
@[simp] theorem modClient_toll (s : State) (i : Nat) (f : ClientSt → ClientSt) : (s.modClient i f).toll = s.toll := rfl
@[simp] theorem modClient_pwr (s : State) (i : Nat) (f : ClientSt → ClientSt) : (s.modClient i f).pwr = s.pwr := rfl
@[simp] theorem modClient_cfg (s : State) (i : Nat) (f : ClientSt → ClientSt) : (s.modClient i f).cfg = s.cfg := rfl
@[simp] theorem modClient_dbg (s : State) (i : Nat) (f : ClientSt → ClientSt) : (s.modClient i f).dbg = s.dbg := rfl
@[simp] theorem modClient_free (s : State) (i : Nat) (f : ClientSt → ClientSt) : (s.modClient i f).free = s.free := rfl
@[simp] theorem modClient_pending (s : State) (i : Nat) (f : ClientSt → ClientSt) : (s.modClient i f).pending = s.pending := rfl
@[simp] theorem modClient_rf (s : State) (i : Nat) (f : ClientSt → ClientSt) (g : Field) : (s.modClient i f).rf g = s.rf g := rf_congr rfl g

/-! `setPhase` -/

@[simp] theorem setPhase_dev (s : State) (c j : Nat) (ph : Phase) : (s.setPhase c j ph).dev = s.dev := rfl
@[simp] theorem setPhase_mem (s : State) (c j : Nat) (ph : Phase) : (s.setPhase c j ph).mem = s.mem := rfl
@[simp] theorem setPhase_pins (s : State) (c j : Nat) (ph : Phase) : (s.setPhase c j ph).pins = s.pins := rfl
@[simp] theorem setPhase_regs (s : State) (c j : Nat) (ph : Phase) : (s.setPhase c j ph).regs = s.regs := rfl
@[simp] theorem setPhase_plt (s : State) (c j : Nat) (ph : Phase) : (s.setPhase c j ph).plt = s.plt := rfl
@[simp] theorem setPhase_phy (s : State) (c j : Nat) (ph : Phase) : (s.setPhase c j ph).phy = s.phy := rfl
@[simp] theorem setPhase_link (s : State) (c j : Nat) (ph : Phase) : (s.setPhase c j ph).link = s.link := rfl
@[simp] theorem setPhase_master (s : State) (c j : Nat) (ph : Phase) : (s.setPhase c j ph).master = s.master := rfl
@[simp] theorem setPhase_rear (s : State) (c j : Nat) (ph : Phase) : (s.setPhase c j ph).rear = s.rear := rfl
@[simp] theorem setPhase_way (s : State) (c j : Nat) (ph : Phase) : (s.setPhase c j ph).way = s.way := rfl
@[simp] theorem setPhase_stack (s : State) (c j : Nat) (ph : Phase) : (s.setPhase c j ph).stack = s.stack := rfl
@[simp] theorem setPhase_p57 (s : State) (c j : Nat) (ph : Phase) : (s.setPhase c j ph).p57 = s.p57 := rfl
@[simp] theorem setPhase_intake (s : State) (c j : Nat) (ph : Phase) : (s.setPhase c j ph).intake = s.intake := rfl
@[simp] theorem setPhase_mix (s : State) (c j : Nat) (ph : Phase) : (s.setPhase c j ph).mix = s.mix := rfl
@[simp] theorem setPhase_ech (s : State) (c j : Nat) (ph : Phase) : (s.setPhase c j ph).ech = s.ech := rfl
@[simp] theorem setPhase_call (s : State) (c j : Nat) (ph : Phase) : (s.setPhase c j ph).call = s.call := rfl
@[simp] theorem setPhase_mic (s : State) (c j : Nat) (ph : Phase) : (s.setPhase c j ph).mic = s.mic := rfl
@[simp] theorem setPhase_wake (s : State) (c j : Nat) (ph : Phase) : (s.setPhase c j ph).wake = s.wake := rfl
@[simp] theorem setPhase_sby (s : State) (c j : Nat) (ph : Phase) : (s.setPhase c j ph).sby = s.sby := rfl
@[simp] theorem setPhase_tag (s : State) (c j : Nat) (ph : Phase) : (s.setPhase c j ph).tag = s.tag := rfl
@[simp] theorem setPhase_cart (s : State) (c j : Nat) (ph : Phase) : (s.setPhase c j ph).cart = s.cart := rfl
@[simp] theorem setPhase_toll (s : State) (c j : Nat) (ph : Phase) : (s.setPhase c j ph).toll = s.toll := rfl
@[simp] theorem setPhase_pwr (s : State) (c j : Nat) (ph : Phase) : (s.setPhase c j ph).pwr = s.pwr := rfl
@[simp] theorem setPhase_cfg (s : State) (c j : Nat) (ph : Phase) : (s.setPhase c j ph).cfg = s.cfg := rfl
@[simp] theorem setPhase_dbg (s : State) (c j : Nat) (ph : Phase) : (s.setPhase c j ph).dbg = s.dbg := rfl
@[simp] theorem setPhase_free (s : State) (c j : Nat) (ph : Phase) : (s.setPhase c j ph).free = s.free := rfl
@[simp] theorem setPhase_pending (s : State) (c j : Nat) (ph : Phase) : (s.setPhase c j ph).pending = s.pending := rfl
@[simp] theorem setPhase_rf (s : State) (c j : Nat) (ph : Phase) (g : Field) : (s.setPhase c j ph).rf g = s.rf g := rf_congr rfl g

/-! `modP57` -/

@[simp] theorem modP57_dev (s : State) (f : P57 → P57) : (s.modP57 f).dev = s.dev := rfl
@[simp] theorem modP57_mem (s : State) (f : P57 → P57) : (s.modP57 f).mem = s.mem := rfl
@[simp] theorem modP57_pins (s : State) (f : P57 → P57) : (s.modP57 f).pins = s.pins := rfl
@[simp] theorem modP57_regs (s : State) (f : P57 → P57) : (s.modP57 f).regs = s.regs := rfl
@[simp] theorem modP57_plt (s : State) (f : P57 → P57) : (s.modP57 f).plt = s.plt := rfl
@[simp] theorem modP57_phy (s : State) (f : P57 → P57) : (s.modP57 f).phy = s.phy := rfl
@[simp] theorem modP57_link (s : State) (f : P57 → P57) : (s.modP57 f).link = s.link := rfl
@[simp] theorem modP57_master (s : State) (f : P57 → P57) : (s.modP57 f).master = s.master := rfl
@[simp] theorem modP57_rear (s : State) (f : P57 → P57) : (s.modP57 f).rear = s.rear := rfl
@[simp] theorem modP57_way (s : State) (f : P57 → P57) : (s.modP57 f).way = s.way := rfl
@[simp] theorem modP57_stack (s : State) (f : P57 → P57) : (s.modP57 f).stack = s.stack := rfl
@[simp] theorem modP57_intake (s : State) (f : P57 → P57) : (s.modP57 f).intake = s.intake := rfl
@[simp] theorem modP57_mix (s : State) (f : P57 → P57) : (s.modP57 f).mix = s.mix := rfl
@[simp] theorem modP57_ech (s : State) (f : P57 → P57) : (s.modP57 f).ech = s.ech := rfl
@[simp] theorem modP57_call (s : State) (f : P57 → P57) : (s.modP57 f).call = s.call := rfl
@[simp] theorem modP57_mic (s : State) (f : P57 → P57) : (s.modP57 f).mic = s.mic := rfl
@[simp] theorem modP57_wake (s : State) (f : P57 → P57) : (s.modP57 f).wake = s.wake := rfl
@[simp] theorem modP57_hif (s : State) (f : P57 → P57) : (s.modP57 f).hif = s.hif := rfl
@[simp] theorem modP57_sby (s : State) (f : P57 → P57) : (s.modP57 f).sby = s.sby := rfl
@[simp] theorem modP57_tag (s : State) (f : P57 → P57) : (s.modP57 f).tag = s.tag := rfl
@[simp] theorem modP57_cart (s : State) (f : P57 → P57) : (s.modP57 f).cart = s.cart := rfl
@[simp] theorem modP57_toll (s : State) (f : P57 → P57) : (s.modP57 f).toll = s.toll := rfl
@[simp] theorem modP57_pwr (s : State) (f : P57 → P57) : (s.modP57 f).pwr = s.pwr := rfl
@[simp] theorem modP57_cfg (s : State) (f : P57 → P57) : (s.modP57 f).cfg = s.cfg := rfl
@[simp] theorem modP57_dbg (s : State) (f : P57 → P57) : (s.modP57 f).dbg = s.dbg := rfl
@[simp] theorem modP57_free (s : State) (f : P57 → P57) : (s.modP57 f).free = s.free := rfl
@[simp] theorem modP57_pending (s : State) (f : P57 → P57) : (s.modP57 f).pending = s.pending := rfl
@[simp] theorem modP57_rf (s : State) (f : P57 → P57) (g : Field) : (s.modP57 f).rf g = s.rf g := rf_congr rfl g

/-! `setSession` -/

@[simp] theorem setSession_dev (s : State) (n : Nat) (x : Option Session) : (s.setSession n x).dev = s.dev := rfl
@[simp] theorem setSession_mem (s : State) (n : Nat) (x : Option Session) : (s.setSession n x).mem = s.mem := rfl
@[simp] theorem setSession_pins (s : State) (n : Nat) (x : Option Session) : (s.setSession n x).pins = s.pins := rfl
@[simp] theorem setSession_regs (s : State) (n : Nat) (x : Option Session) : (s.setSession n x).regs = s.regs := rfl
@[simp] theorem setSession_plt (s : State) (n : Nat) (x : Option Session) : (s.setSession n x).plt = s.plt := rfl
@[simp] theorem setSession_phy (s : State) (n : Nat) (x : Option Session) : (s.setSession n x).phy = s.phy := rfl
@[simp] theorem setSession_link (s : State) (n : Nat) (x : Option Session) : (s.setSession n x).link = s.link := rfl
@[simp] theorem setSession_master (s : State) (n : Nat) (x : Option Session) : (s.setSession n x).master = s.master := rfl
@[simp] theorem setSession_rear (s : State) (n : Nat) (x : Option Session) : (s.setSession n x).rear = s.rear := rfl
@[simp] theorem setSession_way (s : State) (n : Nat) (x : Option Session) : (s.setSession n x).way = s.way := rfl
@[simp] theorem setSession_stack (s : State) (n : Nat) (x : Option Session) : (s.setSession n x).stack = s.stack := rfl
@[simp] theorem setSession_p57 (s : State) (n : Nat) (x : Option Session) : (s.setSession n x).p57 = s.p57 := rfl
@[simp] theorem setSession_intake (s : State) (n : Nat) (x : Option Session) : (s.setSession n x).intake = s.intake := rfl
@[simp] theorem setSession_mix (s : State) (n : Nat) (x : Option Session) : (s.setSession n x).mix = s.mix := rfl
@[simp] theorem setSession_ech (s : State) (n : Nat) (x : Option Session) : (s.setSession n x).ech = s.ech := rfl
@[simp] theorem setSession_call (s : State) (n : Nat) (x : Option Session) : (s.setSession n x).call = s.call := rfl
@[simp] theorem setSession_mic (s : State) (n : Nat) (x : Option Session) : (s.setSession n x).mic = s.mic := rfl
@[simp] theorem setSession_wake (s : State) (n : Nat) (x : Option Session) : (s.setSession n x).wake = s.wake := rfl
@[simp] theorem setSession_sby (s : State) (n : Nat) (x : Option Session) : (s.setSession n x).sby = s.sby := rfl
@[simp] theorem setSession_tag (s : State) (n : Nat) (x : Option Session) : (s.setSession n x).tag = s.tag := rfl
@[simp] theorem setSession_cart (s : State) (n : Nat) (x : Option Session) : (s.setSession n x).cart = s.cart := rfl
@[simp] theorem setSession_toll (s : State) (n : Nat) (x : Option Session) : (s.setSession n x).toll = s.toll := rfl
@[simp] theorem setSession_pwr (s : State) (n : Nat) (x : Option Session) : (s.setSession n x).pwr = s.pwr := rfl
@[simp] theorem setSession_cfg (s : State) (n : Nat) (x : Option Session) : (s.setSession n x).cfg = s.cfg := rfl
@[simp] theorem setSession_dbg (s : State) (n : Nat) (x : Option Session) : (s.setSession n x).dbg = s.dbg := rfl
@[simp] theorem setSession_free (s : State) (n : Nat) (x : Option Session) : (s.setSession n x).free = s.free := rfl
@[simp] theorem setSession_pending (s : State) (n : Nat) (x : Option Session) : (s.setSession n x).pending = s.pending := rfl
@[simp] theorem setSession_rf (s : State) (n : Nat) (x : Option Session) (g : Field) : (s.setSession n x).rf g = s.rf g := rf_congr rfl g

/-! `setStream` -/

@[simp] theorem setStream_dev (s : State) (n : Nat) (x : Option Stream) : (s.setStream n x).dev = s.dev := rfl
@[simp] theorem setStream_mem (s : State) (n : Nat) (x : Option Stream) : (s.setStream n x).mem = s.mem := rfl
@[simp] theorem setStream_pins (s : State) (n : Nat) (x : Option Stream) : (s.setStream n x).pins = s.pins := rfl
@[simp] theorem setStream_regs (s : State) (n : Nat) (x : Option Stream) : (s.setStream n x).regs = s.regs := rfl
@[simp] theorem setStream_plt (s : State) (n : Nat) (x : Option Stream) : (s.setStream n x).plt = s.plt := rfl
@[simp] theorem setStream_phy (s : State) (n : Nat) (x : Option Stream) : (s.setStream n x).phy = s.phy := rfl
@[simp] theorem setStream_link (s : State) (n : Nat) (x : Option Stream) : (s.setStream n x).link = s.link := rfl
@[simp] theorem setStream_master (s : State) (n : Nat) (x : Option Stream) : (s.setStream n x).master = s.master := rfl
@[simp] theorem setStream_rear (s : State) (n : Nat) (x : Option Stream) : (s.setStream n x).rear = s.rear := rfl
@[simp] theorem setStream_way (s : State) (n : Nat) (x : Option Stream) : (s.setStream n x).way = s.way := rfl
@[simp] theorem setStream_stack (s : State) (n : Nat) (x : Option Stream) : (s.setStream n x).stack = s.stack := rfl
@[simp] theorem setStream_p57 (s : State) (n : Nat) (x : Option Stream) : (s.setStream n x).p57 = s.p57 := rfl
@[simp] theorem setStream_intake (s : State) (n : Nat) (x : Option Stream) : (s.setStream n x).intake = s.intake := rfl
@[simp] theorem setStream_mix (s : State) (n : Nat) (x : Option Stream) : (s.setStream n x).mix = s.mix := rfl
@[simp] theorem setStream_ech (s : State) (n : Nat) (x : Option Stream) : (s.setStream n x).ech = s.ech := rfl
@[simp] theorem setStream_call (s : State) (n : Nat) (x : Option Stream) : (s.setStream n x).call = s.call := rfl
@[simp] theorem setStream_mic (s : State) (n : Nat) (x : Option Stream) : (s.setStream n x).mic = s.mic := rfl
@[simp] theorem setStream_wake (s : State) (n : Nat) (x : Option Stream) : (s.setStream n x).wake = s.wake := rfl
@[simp] theorem setStream_sby (s : State) (n : Nat) (x : Option Stream) : (s.setStream n x).sby = s.sby := rfl
@[simp] theorem setStream_tag (s : State) (n : Nat) (x : Option Stream) : (s.setStream n x).tag = s.tag := rfl
@[simp] theorem setStream_cart (s : State) (n : Nat) (x : Option Stream) : (s.setStream n x).cart = s.cart := rfl
@[simp] theorem setStream_toll (s : State) (n : Nat) (x : Option Stream) : (s.setStream n x).toll = s.toll := rfl
@[simp] theorem setStream_pwr (s : State) (n : Nat) (x : Option Stream) : (s.setStream n x).pwr = s.pwr := rfl
@[simp] theorem setStream_cfg (s : State) (n : Nat) (x : Option Stream) : (s.setStream n x).cfg = s.cfg := rfl
@[simp] theorem setStream_dbg (s : State) (n : Nat) (x : Option Stream) : (s.setStream n x).dbg = s.dbg := rfl
@[simp] theorem setStream_free (s : State) (n : Nat) (x : Option Stream) : (s.setStream n x).free = s.free := rfl
@[simp] theorem setStream_pending (s : State) (n : Nat) (x : Option Stream) : (s.setStream n x).pending = s.pending := rfl
@[simp] theorem setStream_rf (s : State) (n : Nat) (x : Option Stream) (g : Field) : (s.setStream n x).rf g = s.rf g := rf_congr rfl g

/-! `setTone` -/

@[simp] theorem setTone_dev (s : State) (n : Nat) (t : Tone) : (s.setTone n t).dev = s.dev := rfl
@[simp] theorem setTone_mem (s : State) (n : Nat) (t : Tone) : (s.setTone n t).mem = s.mem := rfl
@[simp] theorem setTone_pins (s : State) (n : Nat) (t : Tone) : (s.setTone n t).pins = s.pins := rfl
@[simp] theorem setTone_regs (s : State) (n : Nat) (t : Tone) : (s.setTone n t).regs = s.regs := rfl
@[simp] theorem setTone_plt (s : State) (n : Nat) (t : Tone) : (s.setTone n t).plt = s.plt := rfl
@[simp] theorem setTone_phy (s : State) (n : Nat) (t : Tone) : (s.setTone n t).phy = s.phy := rfl
@[simp] theorem setTone_link (s : State) (n : Nat) (t : Tone) : (s.setTone n t).link = s.link := rfl
@[simp] theorem setTone_master (s : State) (n : Nat) (t : Tone) : (s.setTone n t).master = s.master := rfl
@[simp] theorem setTone_rear (s : State) (n : Nat) (t : Tone) : (s.setTone n t).rear = s.rear := rfl
@[simp] theorem setTone_way (s : State) (n : Nat) (t : Tone) : (s.setTone n t).way = s.way := rfl
@[simp] theorem setTone_stack (s : State) (n : Nat) (t : Tone) : (s.setTone n t).stack = s.stack := rfl
@[simp] theorem setTone_p57 (s : State) (n : Nat) (t : Tone) : (s.setTone n t).p57 = s.p57 := rfl
@[simp] theorem setTone_intake (s : State) (n : Nat) (t : Tone) : (s.setTone n t).intake = s.intake := rfl
@[simp] theorem setTone_mix (s : State) (n : Nat) (t : Tone) : (s.setTone n t).mix = s.mix := rfl
@[simp] theorem setTone_ech (s : State) (n : Nat) (t : Tone) : (s.setTone n t).ech = s.ech := rfl
@[simp] theorem setTone_mic (s : State) (n : Nat) (t : Tone) : (s.setTone n t).mic = s.mic := rfl
@[simp] theorem setTone_wake (s : State) (n : Nat) (t : Tone) : (s.setTone n t).wake = s.wake := rfl
@[simp] theorem setTone_hif (s : State) (n : Nat) (t : Tone) : (s.setTone n t).hif = s.hif := rfl
@[simp] theorem setTone_sby (s : State) (n : Nat) (t : Tone) : (s.setTone n t).sby = s.sby := rfl
@[simp] theorem setTone_tag (s : State) (n : Nat) (t : Tone) : (s.setTone n t).tag = s.tag := rfl
@[simp] theorem setTone_cart (s : State) (n : Nat) (t : Tone) : (s.setTone n t).cart = s.cart := rfl
@[simp] theorem setTone_toll (s : State) (n : Nat) (t : Tone) : (s.setTone n t).toll = s.toll := rfl
@[simp] theorem setTone_pwr (s : State) (n : Nat) (t : Tone) : (s.setTone n t).pwr = s.pwr := rfl
@[simp] theorem setTone_cfg (s : State) (n : Nat) (t : Tone) : (s.setTone n t).cfg = s.cfg := rfl
@[simp] theorem setTone_dbg (s : State) (n : Nat) (t : Tone) : (s.setTone n t).dbg = s.dbg := rfl
@[simp] theorem setTone_free (s : State) (n : Nat) (t : Tone) : (s.setTone n t).free = s.free := rfl
@[simp] theorem setTone_pending (s : State) (n : Nat) (t : Tone) : (s.setTone n t).pending = s.pending := rfl
@[simp] theorem setTone_rf (s : State) (n : Nat) (t : Tone) (g : Field) : (s.setTone n t).rf g = s.rf g := rf_congr rfl g

/-! `setToll` -/

@[simp] theorem setToll_dev (s : State) (n : Nat) (t : Toll) : (s.setToll n t).dev = s.dev := rfl
@[simp] theorem setToll_mem (s : State) (n : Nat) (t : Toll) : (s.setToll n t).mem = s.mem := rfl
@[simp] theorem setToll_pins (s : State) (n : Nat) (t : Toll) : (s.setToll n t).pins = s.pins := rfl
@[simp] theorem setToll_regs (s : State) (n : Nat) (t : Toll) : (s.setToll n t).regs = s.regs := rfl
@[simp] theorem setToll_plt (s : State) (n : Nat) (t : Toll) : (s.setToll n t).plt = s.plt := rfl
@[simp] theorem setToll_phy (s : State) (n : Nat) (t : Toll) : (s.setToll n t).phy = s.phy := rfl
@[simp] theorem setToll_link (s : State) (n : Nat) (t : Toll) : (s.setToll n t).link = s.link := rfl
@[simp] theorem setToll_master (s : State) (n : Nat) (t : Toll) : (s.setToll n t).master = s.master := rfl
@[simp] theorem setToll_rear (s : State) (n : Nat) (t : Toll) : (s.setToll n t).rear = s.rear := rfl
@[simp] theorem setToll_way (s : State) (n : Nat) (t : Toll) : (s.setToll n t).way = s.way := rfl
@[simp] theorem setToll_stack (s : State) (n : Nat) (t : Toll) : (s.setToll n t).stack = s.stack := rfl
@[simp] theorem setToll_p57 (s : State) (n : Nat) (t : Toll) : (s.setToll n t).p57 = s.p57 := rfl
@[simp] theorem setToll_intake (s : State) (n : Nat) (t : Toll) : (s.setToll n t).intake = s.intake := rfl
@[simp] theorem setToll_mix (s : State) (n : Nat) (t : Toll) : (s.setToll n t).mix = s.mix := rfl
@[simp] theorem setToll_ech (s : State) (n : Nat) (t : Toll) : (s.setToll n t).ech = s.ech := rfl
@[simp] theorem setToll_call (s : State) (n : Nat) (t : Toll) : (s.setToll n t).call = s.call := rfl
@[simp] theorem setToll_mic (s : State) (n : Nat) (t : Toll) : (s.setToll n t).mic = s.mic := rfl
@[simp] theorem setToll_wake (s : State) (n : Nat) (t : Toll) : (s.setToll n t).wake = s.wake := rfl
@[simp] theorem setToll_hif (s : State) (n : Nat) (t : Toll) : (s.setToll n t).hif = s.hif := rfl
@[simp] theorem setToll_sby (s : State) (n : Nat) (t : Toll) : (s.setToll n t).sby = s.sby := rfl
@[simp] theorem setToll_tag (s : State) (n : Nat) (t : Toll) : (s.setToll n t).tag = s.tag := rfl
@[simp] theorem setToll_cart (s : State) (n : Nat) (t : Toll) : (s.setToll n t).cart = s.cart := rfl
@[simp] theorem setToll_pwr (s : State) (n : Nat) (t : Toll) : (s.setToll n t).pwr = s.pwr := rfl
@[simp] theorem setToll_cfg (s : State) (n : Nat) (t : Toll) : (s.setToll n t).cfg = s.cfg := rfl
@[simp] theorem setToll_dbg (s : State) (n : Nat) (t : Toll) : (s.setToll n t).dbg = s.dbg := rfl
@[simp] theorem setToll_free (s : State) (n : Nat) (t : Toll) : (s.setToll n t).free = s.free := rfl
@[simp] theorem setToll_pending (s : State) (n : Nat) (t : Toll) : (s.setToll n t).pending = s.pending := rfl
@[simp] theorem setToll_rf (s : State) (n : Nat) (t : Toll) (g : Field) : (s.setToll n t).rf g = s.rf g := rf_congr rfl g

/-! `setLnk` -/

@[simp] theorem setLnk_dev (s : State) (p : Port) (l : Link) : (s.setLnk p l).dev = s.dev := by cases p <;> rfl
@[simp] theorem setLnk_mem (s : State) (p : Port) (l : Link) : (s.setLnk p l).mem = s.mem := by cases p <;> rfl
@[simp] theorem setLnk_pins (s : State) (p : Port) (l : Link) : (s.setLnk p l).pins = s.pins := by cases p <;> rfl
@[simp] theorem setLnk_regs (s : State) (p : Port) (l : Link) : (s.setLnk p l).regs = s.regs := by cases p <;> rfl
@[simp] theorem setLnk_plt (s : State) (p : Port) (l : Link) : (s.setLnk p l).plt = s.plt := by cases p <;> rfl
@[simp] theorem setLnk_phy (s : State) (p : Port) (l : Link) : (s.setLnk p l).phy = s.phy := by cases p <;> rfl
@[simp] theorem setLnk_master (s : State) (p : Port) (l : Link) : (s.setLnk p l).master = s.master := by cases p <;> rfl
@[simp] theorem setLnk_rear (s : State) (p : Port) (l : Link) : (s.setLnk p l).rear = s.rear := by cases p <;> rfl
@[simp] theorem setLnk_stack (s : State) (p : Port) (l : Link) : (s.setLnk p l).stack = s.stack := by cases p <;> rfl
@[simp] theorem setLnk_p57 (s : State) (p : Port) (l : Link) : (s.setLnk p l).p57 = s.p57 := by cases p <;> rfl
@[simp] theorem setLnk_intake (s : State) (p : Port) (l : Link) : (s.setLnk p l).intake = s.intake := by cases p <;> rfl
@[simp] theorem setLnk_mix (s : State) (p : Port) (l : Link) : (s.setLnk p l).mix = s.mix := by cases p <;> rfl
@[simp] theorem setLnk_ech (s : State) (p : Port) (l : Link) : (s.setLnk p l).ech = s.ech := by cases p <;> rfl
@[simp] theorem setLnk_call (s : State) (p : Port) (l : Link) : (s.setLnk p l).call = s.call := by cases p <;> rfl
@[simp] theorem setLnk_mic (s : State) (p : Port) (l : Link) : (s.setLnk p l).mic = s.mic := by cases p <;> rfl
@[simp] theorem setLnk_wake (s : State) (p : Port) (l : Link) : (s.setLnk p l).wake = s.wake := by cases p <;> rfl
@[simp] theorem setLnk_hif (s : State) (p : Port) (l : Link) : (s.setLnk p l).hif = s.hif := by cases p <;> rfl
@[simp] theorem setLnk_sby (s : State) (p : Port) (l : Link) : (s.setLnk p l).sby = s.sby := by cases p <;> rfl
@[simp] theorem setLnk_tag (s : State) (p : Port) (l : Link) : (s.setLnk p l).tag = s.tag := by cases p <;> rfl
@[simp] theorem setLnk_cart (s : State) (p : Port) (l : Link) : (s.setLnk p l).cart = s.cart := by cases p <;> rfl
@[simp] theorem setLnk_toll (s : State) (p : Port) (l : Link) : (s.setLnk p l).toll = s.toll := by cases p <;> rfl
@[simp] theorem setLnk_pwr (s : State) (p : Port) (l : Link) : (s.setLnk p l).pwr = s.pwr := by cases p <;> rfl
@[simp] theorem setLnk_cfg (s : State) (p : Port) (l : Link) : (s.setLnk p l).cfg = s.cfg := by cases p <;> rfl
@[simp] theorem setLnk_dbg (s : State) (p : Port) (l : Link) : (s.setLnk p l).dbg = s.dbg := by cases p <;> rfl
@[simp] theorem setLnk_free (s : State) (p : Port) (l : Link) : (s.setLnk p l).free = s.free := by cases p <;> rfl
@[simp] theorem setLnk_pending (s : State) (p : Port) (l : Link) : (s.setLnk p l).pending = s.pending := by cases p <;> rfl
@[simp] theorem setLnk_rf (s : State) (p : Port) (l : Link) (g : Field) : (s.setLnk p l).rf g = s.rf g := rf_congr (by cases p <;> rfl) g

/-! `setMst` -/

@[simp] theorem setMst_dev (s : State) (p : Port) (m : Master) : (s.setMst p m).dev = s.dev := by cases p <;> rfl
@[simp] theorem setMst_mem (s : State) (p : Port) (m : Master) : (s.setMst p m).mem = s.mem := by cases p <;> rfl
@[simp] theorem setMst_pins (s : State) (p : Port) (m : Master) : (s.setMst p m).pins = s.pins := by cases p <;> rfl
@[simp] theorem setMst_regs (s : State) (p : Port) (m : Master) : (s.setMst p m).regs = s.regs := by cases p <;> rfl
@[simp] theorem setMst_plt (s : State) (p : Port) (m : Master) : (s.setMst p m).plt = s.plt := by cases p <;> rfl
@[simp] theorem setMst_phy (s : State) (p : Port) (m : Master) : (s.setMst p m).phy = s.phy := by cases p <;> rfl
@[simp] theorem setMst_link (s : State) (p : Port) (m : Master) : (s.setMst p m).link = s.link := by cases p <;> rfl
@[simp] theorem setMst_rear (s : State) (p : Port) (m : Master) : (s.setMst p m).rear = s.rear := by cases p <;> rfl
@[simp] theorem setMst_stack (s : State) (p : Port) (m : Master) : (s.setMst p m).stack = s.stack := by cases p <;> rfl
@[simp] theorem setMst_p57 (s : State) (p : Port) (m : Master) : (s.setMst p m).p57 = s.p57 := by cases p <;> rfl
@[simp] theorem setMst_intake (s : State) (p : Port) (m : Master) : (s.setMst p m).intake = s.intake := by cases p <;> rfl
@[simp] theorem setMst_mix (s : State) (p : Port) (m : Master) : (s.setMst p m).mix = s.mix := by cases p <;> rfl
@[simp] theorem setMst_ech (s : State) (p : Port) (m : Master) : (s.setMst p m).ech = s.ech := by cases p <;> rfl
@[simp] theorem setMst_call (s : State) (p : Port) (m : Master) : (s.setMst p m).call = s.call := by cases p <;> rfl
@[simp] theorem setMst_mic (s : State) (p : Port) (m : Master) : (s.setMst p m).mic = s.mic := by cases p <;> rfl
@[simp] theorem setMst_wake (s : State) (p : Port) (m : Master) : (s.setMst p m).wake = s.wake := by cases p <;> rfl
@[simp] theorem setMst_hif (s : State) (p : Port) (m : Master) : (s.setMst p m).hif = s.hif := by cases p <;> rfl
@[simp] theorem setMst_sby (s : State) (p : Port) (m : Master) : (s.setMst p m).sby = s.sby := by cases p <;> rfl
@[simp] theorem setMst_tag (s : State) (p : Port) (m : Master) : (s.setMst p m).tag = s.tag := by cases p <;> rfl
@[simp] theorem setMst_cart (s : State) (p : Port) (m : Master) : (s.setMst p m).cart = s.cart := by cases p <;> rfl
@[simp] theorem setMst_toll (s : State) (p : Port) (m : Master) : (s.setMst p m).toll = s.toll := by cases p <;> rfl
@[simp] theorem setMst_pwr (s : State) (p : Port) (m : Master) : (s.setMst p m).pwr = s.pwr := by cases p <;> rfl
@[simp] theorem setMst_cfg (s : State) (p : Port) (m : Master) : (s.setMst p m).cfg = s.cfg := by cases p <;> rfl
@[simp] theorem setMst_dbg (s : State) (p : Port) (m : Master) : (s.setMst p m).dbg = s.dbg := by cases p <;> rfl
@[simp] theorem setMst_free (s : State) (p : Port) (m : Master) : (s.setMst p m).free = s.free := by cases p <;> rfl
@[simp] theorem setMst_pending (s : State) (p : Port) (m : Master) : (s.setMst p m).pending = s.pending := by cases p <;> rfl
@[simp] theorem setMst_rf (s : State) (p : Port) (m : Master) (g : Field) : (s.setMst p m).rf g = s.rf g := rf_congr (by cases p <;> rfl) g

/-! `modLnk` -/

@[simp] theorem modLnk_dev (s : State) (p : Port) (f : Link → Link) : (s.modLnk p f).dev = s.dev := by cases p <;> rfl
@[simp] theorem modLnk_mem (s : State) (p : Port) (f : Link → Link) : (s.modLnk p f).mem = s.mem := by cases p <;> rfl
@[simp] theorem modLnk_pins (s : State) (p : Port) (f : Link → Link) : (s.modLnk p f).pins = s.pins := by cases p <;> rfl
@[simp] theorem modLnk_regs (s : State) (p : Port) (f : Link → Link) : (s.modLnk p f).regs = s.regs := by cases p <;> rfl
@[simp] theorem modLnk_plt (s : State) (p : Port) (f : Link → Link) : (s.modLnk p f).plt = s.plt := by cases p <;> rfl
@[simp] theorem modLnk_phy (s : State) (p : Port) (f : Link → Link) : (s.modLnk p f).phy = s.phy := by cases p <;> rfl
@[simp] theorem modLnk_master (s : State) (p : Port) (f : Link → Link) : (s.modLnk p f).master = s.master := by cases p <;> rfl
@[simp] theorem modLnk_rear (s : State) (p : Port) (f : Link → Link) : (s.modLnk p f).rear = s.rear := by cases p <;> rfl
@[simp] theorem modLnk_stack (s : State) (p : Port) (f : Link → Link) : (s.modLnk p f).stack = s.stack := by cases p <;> rfl
@[simp] theorem modLnk_p57 (s : State) (p : Port) (f : Link → Link) : (s.modLnk p f).p57 = s.p57 := by cases p <;> rfl
@[simp] theorem modLnk_intake (s : State) (p : Port) (f : Link → Link) : (s.modLnk p f).intake = s.intake := by cases p <;> rfl
@[simp] theorem modLnk_mix (s : State) (p : Port) (f : Link → Link) : (s.modLnk p f).mix = s.mix := by cases p <;> rfl
@[simp] theorem modLnk_ech (s : State) (p : Port) (f : Link → Link) : (s.modLnk p f).ech = s.ech := by cases p <;> rfl
@[simp] theorem modLnk_call (s : State) (p : Port) (f : Link → Link) : (s.modLnk p f).call = s.call := by cases p <;> rfl
@[simp] theorem modLnk_mic (s : State) (p : Port) (f : Link → Link) : (s.modLnk p f).mic = s.mic := by cases p <;> rfl
@[simp] theorem modLnk_wake (s : State) (p : Port) (f : Link → Link) : (s.modLnk p f).wake = s.wake := by cases p <;> rfl
@[simp] theorem modLnk_hif (s : State) (p : Port) (f : Link → Link) : (s.modLnk p f).hif = s.hif := by cases p <;> rfl
@[simp] theorem modLnk_sby (s : State) (p : Port) (f : Link → Link) : (s.modLnk p f).sby = s.sby := by cases p <;> rfl
@[simp] theorem modLnk_tag (s : State) (p : Port) (f : Link → Link) : (s.modLnk p f).tag = s.tag := by cases p <;> rfl
@[simp] theorem modLnk_cart (s : State) (p : Port) (f : Link → Link) : (s.modLnk p f).cart = s.cart := by cases p <;> rfl
@[simp] theorem modLnk_toll (s : State) (p : Port) (f : Link → Link) : (s.modLnk p f).toll = s.toll := by cases p <;> rfl
@[simp] theorem modLnk_pwr (s : State) (p : Port) (f : Link → Link) : (s.modLnk p f).pwr = s.pwr := by cases p <;> rfl
@[simp] theorem modLnk_cfg (s : State) (p : Port) (f : Link → Link) : (s.modLnk p f).cfg = s.cfg := by cases p <;> rfl
@[simp] theorem modLnk_dbg (s : State) (p : Port) (f : Link → Link) : (s.modLnk p f).dbg = s.dbg := by cases p <;> rfl
@[simp] theorem modLnk_free (s : State) (p : Port) (f : Link → Link) : (s.modLnk p f).free = s.free := by cases p <;> rfl
@[simp] theorem modLnk_pending (s : State) (p : Port) (f : Link → Link) : (s.modLnk p f).pending = s.pending := by cases p <;> rfl
@[simp] theorem modLnk_rf (s : State) (p : Port) (f : Link → Link) (g : Field) : (s.modLnk p f).rf g = s.rf g := rf_congr (by cases p <;> rfl) g

/-! `modMst` -/

@[simp] theorem modMst_dev (s : State) (p : Port) (f : Master → Master) : (s.modMst p f).dev = s.dev := by cases p <;> rfl
@[simp] theorem modMst_mem (s : State) (p : Port) (f : Master → Master) : (s.modMst p f).mem = s.mem := by cases p <;> rfl
@[simp] theorem modMst_pins (s : State) (p : Port) (f : Master → Master) : (s.modMst p f).pins = s.pins := by cases p <;> rfl
@[simp] theorem modMst_regs (s : State) (p : Port) (f : Master → Master) : (s.modMst p f).regs = s.regs := by cases p <;> rfl
@[simp] theorem modMst_plt (s : State) (p : Port) (f : Master → Master) : (s.modMst p f).plt = s.plt := by cases p <;> rfl
@[simp] theorem modMst_phy (s : State) (p : Port) (f : Master → Master) : (s.modMst p f).phy = s.phy := by cases p <;> rfl
@[simp] theorem modMst_link (s : State) (p : Port) (f : Master → Master) : (s.modMst p f).link = s.link := by cases p <;> rfl
@[simp] theorem modMst_rear (s : State) (p : Port) (f : Master → Master) : (s.modMst p f).rear = s.rear := by cases p <;> rfl
@[simp] theorem modMst_stack (s : State) (p : Port) (f : Master → Master) : (s.modMst p f).stack = s.stack := by cases p <;> rfl
@[simp] theorem modMst_p57 (s : State) (p : Port) (f : Master → Master) : (s.modMst p f).p57 = s.p57 := by cases p <;> rfl
@[simp] theorem modMst_intake (s : State) (p : Port) (f : Master → Master) : (s.modMst p f).intake = s.intake := by cases p <;> rfl
@[simp] theorem modMst_mix (s : State) (p : Port) (f : Master → Master) : (s.modMst p f).mix = s.mix := by cases p <;> rfl
@[simp] theorem modMst_ech (s : State) (p : Port) (f : Master → Master) : (s.modMst p f).ech = s.ech := by cases p <;> rfl
@[simp] theorem modMst_call (s : State) (p : Port) (f : Master → Master) : (s.modMst p f).call = s.call := by cases p <;> rfl
@[simp] theorem modMst_mic (s : State) (p : Port) (f : Master → Master) : (s.modMst p f).mic = s.mic := by cases p <;> rfl
@[simp] theorem modMst_wake (s : State) (p : Port) (f : Master → Master) : (s.modMst p f).wake = s.wake := by cases p <;> rfl
@[simp] theorem modMst_hif (s : State) (p : Port) (f : Master → Master) : (s.modMst p f).hif = s.hif := by cases p <;> rfl
@[simp] theorem modMst_sby (s : State) (p : Port) (f : Master → Master) : (s.modMst p f).sby = s.sby := by cases p <;> rfl
@[simp] theorem modMst_tag (s : State) (p : Port) (f : Master → Master) : (s.modMst p f).tag = s.tag := by cases p <;> rfl
@[simp] theorem modMst_cart (s : State) (p : Port) (f : Master → Master) : (s.modMst p f).cart = s.cart := by cases p <;> rfl
@[simp] theorem modMst_toll (s : State) (p : Port) (f : Master → Master) : (s.modMst p f).toll = s.toll := by cases p <;> rfl
@[simp] theorem modMst_pwr (s : State) (p : Port) (f : Master → Master) : (s.modMst p f).pwr = s.pwr := by cases p <;> rfl
@[simp] theorem modMst_cfg (s : State) (p : Port) (f : Master → Master) : (s.modMst p f).cfg = s.cfg := by cases p <;> rfl
@[simp] theorem modMst_dbg (s : State) (p : Port) (f : Master → Master) : (s.modMst p f).dbg = s.dbg := by cases p <;> rfl
@[simp] theorem modMst_free (s : State) (p : Port) (f : Master → Master) : (s.modMst p f).free = s.free := by cases p <;> rfl
@[simp] theorem modMst_pending (s : State) (p : Port) (f : Master → Master) : (s.modMst p f).pending = s.pending := by cases p <;> rfl
@[simp] theorem modMst_rf (s : State) (p : Port) (f : Master → Master) (g : Field) : (s.modMst p f).rf g = s.rf g := rf_congr (by cases p <;> rfl) g

/-! `clrBit` -/

@[simp] theorem clrBit_dev (s : State) (f : Field) (i : Nat) : (s.clrBit f i).dev = s.dev := (frame_clrBit s f i).eq_of .dev rfl
@[simp] theorem clrBit_mem (s : State) (f : Field) (i : Nat) : (s.clrBit f i).mem = s.mem := (frame_clrBit s f i).eq_of .mem rfl
@[simp] theorem clrBit_pins (s : State) (f : Field) (i : Nat) : (s.clrBit f i).pins = s.pins := (frame_clrBit s f i).eq_of .pins rfl
@[simp] theorem clrBit_plt (s : State) (f : Field) (i : Nat) : (s.clrBit f i).plt = s.plt := (frame_clrBit s f i).eq_of .plt rfl
@[simp] theorem clrBit_phy (s : State) (f : Field) (i : Nat) : (s.clrBit f i).phy = s.phy := (frame_clrBit s f i).eq_of .phy rfl
@[simp] theorem clrBit_link (s : State) (f : Field) (i : Nat) : (s.clrBit f i).link = s.link := (frame_clrBit s f i).eq_of .link rfl
@[simp] theorem clrBit_master (s : State) (f : Field) (i : Nat) : (s.clrBit f i).master = s.master := (frame_clrBit s f i).eq_of .master rfl
@[simp] theorem clrBit_rear (s : State) (f : Field) (i : Nat) : (s.clrBit f i).rear = s.rear := (frame_clrBit s f i).eq_of .rear rfl
@[simp] theorem clrBit_way (s : State) (f : Field) (i : Nat) : (s.clrBit f i).way = s.way := (frame_clrBit s f i).eq_of .way rfl
@[simp] theorem clrBit_stack (s : State) (f : Field) (i : Nat) : (s.clrBit f i).stack = s.stack := (frame_clrBit s f i).eq_of .stack rfl
@[simp] theorem clrBit_p57 (s : State) (f : Field) (i : Nat) : (s.clrBit f i).p57 = s.p57 := (frame_clrBit s f i).eq_of .p57 rfl
@[simp] theorem clrBit_intake (s : State) (f : Field) (i : Nat) : (s.clrBit f i).intake = s.intake := (frame_clrBit s f i).eq_of .intake rfl
@[simp] theorem clrBit_mix (s : State) (f : Field) (i : Nat) : (s.clrBit f i).mix = s.mix := (frame_clrBit s f i).eq_of .mix rfl
@[simp] theorem clrBit_ech (s : State) (f : Field) (i : Nat) : (s.clrBit f i).ech = s.ech := (frame_clrBit s f i).eq_of .ech rfl
@[simp] theorem clrBit_call (s : State) (f : Field) (i : Nat) : (s.clrBit f i).call = s.call := (frame_clrBit s f i).eq_of .call rfl
@[simp] theorem clrBit_mic (s : State) (f : Field) (i : Nat) : (s.clrBit f i).mic = s.mic := (frame_clrBit s f i).eq_of .mic rfl
@[simp] theorem clrBit_wake (s : State) (f : Field) (i : Nat) : (s.clrBit f i).wake = s.wake := (frame_clrBit s f i).eq_of .wake rfl
@[simp] theorem clrBit_hif (s : State) (f : Field) (i : Nat) : (s.clrBit f i).hif = s.hif := (frame_clrBit s f i).eq_of .hif rfl
@[simp] theorem clrBit_sby (s : State) (f : Field) (i : Nat) : (s.clrBit f i).sby = s.sby := (frame_clrBit s f i).eq_of .sby rfl
@[simp] theorem clrBit_tag (s : State) (f : Field) (i : Nat) : (s.clrBit f i).tag = s.tag := (frame_clrBit s f i).eq_of .tag rfl
@[simp] theorem clrBit_cart (s : State) (f : Field) (i : Nat) : (s.clrBit f i).cart = s.cart := (frame_clrBit s f i).eq_of .cart rfl
@[simp] theorem clrBit_toll (s : State) (f : Field) (i : Nat) : (s.clrBit f i).toll = s.toll := (frame_clrBit s f i).eq_of .toll rfl
@[simp] theorem clrBit_pwr (s : State) (f : Field) (i : Nat) : (s.clrBit f i).pwr = s.pwr := (frame_clrBit s f i).eq_of .pwr rfl
@[simp] theorem clrBit_cfg (s : State) (f : Field) (i : Nat) : (s.clrBit f i).cfg = s.cfg := (frame_clrBit s f i).eq_of .cfg rfl
@[simp] theorem clrBit_dbg (s : State) (f : Field) (i : Nat) : (s.clrBit f i).dbg = s.dbg := (frame_clrBit s f i).eq_of .dbg rfl
@[simp] theorem clrBit_free (s : State) (f : Field) (i : Nat) : (s.clrBit f i).free = s.free := (frame_clrBit s f i).eq_of .free rfl
@[simp] theorem clrBit_pending (s : State) (f : Field) (i : Nat) : (s.clrBit f i).pending = s.pending := (frame_clrBit s f i).eq_of .pending rfl

/-! `stim` -/

@[simp] theorem stim_dev (s : State) (p n : Nat) : (s.stim p n).dev = s.dev := (frame_stim s p n).eq_of .dev rfl
@[simp] theorem stim_mem (s : State) (p n : Nat) : (s.stim p n).mem = s.mem := (frame_stim s p n).eq_of .mem rfl
@[simp] theorem stim_pins (s : State) (p n : Nat) : (s.stim p n).pins = s.pins := (frame_stim s p n).eq_of .pins rfl
@[simp] theorem stim_plt (s : State) (p n : Nat) : (s.stim p n).plt = s.plt := (frame_stim s p n).eq_of .plt rfl
@[simp] theorem stim_phy (s : State) (p n : Nat) : (s.stim p n).phy = s.phy := (frame_stim s p n).eq_of .phy rfl
@[simp] theorem stim_link (s : State) (p n : Nat) : (s.stim p n).link = s.link := (frame_stim s p n).eq_of .link rfl
@[simp] theorem stim_master (s : State) (p n : Nat) : (s.stim p n).master = s.master := (frame_stim s p n).eq_of .master rfl
@[simp] theorem stim_rear (s : State) (p n : Nat) : (s.stim p n).rear = s.rear := (frame_stim s p n).eq_of .rear rfl
@[simp] theorem stim_way (s : State) (p n : Nat) : (s.stim p n).way = s.way := (frame_stim s p n).eq_of .way rfl
@[simp] theorem stim_stack (s : State) (p n : Nat) : (s.stim p n).stack = s.stack := (frame_stim s p n).eq_of .stack rfl
@[simp] theorem stim_p57 (s : State) (p n : Nat) : (s.stim p n).p57 = s.p57 := (frame_stim s p n).eq_of .p57 rfl
@[simp] theorem stim_intake (s : State) (p n : Nat) : (s.stim p n).intake = s.intake := (frame_stim s p n).eq_of .intake rfl
@[simp] theorem stim_mix (s : State) (p n : Nat) : (s.stim p n).mix = s.mix := (frame_stim s p n).eq_of .mix rfl
@[simp] theorem stim_ech (s : State) (p n : Nat) : (s.stim p n).ech = s.ech := (frame_stim s p n).eq_of .ech rfl
@[simp] theorem stim_call (s : State) (p n : Nat) : (s.stim p n).call = s.call := (frame_stim s p n).eq_of .call rfl
@[simp] theorem stim_mic (s : State) (p n : Nat) : (s.stim p n).mic = s.mic := (frame_stim s p n).eq_of .mic rfl
@[simp] theorem stim_wake (s : State) (p n : Nat) : (s.stim p n).wake = s.wake := (frame_stim s p n).eq_of .wake rfl
@[simp] theorem stim_hif (s : State) (p n : Nat) : (s.stim p n).hif = s.hif := (frame_stim s p n).eq_of .hif rfl
@[simp] theorem stim_sby (s : State) (p n : Nat) : (s.stim p n).sby = s.sby := (frame_stim s p n).eq_of .sby rfl
@[simp] theorem stim_tag (s : State) (p n : Nat) : (s.stim p n).tag = s.tag := (frame_stim s p n).eq_of .tag rfl
@[simp] theorem stim_cart (s : State) (p n : Nat) : (s.stim p n).cart = s.cart := (frame_stim s p n).eq_of .cart rfl
@[simp] theorem stim_toll (s : State) (p n : Nat) : (s.stim p n).toll = s.toll := (frame_stim s p n).eq_of .toll rfl
@[simp] theorem stim_pwr (s : State) (p n : Nat) : (s.stim p n).pwr = s.pwr := (frame_stim s p n).eq_of .pwr rfl
@[simp] theorem stim_cfg (s : State) (p n : Nat) : (s.stim p n).cfg = s.cfg := (frame_stim s p n).eq_of .cfg rfl
@[simp] theorem stim_free (s : State) (p n : Nat) : (s.stim p n).free = s.free := (frame_stim s p n).eq_of .free rfl
@[simp] theorem stim_pending (s : State) (p n : Nat) : (s.stim p n).pending = s.pending := (frame_stim s p n).eq_of .pending rfl

/-! `raise` -/

@[simp] theorem raise_dev (s : State) (code a b c : Nat) (arg : Word) : (s.raise code a b c arg).dev = s.dev := (frame_raise s code a b c arg).eq_of .dev rfl
@[simp] theorem raise_mem (s : State) (code a b c : Nat) (arg : Word) : (s.raise code a b c arg).mem = s.mem := (frame_raise s code a b c arg).eq_of .mem rfl
@[simp] theorem raise_pins (s : State) (code a b c : Nat) (arg : Word) : (s.raise code a b c arg).pins = s.pins := (frame_raise s code a b c arg).eq_of .pins rfl
@[simp] theorem raise_plt (s : State) (code a b c : Nat) (arg : Word) : (s.raise code a b c arg).plt = s.plt := (frame_raise s code a b c arg).eq_of .plt rfl
@[simp] theorem raise_phy (s : State) (code a b c : Nat) (arg : Word) : (s.raise code a b c arg).phy = s.phy := (frame_raise s code a b c arg).eq_of .phy rfl
@[simp] theorem raise_link (s : State) (code a b c : Nat) (arg : Word) : (s.raise code a b c arg).link = s.link := (frame_raise s code a b c arg).eq_of .link rfl
@[simp] theorem raise_master (s : State) (code a b c : Nat) (arg : Word) : (s.raise code a b c arg).master = s.master := (frame_raise s code a b c arg).eq_of .master rfl
@[simp] theorem raise_rear (s : State) (code a b c : Nat) (arg : Word) : (s.raise code a b c arg).rear = s.rear := (frame_raise s code a b c arg).eq_of .rear rfl
@[simp] theorem raise_way (s : State) (code a b c : Nat) (arg : Word) : (s.raise code a b c arg).way = s.way := (frame_raise s code a b c arg).eq_of .way rfl
@[simp] theorem raise_stack (s : State) (code a b c : Nat) (arg : Word) : (s.raise code a b c arg).stack = s.stack := (frame_raise s code a b c arg).eq_of .stack rfl
@[simp] theorem raise_p57 (s : State) (code a b c : Nat) (arg : Word) : (s.raise code a b c arg).p57 = s.p57 := (frame_raise s code a b c arg).eq_of .p57 rfl
@[simp] theorem raise_intake (s : State) (code a b c : Nat) (arg : Word) : (s.raise code a b c arg).intake = s.intake := (frame_raise s code a b c arg).eq_of .intake rfl
@[simp] theorem raise_mix (s : State) (code a b c : Nat) (arg : Word) : (s.raise code a b c arg).mix = s.mix := (frame_raise s code a b c arg).eq_of .mix rfl
@[simp] theorem raise_ech (s : State) (code a b c : Nat) (arg : Word) : (s.raise code a b c arg).ech = s.ech := (frame_raise s code a b c arg).eq_of .ech rfl
@[simp] theorem raise_call (s : State) (code a b c : Nat) (arg : Word) : (s.raise code a b c arg).call = s.call := (frame_raise s code a b c arg).eq_of .call rfl
@[simp] theorem raise_mic (s : State) (code a b c : Nat) (arg : Word) : (s.raise code a b c arg).mic = s.mic := (frame_raise s code a b c arg).eq_of .mic rfl
@[simp] theorem raise_wake (s : State) (code a b c : Nat) (arg : Word) : (s.raise code a b c arg).wake = s.wake := (frame_raise s code a b c arg).eq_of .wake rfl
@[simp] theorem raise_sby (s : State) (code a b c : Nat) (arg : Word) : (s.raise code a b c arg).sby = s.sby := (frame_raise s code a b c arg).eq_of .sby rfl
@[simp] theorem raise_tag (s : State) (code a b c : Nat) (arg : Word) : (s.raise code a b c arg).tag = s.tag := (frame_raise s code a b c arg).eq_of .tag rfl
@[simp] theorem raise_cart (s : State) (code a b c : Nat) (arg : Word) : (s.raise code a b c arg).cart = s.cart := (frame_raise s code a b c arg).eq_of .cart rfl
@[simp] theorem raise_toll (s : State) (code a b c : Nat) (arg : Word) : (s.raise code a b c arg).toll = s.toll := (frame_raise s code a b c arg).eq_of .toll rfl
@[simp] theorem raise_pwr (s : State) (code a b c : Nat) (arg : Word) : (s.raise code a b c arg).pwr = s.pwr := (frame_raise s code a b c arg).eq_of .pwr rfl
@[simp] theorem raise_cfg (s : State) (code a b c : Nat) (arg : Word) : (s.raise code a b c arg).cfg = s.cfg := (frame_raise s code a b c arg).eq_of .cfg rfl
@[simp] theorem raise_dbg (s : State) (code a b c : Nat) (arg : Word) : (s.raise code a b c arg).dbg = s.dbg := (frame_raise s code a b c arg).eq_of .dbg rfl
@[simp] theorem raise_free (s : State) (code a b c : Nat) (arg : Word) : (s.raise code a b c arg).free = s.free := (frame_raise s code a b c arg).eq_of .free rfl
@[simp] theorem raise_pending (s : State) (code a b c : Nat) (arg : Word) : (s.raise code a b c arg).pending = s.pending := (frame_raise s code a b c arg).eq_of .pending rfl

/-! `setCall` -/

@[simp] theorem setCall_dev (s : State) (r : Nat) (c : Option CallRec) : (s.setCall r c).dev = s.dev := (frame_setCall s r c).eq_of .dev rfl
@[simp] theorem setCall_mem (s : State) (r : Nat) (c : Option CallRec) : (s.setCall r c).mem = s.mem := (frame_setCall s r c).eq_of .mem rfl
@[simp] theorem setCall_pins (s : State) (r : Nat) (c : Option CallRec) : (s.setCall r c).pins = s.pins := (frame_setCall s r c).eq_of .pins rfl
@[simp] theorem setCall_plt (s : State) (r : Nat) (c : Option CallRec) : (s.setCall r c).plt = s.plt := (frame_setCall s r c).eq_of .plt rfl
@[simp] theorem setCall_phy (s : State) (r : Nat) (c : Option CallRec) : (s.setCall r c).phy = s.phy := (frame_setCall s r c).eq_of .phy rfl
@[simp] theorem setCall_link (s : State) (r : Nat) (c : Option CallRec) : (s.setCall r c).link = s.link := (frame_setCall s r c).eq_of .link rfl
@[simp] theorem setCall_master (s : State) (r : Nat) (c : Option CallRec) : (s.setCall r c).master = s.master := (frame_setCall s r c).eq_of .master rfl
@[simp] theorem setCall_rear (s : State) (r : Nat) (c : Option CallRec) : (s.setCall r c).rear = s.rear := (frame_setCall s r c).eq_of .rear rfl
@[simp] theorem setCall_way (s : State) (r : Nat) (c : Option CallRec) : (s.setCall r c).way = s.way := (frame_setCall s r c).eq_of .way rfl
@[simp] theorem setCall_stack (s : State) (r : Nat) (c : Option CallRec) : (s.setCall r c).stack = s.stack := (frame_setCall s r c).eq_of .stack rfl
@[simp] theorem setCall_p57 (s : State) (r : Nat) (c : Option CallRec) : (s.setCall r c).p57 = s.p57 := (frame_setCall s r c).eq_of .p57 rfl
@[simp] theorem setCall_intake (s : State) (r : Nat) (c : Option CallRec) : (s.setCall r c).intake = s.intake := (frame_setCall s r c).eq_of .intake rfl
@[simp] theorem setCall_mix (s : State) (r : Nat) (c : Option CallRec) : (s.setCall r c).mix = s.mix := (frame_setCall s r c).eq_of .mix rfl
@[simp] theorem setCall_ech (s : State) (r : Nat) (c : Option CallRec) : (s.setCall r c).ech = s.ech := (frame_setCall s r c).eq_of .ech rfl
@[simp] theorem setCall_mic (s : State) (r : Nat) (c : Option CallRec) : (s.setCall r c).mic = s.mic := (frame_setCall s r c).eq_of .mic rfl
@[simp] theorem setCall_wake (s : State) (r : Nat) (c : Option CallRec) : (s.setCall r c).wake = s.wake := (frame_setCall s r c).eq_of .wake rfl
@[simp] theorem setCall_hif (s : State) (r : Nat) (c : Option CallRec) : (s.setCall r c).hif = s.hif := (frame_setCall s r c).eq_of .hif rfl
@[simp] theorem setCall_sby (s : State) (r : Nat) (c : Option CallRec) : (s.setCall r c).sby = s.sby := (frame_setCall s r c).eq_of .sby rfl
@[simp] theorem setCall_tag (s : State) (r : Nat) (c : Option CallRec) : (s.setCall r c).tag = s.tag := (frame_setCall s r c).eq_of .tag rfl
@[simp] theorem setCall_cart (s : State) (r : Nat) (c : Option CallRec) : (s.setCall r c).cart = s.cart := (frame_setCall s r c).eq_of .cart rfl
@[simp] theorem setCall_toll (s : State) (r : Nat) (c : Option CallRec) : (s.setCall r c).toll = s.toll := (frame_setCall s r c).eq_of .toll rfl
@[simp] theorem setCall_pwr (s : State) (r : Nat) (c : Option CallRec) : (s.setCall r c).pwr = s.pwr := (frame_setCall s r c).eq_of .pwr rfl
@[simp] theorem setCall_cfg (s : State) (r : Nat) (c : Option CallRec) : (s.setCall r c).cfg = s.cfg := (frame_setCall s r c).eq_of .cfg rfl
@[simp] theorem setCall_free (s : State) (r : Nat) (c : Option CallRec) : (s.setCall r c).free = s.free := (frame_setCall s r c).eq_of .free rfl
@[simp] theorem setCall_pending (s : State) (r : Nat) (c : Option CallRec) : (s.setCall r c).pending = s.pending := (frame_setCall s r c).eq_of .pending rfl

/-! `finish` -/

@[simp] theorem finish_dev (s : State) (c j : Nat) (st : Status) (r i : Word) : (s.finish c j st r i).dev = s.dev := (frame_finish s c j st r i).eq_of .dev rfl
@[simp] theorem finish_mem (s : State) (c j : Nat) (st : Status) (r i : Word) : (s.finish c j st r i).mem = s.mem := (frame_finish s c j st r i).eq_of .mem rfl
@[simp] theorem finish_pins (s : State) (c j : Nat) (st : Status) (r i : Word) : (s.finish c j st r i).pins = s.pins := (frame_finish s c j st r i).eq_of .pins rfl
@[simp] theorem finish_plt (s : State) (c j : Nat) (st : Status) (r i : Word) : (s.finish c j st r i).plt = s.plt := (frame_finish s c j st r i).eq_of .plt rfl
@[simp] theorem finish_phy (s : State) (c j : Nat) (st : Status) (r i : Word) : (s.finish c j st r i).phy = s.phy := (frame_finish s c j st r i).eq_of .phy rfl
@[simp] theorem finish_link (s : State) (c j : Nat) (st : Status) (r i : Word) : (s.finish c j st r i).link = s.link := (frame_finish s c j st r i).eq_of .link rfl
@[simp] theorem finish_master (s : State) (c j : Nat) (st : Status) (r i : Word) : (s.finish c j st r i).master = s.master := (frame_finish s c j st r i).eq_of .master rfl
@[simp] theorem finish_rear (s : State) (c j : Nat) (st : Status) (r i : Word) : (s.finish c j st r i).rear = s.rear := (frame_finish s c j st r i).eq_of .rear rfl
@[simp] theorem finish_way (s : State) (c j : Nat) (st : Status) (r i : Word) : (s.finish c j st r i).way = s.way := (frame_finish s c j st r i).eq_of .way rfl
@[simp] theorem finish_stack (s : State) (c j : Nat) (st : Status) (r i : Word) : (s.finish c j st r i).stack = s.stack := (frame_finish s c j st r i).eq_of .stack rfl
@[simp] theorem finish_p57 (s : State) (c j : Nat) (st : Status) (r i : Word) : (s.finish c j st r i).p57 = s.p57 := (frame_finish s c j st r i).eq_of .p57 rfl
@[simp] theorem finish_intake (s : State) (c j : Nat) (st : Status) (r i : Word) : (s.finish c j st r i).intake = s.intake := (frame_finish s c j st r i).eq_of .intake rfl
@[simp] theorem finish_mix (s : State) (c j : Nat) (st : Status) (r i : Word) : (s.finish c j st r i).mix = s.mix := (frame_finish s c j st r i).eq_of .mix rfl
@[simp] theorem finish_ech (s : State) (c j : Nat) (st : Status) (r i : Word) : (s.finish c j st r i).ech = s.ech := (frame_finish s c j st r i).eq_of .ech rfl
@[simp] theorem finish_call (s : State) (c j : Nat) (st : Status) (r i : Word) : (s.finish c j st r i).call = s.call := (frame_finish s c j st r i).eq_of .call rfl
@[simp] theorem finish_mic (s : State) (c j : Nat) (st : Status) (r i : Word) : (s.finish c j st r i).mic = s.mic := (frame_finish s c j st r i).eq_of .mic rfl
@[simp] theorem finish_wake (s : State) (c j : Nat) (st : Status) (r i : Word) : (s.finish c j st r i).wake = s.wake := (frame_finish s c j st r i).eq_of .wake rfl
@[simp] theorem finish_sby (s : State) (c j : Nat) (st : Status) (r i : Word) : (s.finish c j st r i).sby = s.sby := (frame_finish s c j st r i).eq_of .sby rfl
@[simp] theorem finish_tag (s : State) (c j : Nat) (st : Status) (r i : Word) : (s.finish c j st r i).tag = s.tag := (frame_finish s c j st r i).eq_of .tag rfl
@[simp] theorem finish_cart (s : State) (c j : Nat) (st : Status) (r i : Word) : (s.finish c j st r i).cart = s.cart := (frame_finish s c j st r i).eq_of .cart rfl
@[simp] theorem finish_toll (s : State) (c j : Nat) (st : Status) (r i : Word) : (s.finish c j st r i).toll = s.toll := (frame_finish s c j st r i).eq_of .toll rfl
@[simp] theorem finish_pwr (s : State) (c j : Nat) (st : Status) (r i : Word) : (s.finish c j st r i).pwr = s.pwr := (frame_finish s c j st r i).eq_of .pwr rfl
@[simp] theorem finish_cfg (s : State) (c j : Nat) (st : Status) (r i : Word) : (s.finish c j st r i).cfg = s.cfg := (frame_finish s c j st r i).eq_of .cfg rfl
@[simp] theorem finish_free (s : State) (c j : Nat) (st : Status) (r i : Word) : (s.finish c j st r i).free = s.free := (frame_finish s c j st r i).eq_of .free rfl
@[simp] theorem finish_pending (s : State) (c j : Nat) (st : Status) (r i : Word) : (s.finish c j st r i).pending = s.pending := (frame_finish s c j st r i).eq_of .pending rfl

end Sys2Proof.Laws
end

