-- ==== Sys2Proof/Laws/Guarded.lean ====
section
/-! SUPPORT. What the shared operations do where a guard holds: an event that reaches its clients, a wake source while the node runs, a
packet of the stimulus ports. -/

namespace Sys2Proof.Laws

open Sys2Proof.Machine

set_option Elab.async false

/-! ### Clients -/

theorem client_congr {s t : State} (h : t.hif = s.hif) (i : Nat) : t.client i = s.client i := by rw [State.client, State.client, h]

theorem client_modClient_ne (s : State) {i j : Nat} (f : ClientSt → ClientSt) (h : i ≠ j) : (s.modClient i f).client j = s.client j := by
  simp [State.client, State.modClient, State.setClient, List.getD_eq_getElem?_getD, List.getElem?_set_ne h]

theorem client_modClient_same (s : State) {i : Nat} (f : ClientSt → ClientSt) (h : i < s.hif.clients.length) :
    (s.modClient i f).client i = f (s.client i) := by
  simp [State.client, State.modClient, State.setClient, List.getD_eq_getElem?_getD, h]

theorem running_length {s : State} {i : Nat} (h : (s.client i).running = true) : i < s.hif.clients.length := by
  apply Decidable.byContradiction
  intro hn
  simp [State.client, List.getD_eq_getElem?_getD, List.getElem?_eq_none (Nat.le_of_not_lt hn), ClientSt.reset] at h

theorem length_modClient (s : State) (i : Nat) (f : ClientSt → ClientSt) : (s.modClient i f).hif.clients.length = s.hif.clients.length := by
  simp [State.modClient, State.setClient]

/-! ### Events -/

theorem eventTo_ne (s : State) (e : Entry) {i j : Nat} (h : i ≠ j) : (s.eventTo e i).client j = s.client j := by
  unfold State.eventTo
  split
  · exact client_modClient_ne s _ h
  · rfl

theorem eventTo_same (s : State) (e : Entry) {i : Nat} (h : i < s.hif.clients.length) (hb : (s.client i).backlog < 32) :
    (s.eventTo e i).client i = { s.client i with waiting := (s.client i).waiting ++ [e] } := by
  unfold State.eventTo
  rw [if_pos hb, client_modClient_same s _ h]

theorem eventFold_ne (p : Nat → ClientSt → Bool) (e : Entry) (l : List Nat) (s : State) {j : Nat} (h : j ∉ l) :
    (l.foldl (fun s i => if (s.client i).running && p i (s.client i) then s.eventTo e i else s) s).client j = s.client j := by
  induction l generalizing s with
  | nil => rfl
  | cons i l ih =>
    rw [List.foldl_cons, ih _ (fun hm => h (List.mem_cons_of_mem _ hm))]
    split
    · exact eventTo_ne s e (fun he => h (he ▸ List.mem_cons_self ..))
    · rfl

theorem eventFold_same (p : Nat → ClientSt → Bool) (e : Entry) (l : List Nat) (s : State) {j : Nat} (h : j ∈ l) (hn : l.Nodup)
    (hr : (s.client j).running = true) (hp : p j (s.client j) = true) (hb : (s.client j).backlog < 32) :
    ((l.foldl (fun s i => if (s.client i).running && p i (s.client i) then s.eventTo e i else s) s).client j) =
      { s.client j with waiting := (s.client j).waiting ++ [e] } := by
  induction l generalizing s with
  | nil => cases h
  | cons i l ih =>
    rw [List.nodup_cons] at hn
    rw [List.foldl_cons]
    by_cases hij : i = j
    · subst hij
      rw [eventFold_ne p e l _ hn.1, if_pos (by simp [hr, hp]), eventTo_same s e (running_length hr) hb]
    · have hc : (if (s.client i).running && p i (s.client i) then s.eventTo e i else s).client j = s.client j := by
        split
        · exact eventTo_ne s e hij
        · rfl
      have hm : j ∈ l := by
        rcases List.mem_cons.1 h with h | h
        · exact absurd h.symm hij
        · exact h
      rw [ih _ hm hn.2 (by rw [hc]; exact hr) (by rw [hc]; exact hp) (by rw [hc]; exact hb), hc]

/-- A raised event waits last with every enabled client whose mask holds it, while its backlog has room. -/
theorem told_raise (s : State) (code a b c : Nat) (arg : Word) : Told s (s.raise code a b c arg) code a b c arg := by
  intro i hi hr hm hb
  rw [State.raise, State.raiseAt, State.eventAll,
    eventFold_same (fun _ cl => cl.mask.getLsbD code) _ _ s (List.mem_range.2 hi) (List.nodup_range) hr hm hb]

/-- What waits is told as long as the clients are those of the raise. -/
theorem told_of {s s' t t' : State} {code a b c : Nat} {arg : Word} (h : Told s t code a b c arg) (hs : s'.hif = s.hif) (hp : s'.plt = s.plt)
    (ht : t'.hif = t.hif) : Told s' t' code a b c arg := by
  intro i hi hr hm hb
  have hl : s'.lpc = s.lpc := by rw [State.lpc, State.lpc, hp]
  rw [client_congr hs] at hr hm hb ⊢
  rw [client_congr ht, hl]
  exact h i hi hr hm hb

/-- The same, for a state the event was raised in after other parts had changed. -/
theorem told_from {s s' t : State} {code a b c : Nat} {arg : Word} (h : Told s t code a b c arg) (hs : s'.hif = s.hif) (hp : s'.plt = s.plt) :
    Told s' t code a b c arg := told_of h hs hp rfl

/-! ### Packets and wake sources while the node runs -/

theorem abortEntry_state (s : State) (why : Nat) : (s.abortEntry why).pwr.state = s.pwr.state := by
  unfold State.abortEntry
  split <;> rfl

/-- A wake source in S0 is recorded and aborts an entry; the node is awake already. -/
theorem frame_wakeBy_run (s : State) (bits : Nat) (h : s.pwr.state = 0) :
    Frame [.regs, .pwr, .dbg] (some [0x0864, 0x0890, 0x6028]) s (s.wakeBy bits) := by
  unfold State.wakeBy
  dsimp -proj only
  refine Frame.ite (Frame.rfl' s) ?_
  have hb : Frame [.regs, .pwr, .dbg] (some [0x0864, 0x0890, 0x6028]) s
      (((s.wr F.PWR_WAKE_CAUSE.cause (Nat.lor (s.rf F.PWR_WAKE_CAUSE.cause) (s.firing bits))).stim 13 (s.firing bits)).abortEntry
        (lowestBit (s.firing bits) 13)) := by
    apply Frame.after (frame_abortEntry _ _) (by decide +kernel)
    apply Frame.after (frame_stim _ _ _) (by decide +kernel)
    exact (frame_wr _ _ _).mono (by decide +kernel)
  apply Frame.ite _ hb
  rw [State.exitToRun, if_pos]
  · exact hb
  · rw [abortEntry_state]
    have h2 := (frame_stim (s.wr F.PWR_WAKE_CAUSE.cause (Nat.lor (s.rf F.PWR_WAKE_CAUSE.cause) (s.firing bits))) 13 (s.firing bits)).eq_of .pwr rfl
    exact (congrArg Pwr.state h2).trans h

theorem wakeBy_state_run (s : State) (bits : Nat) (h : s.pwr.state = 0) : (s.wakeBy bits).pwr.state = 0 := by
  unfold State.wakeBy
  dsimp -proj only
  split
  · exact h
  · have h2 : ((((s.wr F.PWR_WAKE_CAUSE.cause (Nat.lor (s.rf F.PWR_WAKE_CAUSE.cause) (s.firing bits))).stim 13 (s.firing bits)).abortEntry
        (lowestBit (s.firing bits) 13))).pwr.state = 0 := by
      rw [abortEntry_state]
      have h2 := (frame_stim (s.wr F.PWR_WAKE_CAUSE.cause (Nat.lor (s.rf F.PWR_WAKE_CAUSE.cause) (s.firing bits))) 13 (s.firing bits)).eq_of .pwr rfl
      exact (congrArg Pwr.state h2).trans h
    split
    · rw [State.exitToRun, if_pos h2]
      exact h2
    · exact h2

/-! ### An exit to S0 -/

theorem s5Boot_state (s : State) : s.s5Boot.pwr.state = 0 := by
  unfold State.s5Boot
  dsimp -proj only
  exact congrArg Pwr.state ((frame_exitEvents _).eq_of .pwr rfl)

/-- An exit ends in S0 from every state. -/
theorem exitToRun_state (s : State) : s.exitToRun.pwr.state = 0 := by
  unfold State.exitToRun
  split
  · assumption
  split
  · exact congrArg Pwr.state ((frame_stim _ _ _).eq_of .pwr rfl)
  split
  · exact s5Boot_state s
  · dsimp -proj only
    rw [congrArg Pwr.state ((frame_exitEvents _).eq_of .pwr rfl), congrArg Pwr.state ((frame_reloadModel _).eq_of .pwr rfl)]
    have h : ∀ u : State, (u.setPower 0).pwr.state = 0 := fun u => by
      unfold State.setPower
      exact congrArg Pwr.state ((frame_stim _ _ _).eq_of .pwr rfl)
    split
    · exact h _
    · exact h _

/-- A source that fires and wakes from the present state brings the node to S0. -/
theorem wakeBy_state_sleep (s : State) (bits i : Nat) (hi : i < 13) (hf : bitOf (s.firing bits) i = true)
    (h1 : (wakeRange i).1 ≤ s.pwr.state) (h2 : s.pwr.state ≤ (wakeRange i).2) : (s.wakeBy bits).pwr.state = 0 := by
  unfold State.wakeBy
  dsimp -proj only
  have h0 : s.firing bits ≠ 0 := fun h => by simp [h, bitOf] at hf
  rw [if_neg h0]
  have hs : ((((s.wr F.PWR_WAKE_CAUSE.cause (Nat.lor (s.rf F.PWR_WAKE_CAUSE.cause) (s.firing bits))).stim 13 (s.firing bits)).abortEntry
      (lowestBit (s.firing bits) 13))).pwr.state = s.pwr.state := by
    rw [abortEntry_state]
    exact congrArg Pwr.state ((frame_stim _ _ _).eq_of .pwr rfl)
  rw [if_pos, exitToRun_state]
  rw [hs, List.any_eq_true]
  exact ⟨i, List.mem_range.2 hi, by simp [hf, h1, h2]⟩

/-! ### Completions -/

/-- Whatever waits for a client still waits after an operation that only appends. -/
def Keeps (s t : State) : Prop := ∀ (c : Nat) (e : Entry), e ∈ (s.client c).waiting → e ∈ (t.client c).waiting

theorem Keeps.refl (s : State) : Keeps s s := fun _ _ h => h

theorem Keeps.trans {s t u : State} (h : Keeps s t) (k : Keeps t u) : Keeps s u := fun c e he => k c e (h c e he)

theorem Keeps.of_hif {s t : State} (h : t.hif = s.hif) : Keeps s t := fun c e he => by rw [client_congr h]; exact he

theorem keeps_modClient (s : State) (i : Nat) (f : ClientSt → ClientSt) (h : ∀ e, e ∈ (s.client i).waiting → e ∈ (f (s.client i)).waiting) :
    Keeps s (s.modClient i f) := by
  intro c e he
  by_cases hc : i = c
  · subst hc
    by_cases hl : i < s.hif.clients.length
    · rw [client_modClient_same s f hl]; exact h e he
    · have : s.client i = ClientSt.reset := by
        simp [State.client, List.getD_eq_getElem?_getD, List.getElem?_eq_none (Nat.le_of_not_lt hl)]
      rw [this] at he
      simp [ClientSt.reset] at he
  · rw [client_modClient_ne s f hc]; exact he

theorem keeps_dropBuf (s : State) (n : Nat) (id : Half) : Keeps s (s.dropBuf n id) := fun _ _ he => he

theorem keeps_finishOne (s : State) (c j : Nat) (st : Status) (r i : Word) : Keeps s (s.finishOne c j st r i) := by
  unfold State.finishOne
  split
  · exact Keeps.refl s
  · rename_i x hx
    have key : ∀ (u : State) (f : ClientSt → ClientSt), Keeps s u → (∀ cl e, e ∈ cl.waiting → e ∈ (f cl).waiting) → Keeps s
        ((u.modClient c f).stim 5 (x.desc.id.toNat + 65536 * c + 2 ^ 31)) := fun u f hu hf =>
      (hu.trans (keeps_modClient u c f (hf (u.client c)))).trans (Keeps.of_hif (stim_hif _ _ _))
    have k0 : Keeps s (match x.phase.stream with | some n => s.dropBuf n x.desc.id | none => s) := by
      split
      · exact keeps_dropBuf _ _ _
      · exact Keeps.refl s
    have kf : ∀ y : Entry, ∀ (cl : ClientSt) (e : Entry), e ∈ cl.waiting →
        e ∈ ({ cl with flight := dropFlight j cl.flight, waiting := if x.stale then cl.waiting else cl.waiting ++ [y] } : ClientSt).waiting := by
      intro y cl e he
      dsimp only
      split
      · exact he
      · exact List.mem_append_left _ he
    have k2 := fun y => key _ _ k0 (kf y)
    dsimp -proj only
    by_cases h1 : x.stale = true
    · rw [if_pos h1]
      exact (k2 _).trans (Keeps.of_hif (bump_hif _ _))
    · rw [if_neg h1]
      by_cases h2 : st = .peerReset
      · rw [if_pos h2]
        exact (k2 _).trans (Keeps.of_hif (bump_hif _ _))
      · rw [if_neg h2]
        exact k2 _

theorem keeps_abortRun (s : State) (c j n : Nat) : Keeps s (s.abortRun c j n) := by
  induction n generalizing s with
  | zero => exact Keeps.refl s
  | succ n ih => exact (keeps_finishOne s c j .aborted 0 0).trans (ih _)

theorem keeps_finish (s : State) (c j : Nat) (st : Status) (r i : Word) : Keeps s (s.finish c j st r i) := by
  unfold State.finish
  split
  · exact Keeps.refl s
  · dsimp -proj only
    split
    · exact keeps_finishOne s c j st r i
    · exact (keeps_finishOne s c j st r i).trans (keeps_abortRun _ _ _ _)

theorem armUnits_hif (s : State) (n : Nat) : (s.armUnits n).hif = s.hif := (frame_armUnits s n).eq_of .hif rfl

theorem keeps_schedule (s : State) (c j : Nat) (d : Desc) (b : List Byte) : Keeps s (s.schedule c j d b) := by
  unfold State.schedule
  have h : Keeps s (s.setPhase c j (.scheduled d.due b)) := by
    unfold State.setPhase
    exact keeps_modClient s c _ (fun e he => he)
  exact h.trans (Keeps.of_hif ((frame_addDeadline _ _ _ _).eq_of .hif rfl))

theorem keeps_settleOne (s t : State) (c : Nat) (h : s.settleOne c = some t) : Keeps s t := by
  unfold State.settleOne at h
  dsimp only at h
  rw [List.findSome?_eq_some_iff] at h
  obtain ⟨_, j, _, _, h, _⟩ := h
  split at h
  · split at h
    · cases h
    · split at h
      · cases h; exact keeps_finish _ _ _ _ _ _
      · split at h
        · cases h; exact keeps_finish _ _ _ _ _ _
        · split at h
          · cases h; exact keeps_schedule _ _ _ _ _
          · cases h
  · cases h

theorem keeps_settleN (s : State) (c n : Nat) : Keeps s (s.settleN c n) := by
  induction n generalizing s with
  | zero => exact Keeps.refl s
  | succ n ih =>
    unfold State.settleN
    split
    · rename_i t ht
      exact (keeps_settleOne s t c ht).trans (ih t)
    · exact Keeps.refl s

/-- Settling a client only adds completions to what waits. -/
theorem keeps_settle (s : State) (c : Nat) : Keeps s (s.settle c) := keeps_settleN s c _

theorem flight_length {s : State} {c j : Nat} {x : InFlight} (h : (s.client c).flight[j]? = some x) : c < s.hif.clients.length := by
  apply Decidable.byContradiction
  intro hn
  simp [State.client, List.getD_eq_getElem?_getD, List.getElem?_eq_none (Nat.le_of_not_lt hn), ClientSt.reset] at h

theorem client_dropBuf (s : State) (n : Nat) (id : Half) (c : Nat) : (s.dropBuf n id).client c = s.client c := rfl

/-- A descriptor that ends has its entry waiting. -/
theorem answered_finishOne (s : State) (c j : Nat) (st : Status) (r i : Word) (x : InFlight) (h : (s.client c).flight[j]? = some x)
    (hs : x.stale = false) : doneEntry s x.desc st r i ∈ ((s.finishOne c j st r i).client c).waiting := by
  have hl := flight_length h
  unfold State.finishOne
  simp only [h, hs, Bool.false_eq_true, if_false]
  have key : ∀ u : State, u.hif.clients = s.hif.clients → doneEntry s x.desc st r i ∈
      (((u.modClient c (fun cl => { cl with flight := dropFlight j cl.flight, waiting := cl.waiting ++
          [{ id := x.desc.id, status := st, event := false, notify := x.desc.flags.getLsbD 1, result := r, cycle := s.lpc, info := i }] })).stim 5
          (x.desc.id.toNat + 65536 * c + 2 ^ 31)).client c).waiting := by
    intro u hu
    rw [client_congr (stim_hif _ _ _), client_modClient_same u _ (by rw [hu]; exact hl)]
    exact List.mem_append_right _ (List.mem_singleton.2 rfl)
  have k2 := key (match x.phase.stream with | some n => s.dropBuf n x.desc.id | none => s) (by split <;> rfl)
  split
  · rw [client_congr (bump_hif _ _)]; exact k2
  · exact k2

theorem answered_finish (s : State) (c j : Nat) (st : Status) (r i : Word) (x : InFlight) (h : (s.client c).flight[j]? = some x)
    (hs : x.stale = false) : Answered s (s.finish c j st r i) c x.desc st r i := by
  unfold Answered State.finish
  rw [h]
  dsimp -proj only
  split
  · exact answered_finishOne s c j st r i x h hs
  · exact keeps_abortRun _ _ _ _ c _ (answered_finishOne s c j st r i x h hs)

theorem lpc_congr {s t : State} (h : t.plt = s.plt) : t.lpc = s.lpc := by rw [State.lpc, State.lpc, h]

theorem answered_of_plt {s s' t : State} {c : Nat} {d : Desc} {st : Status} {r i : Word} (h : Answered s t c d st r i) (hp : s'.plt = s.plt) :
    Answered s' t c d st r i := by
  unfold Answered doneEntry at *
  rw [lpc_congr hp]
  exact h

theorem answered_keeps {s t u : State} {c : Nat} {d : Desc} {st : Status} {r i : Word} (h : Answered s t c d st r i) (k : Keeps t u) :
    Answered s u c d st r i := k c _ h

/-- What every completion, every arming and every change of other parts keeps, settling a client keeps. -/
theorem settle_induct {P : State → State → Prop} (rfl' : ∀ s, P s s) (tr : ∀ s t u, P s t → P t u → P s u)
    (fin : ∀ s c j st r i, P s (s.finishOne c j st r i)) (sch : ∀ s c j d b, P s (s.schedule c j d b)) (s : State) (c : Nat) :
    P s (s.settle c) := by
  have run : ∀ (n : Nat) (s : State) (c j : Nat), P s (s.abortRun c j n) := by
    intro n
    induction n with
    | zero => exact fun s _ _ => rfl' s
    | succ n ih => exact fun s c j => tr _ _ _ (fin s c j .aborted 0 0) (ih _ c j)
  have fin2 : ∀ s c j st r i, P s (s.finish c j st r i) := by
    intro s c j st r i
    unfold State.finish
    split
    · exact rfl' s
    · dsimp -proj only
      split
      · exact fin s c j st r i
      · exact tr _ _ _ (fin s c j st r i) (run _ _ _ _)
  have one : ∀ s t c, s.settleOne c = some t → P s t := by
    intro s t c h
    unfold State.settleOne at h
    dsimp only at h
    rw [List.findSome?_eq_some_iff] at h
    obtain ⟨_, j, _, _, h, _⟩ := h
    split at h
    · split at h
      · cases h
      · split at h
        · cases h; exact fin2 _ _ _ _ _ _
        · split at h
          · cases h; exact fin2 _ _ _ _ _ _
          · split at h
            · cases h; exact sch _ _ _ _ _
            · cases h
    · cases h
  have all : ∀ (n : Nat) (s : State), P s (s.settleN c n) := by
    intro n
    induction n with
    | zero => exact fun s => rfl' s
    | succ n ih =>
      intro s
      unfold State.settleN
      split
      · rename_i t ht
        exact tr _ _ _ (one s t c ht) (ih t)
      · exact rfl' s
  exact all _ s

theorem setPhase_client (s : State) (c j : Nat) (ph : Phase) (i : Nat) : ∃ fl, (s.setPhase c j ph).client i = { s.client i with flight := fl } := by
  unfold State.setPhase
  by_cases h : c = i
  · subst h
    by_cases hl : c < s.hif.clients.length
    · exact ⟨_, client_modClient_same s _ hl⟩
    · refine ⟨(s.client c).flight, ?_⟩
      simp [State.client, State.modClient, State.setClient, List.getD_eq_getElem?_getD, Nat.le_of_not_lt hl]
  · exact ⟨(s.client i).flight, client_modClient_ne s _ h⟩

/-- The fields of every client but its descriptors in flight and what waits are the same. -/
def ClientsSame (s t : State) : Prop :=
  ∀ i, ∃ fl w, t.client i = { s.client i with flight := fl, waiting := w }

theorem ClientsSame.refl (s : State) : ClientsSame s s := fun _ => ⟨_, _, rfl⟩

theorem ClientsSame.trans {s t u : State} (h : ClientsSame s t) (k : ClientsSame t u) : ClientsSame s u := by
  intro i
  obtain ⟨a, b, e⟩ := h i
  obtain ⟨c, d, f⟩ := k i
  exact ⟨c, d, by rw [f, e]⟩

theorem ClientsSame.of_hif {s t : State} (h : t.hif = s.hif) : ClientsSame s t := fun i => ⟨_, _, client_congr h i⟩

theorem clientsSame_modClient (s : State) (c : Nat) (f : ClientSt → ClientSt)
    (h : ∀ x, ∃ fl w, f x = { x with flight := fl, waiting := w }) : ClientsSame s (s.modClient c f) := by
  intro i
  by_cases hc : c = i
  · subst hc
    by_cases hl : c < s.hif.clients.length
    · obtain ⟨a, b, e⟩ := h (s.client c)
      exact ⟨a, b, by rw [client_modClient_same s f hl, e]⟩
    · refine ⟨(s.client c).flight, (s.client c).waiting, ?_⟩
      simp [State.client, State.modClient, State.setClient, List.getD_eq_getElem?_getD, Nat.le_of_not_lt hl]
  · exact ⟨_, _, client_modClient_ne s f hc⟩

/-- What a completion does to HIF beside the registers: the descriptor leaves, its entry joins what waits, its buffer leaves its stream. -/
theorem clientsSame_finishOne (s : State) (c j : Nat) (st : Status) (r i : Word) : ClientsSame s (s.finishOne c j st r i) := by
  unfold State.finishOne
  split
  · exact ClientsSame.refl s
  · rename_i x hx
    dsimp -proj only
    have key : ∀ (u : State) (y : Entry), ClientsSame s u → ClientsSame s
        ((u.modClient c (fun cl => { cl with flight := dropFlight j cl.flight, waiting := if x.stale then cl.waiting else cl.waiting ++ [y] })).stim 5
          (x.desc.id.toNat + 65536 * c + 2 ^ 31)) := fun u y hu =>
      (hu.trans (clientsSame_modClient u c _ (fun z => ⟨_, _, rfl⟩))).trans (ClientsSame.of_hif (stim_hif _ _ _))
    have k0 : ClientsSame s (match x.phase.stream with | some n => s.dropBuf n x.desc.id | none => s) := by
      split
      · exact fun i => ⟨_, _, rfl⟩
      · exact ClientsSame.refl s
    have k2 := fun y => key _ y k0
    by_cases h1 : x.stale = true
    · rw [if_pos h1]
      exact (k2 _).trans (ClientsSame.of_hif (bump_hif _ _))
    · rw [if_neg h1]
      by_cases h2 : st = .peerReset
      · rw [if_pos h2]
        exact (k2 _).trans (ClientsSame.of_hif (bump_hif _ _))
      · rw [if_neg h2]
        exact k2 _

theorem clientsSame_schedule (s : State) (c j : Nat) (d : Desc) (b : List Byte) : ClientsSame s (s.schedule c j d b) := by
  unfold State.schedule
  refine ClientsSame.trans (t := s.setPhase c j (.scheduled d.due b)) ?_ (ClientsSame.of_hif ((frame_addDeadline _ _ _ _).eq_of .hif rfl))
  intro i
  obtain ⟨fl, e⟩ := setPhase_client s c j (.scheduled d.due b) i
  exact ⟨fl, (s.client i).waiting, by rw [e]⟩

theorem clientsSame_settle (s : State) (c : Nat) : ClientsSame s (s.settle c) :=
  settle_induct ClientsSame.refl (fun _ _ _ => ClientsSame.trans) clientsSame_finishOne clientsSame_schedule s c

/-- Every stream is the same but for the buffers it queues, and so is every session and every other field of HIF. -/
def StreamsSame (s t : State) : Prop :=
  t.hif.sessions = s.hif.sessions ∧ ∀ n, (t.stream n).map (fun x => { x with bufs := [] }) = (s.stream n).map (fun x => { x with bufs := [] })

theorem StreamsSame.refl (s : State) : StreamsSame s s := ⟨rfl, fun _ => rfl⟩

theorem StreamsSame.trans {s t u : State} (h : StreamsSame s t) (k : StreamsSame t u) : StreamsSame s u :=
  ⟨k.1.trans h.1, fun n => (k.2 n).trans (h.2 n)⟩

theorem StreamsSame.of_hif {s t : State} (h : t.hif = s.hif) : StreamsSame s t :=
  ⟨by rw [h], fun n => by rw [State.stream, State.stream, h]⟩

theorem streamsSame_modClient (s : State) (c : Nat) (f : ClientSt → ClientSt) : StreamsSame s (s.modClient c f) := ⟨rfl, fun _ => rfl⟩

theorem streamsSame_dropBuf (s : State) (n : Nat) (id : Half) : StreamsSame s (s.dropBuf n id) := by
  refine ⟨rfl, fun k => ?_⟩
  unfold State.stream State.dropBuf
  simp only [List.getD_eq_getElem?_getD, List.getElem?_mapIdx]
  cases s.hif.streams[k]? with
  | none => rfl
  | some o =>
    cases o with
    | none => simp
    | some x =>
      simp only [Option.map_some, Option.getD_some]
      split <;> rfl

theorem streamsSame_finishOne (s : State) (c j : Nat) (st : Status) (r i : Word) : StreamsSame s (s.finishOne c j st r i) := by
  unfold State.finishOne
  split
  · exact StreamsSame.refl s
  · rename_i x hx
    dsimp -proj only
    have k0 : StreamsSame s (match x.phase.stream with | some n => s.dropBuf n x.desc.id | none => s) := by
      split
      · exact streamsSame_dropBuf _ _ _
      · exact StreamsSame.refl s
    have k2 : ∀ f, StreamsSame s (((match x.phase.stream with | some n => s.dropBuf n x.desc.id | none => s).modClient c f).stim 5
        (x.desc.id.toNat + 65536 * c + 2 ^ 31)) := fun f =>
      (k0.trans (streamsSame_modClient _ _ _)).trans (StreamsSame.of_hif (stim_hif _ _ _))
    by_cases h1 : x.stale = true
    · rw [if_pos h1]
      exact (k2 _).trans (StreamsSame.of_hif (bump_hif _ _))
    · rw [if_neg h1]
      by_cases h2 : st = .peerReset
      · rw [if_pos h2]
        exact (k2 _).trans (StreamsSame.of_hif (bump_hif _ _))
      · rw [if_neg h2]
        exact k2 _

theorem streamsSame_schedule (s : State) (c j : Nat) (d : Desc) (b : List Byte) : StreamsSame s (s.schedule c j d b) := by
  unfold State.schedule
  exact (streamsSame_modClient s c _).trans (StreamsSame.of_hif ((frame_addDeadline _ _ _ _).eq_of .hif rfl))

theorem streamsSame_settle (s : State) (c : Nat) : StreamsSame s (s.settle c) :=
  settle_induct StreamsSame.refl (fun _ _ _ => StreamsSame.trans) streamsSame_finishOne streamsSame_schedule s c

theorem streamsSame_finish (s : State) (c j : Nat) (st : Status) (r i : Word) : StreamsSame s (s.finish c j st r i) := by
  unfold State.finish
  have run : ∀ (n : Nat) (s : State), StreamsSame s (s.abortRun c j n) := by
    intro n
    induction n with
    | zero => exact fun s => StreamsSame.refl s
    | succ n ih => exact fun s => (streamsSame_finishOne s c j .aborted 0 0).trans (ih _)
  split
  · exact StreamsSame.refl s
  · dsimp -proj only
    split
    · exact streamsSame_finishOne s c j st r i
    · exact (streamsSame_finishOne s c j st r i).trans (run _ _)

theorem clientsSame_finish (s : State) (c j : Nat) (st : Status) (r i : Word) : ClientsSame s (s.finish c j st r i) := by
  unfold State.finish
  have run : ∀ (n : Nat) (s : State), ClientsSame s (s.abortRun c j n) := by
    intro n
    induction n with
    | zero => exact fun s => ClientsSame.refl s
    | succ n ih => exact fun s => (clientsSame_finishOne s c j .aborted 0 0).trans (ih _)
  split
  · exact ClientsSame.refl s
  · dsimp -proj only
    split
    · exact clientsSame_finishOne s c j st r i
    · exact (clientsSame_finishOne s c j st r i).trans (run _ _)

/-! ### Commands of clients -/

theorem startable_flight {s : State} {c op j : Nat} {x : InFlight} (h : s.startable c op = some (j, x)) :
    (s.client c).flight[j]? = some x ∧ x.desc.opcode = op ∧ x.phase = .fetched ∧ s.runsFor c x = true := by
  unfold State.startable at h
  dsimp only at h
  rw [List.findSome?_eq_some_iff] at h
  obtain ⟨_, k, _, _, h, _⟩ := h
  split at h
  · rename_i y hy
    split at h
    · rename_i hc
      cases h
      exact ⟨hy, hc.2.1, hc.2.2.1, hc.1⟩
    · cases h
  · cases h

/-- A command whose turn has come acts, and what it leaves to settle is settled. -/
theorem command_ready {s : State} {c op j : Nat} {x : InFlight} (h : Ready s c op j x) (buf : List Byte)
    (f : State → Nat → Desc → State) : s.command c op buf f = (f (s.started c x.desc) j x.desc).settle c := by
  unfold State.command
  rw [h.turn]
  dsimp -proj only
  rw [h.sound]
  dsimp -proj only
  rw [h.now]
  rfl

theorem started_hif (s : State) (c : Nat) (d : Desc) : (s.started c d).hif = s.hif := stim_hif _ _ _

theorem started_plt (s : State) (c : Nat) (d : Desc) : (s.started c d).plt = s.plt := stim_plt _ _ _

theorem frame_started (s : State) (c : Nat) (d : Desc) : Frame [.regs, .dbg] (some [0x6028]) s (s.started c d) := frame_stim _ _ _

theorem started_flight {s : State} {c op j : Nat} {x : InFlight} (h : Ready s c op j x) (d : Desc) :
    ((s.started c d).client c).flight[j]? = some x := by
  rw [client_congr (started_hif s c d)]
  exact (startable_flight h.turn).1

/-- A command that completes at once has its entry waiting when it is settled. -/
theorem answered_command {s u : State} {c op j : Nat} {x : InFlight} (h : Ready s c op j x) (hf : (u.client c).flight[j]? = some x)
    (hp : u.plt = s.plt) (st : Status) (r i : Word) : Answered s ((u.finish c j st r i).settle c) c x.desc st r i :=
  answered_keeps (answered_of_plt (answered_finish u c j st r i x hf h.live) hp.symm) (keeps_settle _ c)

/-! ### Refused votes -/

/-- The refusal counters of the 26 clients (R551). -/
def refuseRegs : List Nat := [0x0830, 0x0834, 0x0838, 0x083C, 0x0840, 0x0844, 0x0848]

theorem frame_countRefuser_of (s : State) (c : Nat) (h : c < 26) : Frame [.regs, .pwr] (some refuseRegs) s (s.countRefuser c) := by
  unfold State.countRefuser
  apply Frame.set_pwr
  · rfl
  have k : ∀ j : Fin 26, within [.regs] (some [(F.refuseCnt j).off]) [.regs, .pwr] (some refuseRegs) = true := by decide +kernel
  exact (frame_bump _ _).mono (k ⟨c, h⟩)

theorem frame_countRefusers (l : List Nat) (s t : State) (h : ∀ c ∈ l, c < 26) (f : Frame [.regs, .pwr] (some refuseRegs) s t) :
    Frame [.regs, .pwr] (some refuseRegs) s (l.foldl (fun t c => t.countRefuser c) t) := by
  induction l generalizing t with
  | nil => exact f
  | cons c l ih =>
    exact ih _ (fun d hd => h d (List.mem_cons_of_mem _ hd)) ((frame_countRefuser_of t c (h c (List.mem_cons_self ..))).after (by decide +kernel) f)

/-- Refreshing the refused votes changes the refusal counters and nothing else of the registers. -/
theorem frame_refreshRefusals_regs (s : State) : Frame [.regs, .pwr] (some refuseRegs) s s.refreshRefusals := by
  unfold State.refreshRefusals
  apply Frame.set_pwr
  · rfl
  refine frame_countRefusers _ s s ?_ (Frame.rfl' s)
  intro c hc
  simp only [List.mem_flatMap, List.mem_map, List.mem_filter] at hc
  obtain ⟨x, ⟨r, -, rfl⟩, hm, -⟩ := hc
  simp only [State.refusersOf, List.mem_filter, List.mem_range] at hm
  exact hm.1

/-! ### Life events while CORE is on -/

theorem bit_256 : ∀ i < 13, i ≠ 8 → bitOf 256 i = false := by decide

/-- Source 8 fires alone. -/
theorem firing_life (s : State) : s.firing 256 = 256 := by
  have h : ∀ i ∈ List.range 13, (bitOf 256 i && s.wakeEnabled i) = decide (i = 8) := by
    intro i hi
    by_cases e : i = 8
    · subst e; rfl
    · rw [bit_256 i (List.mem_range.mp hi) e, decide_eq_false e]; rfl
  unfold State.firing
  rw [List.filter_congr h]
  rfl

/-- A life event wakes no node of S0 and S1. -/
theorem frame_wakeBy_life (s : State) (h : s.coreOn = true) :
    Frame [.regs, .pwr, .dbg] (some [0x864, 0x890, 0x6028]) s (s.wakeBy 256) := by
  unfold State.wakeBy
  dsimp -proj only
  refine Frame.ite (Frame.rfl' s) ?_
  have k : Frame [.regs, .pwr, .dbg] (some [0x864, 0x890, 0x6028]) s ((((s.wr F.PWR_WAKE_CAUSE.cause (Nat.lor (s.rf F.PWR_WAKE_CAUSE.cause) (s.firing 256))).stim 13 (s.firing 256)).abortEntry
      (lowestBit (s.firing 256) 13))) :=
    Frame.after (frame_abortEntry _ _) (by decide) (Frame.after (frame_stim _ _ _) (by decide) ((frame_wr _ _ _).mono (by decide)))
  rw [if_neg]
  · exact k
  · intro g
    obtain ⟨i, hi, hg⟩ := List.any_eq_true.mp g
    rw [firing_life, Bool.and_eq_true, Bool.and_eq_true] at hg
    have e : i = 8 := by
      by_cases e : i = 8
      · exact e
      · rw [bit_256 i (List.mem_range.mp hi) e] at hg; exact absurd hg.1.1 (by decide)
    subst e
    have h2 := of_decide_eq_true hg.1.2
    rw [abortEntry_state, congrArg Pwr.state ((frame_stim _ _ _).eq_of .pwr rfl)] at h2
    exact absurd (of_decide_eq_true h : s.pwr.state ≤ 1) (Nat.not_le.mpr h2)

/-- A life event in S0 and S1 is deferred or queued for the tag; it wakes nothing. -/
theorem frame_lifeEvent_run (s : State) (kind amount : Nat) (overflow : Bool) (h : s.coreOn = true) :
    Frame [.regs, .hif, .sby, .tag, .cart, .pwr, .dbg, .free] (some (evRegs ++ [0x864, 0x890, 0x1414, 0x5004, 0x5010, 0x5014, 0x501C, 0x6028, 0x6848])) s
      (s.lifeEvent kind amount overflow) := by
  unfold State.lifeEvent
  dsimp -proj only
  refine Frame.ite (Frame.rfl' s) ?_
  have k := frame_wakeBy_life s h
  exact Frame.ite (Frame.after (frame_deferOp _ _ _ _) (by decide +kernel) (k.mono (by decide +kernel)))
    (Frame.after (frame_queueTag _ _) (by decide +kernel) (k.mono (by decide +kernel)))

end Sys2Proof.Laws
end

