-- ==== Sys2Proof/Laws/Answers.lean ====
section
/-! SUPPORT. Lemmas that statements about commands share: from a command's equation to its frame, what starting, completing and settling a
descriptor leave as it was, and the value of a field that was written, counted or left alone. -/

namespace Sys2Proof.Laws

open Sys2Proof.Machine

set_option Elab.async false

abbrev nxt (x : State) : Host.Outcome State Fault Refusal := .next x

theorem nx {x y : State} (h : x = y) : nxt x = nxt y := by rw [h]

theorem exFrame {w r s t c} (h : Frame w r s (nextOf s c)) (e : c = .next t) : Frame w r s t := by subst e; exact h

theorem perfFold (l : List Nat) (u v : State) (h : Frame [.regs, .hif, .dbg] (some [0x1414, 0x6028, 0x6848]) u v) : Frame [.regs, .hif, .dbg] (some [0x1414, 0x6028, 0x6848]) u (l.foldl (fun t c => t.perfDone c) v) := by
  induction l generalizing u v with
  | nil => exact h
  | cons a l ih => exact ih _ _ ((frame_perfDone v a).after (by decide) h)
section st
variable (s : State) (c : Nat) (d : Desc)

theorem st_rf (f : Field) (h : f.off ≠ 0x6028) : (s.started c d).rf f = s.rf f := (frame_started s c d).rf_eq (by simp; omega)

theorem st_link : (s.started c d).link = s.link := (frame_started s c d).eq_of .link rfl

theorem st_way : (s.started c d).way = s.way := (frame_started s c d).eq_of .way rfl

theorem st_mix : (s.started c d).mix = s.mix := (frame_started s c d).eq_of .mix rfl

theorem st_wake : (s.started c d).wake = s.wake := (frame_started s c d).eq_of .wake rfl

theorem st_lpc : (s.started c d).lpc = s.lpc := lpc_congr (started_plt s c d)

theorem st_client (i) : (s.started c d).client i = s.client i := client_congr (started_hif s c d) i

theorem st_session (i) : (s.started c d).session i = s.session i := by unfold State.session; rw [started_hif]

theorem st_stream (i) : (s.started c d).stream i = s.stream i := by unfold State.stream; rw [started_hif]

theorem st_slots (o) : (s.started c d).slotsFor .a o = s.slotsFor .a o := by unfold State.slotsFor State.lnk; simp only [st_link]

theorem st_lineShut : (s.started c d).lineShut = s.lineShut := by
  unfold State.lineShut State.lineDown State.addr State.on lkF atPort
  simp only
  rw [st_rf _ _ _ _ (by decide), st_rf _ _ _ _ (by decide), st_rf _ _ _ _ (by decide)]

theorem st_muted : (s.started c d).muted = s.muted := by
  unfold State.muted State.on; rw [st_rf _ _ _ _ (by decide)]
end st

theorem settle_only {w : List Part} {l : List Nat} {s u : State} (c : Nat) (h : Frame w (some l) s u)
   (hw : within [.regs, .plt, .hif, .dbg] (some [0x1414, 0x6028, 0x6848, 0x7040]) w (some l) = true) : OnlyThese w l s (u.settle c) := ((frame_settle u c).after hw h).only

theorem session_settle (u : State) (c n : Nat) : (u.settle c).session n = u.session n := by
  unfold State.session; rw [(streamsSame_settle u c).1]

theorem session_finish (u : State) (c j : Nat) (st r i) (n) : (u.finish c j st r i).session n = u.session n := by
  unfold State.session; rw [(streamsSame_finish u c j st r i).1]

theorem phase_flight {s : State} {c j : Nat} {x : InFlight} (h : (s.client c).flight[j]? = some x) (ph) : ((s.setPhase c j ph).client c).flight[j]? = some { x with phase := ph } := by
  unfold State.setPhase
  rw [client_modClient_same _ _ (flight_length h)]
  simp [h]


theorem bump_rf (s : State) (f : Field) (h : fits f = true) : (s.bump f).rf f = min (s.rf f + 1) (2 ^ f.width - 1) := by
  unfold State.bump State.bumpBy
  rw [rf_wr_same _ _ _ h, Nat.mod_eq_of_lt]
  have := Nat.two_pow_pos f.width
  omega

theorem bump_rf_apart (s : State) (f g : Field) (hg : fits g = true) (h : apart f g = true) : (s.bump f).rf g = s.rf g := by
  unfold State.bump State.bumpBy
  exact rf_wr_apart _ _ _ _ hg h

theorem clientsSame_eventTo (s : State) (e : Entry) (i : Nat) : ClientsSame s (s.eventTo e i) := by
  unfold State.eventTo
  split
  · exact clientsSame_modClient _ _ _ (fun x => ⟨_, _, rfl⟩)
  · exact ClientsSame.of_hif (bump_hif _ _)

theorem keeps_eventTo (s : State) (e : Entry) (i : Nat) : Keeps s (s.eventTo e i) := by
  unfold State.eventTo
  split
  · exact keeps_modClient _ _ _ (fun x h => List.mem_append_left _ h)
  · exact Keeps.of_hif (bump_hif _ _)

theorem clientsSame_raise (s : State) (a b c d : Nat) (e : Word) : ClientsSame s (s.raise a b c d e) := by
  unfold State.raise State.raiseAt State.eventAll
  generalize eventEntry _ _ _ _ _ _ = y
  generalize List.range 17 = l
  suffices ∀ u, ClientsSame s u → ClientsSame s (l.foldl (fun s i => if (s.client i).running && (s.client i).mask.getLsbD a then s.eventTo y i else s) u) from this _ (ClientsSame.refl s)
  induction l with
  | nil => exact fun u h => h
  | cons k l ih => intro u h; apply ih; dsimp only; split
                   · exact h.trans (clientsSame_eventTo _ _ _)
                   · exact h

theorem keeps_raise (s : State) (a b c d : Nat) (e : Word) : Keeps s (s.raise a b c d e) := by
  unfold State.raise State.raiseAt State.eventAll
  generalize eventEntry _ _ _ _ _ _ = y
  generalize List.range 17 = l
  suffices ∀ u, Keeps s u → Keeps s (l.foldl (fun s i => if (s.client i).running && (s.client i).mask.getLsbD a then s.eventTo y i else s) u) from this _ (Keeps.refl s)
  induction l with
  | nil => exact fun u h => h
  | cons k l ih => intro u h; apply ih; dsimp only; split
                   · exact h.trans (keeps_eventTo _ _ _)
                   · exact h


theorem answered_now {s : State} {c op j : Nat} {x : InFlight} (h : Ready s c op j x) (st : Status) (r i : Word) :
   Answered s (((s.started c x.desc).finish c j st r i).settle c) c x.desc st r i ∧
   OnlyThese [.regs, .plt, .hif, .dbg] clientRegs s (((s.started c x.desc).finish c j st r i).settle c) :=
  ⟨answered_command h (started_flight h _) (started_plt _ _ _) _ _ _,
   settle_only _ (Frame.after (frame_finish _ _ _ _ _ _) (by decide) ((frame_started _ _ _).mono (by decide))) (by decide)⟩

theorem st_cfg (s : State) (c : Nat) (d : Desc) : (s.started c d).cfg = s.cfg := (frame_started s c d).eq_of .cfg rfl

theorem st_pins (s : State) (c : Nat) (d : Desc) : (s.started c d).pins = s.pins := (frame_started s c d).eq_of .pins rfl

theorem st_tag (s : State) (c : Nat) (d : Desc) : (s.started c d).tag = s.tag := (frame_started s c d).eq_of .tag rfl

theorem st_sby (s : State) (c : Nat) (d : Desc) : (s.started c d).sby = s.sby := (frame_started s c d).eq_of .sby rfl

theorem st_pwr (s : State) (c : Nat) (d : Desc) : (s.started c d).pwr = s.pwr := (frame_started s c d).eq_of .pwr rfl

theorem st_on (s : State) (c : Nat) (d : Desc) (f : Field) (h : f.off ≠ 0x6028) : (s.started c d).on f = s.on f := by unfold State.on; rw [st_rf s c d f h]

theorem st_bufferOf (s : State) (c : Nat) (d e : Desc) (b) : (s.started c d).bufferOf c e b = s.bufferOf c e b := by unfold State.bufferOf; rw [st_sby]

theorem tighten {p : Part} {w : List Part} {s t : State} (h : OnlyChanges (p :: w) s t) (k : p.same s t) : OnlyChanges w s t := by
  intro q hq
  by_cases e : q = p
  · subst e; exact k
  · exact h q (by simp [e, hq])

theorem answered_deliver {u : State} {c j : Nat} {x : InFlight} (h : (u.client c).flight[j]? = some x) (hs : x.stale = false) (b st r i) (hc : c = clientSB) :
    Answered u (u.deliver c j b st r i) c x.desc st r i := by
  unfold State.deliver
  rw [if_pos hc]
  exact answered_of_plt (s := { u with sby := _ }) (answered_finish { u with sby := _ } c j st r i x h hs) rfl

theorem put_on (s : State) (f : Field) (b : Bool) (h : fits f = true) (hw : f.width = 1) : (s.put f b).on f = b := by
  unfold State.put State.on
  rw [rf_wr_same _ _ _ h, hw]; cases b <;> rfl

theorem on_of {w l s t} (h : Frame w (some l) s t) (f : Field) (k : List.elem f.off l = false) : t.on f = s.on f := by unfold State.on; rw [h.rf_eq k]

theorem rf_lt (s : State) (f : Field) : s.rf f < 2 ^ f.width := by
  unfold State.rf Field.get
  exact Nat.mod_lt _ (Nat.two_pow_pos _)

end Sys2Proof.Laws
end

