-- ==== Sys2Proof/WellFormed.lean ====
section
/-! DEFINITION. Which commands are well formed: the lengths and ranges that the manual fixes for what reaches the device. A command that
is not well formed still has its meaning in `exec`; the manual's own checks (a CRC, a length, a count) then turn it away. -/

namespace Sys2Proof

/-- A beacon burst: at most 64 sync symbols match and the body has 32 bytes (Tables 2-4 and 2-5). -/
def BeaconBurst.wf (b : BeaconBurst) : Bool := decide (b.syncMatches ≤ 64) && decide (b.body.length = 32)

/-- A slot burst: 256 bits of payload (Table 2-8). -/
def SlotBurst.wf (b : SlotBurst) : Bool := decide (b.payload.length = 32)

/-- A ledger frame: as many payload bytes as its length byte says, at most 160 (Table 2-7, R75). -/
def LedgerFrame.wf (f : LedgerFrame) : Bool := decide (f.payload.length = f.length.toNat) && decide (f.length.toNat ≤ 160)

/-- A measured pair: an RMS value is no higher than its peak (R71: peak in 1 mV, RMS in 0.25 mV). -/
def BellObs.wf (o : BellObs) : Bool := decide (o.rms ≤ 4 * o.peak)

/-- A noise measurement: an RMS value is no higher than its peak (R90). -/
def NoiseObs.wf (o : NoiseObs) : Bool := decide (o.rms ≤ o.peak)

/-- What a cycle measures: its noise measurements are possible ones. -/
def CycleObs.wf (o : CycleObs) : Bool :=
  (match o.noiseA with | some n => n.wf | none => true) && (match o.noiseB with | some n => n.wf | none => true)

/-- A fetch: every descriptor has 64 bytes (Table 10-1). -/
def FetchResult.wf : FetchResult → Bool
  | .fetched ds => ds.all (fun d => decide (d.length = 64))
  | .failed => true

/-- A monitor request: at most 1,024 bytes of payload (Table 15-2). -/
def MonReq.wf (r : MonReq) : Bool := decide (r.payload.length ≤ 1024)

/-- The command is well formed. -/
def Instr.wf : Instr → Bool
  | .cycleBoundary o => o.wf
  | .pltLpcCycleRead => true
  | .beaconAccepted b => b.wf
  | .beaconMissing _ => true
  | .lineDown _ => true
  | .firmwareCompareFire _ => true
  | .scheduledDescriptorStart _ => true
  | .strobePulseStart _ => true
  | .strobePulseEnd _ => true
  | .slotReceived _ b => b.wf
  | .beaconSend _ _ _ => true
  | .beaconCommit _ _ => true
  | .bellSend _ => true
  | .bellReceived o => o.wf
  | .bellFieldRead _ os => os.all (fun o => o.wf)
  | .ledgerFrameSend _ => true
  | .slotSend _ _ => true
  | .joinRequestSend _ => true
  | .joinRequestReceived j => decide (j.body.length = 10)
  | .hornStart _ => true
  | .hornEnd _ => true
  | .hornDetected => true
  | .addressAssign f => f.wf
  | .rangePoll f => f.wf
  | .rangeReply f _ => f.wf
  | .leaseReq f => f.wf
  | .leaseGrant f => f.wf
  | .leaseRelease f => f.wf
  | .leaseAudit f => f.wf
  | .call f => f.wf
  | .callAck f => f.wf
  | .roster f => f.wf
  | .checkpoint f => f.wf
  | .time f => f.wf
  | .powerDirective f => f.wf
  | .nodeStatus f => f.wf
  | .monitor f => f.wf
  | .groupPush f => f.wf
  | .ledgerResponseTimeout _ => true
  | .leaseLapse _ _ => true
  | .leaseLostNoBeacon => true
  | .nodeStatusPeriodic => true
  | .rosterFullPart _ => true
  | .timePeriodic _ _ _ _ => true
  | .leaseAuditPeriodic _ => true
  | .checkpointSnapshot _ => true
  | .quietEntry _ => true
  | .quietCycle _ => true
  | .electionStart => true
  | .electionDelayExpiry => true
  | .collisionBackoffExpiry _ => true
  | .rosterEntryExpiry _ _ => true
  | .takeover => true
  | .rangingBellSend => true
  | .rangingBellReceived _ _ _ => true
  | .takeoverReclaim _ _ => true
  | .reRangingEnd => true
  | .waystationStandbyExpiry => true
  | .stackHeader bytes => decide (bytes.length = 64)
  | .stackWindow _ bytes _ => decide (bytes.length = 1920)
  | .p57InputRise => true
  | .p57InputFall => true
  | .p57RestartDelay _ => true
  | .inrushTimeout => true
  | .p57Overload => true
  | .p57PowerWarning _ => true
  | .host5Select => true
  | .host5Deselect => true
  | .surgeStart => true
  | .surgeEnd mj => decide (mj < 65536)
  | .p57HornDetect _ => true
  | .p57ActivityDetect _ => true
  | .p57CauseWrite _ => true
  | .p57SurgeERead => true
  | .intakeAttention _ => true
  | .shedStep => true
  | .shedExhausted => true
  | .shedRestore => true
  | .pgFall => true
  | .pgRestored _ _ => true
  | .brownoutSustained => true
  | .intakeBusRetry _ => true
  | .telemetryCopy _ => true
  | .topPrecHoldExpiry => true
  | .catchUpPlaybackStart => true
  | .tdmSafePoint => true
  | .asrcLock => true
  | .annunciatorOvercurrent => true
  | .annunciatorRetry => true
  | .pvddSpkLow => true
  | .pvddSpkRestored => true
  | .chimeEntryEnd => true
  | .reconvergenceEnd => true
  | .howlFound _ => true
  | .notchRelease _ => true
  | .howlGainStep => true
  | .ringTimeout _ => true
  | .talkKeyPress => true
  | .pushToTalkStart => true
  | .pushToTalkRelease => true
  | .declineKey => true
  | .callEndHold _ => true
  | .toneDetectorStart _ => true
  | .toneDetectorEnd _ => true
  | .muteOn => true
  | .muteOff => true
  | .micModeChange => true
  | .micStartEnd => true
  | .micBridgeEnd => true
  | .stuckWindow _ => true
  | .probeDecision _ _ _ => true
  | .probeRetry _ => true
  | .wakeEvent _ _ => true
  | .historyFetchOverrun _ => true
  | .sqTailDoorbell _ _ _ => true
  | .cqHeadDoorbell _ _ _ => true
  | .eventAcknowledge _ _ _ => true
  | .ringEnable _ => true
  | .ringDisable _ => true
  | .clientDrained _ => true
  | .descriptorFetch _ => true
  | .descriptorFetchCompletion _ r => r.wf
  | .completionWrite _ => true
  | .vectorFire _ => true
  | .functionLevelReset => true
  | .perstNAssert => true
  | .perstNDeassert => true
  | .linkDown => true
  | .busMasterEnableChange _ => true
  | .dStateChange _ => true
  | .linkPowerStateChange _ => true
  | .sbRegisterRead addr _ => decide (addr.toNat % 4 = 0)
  | .sbRegisterWrite addr _ => decide (addr.toNat % 4 = 0)
  | .sbMailboxWrite bytes => decide (bytes.length ≤ 64)
  | .sbCompletionRead clocked => decide (clocked ≤ 16)
  | .sbBufferWrite _ _ => true
  | .sbBufferRead _ _ => true
  | .sbyHostWakeActive => true
  | .sbyHostWakeTest => true
  | .sbyReqWakeN => true
  | .nop _ => true
  | .fence _ => true
  | .listenSet _ => true
  | .talkOpen _ => true
  | .talkClose _ => true
  | .precedenceSet _ => true
  | .roomSet _ => true
  | .streamOpen _ => true
  | .streamBuf _ _ => true
  | .streamClose _ => true
  | .callSend _ => true
  | .callAnswer _ => true
  | .eventSubscribe _ => true
  | .ledgerSend _ _ => true
  | .ledgerSendWithdraw _ => true
  | .tagRead _ => true
  | .tagWrite _ _ => true
  | .tagLifePost _ => true
  | .checkJob _ _ => true
  | .powerVote _ => true
  | .perfRequest _ => true
  | .historyFetch _ => true
  | .configStage _ _ => true
  | .configApply _ => true
  | .configGroupApply _ => true
  | .monitorCmd _ _ => true
  | .diag _ _ => true
  | .cartridgePresent image => image.all (fun x => decide (x.1 < 2048))
  | .cartridgeAbsent => true
  | .lineOkRise => true
  | .tagTransactionRetry => true
  | .tagBudgetExpiry => true
  | .deferredRetry => true
  | .tagArbitrationLoss _ _ => true
  | .tagWiredRead _ _ => true
  | .tagWiredWrite _ _ => true
  | .tagAppend data => decide (data.length = 16)
  | .contactlessRead _ => true
  | .contactlessWrite _ data => decide (data.length = 4)
  | .tagLockRelease => true
  | .contactlessSessionLimit => true
  | .tollStart _ _ _ => true
  | .tollFinish _ _ => true
  | .tollAbort _ _ => true
  | .tollData8 _ _ _ => true
  | .tollData16 _ _ _ => true
  | .tollData32 _ _ _ => true
  | .s1Entry => true
  | .s1Exit => true
  | .sleepHoldExpiry => true
  | .sleepEntryAbort => true
  | .wakeSource _ => true
  | .watchCycle => true
  | .rtcTick => true
  | .rtcAlarm => true
  | .perfLevelChangeDone => true
  | .refusalReport => true
  | .watchdogExpiry => true
  | .fullReset _ => true
  | .vin33Loss => true
  | .bootStepDone => true
  | .setupLock _ => true
  | .warmRestartRequest => true
  | .warmRestartEnd => true
  | .warmRestartOverrun => true
  | .elementInternalFault _ => true
  | .uartPacket _ => true
  | .uartByteGap => true
  | .monitorSessionIdle _ => true
  | .monitorFragmentTimeout _ _ => true
  | .ping r => r.wf
  | .status r => r.wf
  | .close r => r.wf
  | .replyFetch r => r.wf
  | .regRead r => r.wf
  | .regWrite r => r.wf
  | .halt r => r.wf
  | .resume r => r.wf
  | .step r => r.wf
  | .stepDone _ => true
  | .elemRead r => r.wf
  | .elemWrite r => r.wf
  | .memRead r => r.wf
  | .memWrite r => r.wf
  | .otpRead r => r.wf
  | .traceRead r => r.wf
  | .stimWrite r => r.wf
  | .flashRead r => r.wf
  | .flashErase r => r.wf
  | .flashWrite r => r.wf
  | .reset r => r.wf
  | .externalTrigger _ => true
  | .traceData => true
  | .traceEnable _ => true
  | .wakeHistOldestLoRead => true
  | .wakeLastStartLoRead => true
  | .tagSerialLoRead => true
  | .registerWrite _ _ _ => true
  | .inrushEnd => true
  | .p57Thermal => true
  | .asrcLockLoss => true
  | .rtcCrystalLoss => true
  | .resetRelease => true
  | .readClearRead _ _ => true
  | .bufferTransferCompletion _ _ _ _ => true
  | .hostWriteRefused _ => true

end Sys2Proof
end

