-- ==== Sys2Proof/Tests/Slice0.lean ====
section
/-! SUPPORT. Tests of the model, and for every statement that has hypotheses a state and operands that meet them. -/

set_option Elab.async false
set_option maxRecDepth 100000

namespace Sys2Proof.Tests

open Sys2Proof.Machine

/-! ### States the tests start from -/

/-- `s` with the given register fields written. -/
def wrs (l : List (Field × Nat)) (s : State) : State := l.foldl (fun t x => t.wr x.1 x.2) s

/-- A node at the end of its boot, its line port on (Table 14-1). -/
def up : State := { State.reset with phy.on := true, cfg.boot := 8 }

/-- The same in power state `n`. -/
def inS (n : Nat) : State := { up with pwr.state := n }

/-- With the host's link up, bus master enable set and client H0 running with a ring of 16 and 16 entries. -/
def host : State :=
  wrs [(F.HIF_RING_CTL.sq_log2 0, 4), (F.HIF_RING_CTL.cq_log2 0, 4), (F.HIF_RING_CTL.en 0, 1)]
    ({ up with pins.perst := false, hif.linkUp := true, hif.link := .l0, hif.d3cold := false, hif.bme := true }.modClient 0
      (fun c => { c with running := true, enabled := true }))

/-- A descriptor as client H0 would submit it. -/
def desc (op : Nat) (flags : Byte) (due : Word) (len : Nat) (params : List Byte) : Desc :=
  { opcode := op, flags := flags, id := 7, due := due, bufAddr := 0, bufLen := len, params := params ++ List.replicate (44 - params.length) 0 }

/-- A descriptor in flight, in phase `ph`. -/
def fly (d : Desc) (ph : Phase) : InFlight := { desc := d, phase := ph, chainLeft := 0, order := 1, stale := false }

/-- `s` with these descriptors of H0 in flight. -/
def flight (l : List InFlight) (s : State) : State := s.modClient 0 (fun c => { c with flight := l })

/-- A command fetched and not started. -/
def cmd (op len : Nat) (params : List Byte) : InFlight := fly (desc op 0 0 len params) .fetched

/-- `s` with that command of H0 alone in flight. -/
def ask (op len : Nat) (params : List Byte) (s : State) : State := flight [cmd op len params] s

/-- A beacon of a master at address 1, in cycle `c`, with the ledger frame owned by `owner`. -/
def bcn (c : Word) (owner : Nat) : Beacon :=
  { cycle := c, rootLineId := 0x0C0FFEE0, masterAddr := 1, hop := 0, lineState := 0, joinOpen := true, rearguardPresent := true, emergency := false,
    ledgerOwner := owner, noOwner := false, rearguardAddr := 5, priority := 128, masterUid := 0x3B07C14E0001, leaseEpoch := 3, rosterEpoch := 4,
    freeSlots := 64, topPrecedence := 0 }

/-- A node locked to its line, without an address, in cycle 1,000 with the beacon accepted. -/
def lost : State :=
  wrs [(F.PLT_LPC_STATUS.locked, 1), (F.PLT_LPC_STATUS.ever_locked, 1)]
    { host with plt.lpc := 1000, plt.firstBeacon := false, plt.beaconOk := true, link.beacon := some (bcn 1000 5) }

/-- The same node with address 5. -/
def node : State := wrs [(F.LINE_ADDR.assigned, 1), (F.LINE_ADDR.addr, 5)] lost

/-- A roster row of the master for address `a`. -/
def mrow (a : Nat) : MasterRow :=
  { row := { addr := a, uid := BitVec.ofNat 48 (0x3B0700000000 + a), room := 0, flags := 0 }, rtd := 100, profile := ⟨0, 1, 0, 0⟩, declared := 1,
    admitted := 1, prio := none, sleeping := false, listen := 0, unheard := 0, polls := 0, pollReason := none, pollSent := none, stalePoll := none }

/-- The node as master of port A at address 5, with node 9 on its roster, its beacon sent in this cycle. -/
def boss : State :=
  wrs [(F.LINE_MASTER_STATUS.role, 1)]
    { node with master.roster := [mrow 5, mrow 9], master.last := some (bcn 1000 5), master.next := some (bcn 1000 5), phy.tx := [.beacon .a []] }

/-- A lease at the master. -/
def mlease (a missed stamp : Nat) : MLease :=
  { holder := a, group := 2, prec := 0, format := 1, missed := missed, held := true, heard := true, stamp := stamp, sentAt := some 900 }

/-- A node that may sleep: SB votes 5, no cartridge, the host link in L2. -/
def deep : State :=
  wrs [(F.PLT_LPC_STATUS.locked, 1), (F.PLT_LPC_STATUS.ever_locked, 1), (F.LINE_ADDR.assigned, 1), (F.LINE_ADDR.addr, 5)] { up with pwr.sbVote := some 5 }

/-- A session of H0 for group 2. -/
def talk0 (client : Nat) : Session :=
  { client := client, group := 2, format := 1, prec := 0, source := 0, feed := 0, raised := false, lastTx := 0 }

/-- `s` with that session open as session 0. -/
def talking (client : Nat) (s : State) : State := { s with hif.sessions := some (talk0 client) :: List.replicate 7 none }

/-- A lease the node holds in slot `k`. -/
def lease (k format : Nat) (o : LeaseOwner) : HeldLease := { slot := k, group := 2, prec := 0, format := format, owner := o, start := 900, last := false }

/-- A request of the node sent `attempts` times, the last in cycle 900. -/
def req (o : LeaseOwner) (standing : Bool) (ph : ReqPhase) (attempts : Nat) : TalkReq :=
  { owner := o, reqId := 3, standing := standing, group := 2, format := 1, prec := 0, catchup := 0, phase := ph, attempts := attempts, sentAt := 900 }

/-- A stream of H0. -/
def stream0 (kind tap : Nat) : Stream :=
  { client := 0, kind := kind, tap := tap, group := 0, wide := false, frame := 16, route := 0, gain := 24, bufs := [], gap := false, since := 0,
    last := none, closing := false, ended := false }

/-- `s` with stream 0 open. -/
def streaming (kind tap : Nat) (s : State) : State := { s with hif.streams := some (stream0 kind tap) :: List.replicate 31 none }

/-- An accepted identity of a cartridge. -/
def ident : Identity := { serial := 0x1122334455, eRated := 1000, nRated := 500 }

/-- A node whose cartridge is in its socket. -/
def carted : State := { host with pins.cartDet := true }

/-- A call record. -/
def rec0 (st : CallState) : CallRec :=
  { callId := 7, caller := 9, port := .a, node := false, prec := 1, group := 2, target := 0xFF, state := st, stamp := 1, own := false, tone := none,
    answeredBy := none, eot := false, quiet := 0, unleased := 0, rings := true, phrase := none, callSent := false, cmd := none, acked := false }

/-- `s` with that record at place `r`. -/
def called (r : Nat) (c : CallRec) (s : State) : State := { s with call.recs := s.call.recs.set r (some c) }

/-- Elements all halted by the monitor. -/
def stopped : State := { up with dbg.elems := List.replicate 4 { ElemSt.reset with cause := 1 } }

/-- A monitor request by the UART with payload `p`. -/
def mreq (p : List Byte) : MonReq := { via := .uart, tag := 1, payload := p }

/-- A ledger frame on port A that carries a valid CRC at `s`. -/
def frame (s : State) (source destination : Byte) (typ : Nat) (flags : Half) (payload : List Byte) : LedgerFrame :=
  let h := ledgerHeader source destination (BitVec.ofNat 8 typ) (BitVec.ofNat 8 payload.length) 40 flags
  { port := .a, source := source, destination := destination, typ := BitVec.ofNat 8 typ, length := BitVec.ofNat 8 payload.length, sequence := 40,
    flags := flags, payload := payload, crc := BitVec.ofNat 32 (ledgerCrc s.lpc h payload) }

/-- A beacon burst of cycle `c` with `n` sync symbols matched, `d` symbols late. -/
def beaconBurst (c : Word) (n : Nat) (d : Int) : BeaconBurst := { port := .a, syncMatches := n, body := beaconBody (bcn c 5), displacement := d }

/-- A slot burst with a valid CRC for slot `k` at `s`. -/
def slotBurst (s : State) (k : Nat) (header : Word) : SlotBurst :=
  { port := .a, trained := true, header := header, payload := List.replicate 32 0x5A,
    crc := BitVec.ofNat 16 (slotCrc s.lpc k header (List.replicate 32 0x5A)) }

/-- The bytes of a join request of UID 0x3B07C14E0123 with its CRC at `s`, or with a wrong one. -/
def joinBurst (s : State) (good : Bool) : JoinBurst :=
  let b : List Byte := [0x3B, 0x07, 0xC1, 0x4E, 0x01, 0x23, 0x04, 0x05]
  { port := .a, body := b ++ toBe 2 (joinCrc s.lpc b + (if good then 0 else 1)), arrival := 704 }

/-- What a cycle without sound measures. -/
def calm : CycleObs :=
  { noiseA := none, noiseB := none, erle := 0, nearEnd := 0, hotBands := [], toneOn := 0, howling := false, notchLevel := 0, limited := false,
    playbackTook := 20, emergLevel := 0, joinDraw := 5 }

/-- A master whose 64 slots are all leased at routine precedence, granted in the order of their numbers. -/
def fullMaster : Master := (List.range 64).foldl (fun m k => m.setLease k (some (mlease 9 0 k))) Master.reset

/-- The same with only slots `l` leased. -/
def leasedMaster (l : List Nat) : Master := l.foldl (fun m k => m.setLease k (some (mlease 9 0 k))) Master.reset

/-- A request at the master. -/
def mrq (format prec : Nat) : MReq := { addr := 9, group := 2, format := format, prec := prec, catchup := 0, reqId := 3 }

/-- The node as rearguard, three beacons missed. -/
def guard : State := wrs [(F.LINE_MASTER_STATUS.role, 2), (F.LINE_ROLE.master_en, 1), (F.PLT_LPC_STATUS.missed_beacons, 3)] node

/-- The node as master 65 cycles into a takeover. -/
def taken : State := { boss with master.takeover := some 936 }

/-- The node as master of a stack (member 0), or as member `n`. -/
def stacked (n : Nat) : State := wrs [(F.STK_CTL.en, 1), (F.STK_CTL.member_id, n)] up

/-- `n` zero bytes with the stack's CRC after them. -/
def stackBytes (n : Nat) : List Byte := List.replicate n 0 ++ toBe 4 (crcOf crc32 (List.replicate n 0))

/-- In the full table the lease in slot 63 was granted last. -/
theorem newest_of_full : ∀ j x, j < 64 → j ≠ 63 → fullMaster.lease j = some x → x.prec = 0 → x.stamp < (mlease 9 0 63).stamp := by
  intro j x hj hk hx hp
  have h : ∀ j, j < 64 → j ≠ 63 → (fullMaster.lease j).all (fun x => decide (x.stamp < 63)) = true := by decide +kernel
  have := h j hj hk
  rw [hx] at this
  simpa [mlease] using this

/-- `Accepted` from its parts that can be computed. -/
theorem accepted {s : State} {f : LedgerFrame} {ty : Nat}
    (h : (s.hears f.port = true ∧ s.pwr.state < 2 ∧ s.pwr.bellUntil = none ∧ s.ccLink = true) ∧
      (f.length.toNat ≤ 160 ∧ s.frameCrcOk f = true ∧ lengthOk f.typ.toNat f.payload = true ∧ f.length.toNat = f.payload.length ∧ f.typ.toNat = ty) ∧
      (s.checkedFrame f).forMe f.port f.destination = true ∧ (s.checkedFrame f).isDup f.port (f.source.toNat % 128) f.sequence = false) :
    Accepted s f ty ((s.checkedFrame f).takenUp f) :=
  let ⟨⟨a, b, c, d⟩, ⟨e, g, i, j, k⟩, l, m⟩ := h
  ⟨a, b, c, d, e, g, l, i, j, k, m, rfl⟩


/-! ### Ill-formed commands are refused by their check -/

theorem test_wf_beacon : (Instr.beaconAccepted (beaconBurst 1000 64 0)).wf = true
    ∧ (Instr.beaconAccepted (beaconBurst 1000 65 0)).wf = false
    ∧ (Instr.beaconAccepted { beaconBurst 1000 64 0 with body := [] }).wf = false := by decide +kernel

theorem test_wf_slot : (Instr.slotReceived 0 { slotBurst up 0 0 with payload := List.replicate 31 0 }).wf = false
    ∧ (Instr.slotReceived 0 (slotBurst up 0 0)).wf = true := by decide +kernel

theorem test_wf_ledger_length : (Instr.time { frame up 1 5 tyTime 0 (List.replicate 16 0) with length := 15 }).wf = false
    ∧ (Instr.time { frame up 1 5 tyTime 0 (List.replicate 16 0) with length := 161, payload := List.replicate 161 0 }).wf = false
    ∧ (Instr.time (frame up 1 5 tyTime 0 (List.replicate 16 0))).wf = true := by decide +kernel

theorem test_wf_bell : (Instr.bellReceived ⟨5, 0, 100, 401⟩).wf = false ∧ (Instr.bellFieldRead .a [⟨5, 0, 100, 401⟩]).wf = false
    ∧ (Instr.bellReceived ⟨5, 0, 100, 400⟩).wf = true := by decide

theorem test_wf_noise : (Instr.cycleBoundary { calm with noiseA := some ⟨5, 4⟩ }).wf = false
    ∧ (Instr.cycleBoundary { calm with noiseB := some ⟨5, 4⟩ }).wf = false ∧ (Instr.cycleBoundary { calm with noiseA := some ⟨4, 4⟩ }).wf = true := by decide

theorem test_wf_join : (Instr.joinRequestReceived ⟨.a, List.replicate 9 0, 0⟩).wf = false
    ∧ (Instr.joinRequestReceived ⟨.a, List.replicate 10 0, 0⟩).wf = true := by decide

theorem test_wf_fetch : (Instr.descriptorFetchCompletion 0 (.fetched [List.replicate 63 0])).wf = false
    ∧ (Instr.descriptorFetchCompletion 0 (.fetched [List.replicate 64 0])).wf = true := by decide

theorem test_wf_monitor_request : (Instr.ping { via := .uart, tag := 0, payload := List.replicate 1025 0 }).wf = false
    ∧ (Instr.ping { via := .uart, tag := 0, payload := List.replicate 1024 0 }).wf = true := by decide +kernel

theorem test_wf_stack : (Instr.stackHeader (List.replicate 63 0)).wf = false ∧ (Instr.stackWindow 1 (List.replicate 1919 0) []).wf = false
    ∧ (Instr.stackHeader (List.replicate 64 0)).wf = true ∧ (Instr.stackWindow 1 (List.replicate 1920 0) []).wf = true := by decide +kernel

theorem test_wf_surge : (Instr.surgeEnd 65536).wf = false ∧ (Instr.surgeEnd 65535).wf = true := by decide

theorem test_wf_standby : (Instr.sbRegisterRead 0x2081 1).wf = false ∧ (Instr.sbRegisterWrite 0x2082 [0]).wf = false
    ∧ (Instr.sbMailboxWrite (List.replicate 65 0)).wf = false ∧ (Instr.sbCompletionRead 17).wf = false ∧ (Instr.sbRegisterRead 0x2080 1).wf = true := by
  decide

theorem test_wf_cartridge : (Instr.cartridgePresent [(2048, 0)]).wf = false ∧ (Instr.cartridgePresent [(2047, 1)]).wf = true
    ∧ (Instr.tagAppend (List.replicate 15 0)).wf = false ∧ (Instr.contactlessWrite 20 [0, 0, 0]).wf = false := by decide

/-! ### The manual's worked examples -/

/-- Example 0-1: cycle 5 is 7 cycles after 0xFFFF_FFFE. -/
theorem test_cycle_wrap : later 5 0xFFFFFFFE = true ∧ cycleDiff 5 0xFFFFFFFE = 7 ∧ sampleIndex 4294967301 + 3 = 68719476819 := by decide

/-- Example 2-2: the header of slot 12, its seed, and the first symbols on the line. -/
theorem test_slot_header : slotHeader 37 5 79 1 false false false false = 0x4A2A7900 ∧ burstSeed 50003 12 = 0x336
    ∧ (genBits 8 0x336).1 = [true, true, true, true, true, true, false, true]
    ∧ scrambled 0x336 [0x4A] = [3, 1, -1, 1] ∧ burstStart (.slot .a 12 0 [] 0) + 16 * 16 = 16 * 4352 := by decide +kernel

/-- Example 3-1: pair 0 of position 52, sent with an advance of 455, starts at 539.5625. -/
theorem test_bell_advance : burstStart (.bell .a 52 0 455) = 16 * 539 + 9 := by decide

/-- Example 5-1: against 40.0 W, 37.5 W admitted: a C3 node gets C1; at 35.5 W it would get C3. -/
theorem test_admission : (wrs [(F.LINE_HEAD_BUDGET.budget_dw, 400)] up).grantClass 375 3 = 1
    ∧ (wrs [(F.LINE_HEAD_BUDGET.budget_dw, 400)] up).grantClass 345 3 = 3 := by decide +kernel

/-- Example 6-1, in half decibels: group 3 routine under a page loses 12 dB; under an emergency groups mute and group 63's −6 dB acts as 0. -/
theorem test_ducking :
    let s := wrs [(F.groupGain 9, 30), (F.groupGain 63, 36)] up
    s.weight 3 0 2 = some (-24) ∧ s.weight 9 2 2 = some (-6) ∧ s.weight 3 0 3 = none ∧ s.weight 63 3 3 = some 0 := by decide +kernel

/-- Table 12-4: the check values over "123456789". -/
theorem test_check_values :
    let nine : List Byte := [0x31, 0x32, 0x33, 0x34, 0x35, 0x36, 0x37, 0x38, 0x39]
    crcOf crc32 nine = 0xCBF43926 ∧ crcOf { crc32 with refin := false, refout := false } nine = 0xFC891918
    ∧ crcOf { crc32 with poly := 0x1EDC6F41 } nine = 0xE3069283 ∧ crcOf crc16 nine = 0x29B1 ∧ crcOf { crc16 with init := 0 } nine = 0x31C3
    ∧ crcOf ⟨16, 0x8005, 0, 0, true, true⟩ nine = 0xBB3D ∧ crcOf ⟨8, 0x07, 0, 0, false, false⟩ nine = 0xF4
    ∧ crcOf ⟨5, 0x05, 0x1F, 0x1F, true, true⟩ nine = 0x19 := by decide +kernel

/-- The state a command leads to. -/
def after (c : Instr) (s : State) : State := match exec c s with | .next t => t | .fault _ => s | .refused _ => s

/-- Example 12-1, steps 1 and 2: start in HASH takes the unit for BAR0; the word 0x3433_3231 feeds "1234". -/
theorem test_toll_start : (after (.tollData32 .bar0 0 0x34333231) (after (.tollStart .bar0 0 0) host)).rf (F.TOLL_COUNT.bytes 0) = 4
    ∧ (after (.tollStart .bar0 0 0) host).rf (F.TOLL_STATUS.holder 0) = 1 := by decide +kernel

/-- Example 16-1: the first three words of a standby read at 0x0008 of an L64T, and LINE_ADDR of address 37 with advance 300. -/
theorem test_standby_read :
    let s := wrs [(F.LINE_ADDR.addr, 37), (F.LINE_ADDR.assigned, 1), (F.LINE_ADDR.rtd, 300)] { inS 3 with dev.variant := .l64t }
    s.value 0x0008 = 0xC14E92D6 ∧ s.value 0x000C = 0x3B07 ∧ s.value 0x0010 = 0x22088040 ∧ s.value 0x2080 = 0x00012CA5 := by decide +kernel

/-- Example 8-1: the history plan of a phrase that starts at sample 790,400, live from slot 12 of cycle 50,003. -/
theorem test_history_plan :
    ({ up with plt.lpc := 50003, wake.range := some (760026, 800025) }).historyPlan (some 790400) 50003 2 = some (49100, 49999, 50003) := by
  decide +kernel

/-- R22: the boundary after symbol 15,624 begins the next cycle, across the wrap of its 32-bit number. -/
theorem test_cycle_boundary : (after (.cycleBoundary calm) { up with plt.lpc := 0xFFFFFFFF, plt.sym := 15624 }).plt.lpc = 0x100000000
    ∧ (after (.cycleBoundary calm) { up with plt.sym := 15624 }).plt.sym = 0 := by decide +kernel

/-- R22: a symbol with nothing commanded, and the last symbol of a cycle. -/
theorem test_symbol : (match step up with | .next t => t.plt.sym | _ => 0) = 1
    ∧ (match step { up with plt.sym := 15624 } with | .next t => t.plt.sym | _ => 0) = 15624 := by decide +kernel

/-- R215: a fifth surge merges with the newest entry and sets overflow. -/
theorem test_surge_fifo : (after (.surgeEnd 65535) { up with p57.surging := true, p57.fifo := [1, 2, 3, 4] }).p57.overflow = true := by
  decide +kernel

/-- R15, R634: a locked register keeps its value, and the write is counted. -/
theorem test_locked_write :
    let s := after (.registerWrite 0x2810 .b4 0) (wrs [(F.GLB_SETUP.lock, 1)] host)
    s.reg 0x2810 = 1 ∧ s.rf F.GLB_ACCESS_ERR.locked_writes = 1 := by decide +kernel

/-- R428: a descriptor with an unknown opcode completes with ST_UNSUPPORTED. -/
theorem test_unknown_opcode :
    ((after (.descriptorFetchCompletion 0 (.fetched [0x0F :: 0 :: 9 :: List.replicate 61 0])) (host.modClient 0 (fun c => { c with fetching := 1 }))).client 0).waiting.map
      (fun e => (e.id, e.status)) = [(9, .unsupported)] := by decide +kernel

/-- R473: a wired write of the tag outside 0x240 to 0x63F changes nothing. -/
theorem test_tag_wired_write : ((after (.tagWiredWrite 0x23F [1]) carted).cart.mem = []) ∧ ((after (.tagWiredWrite 0x240 [1]) carted).cart.mem ≠ []) := by
  decide +kernel

/-- No word spells a command. -/
theorem test_no_words : decodeTableWord 8 0xFF = none ∧ (State.reset.withFetchWord 8 0xFF) = State.reset := by decide +kernel

/-! ### Witnesses of the statements' hypotheses -/

/-- Every hypothesis of `Obligations.EmptyQueueIsASymbol` is met: one state and operands for each set of them. -/
theorem witness_EmptyQueueIsASymbol :
    (∃ (s : State), s.pending = []) := by
  exact ⟨up, by decide +kernel⟩

/-- Every hypothesis of `Obligations.P57StartsAndStops` is met: one state and operands for each set of them. -/
theorem witness_P57StartsAndStops :
    (∃ (s : State), s.p57.phase = .off)
    ∧ (∃ (s : State), s.p57.phase ≠ .off)
    ∧ (∃ (s : State), s.p57.phase = .inrush)
    ∧ (∃ (s : State), s.p57.phase ≠ .inrush)
    ∧ (∃ (s : State), s.p57.phase = .on)
    ∧ (∃ (s : State), s.p57.phase ≠ .on)
    ∧ (∃ (s : State), s.p57.phase = .restartWait)
    ∧ (∃ (s : State), s.p57.phase = .overloadWait)
    ∧ (∃ (s : State), s.p57.phase = .on ∧ s.p57.srcHost = true)
    ∧ (∃ (s : State), s.p57.phase = .on ∧ s.p57.srcHost = false) := by
  exact ⟨⟨{ up with p57.phase := .off }, by decide +kernel⟩,
    ⟨up, by decide +kernel⟩,
    ⟨{ up with p57.phase := .inrush }, by decide +kernel⟩,
    ⟨up, by decide +kernel⟩,
    ⟨up, by decide +kernel⟩,
    ⟨{ up with p57.phase := .off }, by decide +kernel⟩,
    ⟨{ up with p57.phase := .restartWait }, by decide +kernel⟩,
    ⟨{ up with p57.phase := .overloadWait }, by decide +kernel⟩,
    ⟨{ up with p57.srcHost := true }, by decide +kernel, by decide +kernel⟩,
    ⟨up, by decide +kernel, by decide +kernel⟩⟩

/-- Every hypothesis of `Obligations.P57SourcesAndSurges` is met: one state and operands for each set of them. -/
theorem witness_P57SourcesAndSurges :
    (∃ (s : State), s.p57.srcCtl.getLsbD 0 = true ∧ s.p57.srcCtl.getLsbD 1 = false ∧ s.p57.srcHost = false)
    ∧ (∃ (s : State), s.p57.srcHost = true ∧ s.p57.phase = .on)
    ∧ (∃ (s : State), s.p57.srcHost = true ∧ s.p57.phase ≠ .on)
    ∧ (∃ (s : State), s.p57.surging = true ∧ s.p57.fifo.length < 4)
    ∧ (∃ (s : State) (l : List Nat) (x : Nat), s.p57.surging = true ∧ s.p57.fifo = l ++ [x] ∧ l.length = 3) := by
  exact ⟨⟨up, by decide +kernel, by decide +kernel, by decide +kernel⟩,
    ⟨{ up with p57.srcHost := true }, by decide +kernel, by decide +kernel⟩,
    ⟨{ up with p57.srcHost := true, p57.phase := .off }, by decide +kernel, by decide +kernel⟩,
    ⟨{ up with p57.surging := true, p57.fifo := [1, 2, 3] }, by decide +kernel, by decide +kernel⟩,
    ⟨{ up with p57.surging := true, p57.fifo := [1, 2, 3, 4] }, [1, 2, 3], 4, by decide +kernel, by decide +kernel, by decide +kernel⟩⟩

/-- Every hypothesis of `Obligations.P57WarnsAndDetects` is met: one state and operands for each set of them. -/
theorem witness_P57WarnsAndDetects :
    (∃ (s : State) (mw : Nat), s.p57.pwarn = false ∧ classMw s.p57.cls.toNat * s.p57.warnPercent < 100 * mw)
    ∧ (∃ (s : State) (mw : Nat), s.p57.pwarn = true ∧ 100 * mw ≤ classMw s.p57.cls.toNat * (s.p57.warnPercent - 5))
    ∧ (∃ (s : State) (mv : Nat), s.p57.lineOk = true ∧ s.p57.hornCtl.getLsbD 0 = true ∧ s.p57.hornLevel ≤ mv ∧ s.pwr.state < 4)
    ∧ (∃ (s : State) (mv : Nat), s.p57.lineOk = true ∧ s.p57.hornCtl.getLsbD 0 = true ∧ s.p57.hornLevel ≤ mv ∧ s.pwr.state = 4 ∧ s.intakeFree = true)
    ∧ (∃ (s : State) (mv : Nat), s.p57.lineOk = true ∧ s.p57.hornCtl.getLsbD 1 = true ∧ s.p57.hornLevel ≤ mv ∧ s.pwr.state < 4)
    ∧ (∃ (s : State) (mv : Nat), s.p57.lineOk = true ∧ s.p57.hornCtl.getLsbD 1 = true ∧ s.p57.hornLevel ≤ mv ∧ s.pwr.state = 4 ∧ s.intakeFree = true) := by
  exact ⟨⟨up, 100000, by decide +kernel, by decide +kernel⟩,
    ⟨{ up with p57.pwarn := true }, 0, by decide +kernel, by decide +kernel⟩,
    ⟨{ up with p57.hornCtl := 0x01 }, up.p57.hornLevel, by decide +kernel, by decide +kernel, by decide +kernel, by decide +kernel⟩,
    ⟨{ inS 4 with p57.hornCtl := 0x01 }, 5000, by decide +kernel, by decide +kernel, by decide +kernel, by decide +kernel, by decide +kernel⟩,
    ⟨{ up with p57.hornCtl := 0x02 }, 5000, by decide +kernel, by decide +kernel, by decide +kernel, by decide +kernel⟩,
    ⟨{ inS 4 with p57.hornCtl := 0x02 }, 5000, by decide +kernel, by decide +kernel, by decide +kernel, by decide +kernel, by decide +kernel⟩⟩

/-- Every hypothesis of `Obligations.SheddingMovesByOneStep` is met: one state and operands for each set of them. -/
theorem witness_SheddingMovesByOneStep :
    (∃ (s : State), s.intake.shedding = true ∧ s.p57.pwarn = true ∧ s.rf F.PWR_SHED_STATUS.step < 6)
    ∧ (∃ (s : State), s.p57.pwarn = false ∧ 0 < s.rf F.PWR_SHED_STATUS.step)
    ∧ (∃ (s : State), s.rf F.PWR_SHED_STATUS.step = 6 ∧ s.p57.pwarn = true ∧ s.intake.exhausted = false)
    ∧ (∃ (s : State), s.intake.exhausted = true) := by
  exact ⟨⟨wrs [(F.PWR_SHED_STATUS.step, 5)] { up with intake.shedding := true, p57.pwarn := true }, by decide +kernel, by decide +kernel, by decide +kernel⟩,
    ⟨wrs [(F.PWR_SHED_STATUS.step, 1)] up, by decide +kernel, by decide +kernel⟩,
    ⟨wrs [(F.PWR_SHED_STATUS.step, 6)] { up with p57.pwarn := true }, by decide +kernel, by decide +kernel, by decide +kernel⟩,
    ⟨{ up with intake.exhausted := true }, by decide +kernel⟩⟩

/-- Every hypothesis of `Obligations.IntakeMasterTransacts` is met: one state and operands for each set of them. -/
theorem witness_IntakeMasterTransacts :
    (∃ (s : State), s.p57.surgeN = true ∧ s.intakeFree = true)
    ∧ (∃ (s : State) (w : Option Nat) (n : Nat), s.intake.retry = some (w, n) ∧ n < 2)
    ∧ (∃ (s : State) (w : Option Nat) (n : Nat), s.intake.retry = some (w, n) ∧ 2 ≤ n)
    ∧ (∃ (s : State) (n : Nat), s.intake.retry = some (none, n) ∧ s.p57.surgeN = true ∧ s.intake.brownout = false ∧ s.intake.waiting = false ∧ s.pins.resetHeld = false)
    ∧ (∃ (s : State), s.pwr.state ≤ 1 ∧ s.intakeFree = true)
    ∧ (∃ (s : State), 1 < s.pwr.state) := by
  exact ⟨⟨{ up with p57.fifo := [9] }, by decide +kernel, by decide +kernel⟩,
    ⟨{ up with intake.retry := some (none, 1) }, none, 1, by decide +kernel, by decide +kernel⟩,
    ⟨{ up with intake.retry := some (none, 2) }, none, 2, by decide +kernel, by decide +kernel⟩,
    ⟨{ up with intake.retry := some (none, 1), p57.fifo := [9] }, 1, by decide +kernel, by decide +kernel, by decide +kernel, by decide +kernel, by decide +kernel⟩,
    ⟨inS 1, by decide +kernel, by decide +kernel⟩,
    ⟨inS 2, by decide +kernel⟩⟩

/-- Every hypothesis of `Obligations.BrownoutBeginsAndEnds` is met: one state and operands for each set of them. -/
theorem witness_BrownoutBeginsAndEnds :
    (∃ (s : State), s.intake.brownout = false)
    ∧ (∃ (s : State), s.pwr.state = 0 ∧ s.intake.brownout = true ∧ s.p57.fresh = false)
    ∧ (∃ (s : State), s.pwr.state = 0 ∧ s.p57.fresh = true)
    ∧ (∃ (s : State), s.pwr.state = 0)
    ∧ (∃ (s : State), s.intake.brownout = true ∧ s.intake.sustained = false) := by
  exact ⟨⟨up, by decide +kernel⟩,
    ⟨{ up with intake.brownout := true, p57.fresh := false }, by decide +kernel, by decide +kernel, by decide +kernel⟩,
    ⟨up, by decide +kernel, by decide +kernel⟩,
    ⟨up, by decide +kernel⟩,
    ⟨{ up with intake.brownout := true }, by decide +kernel, by decide +kernel⟩⟩

/-- Every hypothesis of `Obligations.SleepIsEntered` is met: one state and operands for each set of them. -/
theorem witness_SleepIsEntered :
    (∃ (s : State) (n : Nat), s.coreOn = true ∧ s.pwr.entering = none ∧ s.pins.resetHeld = false ∧ s.awaitsBell = false ∧ s.dueState = some n ∧ s.mustReport n = false)
    ∧ (∃ (s : State) (n : Nat), s.coreOn = true ∧ s.pwr.entering = none ∧ s.pins.resetHeld = false ∧ s.awaitsBell = false ∧ s.dueState = some n ∧ s.mustReport n = true)
    ∧ (∃ (s : State) (e : Word), s.pwr.entrySince = some e ∧ 64 ≤ (s.lpc - e).toNat)
    ∧ (∃ (s : State), s.pwr.state = 0 ∧ 1 ≤ s.allowedDepth ∧ s.pwr.entering = none)
    ∧ (∃ (s : State), s.pwr.state = 1) := by
  exact ⟨⟨{ deep with pwr.holds := [4000000, 0, 0, 0] }, 2, by decide +kernel, by decide +kernel, by decide +kernel, by decide +kernel, by decide +kernel, by decide +kernel⟩,
    ⟨{ deep with pwr.holds := [0, 4000000, 0, 0] }, 3, by decide +kernel, by decide +kernel, by decide +kernel, by decide +kernel, by decide +kernel, by decide +kernel⟩,
    ⟨{ node with pwr.entrySince := some 936 }, 936, by decide +kernel, by decide +kernel⟩,
    ⟨deep, by decide +kernel, by decide +kernel, by decide +kernel⟩,
    ⟨inS 1, by decide +kernel⟩⟩

/-- Every hypothesis of `Obligations.WakeSourcesAct` is met: one state and operands for each set of them. -/
theorem witness_WakeSourcesAct :
    (∃ (s : State) (bits : BitVec 13), s.pins.resetHeld = false ∧ s.pwr.state = 0 ∧ s.firing bits.toNat ≠ 0)
    ∧ (∃ (s : State) (bits : BitVec 13) (i : Nat), s.pins.resetHeld = false ∧ i < 13 ∧ bitOf (s.firing bits.toNat) i = true ∧ (wakeRange i).1 ≤ s.pwr.state ∧ s.pwr.state ≤ (wakeRange i).2)
    ∧ (∃ (s : State), s.pwr.state = 3 ∧ s.watchDue = true)
    ∧ (∃ (s : State), s.pins.rtcCrystal = true)
    ∧ (∃ (s : State), s.pins.rtcCrystal = false)
    ∧ (∃ (s : State), s.pins.rtcCrystal = true ∧ s.rf F.PWR_RTC_ALARM.seconds ≠ 0 ∧ s.rf F.PWR_RTC.seconds = s.rf F.PWR_RTC_ALARM.seconds ∧ s.pwr.state = 0)
    ∧ (∃ (s : State), s.pins.rtcCrystal = true ∧ s.rf F.PWR_RTC_ALARM.seconds ≠ 0 ∧ s.rf F.PWR_RTC.seconds = s.rf F.PWR_RTC_ALARM.seconds ∧ s.wakeEnabled 2 = true ∧ 1 ≤ s.pwr.state ∧ s.pwr.state ≤ 5) := by
  exact ⟨⟨up, 1, by decide +kernel, by decide +kernel, by decide +kernel⟩,
    ⟨inS 4, 4, 2, by decide +kernel, by decide +kernel, by decide +kernel, by decide +kernel, by decide +kernel⟩,
    ⟨wrs [(F.LINE_ADDR.addr, 0)] (inS 3), by decide +kernel, by decide +kernel⟩,
    ⟨up, by decide +kernel⟩,
    ⟨{ up with pins.rtcCrystal := false }, by decide +kernel⟩,
    ⟨wrs [(F.PWR_RTC_ALARM.seconds, 9), (F.PWR_RTC.seconds, 9)] up, by decide +kernel, by decide +kernel, by decide +kernel, by decide +kernel⟩,
    ⟨wrs [(F.PWR_RTC_ALARM.seconds, 9), (F.PWR_RTC.seconds, 9), (F.PWR_WAKE_EN.rtc, 1)] (inS 5), by decide +kernel, by decide +kernel, by decide +kernel, by decide +kernel, by decide +kernel, by decide +kernel⟩⟩

/-- Every hypothesis of `Obligations.LevelsAndRefusalsAreTold` is met: one state and operands for each set of them. -/
theorem witness_LevelsAndRefusalsAreTold :
    (∃ (s : State), s.coreOn = true ∧ s.pwr.changing = true)
    ∧ (∃ (s : State) (r : RefusedVote), (s.refreshRefusals).pwr.refused.find? (fun x => !x.reported) = some r)
    ∧ (∃ (s : State), (s.refreshRefusals).pwr.refused.find? (fun x => !x.reported) = none) := by
  exact ⟨⟨{ up with pwr.changing := true }, by decide +kernel, by decide +kernel⟩,
    ⟨{ deep with pwr.refused := [⟨16, 5, [], false⟩] }, ⟨16, 5, [17], false⟩, by decide +kernel⟩,
    ⟨up, by decide +kernel⟩⟩

/-- Every hypothesis of `Obligations.TollgateUnitsCompute` is met: one state and operands for each set of them. -/
theorem witness_TollgateUnitsCompute :
    (∃ (s : State) (p : Path) (n : Fin 4), s.reach p (F.TOLL_CMD.mode n).off = some s ∧ s.lockBinds p = false ∧ s.on (F.TOLL_STATUS.job n) = true)
    ∧ (∃ (s : State) (p : Path) (n : Fin 4), s.reach p (F.TOLL_CMD.mode n).off = some s ∧ s.lockBinds p = false ∧ s.on (F.TOLL_STATUS.job n) = false ∧ n < s.toll.length)
    ∧ (∃ (s : State) (p : Path) (n : Fin 4), s.reach p (F.TOLL_CMD.mode n).off = some s ∧ s.lockBinds p = false ∧ s.rf (F.TOLL_STATUS.holder n) = holderCode p ∧ (s.tollUnit n).mode ≠ 2 ∧ (s.tollUnit n).tail = [])
    ∧ (∃ (s : State) (p : Path) (n : Fin 4), s.reach p (F.TOLL_CMD.mode n).off = some s ∧ s.lockBinds p = false ∧ s.rf (F.TOLL_STATUS.holder n) = holderCode p ∧ n < s.toll.length)
    ∧ (∃ (s : State) (p : Path) (n : Fin 4), s.reach p (F.TOLL_CMD.mode n).off = some s ∧ s.lockBinds p = false ∧ s.rf (F.TOLL_STATUS.holder n) = holderCode p)
    ∧ (∃ (s : State) (p : Path) (n : Fin 4), s.reach p (F.TOLL_CMD.mode n).off = some s ∧ s.lockBinds p = false)
    ∧ (∃ (s : State) (p : Path) (n : Fin 4), s.reach p (F.TOLL_CMD.mode n).off = some s ∧ s.lockBinds p = true) := by
  exact ⟨⟨wrs [(F.TOLL_STATUS.job 3, 1)] host, .bar0, 3, by decide +kernel, by decide +kernel, by decide +kernel⟩,
    ⟨host, .bar0, 3, by decide +kernel, by decide +kernel, by decide +kernel, by decide +kernel⟩,
    ⟨wrs [(F.TOLL_STATUS.holder 3, 1)] host, .bar0, 3, by decide +kernel, by decide +kernel, by decide +kernel, by decide +kernel, by decide +kernel⟩,
    ⟨wrs [(F.TOLL_STATUS.holder 0, 1)] host, .bar0, 0, by decide +kernel, by decide +kernel, by decide +kernel, by decide +kernel⟩,
    ⟨wrs [(F.TOLL_STATUS.holder 0, 1)] host, .bar0, 0, by decide +kernel, by decide +kernel, by decide +kernel⟩,
    ⟨host, .sb, 0, by decide +kernel, by decide +kernel⟩,
    ⟨wrs [(F.GLB_SETUP.lock, 1)] host, .bar0, 0, by decide +kernel, by decide +kernel⟩⟩

/-- Every hypothesis of `Obligations.TagSidesTakeTurns` is met: one state and operands for each set of them. -/
theorem witness_TagSidesTakeTurns :
    (∃ (s : State), s.pins.cartDet = true ∧ s.cart.lock ≠ .contactless)
    ∧ (∃ (s : State) (a : BitVec 11) (d : List Byte), s.pins.cartDet = true ∧ s.cart.lock ≠ .contactless ∧ 0x240 ≤ a.toNat ∧ a.toNat < 0x640 ∧ d ≠ [] ∧ a.toNat % 16 + d.length ≤ 16)
    ∧ (∃ (s : State) (d : List Byte), s.pins.cartDet = true ∧ s.cart.lock ≠ .contactless ∧ d.length = 16 ∧ leAt d 2 4 = s.cart.next)
    ∧ (∃ (s : State) (d : List Byte), s.pins.cartDet = true ∧ s.cart.lock ≠ .contactless ∧ 6 ≤ d.length ∧ leAt d 2 4 ≠ s.cart.next)
    ∧ (∃ (s : State) (d : List Byte), s.pins.cartDet = true ∧ s.cart.lock ≠ .contactless ∧ d.length < 16 ∧ ((d.length < 6 ∨ leAt d 2 4 = s.cart.next)))
    ∧ (∃ (s : State) (p : Byte), s.pins.cartDet = true ∧ s.cart.ignoring = false ∧ s.cart.lock = .contactless ∧ p.toNat ≤ 163)
    ∧ (∃ (s : State) (p : Byte) (d : List Byte), s.pins.cartDet = true ∧ s.cart.ignoring = false ∧ s.cart.lock = .contactless ∧ 20 ≤ p.toNat ∧ p.toNat ≤ 147 ∧ d.length = 4)
    ∧ (∃ (s : State), s.pins.cartDet = true ∧ s.cart.lock = .contactless)
    ∧ (∃ (s : State), s.pins.cartDet = true ∧ s.cart.lock = .wired)
    ∧ (∃ (s : State), s.cart.lock = .contactless) := by
  exact ⟨⟨carted, by decide +kernel, by decide +kernel⟩,
    ⟨carted, 0x630, List.replicate 16 0xAA, by decide +kernel, by decide +kernel, by decide +kernel, by decide +kernel, by decide +kernel, by decide +kernel⟩,
    ⟨carted, [0, 0] ++ toLe 4 carted.cart.next ++ List.replicate 10 0, by decide +kernel, by decide +kernel, by decide +kernel, by decide +kernel⟩,
    ⟨carted, [0, 0] ++ toLe 4 (carted.cart.next + 1) ++ List.replicate 10 0, by decide +kernel, by decide +kernel, by decide +kernel, by decide +kernel⟩,
    ⟨carted, [0], by decide +kernel, by decide +kernel, by decide +kernel, by decide +kernel⟩,
    ⟨{ carted with cart.lock := .contactless }, 163, by decide +kernel, by decide +kernel, by decide +kernel, by decide +kernel⟩,
    ⟨{ carted with cart.lock := .contactless }, 147, [1, 2, 3, 4], by decide +kernel, by decide +kernel, by decide +kernel, by decide +kernel, by decide +kernel, by decide +kernel⟩,
    ⟨{ carted with cart.lock := .contactless }, by decide +kernel, by decide +kernel⟩,
    ⟨{ carted with cart.lock := .wired }, by decide +kernel, by decide +kernel⟩,
    ⟨{ carted with cart.lock := .contactless }, by decide +kernel⟩⟩

/-- Every hypothesis of `Obligations.TagTransactionsWaitAndRetry` is met: one state and operands for each set of them. -/
theorem witness_TagTransactionsWaitAndRetry :
    (∃ (s : State), s.tag.ops ≠ [] ∧ s.tagMaster = true ∧ s.pins.cartDet = true ∧ s.cart.lock = .contactless)
    ∧ (∃ (s : State), s.tag.ops = [])
    ∧ (∃ (s : State), s.tag.ops ≠ [] ∧ s.tagMaster = true ∧ s.pins.cartDet = true ∧ s.cart.lock ≠ .contactless)
    ∧ (∃ (s : State) (i : Identity), s.tag.deferred ≠ [] ∧ s.tag.ops = [] ∧ s.tag.identity = some i ∧ s.tagMaster = true ∧ s.pins.cartDet = true ∧ s.cart.lock ≠ .contactless)
    ∧ (∃ (s : State) (c : Nat) (id : Half) (rest : List TagOp) (j : Nat), s.tag.ops = .host c id :: rest ∧ s.findFlight c (fun x => decide (x.desc.id = id) && (decide (x.desc.opcode = 0x50) || decide (x.desc.opcode = 0x51))) = some j)
    ∧ (∃ (s : State) (ins : Bool) (rest : List TagOp), s.tag.ops = .identity ins :: rest) := by
  exact ⟨⟨{ carted with tag.ops := [.identity true], cart.lock := .contactless }, by decide +kernel, by decide +kernel, by decide +kernel, by decide +kernel⟩,
    ⟨carted, by decide +kernel⟩,
    ⟨{ carted with tag.ops := [.identity true] }, by decide +kernel, by decide +kernel, by decide +kernel, by decide +kernel⟩,
    ⟨{ carted with tag.deferred := [⟨1, 1, 5, 3, false⟩], tag.identity := some ident }, ident, by decide +kernel, by decide +kernel, by decide +kernel, by decide +kernel, by decide +kernel, by decide +kernel⟩,
    ⟨{ ask 0x50 16 [0, 0] carted with tag.ops := [.host 0 7] }, 0, 7, [], 0, by decide +kernel, by decide +kernel⟩,
    ⟨{ carted with tag.ops := [.identity false] }, false, [], by decide +kernel⟩⟩

/-- Every hypothesis of `Obligations.SocketFillsAndEmpties` is met: one state and operands for each set of them. -/
theorem witness_SocketFillsAndEmpties :
    (∃ (s : State), s.pwr.state = 0 ∧ s.booted 7 = false)
    ∧ (∃ (s : State), s.pwr.state = 0 ∧ s.booted 7 = true ∧ s.tagMaster = true)
    ∧ (∃ (s : State), s.pwr.state = 0 ∧ s.tag.ops = [])
    ∧ (∃ (s : State), s.pins.cartDet = false)
    ∧ (∃ (s : State), s.pwr.state = 0 ∧ s.pins.cartDet = true ∧ s.insertionDue = true) := by
  exact ⟨⟨{ up with cfg.boot := 6 }, by decide +kernel, by decide +kernel⟩,
    ⟨up, by decide +kernel, by decide +kernel, by decide +kernel⟩,
    ⟨up, by decide +kernel, by decide +kernel⟩,
    ⟨up, by decide +kernel⟩,
    ⟨carted, by decide +kernel, by decide +kernel, by decide +kernel⟩⟩

/-- Every hypothesis of `Obligations.DescriptorsAreCheckedBeforeTheyStart` is met: one state and operands for each set of them. -/
theorem witness_DescriptorsAreCheckedBeforeTheyStart :
    (∃ (s : State) (c op j : Nat) (x : InFlight) (st : Status), s.startable c op = some (j, x) ∧ x.stale = false ∧ checkDesc c x.desc = some st)
    ∧ (∃ (s : State) (c op j : Nat) (x : InFlight), s.startable c op = some (j, x) ∧ checkDesc c x.desc = none ∧ x.desc.scheduled = true ∧ later x.desc.due s.lpc = true) := by
  exact ⟨⟨ask 0x0F 0 [] host, 0, 0x0F, 0, cmd 0x0F 0 [], .unsupported, by decide +kernel, by decide +kernel, by decide +kernel⟩,
    ⟨flight [fly (desc 0x01 4 5 0 []) .fetched] host, 0, 0x01, 0, fly (desc 0x01 4 5 0 []) .fetched, by decide +kernel, by decide +kernel, by decide +kernel, by decide +kernel⟩⟩

/-- Every hypothesis of `Obligations.PlainCommandsComplete` is met: one state and operands for each set of them. -/
theorem witness_PlainCommandsComplete :
    (∃ (s : State) (c : Client) (j : Nat) (x : InFlight), Ready s c 0x01 j x)
    ∧ (∃ (s : State) (c : Client) (j : Nat) (x : InFlight), Ready s c 0x02 j x)
    ∧ (∃ (s : State) (c : Client) (j : Nat) (x : InFlight) (m : Dword), Ready s c 0x32 j x ∧ m = (match x.desc.byte 20 with | 0 => BitVec.ofNat 64 (x.desc.num 24 8) &&& 0x7FFFFE | 1 => (s.client c).mask ||| (BitVec.ofNat 64 (x.desc.num 24 8) &&& 0x7FFFFE) | _ => (s.client c).mask &&& ~~~(BitVec.ofNat 64 (x.desc.num 24 8) &&& 0x7FFFFE)))
    ∧ (∃ (s : State) (c : Client) (j : Nat) (x : InFlight), Ready s c 0x70 j x)
    ∧ (∃ (s : State) (c : Client) (j : Nat) (x : InFlight), Ready s c 0x71 j x) := by
  exact ⟨⟨ask 0x01 0 [] host, 0, 0, cmd 0x01 0 [], ⟨by decide +kernel, by decide +kernel, by decide +kernel, by decide +kernel⟩⟩,
    ⟨ask 0x02 0 [] host, 0, 0, cmd 0x02 0 [], ⟨by decide +kernel, by decide +kernel, by decide +kernel, by decide +kernel⟩⟩,
    ⟨ask 0x32 0 [1, 0, 0, 0, 0xFF, 0xFF, 0xFF] host, 0, 0, cmd 0x32 0 [1, 0, 0, 0, 0xFF, 0xFF, 0xFF], _, ⟨by decide +kernel, by decide +kernel, by decide +kernel, by decide +kernel⟩, rfl⟩,
    ⟨ask 0x70 0 [5] host, 0, 0, cmd 0x70 0 [5], ⟨by decide +kernel, by decide +kernel, by decide +kernel, by decide +kernel⟩⟩,
    ⟨ask 0x71 0 [0xFF] host, 0, 0, cmd 0x71 0 [0xFF], ⟨by decide +kernel, by decide +kernel, by decide +kernel, by decide +kernel⟩⟩⟩

/-- Every hypothesis of `Obligations.SettingsWaitForSymbolZero` is met: one state and operands for each set of them. -/
theorem witness_SettingsWaitForSymbolZero :
    (∃ (s : State) (c : Client) (j : Nat) (x : InFlight), Ready s c 0x10 j x)
    ∧ (∃ (s : State) (c : Client) (j : Nat) (x : InFlight), Ready s c 0x14 j x)
    ∧ (∃ (s : State) (c : Client) (j : Nat) (x : InFlight), Ready s c 0x13 j x ∧ x.desc.byte 20 = 0)
    ∧ (∃ (s : State) (c : Client) (j : Nat) (x : InFlight) (y : Session), Ready s c 0x13 j x ∧ x.desc.byte 20 = 1 ∧ s.session (x.desc.byte 22) = some y ∧ y.client = c ∧ s.slotsFor .a (.session (x.desc.byte 22)) ≠ []) := by
  exact ⟨⟨ask 0x10 0 [3, 1, 24, 0, 1, 2, 3, 4, 5, 6, 7, 8] host, 0, 0, cmd 0x10 0 [3, 1, 24, 0, 1, 2, 3, 4, 5, 6, 7, 8], ⟨by decide +kernel, by decide +kernel, by decide +kernel, by decide +kernel⟩⟩,
    ⟨ask 0x14 0 [0xFF, 0xFF] host, 0, 0, cmd 0x14 0 [0xFF, 0xFF], ⟨by decide +kernel, by decide +kernel, by decide +kernel, by decide +kernel⟩⟩,
    ⟨ask 0x13 0 [0, 3] host, 0, 0, cmd 0x13 0 [0, 3], ⟨by decide +kernel, by decide +kernel, by decide +kernel, by decide +kernel⟩, by decide +kernel⟩,
    ⟨ask 0x13 0 [1, 1, 0] ({ talking 0 node with link.held := [lease 0 1 (.session 0)] }), 0, 0, cmd 0x13 0 [1, 1, 0], talk0 0, ⟨by decide +kernel, by decide +kernel, by decide +kernel, by decide +kernel⟩, by decide +kernel, by decide +kernel, by decide +kernel, by decide +kernel⟩⟩

/-- Every hypothesis of `Obligations.TalkSessionsOpenAndClose` is met: one state and operands for each set of them. -/
theorem witness_TalkSessionsOpenAndClose :
    (∃ (s : State) (c : Client) (j n : Nat) (x : InFlight), Ready s c 0x11 j x ∧ streamSource (x.desc.byte 23) = false ∧ s.lineShut = false ∧ (List.range 8).find? (fun k => (s.session k).isNone) = some n ∧ n < s.hif.sessions.length)
    ∧ (∃ (s : State) (c : Client) (j : Nat) (x : InFlight), Ready s c 0x11 j x ∧ streamSource (x.desc.byte 23) = false ∧ s.lineShut = true)
    ∧ (∃ (s : State) (c : Client) (j : Nat) (x : InFlight) (y : Session) (q : TalkReq), Ready s c 0x12 j x ∧ s.session (x.desc.byte 20) = some y ∧ y.client = c ∧ s.slotsFor .a (.session (x.desc.byte 20)) = [] ∧ s.link.reqs.find? (fun q => decide (q.owner = .session (x.desc.byte 20))) = some q ∧ q.phase = .unsent)
    ∧ (∃ (s : State) (c : Client) (j : Nat) (x : InFlight) (y : Session), Ready s c 0x12 j x ∧ s.session (x.desc.byte 20) = some y ∧ y.client ≠ c) := by
  exact ⟨⟨ask 0x11 0 [63, 2, 3, 0] node, 0, 0, 0, cmd 0x11 0 [63, 2, 3, 0], ⟨by decide +kernel, by decide +kernel, by decide +kernel, by decide +kernel⟩, by decide +kernel, by decide +kernel, by decide +kernel, by decide +kernel⟩,
    ⟨ask 0x11 0 [63, 1, 3, 0] host, 0, 0, cmd 0x11 0 [63, 1, 3, 0], ⟨by decide +kernel, by decide +kernel, by decide +kernel, by decide +kernel⟩, by decide +kernel, by decide +kernel⟩,
    ⟨ask 0x12 0 [0] ({ talking 0 node with link.reqs := [req (.session 0) false .unsent 0] }), 0, 0, cmd 0x12 0 [0], talk0 0, req (.session 0) false .unsent 0, ⟨by decide +kernel, by decide +kernel, by decide +kernel, by decide +kernel⟩, by decide +kernel, by decide +kernel, by decide +kernel, by decide +kernel, by decide +kernel⟩,
    ⟨ask 0x12 0 [0] (talking 1 node), 0, 0, cmd 0x12 0 [0], talk0 1, ⟨by decide +kernel, by decide +kernel, by decide +kernel, by decide +kernel⟩, by decide +kernel, by decide +kernel⟩⟩

/-- Every hypothesis of `Obligations.StreamsOpenFillAndClose` is met: one state and operands for each set of them. -/
theorem witness_StreamsOpenFillAndClose :
    (∃ (s : State) (c : Client) (j n : Nat) (x : InFlight), Ready s c 0x20 j x ∧ x.desc.byte 20 ≠ 2 ∧ (List.range 32).find? (fun k => (s.stream k).isNone) = some n ∧ n < s.hif.streams.length)
    ∧ (∃ (s : State) (c : Client) (j : Nat) (x : InFlight) (y : Stream), Ready s c 0x21 j x ∧ s.stream (x.desc.byte 20) = some y ∧ y.client = c ∧ y.ended = false ∧ y.kind = 0 ∧ y.tap ≠ 6)
    ∧ (∃ (s : State) (c : Client) (j : Nat) (x : InFlight) (y : Stream), Ready s c 0x22 j x ∧ s.stream (x.desc.byte 20) = some y ∧ y.client = c)
    ∧ (∃ (s : State) (c : Client) (j : Nat) (x : InFlight) (y : Stream) (lo hi : Dword), Ready s c 0x80 j x ∧ s.stream (x.desc.byte 20) = some y ∧ y.client = c ∧ y.kind = 0 ∧ y.tap = 6 ∧ s.fetchOf (x.desc.byte 20) = none ∧ s.muted = false ∧ s.wake.range = some (lo, hi) ∧ lo ≤ BitVec.ofNat 64 (x.desc.num 24 8))
    ∧ (∃ (s : State) (n : Fin 32) (ch : Nat) (next lo hi : Dword), s.fetchOf n = some (n.val, ch, next) ∧ s.wake.range = some (lo, hi) ∧ next < lo) := by
  exact ⟨⟨ask 0x20 0 [0, 0, 0, 0, 16] host, 0, 0, 0, cmd 0x20 0 [0, 0, 0, 0, 16], ⟨by decide +kernel, by decide +kernel, by decide +kernel, by decide +kernel⟩, by decide +kernel, by decide +kernel, by decide +kernel⟩,
    ⟨ask 0x21 48 [0] (streaming 0 0 host), 0, 0, cmd 0x21 48 [0], stream0 0 0, ⟨by decide +kernel, by decide +kernel, by decide +kernel, by decide +kernel⟩, by decide +kernel, by decide +kernel, by decide +kernel, by decide +kernel, by decide +kernel⟩,
    ⟨ask 0x22 0 [0] (streaming 0 0 host), 0, 0, cmd 0x22 0 [0], stream0 0 0, ⟨by decide +kernel, by decide +kernel, by decide +kernel, by decide +kernel⟩, by decide +kernel, by decide +kernel⟩,
    ⟨ask 0x80 0 [0] (wrs [(F.MIC_MUTE_STATUS.muted, 0)] { streaming 0 6 host with wake.range := some (0, 16) }), 0, 0, cmd 0x80 0 [0], stream0 0 6, 0, 16, ⟨by decide +kernel, by decide +kernel, by decide +kernel, by decide +kernel⟩, by decide +kernel, by decide +kernel, by decide +kernel, by decide +kernel, by decide +kernel, by decide +kernel, by decide +kernel, by decide +kernel⟩,
    ⟨{ up with wake.fetches := [(0, 0, 1)], wake.range := some (2, 9) }, 0, 0, 1, 2, 9, by decide +kernel, by decide +kernel, by decide +kernel⟩⟩

/-- Every hypothesis of `Obligations.MessagesAndTransfersComplete` is met: one state and operands for each set of them. -/
theorem witness_MessagesAndTransfersComplete :
    (∃ (s : State) (c : Client) (j : Nat) (x : InFlight) (buf : List Byte), Ready s c 0x40 j x ∧ (x.desc.byte 21 = tyMonitor ∨ x.desc.byte 21 = tyGroupPush) ∧ lengthOk (x.desc.byte 21) ((s.bufferOf c x.desc buf).take x.desc.bufLen) = true ∧ x.desc.bufLen ≤ (s.bufferOf c x.desc buf).length ∧ s.lineShut = false)
    ∧ (∃ (s : State) (c : Client) (j : Nat) (x : InFlight), Ready s c 0x40 j x ∧ x.desc.byte 21 ≠ tyMonitor ∧ x.desc.byte 21 ≠ tyGroupPush)
    ∧ (∃ (s : State) (c : Client) (j : Nat) (x : InFlight), s.findFlight c s.overdue = some j ∧ (s.client c).flight[j]? = some x ∧ x.stale = false)
    ∧ (∃ (s : State) (c : Client) (j : Nat) (x : InFlight), Ready s c 0xF0 j x ∧ x.desc.byte 20 = 0)
    ∧ (∃ (s : State) (c : Client) (id : Half) (j : Nat) (x : InFlight) (b : List Byte) (st : Status) (r i : Word), s.findFlight c (movesBuffer id) = some j ∧ (s.client c).flight[j]? = some x ∧ x.stale = false ∧ x.isStream = false ∧ x.phase = .writing b st r i) := by
  exact ⟨⟨ask 0x40 12 [9, 0x41] node, 0, 0, cmd 0x40 12 [9, 0x41], List.replicate 12 0, ⟨by decide +kernel, by decide +kernel, by decide +kernel, by decide +kernel⟩, by decide +kernel, by decide +kernel, by decide +kernel, by decide +kernel⟩,
    ⟨ask 0x40 8 [9, 0x10] node, 0, 0, cmd 0x40 8 [9, 0x10], ⟨by decide +kernel, by decide +kernel, by decide +kernel, by decide +kernel⟩, by decide +kernel, by decide +kernel⟩,
    ⟨flight [fly (desc 0x40 0 0 4 [9, 0x40]) (.ledgerSend 744)] node, 0, 0, fly (desc 0x40 0 0 4 [9, 0x40]) (.ledgerSend 744), by decide +kernel, by decide +kernel, by decide +kernel⟩,
    ⟨ask 0xF0 16 [0, 0] host, 0, 0, cmd 0xF0 16 [0, 0], ⟨by decide +kernel, by decide +kernel, by decide +kernel, by decide +kernel⟩, by decide +kernel⟩,
    ⟨flight [fly (desc 0x50 0 0 4 []) (.writing [1, 2, 3, 4] .ok 0 0)] host, 0, 7, 0, fly (desc 0x50 0 0 4 []) (.writing [1, 2, 3, 4] .ok 0 0), [1, 2, 3, 4], .ok, 0, 0, by decide +kernel, by decide +kernel, by decide +kernel, by decide +kernel, by decide +kernel⟩⟩

/-- Every hypothesis of `Obligations.TagAndCheckCommandsAct` is met: one state and operands for each set of them. -/
theorem witness_TagAndCheckCommandsAct :
    (∃ (s : State) (c : Client) (j : Nat) (x : InFlight), Ready s c 0x50 j x ∧ s.pins.cartDet = true)
    ∧ (∃ (s : State) (c : Client) (j : Nat) (x : InFlight), Ready s c 0x50 j x ∧ s.pins.cartDet = false)
    ∧ (∃ (s : State) (c : Client) (j : Nat) (x : InFlight), Ready s c 0x51 j x ∧ hostMayWrite (x.desc.num 20 2) x.desc.bufLen = true ∧ s.pins.cartDet = true)
    ∧ (∃ (s : State) (c : Client) (j : Nat) (x : InFlight), Ready s c 0x51 j x ∧ hostMayWrite (x.desc.num 20 2) x.desc.bufLen = false)
    ∧ (∃ (s : State) (c : Client) (j : Nat) (x : InFlight), Ready s c 0x52 j x ∧ 0x10 ≤ x.desc.byte 20 ∧ x.desc.byte 20 ≤ 0x1F ∧ s.tag.identity.isSome = true ∧ (s.started c x.desc).tagMaster = true)
    ∧ (∃ (s : State) (c : Client) (j : Nat) (x : InFlight), Ready s c 0x52 j x ∧ (x.desc.byte 20 < 0x10 ∨ 0x1F < x.desc.byte 20))
    ∧ (∃ (s : State) (c : Client) (j : Nat) (x : InFlight), Ready s c 0x60 j x ∧ c.val ≠ clientSB ∧ x.desc.byte 20 < 4 ∧ (s.started c x.desc).jobBad x.desc = false ∧ s.rf (F.TOLL_STATUS.holder (x.desc.byte 20)) = 0 ∧ s.jobWaits (x.desc.byte 20) x.order = false)
    ∧ (∃ (s : State) (c : Client) (j : Nat) (x : InFlight), Ready s c 0x60 j x ∧ (s.started c x.desc).jobBad x.desc = false ∧ x.desc.byte 20 < 4 ∧ s.rf (F.TOLL_STATUS.holder (x.desc.byte 20)) ≠ 0) := by
  exact ⟨⟨ask 0x50 256 [0, 7] carted, 0, 0, cmd 0x50 256 [0, 7], ⟨by decide +kernel, by decide +kernel, by decide +kernel, by decide +kernel⟩, by decide +kernel⟩,
    ⟨ask 0x50 256 [0, 7] host, 0, 0, cmd 0x50 256 [0, 7], ⟨by decide +kernel, by decide +kernel, by decide +kernel, by decide +kernel⟩, by decide +kernel⟩,
    ⟨ask 0x51 1024 [0x40, 2] carted, 0, 0, cmd 0x51 1024 [0x40, 2], ⟨by decide +kernel, by decide +kernel, by decide +kernel, by decide +kernel⟩, by decide +kernel, by decide +kernel⟩,
    ⟨ask 0x51 16 [0x3F, 2] carted, 0, 0, cmd 0x51 16 [0x3F, 2], ⟨by decide +kernel, by decide +kernel, by decide +kernel, by decide +kernel⟩, by decide +kernel⟩,
    ⟨ask 0x52 0 [0x1F, 0, 0, 0, 9] ({ carted with tag.identity := some ident }), 0, 0, cmd 0x52 0 [0x1F, 0, 0, 0, 9], ⟨by decide +kernel, by decide +kernel, by decide +kernel, by decide +kernel⟩, by decide +kernel, by decide +kernel, by decide +kernel, by decide +kernel⟩,
    ⟨ask 0x52 0 [0x0F] carted, 0, 0, cmd 0x52 0 [0x0F], ⟨by decide +kernel, by decide +kernel, by decide +kernel, by decide +kernel⟩, by decide +kernel⟩,
    ⟨ask 0x60 16 [3, 0] host, 0, 0, cmd 0x60 16 [3, 0], ⟨by decide +kernel, by decide +kernel, by decide +kernel, by decide +kernel⟩, by decide +kernel, by decide +kernel, by decide +kernel, by decide +kernel, by decide +kernel⟩,
    ⟨ask 0x60 16 [3, 0] (wrs [(F.TOLL_STATUS.holder 3, 1)] host), 0, 0, cmd 0x60 16 [3, 0], ⟨by decide +kernel, by decide +kernel, by decide +kernel, by decide +kernel⟩, by decide +kernel, by decide +kernel, by decide +kernel⟩⟩

/-- Every hypothesis of `Obligations.ConfigurationIsStagedAndApplied` is met: one state and operands for each set of them. -/
theorem witness_ConfigurationIsStagedAndApplied :
    (∃ (s : State) (c : Client) (j : Nat) (x : InFlight), Ready s c 0x90 j x ∧ s.on F.GLB_STATUS.epoch_mixed = false ∧ (s.cfg.owner = none ∨ s.cfg.owner = some c.val) ∧ x.desc.byte 20 = 1)
    ∧ (∃ (s : State) (c : Client) (j : Nat) (x : InFlight) (buf : List Byte) (es : List StageEntry), Ready s c 0x90 j x ∧ s.on F.GLB_STATUS.epoch_mixed = false ∧ (s.cfg.owner = none ∨ s.cfg.owner = some c.val) ∧ x.desc.byte 20 ≠ 1 ∧ parseEntries (s.bufferOf c x.desc buf) (x.desc.bufLen / 12) = es ∧ es.findSome? (s.started c x.desc).entryFails = none ∧ (s.cfg.staging ++ es).length ≤ 256)
    ∧ (∃ (s : State) (c : Client) (j : Nat) (x : InFlight), Ready s c 0x91 j x ∧ s.on F.GLB_STATUS.epoch_mixed = false ∧ s.cfg.staging ≠ [] ∧ s.cfg.owner = some c.val)
    ∧ (∃ (s : State) (c : Client) (j : Nat) (x : InFlight), Ready s c 0x91 j x ∧ s.on F.GLB_STATUS.epoch_mixed = false ∧ s.cfg.owner ≠ some c.val)
    ∧ (∃ (s : State) (g : CfgGroup) (x : PendingGroup), s.cfg.groups.find? (fun x => decide (x.group = g)) = some x)
    ∧ (∃ (s : State), s.cfg.groups = [] ∧ s.tdmWanted ≠ s.mix.tdmFormat ∧ s.lpc.getLsbD 0 = false ∧ s.plt.sym = 0 ∧ s.coreOn = true)
    ∧ (∃ (s : State) (x : PendingGroup), s.cfg.groups.find? (fun x => decide (x.group = .tdm)) = some x ∧ s.groupDue x = true) := by
  exact ⟨⟨ask 0x90 0 [1] host, 0, 0, cmd 0x90 0 [1], ⟨by decide +kernel, by decide +kernel, by decide +kernel, by decide +kernel⟩, by decide +kernel, by decide +kernel, by decide +kernel⟩,
    ⟨ask 0x90 12 [0] host, 0, 0, cmd 0x90 12 [0], [0x00, 0x28, 0, 0, 0, 0, 0, 0, 0, 0, 0, 0], _, ⟨by decide +kernel, by decide +kernel, by decide +kernel, by decide +kernel⟩, by decide +kernel, by decide +kernel, by decide +kernel, rfl, by decide +kernel, by decide +kernel⟩,
    ⟨ask 0x91 0 [] ({ host with cfg.staging := [⟨0x2800, 0, 0⟩], cfg.owner := some 0 }), 0, 0, cmd 0x91 0 [], ⟨by decide +kernel, by decide +kernel, by decide +kernel, by decide +kernel⟩, by decide +kernel, by decide +kernel, by decide +kernel⟩,
    ⟨ask 0x91 0 [] host, 0, 0, cmd 0x91 0 [], ⟨by decide +kernel, by decide +kernel, by decide +kernel, by decide +kernel⟩, by decide +kernel, by decide +kernel⟩,
    ⟨{ up with cfg.groups := [⟨.tdm, [], 0⟩] }, .tdm, ⟨.tdm, [], 0⟩, by decide +kernel⟩,
    ⟨wrs [(F.MIX_TDM_CTL.format, 1)] up, by decide +kernel, by decide +kernel, by decide +kernel, by decide +kernel, by decide +kernel⟩,
    ⟨{ up with cfg.groups := [⟨.tdm, [], 0⟩] }, ⟨.tdm, [], 0⟩, by decide +kernel, by decide +kernel⟩⟩

/-- Every hypothesis of `Obligations.CallRecordsEnd` is met: one state and operands for each set of them. -/
theorem witness_CallRecordsEnd :
    (∃ (s : State) (r : Fin 8) (c : CallRec), s.callRec r = some c ∧ c.state = .ringing ∧ c.rings = true ∧ s.ccUp = true ∧ c.cmd = none ∧ (!c.node && (s.bump F.CALL_STATUS.missed).autoListens c.prec c.group) = false)
    ∧ (∃ (s : State) (r : Fin 8) (c : CallRec), s.callRec r = some c ∧ c.state = .ringing ∧ c.rings = true ∧ s.ccUp = true ∧ c.node = false ∧ (s.bump F.CALL_STATUS.missed).autoListens c.prec c.group = true)
    ∧ (∃ (s : State) (r : Fin 8) (c : CallRec), s.callRec r = some c ∧ s.ccUp = true ∧ c.cmd = none ∧ c.eot = true ∧ s.endHold ≤ c.quiet)
    ∧ (∃ (s : State) (r : Fin 8) (c : CallRec), s.callRec r = some c ∧ s.ccUp = true ∧ c.cmd = none ∧ c.eot = false ∧ c.tone = none ∧ s.endHold ≤ c.unleased)
    ∧ (∃ (s : State) (r : Fin 8) (c : CallRec), s.callRec r = some c ∧ c.quiet < s.endHold ∧ c.unleased < s.endHold) := by
  exact ⟨⟨called 7 (rec0 .ringing) node, 7, (rec0 .ringing), by decide +kernel, by decide +kernel, by decide +kernel, by decide +kernel, by decide +kernel, by decide +kernel⟩,
    ⟨wrs [(F.CALL_AUTO_CTL.en, 1), (F.CALL_AUTO_CTL.min_prec, 1), (F.MIX_LISTEN0.groups, 4)] (called 7 (rec0 .ringing) node), 7, (rec0 .ringing), by decide +kernel, by decide +kernel, by decide +kernel, by decide +kernel, by decide +kernel, by decide +kernel⟩,
    ⟨called 7 ({ rec0 .answered with eot := true, quiet := node.endHold }) node, 7, ({ rec0 .answered with eot := true, quiet := node.endHold }), by decide +kernel, by decide +kernel, by decide +kernel, by decide +kernel, by decide +kernel⟩,
    ⟨called 7 ({ rec0 .listening with unleased := node.endHold }) node, 7, ({ rec0 .listening with unleased := node.endHold }), by decide +kernel, by decide +kernel, by decide +kernel, by decide +kernel, by decide +kernel, by decide +kernel⟩,
    ⟨called 7 (rec0 .listening) node, 7, (rec0 .listening), by decide +kernel, by decide +kernel, by decide +kernel⟩⟩

/-- Every hypothesis of `Obligations.KeysActOnCalls` is met: one state and operands for each set of them. -/
theorem witness_KeysActOnCalls :
    (∃ (s u : State) (r : Nat) (c : CallRec), s.wakeBy 32 = u ∧ u.cfg.restarting = false ∧ u.ccUp = true ∧ u.bestCall CallRec.open = some r ∧ u.callRec r = some c ∧ c.open = true)
    ∧ (∃ (s u : State), s.wakeBy 32 = u ∧ u.cfg.restarting = true)
    ∧ (∃ (s u : State) (r : Nat), s.wakeBy 64 = u ∧ u.cfg.restarting = false ∧ u.ccUp = true ∧ u.on F.CALL_KEY_CTL.decline_en = true ∧ u.bestCall (fun c => decide (c.state = .ringing)) = some r)
    ∧ (∃ (s u : State), s.wakeBy 64 = u ∧ u.cfg.restarting = true)
    ∧ (∃ (s u : State), s.wakeBy 64 = u ∧ u.cfg.restarting = false ∧ u.ccUp = true ∧ u.on F.CALL_KEY_CTL.decline_en = false)
    ∧ (∃ (s u : State), State.wakeBy { s with pins := { s.pins with talkKey := true } } 32 = u ∧ u.coreOn = true ∧ u.pins.resetHeld = false ∧ u.ccUp = true ∧ u.lineShut = false ∧ u.link.held.any (fun h => decide (h.owner = .ptt)) = false ∧ u.link.reqs.any (fun q => decide (q.owner = .ptt)) = false)
    ∧ (∃ (s : State), s.ccUp = false)
    ∧ (∃ (s : State), s.ccUp = true) := by
  exact ⟨⟨called 7 (rec0 .listening) node, _, 7, rec0 .listening, rfl, by decide +kernel, by decide +kernel, by decide +kernel, by decide +kernel, by decide +kernel⟩,
    ⟨{ up with cfg.restarting := true }, _, rfl, by decide +kernel⟩,
    ⟨wrs [(F.CALL_KEY_CTL.decline_en, 1)] (called 0 (rec0 .ringing) node), _, 0, rfl, by decide +kernel, by decide +kernel, by decide +kernel, by decide +kernel⟩,
    ⟨{ up with cfg.restarting := true }, _, rfl, by decide +kernel⟩,
    ⟨node, _, rfl, by decide +kernel, by decide +kernel, by decide +kernel⟩,
    ⟨node, _, rfl, by decide +kernel, by decide +kernel, by decide +kernel, by decide +kernel, by decide +kernel, by decide +kernel⟩,
    ⟨{ up with cfg.restarting := true }, by decide +kernel⟩,
    ⟨up, by decide +kernel⟩⟩

/-- Every hypothesis of `Obligations.CallsArePlacedAndAnswered` is met: one state and operands for each set of them. -/
theorem witness_CallsArePlacedAndAnswered :
    (∃ (s : State) (c : Client) (j r : Nat) (x : InFlight), Ready s c 0x30 j x ∧ s.inCall = false ∧ bitOf (x.desc.byte 24) 0 = false ∧ s.lineShut = false ∧ s.freeRec = some r ∧ r < s.call.recs.length)
    ∧ (∃ (s : State) (c : Client) (j : Nat) (x : InFlight), Ready s c 0x30 j x ∧ s.inCall = false ∧ bitOf (x.desc.byte 24) 0 = false ∧ s.lineShut = true)
    ∧ (∃ (s : State) (c : Client) (j r : Nat) (x : InFlight) (y : CallRec), Ready s c 0x31 j x ∧ x.desc.byte 20 = 0 ∧ (List.range 8).find? (fun r => match s.callRec r with | some z => decide (z.callId.toNat = x.desc.num 22 2) && decide (z.caller = x.desc.byte 24) | none => false) = some r ∧ s.callRec r = some y ∧ y.open = true)
    ∧ (∃ (s : State) (c : Client) (j : Nat) (x : InFlight), Ready s c 0x31 j x ∧ (List.range 8).find? (fun r => match s.callRec r with | some z => decide (z.callId.toNat = x.desc.num 22 2) && decide (z.caller = x.desc.byte 24) | none => false) = none)
    ∧ (∃ (s : State) (n : Fin 16), (s.toneSt n).started = false ∧ s.ccUp = true ∧ s.toneActive n = true ∧ s.tonePartner n = true ∧ max 1 (s.rf (F.CALL_TONE_CTL1.on_cycles n)) ≤ (s.toneSt n).onRun ∧ s.rf (F.CALL_TONE_CTL0.input n) ≠ 1 ∧ n < s.call.tones.length)
    ∧ (∃ (s : State) (n : Fin 16), (s.toneSt n).started = true)
    ∧ (∃ (s : State) (n : Fin 16), s.ccUp = true ∧ s.toneEnds n = true ∧ n < s.call.tones.length)
    ∧ (∃ (s : State) (n : Fin 16), s.toneEnds n = false) := by
  exact ⟨⟨ask 0x30 0 [0, 63, 0xFF, 3] node, 0, 0, 0, cmd 0x30 0 [0, 63, 0xFF, 3], ⟨by decide +kernel, by decide +kernel, by decide +kernel, by decide +kernel⟩, by decide +kernel, by decide +kernel, by decide +kernel, by decide +kernel, by decide +kernel⟩,
    ⟨ask 0x30 0 [1, 0, 127, 0] host, 0, 0, cmd 0x30 0 [1, 0, 127, 0], ⟨by decide +kernel, by decide +kernel, by decide +kernel, by decide +kernel⟩, by decide +kernel, by decide +kernel, by decide +kernel⟩,
    ⟨ask 0x31 0 [0, 0, 7, 0, 9] (called 7 (rec0 .ringing) node), 0, 0, 7, cmd 0x31 0 [0, 0, 7, 0, 9], rec0 .ringing, ⟨by decide +kernel, by decide +kernel, by decide +kernel, by decide +kernel⟩, by decide +kernel, by decide +kernel, by decide +kernel, by decide +kernel⟩,
    ⟨ask 0x31 0 [0, 0, 7, 0, 9] node, 0, 0, cmd 0x31 0 [0, 0, 7, 0, 9], ⟨by decide +kernel, by decide +kernel, by decide +kernel, by decide +kernel⟩, by decide +kernel⟩,
    ⟨wrs [(F.CALL_TONE_CTL0.freq_hz 15, 7000), (F.CALL_TONE_CTL0.input 15, 5)] { up with call.tones := List.replicate 16 ⟨200, 0, false⟩ }, 15, by decide +kernel, by decide +kernel, by decide +kernel, by decide +kernel, by decide +kernel, by decide +kernel, by decide +kernel⟩,
    ⟨{ up with call.tones := [⟨0, 0, true⟩] }, 0, by decide +kernel⟩,
    ⟨{ up with call.tones := [⟨0, 0, true⟩] }, 0, by decide +kernel, by decide +kernel, by decide +kernel⟩,
    ⟨up, 15, by decide +kernel⟩⟩

/-- Every hypothesis of `Obligations.DoorbellsPublishAndArm` is met: one state and operands for each set of them. -/
theorem witness_DoorbellsPublishAndArm :
    (∃ (s u : State) (c : Fin 16) (v : Word), s.barOpen = true ∧ s.wakeBy 16 = u ∧ u.hostOn = true ∧ u.cfg.restarting = false ∧ (u.client c).running = true ∧ v.toNat % 4096 < u.sqSize c ∧ u.published c + (v.toNat % 4096 + u.sqSize c - (u.client c).sqTail) % u.sqSize c < u.sqSize c)
    ∧ (∃ (s u : State) (c : Fin 16) (v : Word), s.barOpen = true ∧ s.wakeBy 16 = u ∧ u.hostOn = true ∧ u.cfg.restarting = false ∧ (u.client c).running = true ∧ u.sqSize c ≤ v.toNat % 4096)
    ∧ (∃ (s u : State) (c : Fin 16) (v : Word), s.barOpen = true ∧ s.wakeBy 16 = u ∧ u.hostOn = true ∧ u.cfg.restarting = false ∧ (u.client c).running = true ∧ v.toNat % 4096 < u.cqSize c ∧ (v.toNat % 4096 + u.cqSize c - (u.client c).cqHead) % u.cqSize c ≤ ((u.client c).cqTail + u.cqSize c - (u.client c).cqHead) % u.cqSize c)
    ∧ (∃ (s u : State) (c : Fin 16) (v : Word), s.barOpen = true ∧ s.wakeBy 16 = u ∧ u.hostOn = true ∧ u.cfg.restarting = false ∧ (u.client c).running = true ∧ v.getLsbD 0 = true ∧ (u.client c).cqHead = (u.client c).cqTail)
    ∧ (∃ (s u : State) (c : Fin 16) (v : Word), s.barOpen = true ∧ s.wakeBy 16 = u ∧ u.hostOn = true ∧ u.cfg.restarting = false ∧ (u.client c).running = true ∧ v.getLsbD 0 = true ∧ (u.client c).cqHead ≠ (u.client c).cqTail)
    ∧ (∃ (s : State) (n : AccSize), s.barOpen = true ∧ s.hostOn = true ∧ n ≠ .b4)
    ∧ (∃ (s u : State), s.barOpen = true ∧ s.wakeBy 16 = u ∧ u.hostOn = true ∧ u.cfg.restarting = true)
    ∧ (∃ (s : State), s.barOpen = false) := by
  exact ⟨⟨host, _, 0, 15, by decide +kernel, rfl, by decide +kernel, by decide +kernel, by decide +kernel, by decide +kernel, by decide +kernel⟩,
    ⟨host, _, 0, 16, by decide +kernel, rfl, by decide +kernel, by decide +kernel, by decide +kernel, by decide +kernel⟩,
    ⟨host.modClient 0 (fun c => { c with cqTail := 3 }), _, 0, 3, by decide +kernel, rfl, by decide +kernel, by decide +kernel, by decide +kernel, by decide +kernel, by decide +kernel⟩,
    ⟨host, _, 0, 1, by decide +kernel, rfl, by decide +kernel, by decide +kernel, by decide +kernel, by decide +kernel, by decide +kernel⟩,
    ⟨host.modClient 0 (fun c => { c with cqTail := 3 }), _, 0, 1, by decide +kernel, rfl, by decide +kernel, by decide +kernel, by decide +kernel, by decide +kernel, by decide +kernel⟩,
    ⟨host, .b8, by decide +kernel, by decide +kernel, by decide +kernel⟩,
    ⟨{ host with cfg.restarting := true }, _, by decide +kernel, rfl, by decide +kernel, by decide +kernel⟩,
    ⟨up, by decide +kernel⟩⟩

/-- Every hypothesis of `Obligations.RingsAreEnabledAndDrained` is met: one state and operands for each set of them. -/
theorem witness_RingsAreEnabledAndDrained :
    (∃ (s : State) (c : Fin 16), s.reach .bar0 (F.HIF_RING_CTL.en c).off = some s ∧ s.on (F.HIF_RING_CTL.en c) = false ∧ s.ringOk c = true ∧ c < s.hif.clients.length)
    ∧ (∃ (s : State) (c : Fin 16), s.reach .bar0 (F.HIF_RING_CTL.en c).off = some s ∧ s.on (F.HIF_RING_CTL.en c) = false ∧ s.ringOk c = false)
    ∧ (∃ (s : State) (c : Fin 16), s.reach .bar0 (F.HIF_RING_CTL.en c).off = some s ∧ s.on (F.HIF_RING_CTL.en c) = true)
    ∧ (∃ (s : State) (c : Fin 16), s.reach .bar0 (F.HIF_RING_CTL.en c).off = some s ∧ (s.client c).running = true)
    ∧ (∃ (s : State) (c : Fin 16), s.reach .bar0 (F.HIF_RING_CTL.en c).off = some s ∧ (s.client c).running = false)
    ∧ (∃ (s : State) (c : Fin 16), (s.client c).running = false ∧ (s.client c).inFlight = 0)
    ∧ (∃ (s : State) (c : Fin 16), ((s.client c).running = true ∨ (s.client c).inFlight ≠ 0)) := by
  exact ⟨⟨host, 15, by decide +kernel, by decide +kernel, by decide +kernel, by decide +kernel⟩,
    ⟨wrs [(F.HIF_RING_CTL.sq_log2 15, 3)] host, 15, by decide +kernel, by decide +kernel, by decide +kernel⟩,
    ⟨host, 0, by decide +kernel, by decide +kernel⟩,
    ⟨host, 0, by decide +kernel, by decide +kernel⟩,
    ⟨host, 1, by decide +kernel, by decide +kernel⟩,
    ⟨up, 0, by decide +kernel, by decide +kernel⟩,
    ⟨host, 0, by decide +kernel⟩⟩

/-- Every hypothesis of `Obligations.DescriptorsAndEntriesMove` is met: one state and operands for each set of them. -/
theorem witness_DescriptorsAndEntriesMove :
    (∃ (s : State) (c : Fin 16), s.busOpen = true ∧ s.coreOn = true ∧ s.cfg.restarting = false ∧ s.fetchTurn = some c.val)
    ∧ (∃ (s : State) (c : Fin 16), (s.busOpen = false ∨ s.fetchTurn ≠ some c.val))
    ∧ (∃ (s : State) (c : Fin 16) (b : List Byte), (s.client c).fetching ≠ 0 ∧ (parseDesc b).chain = false ∧ (s.client c).badChain = false ∧ (s.client c).inFlight + 1 ≤ s.effQuota c ∧ s.totalInFlight + 1 ≤ 128)
    ∧ (∃ (s : State) (c : Fin 16), (s.client c).fetching ≠ 0)
    ∧ (∃ (s : State) (c : Fin 16), (s.client c).running = true)
    ∧ (∃ (s : State) (c : Client) (e : Entry) (r : List Entry), (s.client c).waiting = e :: r ∧ c.val ≠ clientSB ∧ (s.client c).running = true ∧ s.busOpen = true ∧ s.cfg.restarting = false ∧ s.cqRoom c = true)
    ∧ (∃ (s : State) (c : Client) (e : Entry) (r : List Entry), (s.client c).waiting = e :: r ∧ c.val = clientSB ∧ s.sby.slot = none ∧ s.cfg.restarting = false ∧ s.pins.resetHeld = false)
    ∧ (∃ (s : State) (c : Fin 16), (s.client c).running = true ∧ (s.client c).armed = true ∧ 0 < (s.client c).written)
    ∧ (∃ (s : State) (c : Fin 16), (s.client c).armed = false) := by
  exact ⟨⟨host.modClient 0 (fun c => { c with sqTail := 2 }), 0, by decide +kernel, by decide +kernel, by decide +kernel, by decide +kernel⟩,
    ⟨host, 0, by decide +kernel⟩,
    ⟨host.modClient 0 (fun c => { c with fetching := 1 }), 0, [1], by decide +kernel, by decide +kernel, by decide +kernel, by decide +kernel, by decide +kernel⟩,
    ⟨host.modClient 0 (fun c => { c with fetching := 1 }), 0, by decide +kernel⟩,
    ⟨host, 0, by decide +kernel⟩,
    ⟨host.modClient 0 (fun c => { c with waiting := [⟨7, .ok, false, false, 0, 0, 0⟩] }), 0, ⟨7, .ok, false, false, 0, 0, 0⟩, [], by decide +kernel, by decide +kernel, by decide +kernel, by decide +kernel, by decide +kernel, by decide +kernel⟩,
    ⟨host.modClient 16 (fun c => { c with waiting := [⟨7, .ok, false, false, 0, 0, 0⟩] }), 16, ⟨7, .ok, false, false, 0, 0, 0⟩, [], by decide +kernel, by decide +kernel, by decide +kernel, by decide +kernel, by decide +kernel⟩,
    ⟨host.modClient 0 (fun c => { c with armed := true, written := 1 }), 0, by decide +kernel, by decide +kernel, by decide +kernel⟩,
    ⟨host, 0, by decide +kernel⟩⟩

/-- Every hypothesis of `Obligations.TheLinkChangesState` is met: one state and operands for each set of them. -/
theorem witness_TheLinkChangesState :
    (∃ (s u : State), s.hif.linkUp = true ∧ s.pins.perst = false ∧ s.wakeBy 16 = u)
    ∧ (∃ (s : State), s.pins.resetHeld = false ∧ s.hif.linkUp = true)
    ∧ (∃ (s : State), s.pins.resetHeld = false)
    ∧ (∃ (s u : State), s.pins.resetHeld = false ∧ (State.put { s with pins := { s.pins with perst := false, wakeN := false }, hif := { s.hif with d3cold := false } } F.SBY_HOST_WAKE.req_wake_n false).wakeBy 16 = u ∧ u.booted 7 = true)
    ∧ (∃ (s : State), s.pins.resetHeld = false ∧ s.pins.perst = false ∧ s.hif.linkUp = true) := by
  exact ⟨⟨host, _, by decide +kernel, by decide +kernel, rfl⟩,
    ⟨host, by decide +kernel, by decide +kernel⟩,
    ⟨host, by decide +kernel⟩,
    ⟨{ up with hif.linkUp := true }, _, by decide +kernel, rfl, by decide +kernel⟩,
    ⟨host, by decide +kernel, by decide +kernel, by decide +kernel⟩⟩

/-- Every hypothesis of `Obligations.TheStandbyPortServes` is met: one state and operands for each set of them. -/
theorem witness_TheStandbyPortServes :
    (∃ (s : State) (b : List Byte), s.pins.resetHeld = false ∧ (s.mbBusy = true ∨ b.length < 64))
    ∧ (∃ (s u : State) (b : List Byte), s.pins.resetHeld = false ∧ s.mbBusy = false ∧ 64 ≤ b.length ∧ State.wakeBy { s with sby := { s.sby with reject := false } } 8 = u)
    ∧ (∃ (s : State) (ph : Bool) (e : Entry), s.pins.resetHeld = false ∧ s.sby.slot = some (ph, e))
    ∧ (∃ (s : State), s.pins.resetHeld = false)
    ∧ (∃ (s : State), s.pins.resetHeld = false ∧ s.mbBusy = false)
    ∧ (∃ (s : State), s.pins.resetHeld = false ∧ s.mbBusy = true) := by
  exact ⟨⟨host, List.replicate 63 0, by decide +kernel, by decide +kernel⟩,
    ⟨host, _, List.replicate 64 0, by decide +kernel, by decide +kernel, by decide +kernel, rfl⟩,
    ⟨{ host with sby.slot := some (true, ⟨7, .ok, false, false, 0, 0, 0⟩) }, true, ⟨7, .ok, false, false, 0, 0, 0⟩, by decide +kernel, by decide +kernel⟩,
    ⟨host, by decide +kernel⟩,
    ⟨host, by decide +kernel, by decide +kernel⟩,
    ⟨host.modClient 16 (fun c => { c with waiting := [⟨7, .ok, false, false, 0, 0, 0⟩] }), by decide +kernel, by decide +kernel⟩⟩

/-- Every hypothesis of `Obligations.RegistersAreWritten` is met: one state and operands for each set of them. -/
theorem witness_RegistersAreWritten :
    (∃ (s : State) (off : Half), off.toNat % 4 = 0 ∧ (rowAt off.toNat).isSome = true ∧ s.reach .bar0 off.toNat = some s)
    ∧ (∃ (off : Half), off.toNat % 8 = 0)
    ∧ (∃ (s : State) (off : Half), s.barOpen = true ∧ off.toNat % 4 ≠ 0)
    ∧ (∃ (s : State), s.barOpen = true)
    ∧ (∃ (s : State) (off : Half), s.barOpen = true ∧ off.toNat % 4 = 0 ∧ rowAt off.toNat = none)
    ∧ (∃ (s : State), s.reach .bar0 F.GLB_SCRATCH.value.off = some s)
    ∧ (∃ (s : State), s.reach .bar0 F.MIX_LISTEN0.groups.off = some s ∧ s.setupLocked = true)
    ∧ (∃ (s : State), s.pins.resetHeld = false)
    ∧ (∃ (s : State) (a : Half), s.pins.resetHeld = false ∧ s.reach .sb (sbOffset a 0) = none) := by
  exact ⟨⟨host, 0x7040, by decide +kernel, by decide +kernel, by decide +kernel⟩,
    ⟨0, by decide +kernel⟩,
    ⟨host, 0x7FFF, by decide +kernel, by decide +kernel⟩,
    ⟨host, by decide +kernel⟩,
    ⟨host, 0x7FFC, by decide +kernel, by decide +kernel, by decide +kernel⟩,
    ⟨host, by decide +kernel⟩,
    ⟨wrs [(F.GLB_SETUP.lock, 1)] host, by decide +kernel, by decide +kernel⟩,
    ⟨host, by decide +kernel⟩,
    ⟨host, 0x1000, by decide +kernel, by decide +kernel⟩⟩

/-- Every hypothesis of `Obligations.RegistersAreRead` is met: one state and operands for each set of them. -/
theorem witness_RegistersAreRead :
    (∃ (s : State) (off : Half) (r : RegRow), off.toNat % 4 = 0 ∧ rowAt off.toNat = some r ∧ s.reach .bar0 off.toNat = some s ∧ off.toNat ∉ [F.PLT_LPC_CYCLE.cycle.off, F.WAKE_HIST_OLDEST_LO.index_lo.off, F.WAKE_LAST_START_LO.start_lo.off, F.TAG_SERIAL_LO.serial_lo.off])
    ∧ (∃ (s : State) (off : Half), s.barOpen = true ∧ off.toNat % 4 ≠ 0)
    ∧ (∃ (s : State), s.pins.resetHeld = false ∧ s.domainOn (domainOf F.PLT_LPC_CYCLE.cycle.off) = true ∧ s.pwr.state ≠ 5)
    ∧ (∃ (s : State), s.pins.resetHeld = false ∧ s.domainOn (domainOf F.WAKE_HIST_OLDEST_LO.index_lo.off) = true ∧ s.pwr.state ≠ 5)
    ∧ (∃ (s : State), s.pins.resetHeld = false ∧ s.domainOn (domainOf F.WAKE_LAST_START_LO.start_lo.off) = true ∧ s.pwr.state ≠ 5)
    ∧ (∃ (s : State), s.pins.resetHeld = false ∧ s.domainOn (domainOf F.TAG_SERIAL_LO.serial_lo.off) = true ∧ s.pwr.state ≠ 5)
    ∧ (∃ (s : State) (a : Half), s.pins.resetHeld = false ∧ s.reach .sb (sbOffset a 0) = some s)
    ∧ (∃ (s : State) (a : Half), s.pins.resetHeld = false ∧ s.reach .sb (sbOffset a 0) = none) := by
  exact ⟨⟨host, 0x7010, (rowAt 0x7010).get (by decide +kernel), by decide +kernel, by decide +kernel, by decide +kernel, by decide +kernel⟩,
    ⟨host, 0x7FFF, by decide +kernel, by decide +kernel⟩,
    ⟨host, by decide +kernel, by decide +kernel, by decide +kernel⟩,
    ⟨host, by decide +kernel, by decide +kernel, by decide +kernel⟩,
    ⟨host, by decide +kernel, by decide +kernel, by decide +kernel⟩,
    ⟨host, by decide +kernel, by decide +kernel, by decide +kernel⟩,
    ⟨host, 0x2000, by decide +kernel, by decide +kernel⟩,
    ⟨host, 0x13FC, by decide +kernel, by decide +kernel⟩⟩

/-- Every hypothesis of `Obligations.LockRestartAndTraceAct` is met: one state and operands for each set of them. -/
theorem witness_LockRestartAndTraceAct :
    (∃ (s : State) (p : Path), s.reach p F.GLB_SETUP.lock.off = some s ∧ s.setupLocked = false)
    ∧ (∃ (s : State) (p : Path), s.reach p F.GLB_SETUP.lock.off = some s ∧ s.setupLocked = true)
    ∧ (∃ (s : State), s.pins.resetHeld = false ∧ s.coreOn = true ∧ s.setupLocked = false ∧ s.cfg.restarting = false)
    ∧ (∃ (s : State), s.pins.resetHeld = false ∧ s.coreOn = true ∧ s.setupLocked = true)
    ∧ (∃ (s : State) (p : Path), s.reach p F.DBG_TRACE_CTL.en.off = some s ∧ s.lockBinds p = false)
    ∧ (∃ (s : State) (p : Path), s.reach p F.DBG_TRACE_CTL.en.off = some s ∧ s.lockBinds p = true) := by
  exact ⟨⟨host, .bar0, by decide +kernel, by decide +kernel⟩,
    ⟨wrs [(F.GLB_SETUP.lock, 1)] host, .sb, by decide +kernel, by decide +kernel⟩,
    ⟨host, by decide +kernel, by decide +kernel, by decide +kernel, by decide +kernel⟩,
    ⟨wrs [(F.GLB_SETUP.lock, 1)] host, by decide +kernel, by decide +kernel, by decide +kernel⟩,
    ⟨wrs [(F.GLB_SETUP.lock, 1)] host, .mon, by decide +kernel, by decide +kernel⟩,
    ⟨wrs [(F.GLB_SETUP.lock, 1)] host, .sb, by decide +kernel, by decide +kernel⟩⟩

/-- Every hypothesis of `Obligations.MixerEventsAct` is met: one state and operands for each set of them. -/
theorem witness_MixerEventsAct :
    (∃ (s : State), s.coreOn = true ∧ s.heldPrec < s.rf F.MIX_STATUS.top_prec)
    ∧ (∃ (s : State) (p : Playback), s.mix.playback = some p ∧ p.running = false ∧ later p.startAt s.lpc = false ∧ s.coreOn = true)
    ∧ (∃ (s : State) (p : Playback), s.mix.playback = some p ∧ later p.startAt s.lpc = true)
    ∧ (∃ (s : State), s.coreOn = true ∧ s.on F.MIX_CTL.tdm_en = true ∧ s.on F.MIX_TDM_CTL.master = false)
    ∧ (∃ (s : State), s.spkDrives = true)
    ∧ (∃ (s : State), s.mix.spkRetry = some false)
    ∧ (∃ (s : State), s.mix.spkRetry = some true) := by
  exact ⟨⟨wrs [(F.MIX_STATUS.top_prec, 1)] up, by decide +kernel, by decide +kernel⟩,
    ⟨{ node with mix.playback := some ⟨9, 2, 1, 0, 0, 0, 1, 1000, false, 0⟩ }, ⟨9, 2, 1, 0, 0, 0, 1, 1000, false, 0⟩, by decide +kernel, by decide +kernel, by decide +kernel, by decide +kernel⟩,
    ⟨{ node with mix.playback := some ⟨9, 2, 1, 0, 0, 0, 1, 1001, false, 0⟩ }, ⟨9, 2, 1, 0, 0, 0, 1, 1001, false, 0⟩, by decide +kernel, by decide +kernel⟩,
    ⟨wrs [(F.MIX_CTL.tdm_en, 1), (F.MIX_TDM_CTL.master, 0)] up, by decide +kernel, by decide +kernel, by decide +kernel⟩,
    ⟨wrs [(F.MIX_CTL.spk_en, 1)] { up with intake.loads := 3 }, by decide +kernel⟩,
    ⟨{ up with mix.spkRetry := some false }, by decide +kernel⟩,
    ⟨{ up with mix.spkRetry := some true }, by decide +kernel⟩⟩

/-- Every hypothesis of `Obligations.TheChimeFollowsItsPattern` is met: one state and operands for each set of them. -/
theorem witness_TheChimeFollowsItsPattern :
    (∃ (s : State), s.mix.chime = none)
    ∧ (∃ (s : State) (c : Chime) (x : Nat × Nat), s.mix.chime = some c ∧ outranking c.prec s.mix.chimeWait = some x)
    ∧ (∃ (s : State) (c : Chime), s.mix.chime = some c ∧ outranking c.prec s.mix.chimeWait = none ∧ s.on (F.MIX_CHIME_CAD.last c.entry) = false ∧ s.rf (F.MIX_CHIME_CAD.cycles ((c.entry + 1) % 16)) ≠ 0)
    ∧ (∃ (s : State) (c : Chime), s.mix.chime = some c ∧ outranking c.prec s.mix.chimeWait = none ∧ s.on (F.MIX_CHIME_CAD.last c.entry) = true ∧ c.forever = false ∧ 1 < c.left)
    ∧ (∃ (s : State) (c : Chime), s.mix.chime = some c ∧ outranking c.prec s.mix.chimeWait = none ∧ s.on (F.MIX_CHIME_CAD.last c.entry) = true ∧ c.forever = false ∧ c.left ≤ 1 ∧ s.mix.chimeWait = []) := by
  exact ⟨⟨up, by decide +kernel⟩,
    ⟨{ up with mix.chime := some ⟨3, 15, 2, false, 1⟩, mix.chimeWait := [(1, 0), (2, 2)] }, ⟨3, 15, 2, false, 1⟩, (2, 2), by decide +kernel, by decide +kernel⟩,
    ⟨wrs [(F.MIX_CHIME_CAD.last 15, 0), (F.MIX_CHIME_CAD.cycles 0, 5)] { up with mix.chime := some ⟨3, 15, 2, false, 1⟩, mix.chimeWait := [] }, ⟨3, 15, 2, false, 1⟩, by decide +kernel, by decide +kernel, by decide +kernel, by decide +kernel⟩,
    ⟨wrs [(F.MIX_CHIME_CAD.last 15, 1), (F.MIX_CHIME_CAD.cycles 0, 5)] { up with mix.chime := some ⟨3, 15, 2, false, 1⟩, mix.chimeWait := [] }, ⟨3, 15, 2, false, 1⟩, by decide +kernel, by decide +kernel, by decide +kernel, by decide +kernel, by decide +kernel⟩,
    ⟨wrs [(F.MIX_CHIME_CAD.last 15, 1), (F.MIX_CHIME_CAD.cycles 0, 5)] { up with mix.chime := some ⟨3, 15, 1, false, 1⟩, mix.chimeWait := [] }, ⟨3, 15, 1, false, 1⟩, by decide +kernel, by decide +kernel, by decide +kernel, by decide +kernel, by decide +kernel, by decide +kernel⟩⟩

/-- Every hypothesis of `Obligations.EchoEventsAct` is met: one state and operands for each set of them. -/
theorem witness_EchoEventsAct :
    (∃ (s : State), s.on F.ECH_STATUS.reconv = true ∧ (50 ≤ s.ech.good ∨ 2000 ≤ s.ech.age))
    ∧ (∃ (s : State), s.ech.good < 50 ∧ s.ech.age < 2000)
    ∧ (∃ (s : State) (n : Nat), s.on F.ECH_HOWL_CTL.en = true ∧ s.coreOn = true ∧ s.halted 1 = false ∧ s.freeNotch = some n)
    ∧ (∃ (s : State), s.on F.ECH_HOWL_CTL.en = true ∧ s.coreOn = true ∧ s.halted 1 = false ∧ s.freeNotch = none)
    ∧ (∃ (s : State) (n : Fin 4) (x : Notch), s.ech.notches.getD n none = some x ∧ 10000 ≤ x.idle)
    ∧ (∃ (s : State) (n : Fin 4) (x : Notch), s.ech.notches.getD n none = some x ∧ x.idle < 10000)
    ∧ (∃ (s : State), 100 ≤ s.ech.howlRun ∧ 0 < s.rf F.ECH_STATUS.howl_cut)
    ∧ (∃ (s : State), s.ech.howlRun < 100 ∧ 1000 ≤ s.ech.howlIdle ∧ 0 < s.rf F.ECH_STATUS.howl_cut) := by
  exact ⟨⟨wrs [(F.ECH_STATUS.reconv, 1)] { up with ech.good := 50 }, by decide +kernel, by decide +kernel⟩,
    ⟨{ up with ech.good := 49, ech.age := 1999 }, by decide +kernel, by decide +kernel⟩,
    ⟨wrs [(F.ECH_HOWL_CTL.en, 1)] up, 0, by decide +kernel, by decide +kernel, by decide +kernel, by decide +kernel⟩,
    ⟨wrs [(F.ECH_HOWL_CTL.en, 1)] { up with ech.notches := List.replicate 4 (some ⟨300, 0⟩) }, by decide +kernel, by decide +kernel, by decide +kernel, by decide +kernel⟩,
    ⟨{ up with ech.notches := List.replicate 4 (some ⟨300, 10000⟩) }, 3, ⟨300, 10000⟩, by decide +kernel, by decide +kernel⟩,
    ⟨{ up with ech.notches := List.replicate 4 (some ⟨300, 9999⟩) }, 3, ⟨300, 9999⟩, by decide +kernel, by decide +kernel⟩,
    ⟨wrs [(F.ECH_STATUS.howl_cut, 1)] { up with ech.howlRun := 100 }, by decide +kernel, by decide +kernel⟩,
    ⟨wrs [(F.ECH_STATUS.howl_cut, 1)] { up with ech.howlRun := 99, ech.howlIdle := 1000 }, by decide +kernel, by decide +kernel, by decide +kernel⟩⟩

/-- Every hypothesis of `Obligations.MicrophonesFollowModeAndMute` is met: one state and operands for each set of them. -/
theorem witness_MicrophonesFollowModeAndMute :
    (∃ (s : State), s.coreOn = true ∧ s.rf F.MIC_STATUS.mode ≠ 3 ∧ s.rf F.MIC_STATUS.mode ≠ s.micWanted)
    ∧ (∃ (s : State), (s.rf F.MIC_STATUS.mode = 3 ∨ s.rf F.MIC_STATUS.mode = s.micWanted))
    ∧ (∃ (s : State), s.on F.MIC_STATUS.settling = true ∧ s.mic.bridging = false ∧ s.mic.settleLeft = 0)
    ∧ (∃ (s : State), s.mic.settleLeft ≠ 0)
    ∧ (∃ (s : State), s.on F.MIC_STATUS.settling = true ∧ s.mic.bridging = true ∧ s.mic.settleLeft = 0)
    ∧ (∃ (s : State), s.muted = false ∧ s.pins.resetHeld = false ∧ s.pwr.state = 0)
    ∧ (∃ (s : State), s.muted = true)
    ∧ (∃ (s : State), s.muted = true ∧ s.pins.resetHeld = false ∧ s.pwr.state = 0)
    ∧ (∃ (s : State), s.muted = false) := by
  exact ⟨⟨wrs [(F.MIC_STATUS.mode, 1)] up, by decide +kernel, by decide +kernel, by decide +kernel⟩,
    ⟨wrs [(F.MIC_STATUS.mode, 3)] up, by decide +kernel⟩,
    ⟨wrs [(F.MIC_STATUS.settling, 1)] up, by decide +kernel, by decide +kernel, by decide +kernel⟩,
    ⟨{ up with mic.settleLeft := 1 }, by decide +kernel⟩,
    ⟨wrs [(F.MIC_STATUS.settling, 1)] { up with mic.bridging := true }, by decide +kernel, by decide +kernel, by decide +kernel⟩,
    ⟨wrs [(F.MIC_MUTE_STATUS.muted, 0)] up, by decide +kernel, by decide +kernel, by decide +kernel⟩,
    ⟨wrs [(F.MIC_MUTE_STATUS.muted, 1)] up, by decide +kernel⟩,
    ⟨wrs [(F.MIC_MUTE_STATUS.muted, 1)] up, by decide +kernel, by decide +kernel, by decide +kernel⟩,
    ⟨wrs [(F.MIC_MUTE_STATUS.muted, 0)] up, by decide +kernel⟩⟩

/-- Every hypothesis of `Obligations.WindowsProbesAndWakeEventsAct` is met: one state and operands for each set of them. -/
theorem witness_WindowsProbesAndWakeEventsAct :
    (∃ (s : State), (s.mic.windowBad = true ∨ s.micLive = false))
    ∧ (∃ (s : State), s.mic.windowBad = false ∧ s.micLive = true)
    ∧ (∃ (s : State) (w : Fin 4) (f : Nat), s.mic.probes.find? (fun x => decide (x.1 = w.val) && decide (x.2.1 = 0)) = some (w.val, 0, f))
    ∧ (∃ (s : State), s.mic.probes = [])
    ∧ (∃ (s u : State) (w : Fin 4), s.micLive = true ∧ s.recover w = u ∧ u.on F.MIC_PROBE_CTL.en = true ∧ onWire (u.rf F.MIC_FAULT_STATUS.faulted) w ≠ [])
    ∧ (∃ (s : State), s.micLive = false)
    ∧ (∃ (s : State) (v : Byte), s.wakeArmed = true ∧ s.muted = false ∧ s.coreOn = true ∧ s.halted 2 = false ∧ s.rf F.WAKE_CTL.threshold ≤ v.toNat ∧ (s.rf F.MIC_STATUS.mode = 1 ∨ s.rf F.MIC_STATUS.mode = 2) ∧ s.wake.thisCycle = none ∧ s.wake.lastAt = none)
    ∧ (∃ (s : State) (v : Byte) (c : Dword), s.wakeArmed = true ∧ s.muted = false ∧ s.coreOn = true ∧ s.halted 2 = false ∧ s.rf F.WAKE_CTL.threshold ≤ v.toNat ∧ (s.rf F.MIC_STATUS.mode = 1 ∨ s.rf F.MIC_STATUS.mode = 2) ∧ s.wake.lastAt = some c ∧ (s.plt.lpc - c).toNat ≤ s.rf F.WAKE_CTL.refractory_cycles)
    ∧ (∃ (s : State) (v : Byte), (v.toNat < s.rf F.WAKE_CTL.threshold ∨ s.muted = true)) := by
  exact ⟨⟨up, by decide +kernel⟩,
    ⟨wrs [(F.MIC_STATUS.mode, 2), (F.MIC_STATUS.settling, 0)] { up with mic.windowBad := false }, by decide +kernel, by decide +kernel⟩,
    ⟨{ up with mic.probes := [(3, 0, 6)] }, 3, 6, by decide +kernel⟩,
    ⟨up, by decide +kernel⟩,
    ⟨wrs [(F.MIC_STATUS.mode, 2), (F.MIC_STATUS.settling, 0), (F.MIC_PROBE_CTL.en, 1), (F.MIC_FAULT_STATUS.faulted, 0x80)] up, _, 3, by decide +kernel, rfl, by decide +kernel, by decide +kernel⟩,
    ⟨up, by decide +kernel⟩,
    ⟨wrs [(F.WAKE_CTL.en, 1), (F.WAKE_MODEL.loaded, 1), (F.MIC_MUTE_STATUS.muted, 0), (F.MIC_STATUS.mode, 1), (F.WAKE_CTL.threshold, 128)] up, 128, by decide +kernel, by decide +kernel, by decide +kernel, by decide +kernel, by decide +kernel, by decide +kernel, by decide +kernel, by decide +kernel⟩,
    ⟨wrs [(F.WAKE_CTL.en, 1), (F.WAKE_MODEL.loaded, 1), (F.MIC_MUTE_STATUS.muted, 0), (F.MIC_STATUS.mode, 1), (F.WAKE_CTL.threshold, 128), (F.WAKE_CTL.refractory_cycles, 100)] { up with plt.lpc := 100, wake.lastAt := some 0 }, 255, 0, by decide +kernel, by decide +kernel, by decide +kernel, by decide +kernel, by decide +kernel, by decide +kernel, by decide +kernel, by decide +kernel⟩,
    ⟨wrs [(F.WAKE_CTL.en, 1), (F.WAKE_MODEL.loaded, 1), (F.MIC_MUTE_STATUS.muted, 0), (F.MIC_STATUS.mode, 1), (F.WAKE_CTL.threshold, 128)] up, 127, by decide +kernel⟩⟩

/-- Every hypothesis of `Obligations.MonitorReadsAreAnswered` is met: one state and operands for each set of them. -/
theorem witness_MonitorReadsAreAnswered :
    (∃ (s u : State) (r : MonReq), Heard s r u ∧ r.payload = [])
    ∧ (∃ (s u : State) (r : MonReq), Heard s r u ∧ r.payload ≠ [])
    ∧ (∃ (s u : State) (r : MonReq) (n : Byte) (b : List Byte), Heard s r u ∧ r.payload = [n] ∧ s.dbg.stored.find? (fun x => decide (x.1 = n.toNat)) = some (n.toNat, b))
    ∧ (∃ (s u : State) (r : MonReq), Heard s r u ∧ r.payload.length = 4 ∧ byteAt r.payload 2 = 1 ∧ byteAt r.payload 3 = 1 ∧ leAt r.payload 0 2 % 4 = 0 ∧ u.allOn [leAt r.payload 0 2] = true)
    ∧ (∃ (s u : State) (r : MonReq), Heard s r u ∧ r.payload.length = 4 ∧ byteAt r.payload 2 = 1 ∧ byteAt r.payload 3 = 1 ∧ leAt r.payload 0 2 % 4 = 0 ∧ u.allOn [leAt r.payload 0 2] = false)
    ∧ (∃ (s u : State) (r : MonReq) (e : Byte), Heard s r u ∧ r.payload = [e] ∧ e.toNat < 4 ∧ u.elemOn e.toNat = true ∧ u.halted e.toNat = true)
    ∧ (∃ (s u : State) (r : MonReq) (e : Byte), Heard s r u ∧ r.payload = [e] ∧ e.toNat < 4 ∧ u.elemOn e.toNat = true ∧ u.halted e.toNat = false)
    ∧ (∃ (s u : State) (r : MonReq), Heard s r u ∧ r.payload.length = 6 ∧ leAt r.payload 4 2 ≤ 1024 ∧ u.bankErr (leAt r.payload 0 4) (leAt r.payload 4 2) = none)
    ∧ (∃ (s u : State) (r : MonReq), Heard s r u ∧ r.payload.length = 4 ∧ 0 < leAt r.payload 2 2 ∧ leAt r.payload 2 2 ≤ 1024 ∧ leAt r.payload 0 2 + leAt r.payload 2 2 ≤ 4096)
    ∧ (∃ (s u : State) (r : MonReq), Heard s r u ∧ u.coreOn = true ∧ r.payload.length = 4 ∧ leAt r.payload 0 2 < 1024 ∧ leAt r.payload 2 2 = 1)
    ∧ (∃ (s u : State) (r : MonReq), HeardByResident s r u ∧ r.payload.length = 6 ∧ 0 < leAt r.payload 4 2 ∧ leAt r.payload 4 2 ≤ 1024 ∧ leAt r.payload 0 4 + leAt r.payload 4 2 ≤ u.mem.flashSize) := by
  exact ⟨⟨up, _, mreq [], ⟨by decide +kernel, by decide +kernel, by decide +kernel, rfl⟩, by decide +kernel⟩,
    ⟨up, _, mreq [0], ⟨by decide +kernel, by decide +kernel, by decide +kernel, rfl⟩, by decide +kernel⟩,
    ⟨{ up with dbg.stored := [(9, [1, 2])] }, _, mreq [9], 9, [1, 2], ⟨by decide +kernel, by decide +kernel, by decide +kernel, rfl⟩, by decide +kernel, by decide +kernel⟩,
    ⟨up, _, mreq [0, 0x60, 1, 1], ⟨by decide +kernel, by decide +kernel, by decide +kernel, rfl⟩, by decide +kernel, by decide +kernel, by decide +kernel, by decide +kernel, by decide +kernel⟩,
    ⟨inS 2, _, mreq [0, 0x28, 1, 1], ⟨by decide +kernel, by decide +kernel, by decide +kernel, rfl⟩, by decide +kernel, by decide +kernel, by decide +kernel, by decide +kernel, by decide +kernel⟩,
    ⟨stopped, _, mreq [3], 3, ⟨by decide +kernel, by decide +kernel, by decide +kernel, rfl⟩, by decide +kernel, by decide +kernel, by decide +kernel, by decide +kernel⟩,
    ⟨up, _, mreq [3], 3, ⟨by decide +kernel, by decide +kernel, by decide +kernel, rfl⟩, by decide +kernel, by decide +kernel, by decide +kernel, by decide +kernel⟩,
    ⟨stopped, _, mreq [0xFF, 0xFF, 0x17, 0, 1, 0], ⟨by decide +kernel, by decide +kernel, by decide +kernel, rfl⟩, by decide +kernel, by decide +kernel, by decide +kernel⟩,
    ⟨up, _, mreq [0xFF, 0x0F, 1, 0], ⟨by decide +kernel, by decide +kernel, by decide +kernel, rfl⟩, by decide +kernel, by decide +kernel, by decide +kernel, by decide +kernel⟩,
    ⟨up, _, mreq [0xFF, 3, 1, 0], ⟨by decide +kernel, by decide +kernel, by decide +kernel, rfl⟩, by decide +kernel, by decide +kernel, by decide +kernel, by decide +kernel⟩,
    ⟨up, _, mreq [0xFF, 0xFF, 0xFF, 0, 1, 0], ⟨⟨by decide +kernel, by decide +kernel, by decide +kernel, rfl⟩, by decide +kernel, by decide +kernel⟩, by decide +kernel, by decide +kernel, by decide +kernel, by decide +kernel⟩⟩

/-- Every hypothesis of `Obligations.MonitorWritesTakeEffect` is met: one state and operands for each set of them. -/
theorem witness_MonitorWritesTakeEffect :
    (∃ (s u : State) (r : MonReq), Heard s r u ∧ r.payload.length = 6 ∧ leAt r.payload 0 2 % 4 = 0 ∧ u.allOn [leAt r.payload 0 2] = true ∧ u.cfg.groups = [])
    ∧ (∃ (s u : State) (r : MonReq), Heard s r u ∧ r.payload.length = 6 ∧ leAt r.payload 0 2 % 4 = 0 ∧ u.allOn [leAt r.payload 0 2] = true ∧ u.cfg.groups ≠ [] ∧ u.stageable (leAt r.payload 0 2) ≠ 0)
    ∧ (∃ (s u : State) (r : MonReq), Heard s r u ∧ r.payload.length = 6 ∧ byteAt r.payload 0 < 4 ∧ byteAt r.payload 1 < 16 ∧ u.elemOn (byteAt r.payload 0) = true ∧ u.halted (byteAt r.payload 0) = true)
    ∧ (∃ (s u : State) (r : MonReq), Heard s r u ∧ 5 ≤ r.payload.length ∧ u.bankErr (leAt r.payload 0 4) (r.payload.length - 4) = none ∧ 2 ≤ leAt r.payload 0 4 / 0x20000)
    ∧ (∃ (s u : State) (r : MonReq), Heard s r u ∧ 5 ≤ r.payload.length ∧ u.bankErr (leAt r.payload 0 4) (r.payload.length - 4) = none ∧ leAt r.payload 0 4 / 0x20000 ≤ 1)
    ∧ (∃ (s u : State) (r : MonReq), Heard s r u ∧ r.payload.length = 6 ∧ 24 ≤ byteAt r.payload 0 ∧ byteAt r.payload 0 ≤ 31 ∧ byteAt r.payload 1 = 0)
    ∧ (∃ (s u : State) (r : MonReq), HeardByResident s r u ∧ r.payload.length = 6 ∧ leAt r.payload 0 4 % 4096 = 0 ∧ 0 < leAt r.payload 4 2 ∧ leAt r.payload 4 2 ≤ 4096 ∧ leAt r.payload 0 4 + 4096 * leAt r.payload 4 2 ≤ u.mem.flashSize)
    ∧ (∃ (s u : State) (r : MonReq), HeardByResident s r u ∧ 5 ≤ r.payload.length ∧ r.payload.length ≤ 260 ∧ leAt r.payload 0 4 / 256 = (leAt r.payload 0 4 + r.payload.length - 5) / 256 ∧ leAt r.payload 0 4 + r.payload.length - 4 ≤ u.mem.flashSize ∧ ((∀ i, i < r.payload.length - 4 → Cells.get erasedByte u.mem.flash (leAt r.payload 0 4 + i) = 0xFF)))
    ∧ (∃ (s : State) (r : MonReq) (u : State), Heard s r u ∧ u.pwr.state = 0 ∧ u.residentUp = false)
    ∧ (∃ (s : State) (r : MonReq), s.shellHears r.via = true ∧ s.monBusy r.via = true) := by
  exact ⟨⟨up, _, mreq [0xFC, 0x7F, 0, 0, 0, 0], ⟨by decide +kernel, by decide +kernel, by decide +kernel, rfl⟩, by decide +kernel, by decide +kernel, by decide +kernel, by decide +kernel⟩,
    ⟨{ up with cfg.groups := [⟨.tdm, [], 0⟩] }, _, mreq [0x00, 0x28, 0, 0, 0, 0], ⟨by decide +kernel, by decide +kernel, by decide +kernel, rfl⟩, by decide +kernel, by decide +kernel, by decide +kernel, by decide +kernel, by decide +kernel⟩,
    ⟨stopped, _, mreq [3, 15, 0, 0, 0, 0], ⟨by decide +kernel, by decide +kernel, by decide +kernel, rfl⟩, by decide +kernel, by decide +kernel, by decide +kernel, by decide +kernel, by decide +kernel⟩,
    ⟨stopped, _, mreq [0xFF, 0xFF, 0x17, 0, 1], ⟨by decide +kernel, by decide +kernel, by decide +kernel, rfl⟩, by decide +kernel, by decide +kernel, by decide +kernel⟩,
    ⟨stopped, _, mreq [0xFF, 0xFF, 3, 0, 1], ⟨by decide +kernel, by decide +kernel, by decide +kernel, rfl⟩, by decide +kernel, by decide +kernel, by decide +kernel⟩,
    ⟨up, _, mreq [31, 0, 1, 2, 3, 4], ⟨by decide +kernel, by decide +kernel, by decide +kernel, rfl⟩, by decide +kernel, by decide +kernel, by decide +kernel, by decide +kernel⟩,
    ⟨up, _, mreq [0, 0xF0, 0xFF, 0, 1, 0], ⟨⟨by decide +kernel, by decide +kernel, by decide +kernel, rfl⟩, by decide +kernel, by decide +kernel⟩, by decide +kernel, by decide +kernel, by decide +kernel, by decide +kernel, by decide +kernel⟩,
    ⟨up, _, mreq [0xFF, 0xFF, 0xFF, 0, 1], ⟨⟨by decide +kernel, by decide +kernel, by decide +kernel, rfl⟩, by decide +kernel, by decide +kernel⟩, by decide +kernel, by decide +kernel, by decide +kernel, by decide +kernel, by decide +kernel⟩,
    ⟨{ up with cfg.boot := 6 }, mreq [], _, ⟨by decide +kernel, by decide +kernel, by decide +kernel, rfl⟩, by decide +kernel, by decide +kernel⟩,
    ⟨{ up with dbg.stepping := [(1, 5, mreq [])] }, mreq [], by decide +kernel, by decide +kernel⟩⟩

/-- Every hypothesis of `Obligations.ElementsHaltStepAndResume` is met: one state and operands for each set of them. -/
theorem witness_ElementsHaltStepAndResume :
    (∃ (s u : State) (r : MonReq) (m : Byte), Heard s r u ∧ onLine r.via = false ∧ r.payload = [m] ∧ m.toNat < 16 ∧ (elemsIn m.toNat).all u.elemOn = true)
    ∧ (∃ (s u : State) (r : MonReq) (m : Byte), Heard s r u ∧ onLine r.via = true ∧ r.payload = [m] ∧ m.toNat < 16 ∧ (bitOf m.toNat 0 = true ∨ bitOf m.toNat 3 = true))
    ∧ (∃ (s : State) (m c e : Nat), s.dbg.elems.length = 4 ∧ c ≠ 0 ∧ e < 4 ∧ bitOf m e = true)
    ∧ (∃ (s : State) (e : Nat), s.halted e = true)
    ∧ (∃ (s : State) (m c e k : Nat), s.dbg.elems.length = 4 ∧ c ≠ 0 ∧ c ≠ 5 ∧ e < 4 ∧ k < 4 ∧ bitOf m e = true ∧ s.halted e = false ∧ bitOf (s.rf F.DBG_HALT_CTL.mask) e = true ∧ bitOf (s.rf F.DBG_HALT_CTL.mask) k = true)
    ∧ (∃ (s u : State) (r : MonReq) (e : Fin 4), Heard s r u ∧ r.payload = [BitVec.ofNat 8 (2 ^ e.val)] ∧ u.halted e = true)
    ∧ (∃ (s : State) (e : Nat), s.dbg.elems.length = 4 ∧ e < 4)
    ∧ (∃ (s u : State) (r : MonReq) (e : Byte) (a b : Byte), Heard s r u ∧ r.payload = [e, a, b] ∧ e.toNat < 3 ∧ ((onLine r.via = true → e.toNat ≠ 0)) ∧ (a ≠ 0 ∨ b ≠ 0) ∧ u.elemOn e.toNat = true ∧ u.halted e.toNat = true)
    ∧ (∃ (s u : State) (r : MonReq) (e : Byte) (a b : Byte), Heard s r u ∧ r.payload = [e, a, b] ∧ e.toNat < 3 ∧ ((onLine r.via = true → e.toNat ≠ 0)) ∧ (a ≠ 0 ∨ b ≠ 0) ∧ u.elemOn e.toNat = true ∧ u.halted e.toNat = false)
    ∧ (∃ (s : State) (e : Elem) (n : Nat) (r : MonReq), s.dbg.stepping = [(elemNum e, n, r)] ∧ s.halted (elemNum e) = false)
    ∧ (∃ (s : State) (e : Elem) (n : Nat) (r : MonReq), s.dbg.stepping = [(elemNum e, n, r)] ∧ s.halted (elemNum e) = true)
    ∧ (∃ (s : State) (g : Fin 8), s.on F.DBG_HALT_CTL.xtrig_in_en = true ∧ s.rf F.DBG_HALT_CTL.xtrig_in_gpio = g.val ∧ s.strobeOn 0 g = false ∧ s.strobeOn 1 g = false ∧ s.pins.resetHeld = false)
    ∧ (∃ (s : State), s.on F.DBG_HALT_CTL.xtrig_in_en = false) := by
  exact ⟨⟨up, _, mreq [15], 15, ⟨by decide +kernel, by decide +kernel, by decide +kernel, rfl⟩, by decide +kernel, by decide +kernel, by decide +kernel, by decide +kernel⟩,
    ⟨node, _, { via := .line 9 1, tag := 1, payload := [8] }, 8, ⟨by decide +kernel, by decide +kernel, by decide +kernel, rfl⟩, by decide +kernel, by decide +kernel, by decide +kernel, by decide +kernel⟩,
    ⟨up, 15, 1, 3, by decide +kernel, by decide +kernel, by decide +kernel, by decide +kernel⟩,
    ⟨stopped, 3, by decide +kernel⟩,
    ⟨wrs [(F.DBG_HALT_CTL.mask, 15)] up, 1, 1, 0, 3, by decide +kernel, by decide +kernel, by decide +kernel, by decide +kernel, by decide +kernel, by decide +kernel, by decide +kernel, by decide +kernel, by decide +kernel⟩,
    ⟨stopped, _, mreq [BitVec.ofNat 8 (2 ^ 3)], 3, ⟨by decide +kernel, by decide +kernel, by decide +kernel, rfl⟩, by decide +kernel, by decide +kernel⟩,
    ⟨up, 3, by decide +kernel, by decide +kernel⟩,
    ⟨stopped, _, mreq [2, 0xFF, 0xFF], 2, 0xFF, 0xFF, ⟨by decide +kernel, by decide +kernel, by decide +kernel, rfl⟩, by decide +kernel, by decide +kernel, by decide +kernel, by decide +kernel, by decide +kernel, by decide +kernel⟩,
    ⟨up, _, mreq [2, 1, 0], 2, 1, 0, ⟨by decide +kernel, by decide +kernel, by decide +kernel, rfl⟩, by decide +kernel, by decide +kernel, by decide +kernel, by decide +kernel, by decide +kernel, by decide +kernel⟩,
    ⟨{ up with dbg.stepping := [(1, 5, mreq [])] }, .ae0, 5, mreq [], by decide +kernel, by decide +kernel⟩,
    ⟨{ stopped with dbg.stepping := [(1, 5, mreq [])] }, .ae0, 5, mreq [], by decide +kernel, by decide +kernel⟩,
    ⟨wrs [(F.DBG_HALT_CTL.xtrig_in_en, 1), (F.DBG_HALT_CTL.xtrig_in_gpio, 7)] up, 7, by decide +kernel, by decide +kernel, by decide +kernel, by decide +kernel, by decide +kernel⟩,
    ⟨up, by decide +kernel⟩⟩

/-- Every hypothesis of `Obligations.MonitorPacketsTravel` is met: one state and operands for each set of them. -/
theorem witness_MonitorPacketsTravel :
    (∃ (s u : State) (r : MonReq) (b : Byte), Heard s r u ∧ r.payload = [0, b])
    ∧ (∃ (s u : State) (r : MonReq) (b : Byte), Heard s r u ∧ onLine r.via = false ∧ u.coreOn = true ∧ r.payload = [1, b])
    ∧ (∃ (s u : State) (r : MonReq) (k : Fin 4), Heard s r u ∧ u.coreOn = true ∧ r.payload = [2, BitVec.ofNat 8 k.val])
    ∧ (∃ (s u : State) (r : MonReq) (b : Byte), Heard s r u ∧ u.coreOn = false ∧ r.payload = [1, b])
    ∧ (∃ (s : State) (cmd : Nat) (tag : Byte) (p b : List Byte), s.shellHears .uart = true ∧ s.dbg.rx = [] ∧ parseRequest b = some (cmd, tag, p))
    ∧ (∃ (s : State) (b : List Byte), s.shellHears .uart = true ∧ s.dbg.rx = [] ∧ b.length = 8 + leAt b 4 2 ∧ leAt b 4 2 ≤ 1024 ∧ parseRequest b = none ∧ monSync ∉ b)
    ∧ (∃ (s : State), s.shellHears .uart = false)
    ∧ (∃ (s : State) (c : Client) (j : Nat) (x : InFlight) (buf p : List Byte) (cmd : Nat) (tag : Byte), s.monTurn c = some (j, x) ∧ s.pins.resetHeld = false ∧ s.pwr.state ≠ 5 ∧ checkDesc c x.desc = none ∧ c.val ≠ clientSB ∧ parseRequest (buf.take x.desc.bufLen) = some (cmd, tag, p))
    ∧ (∃ (s : State) (c : Client), s.monTurn c = none)
    ∧ (∃ (s : State), s.on F.DBG_TRACE_CTL.en = true ∧ s.sink = 2 ∧ s.dbg.trace ≠ [] ∧ s.coreOn = true)
    ∧ (∃ (s : State), s.on F.DBG_TRACE_CTL.en = false) := by
  exact ⟨⟨up, _, mreq [0, 9], 9, ⟨by decide +kernel, by decide +kernel, by decide +kernel, rfl⟩, by decide +kernel⟩,
    ⟨up, _, mreq [1, 9], 9, ⟨by decide +kernel, by decide +kernel, by decide +kernel, rfl⟩, by decide +kernel, by decide +kernel, by decide +kernel⟩,
    ⟨up, _, mreq [2, BitVec.ofNat 8 3], 3, ⟨by decide +kernel, by decide +kernel, by decide +kernel, rfl⟩, by decide +kernel, by decide +kernel⟩,
    ⟨inS 2, _, mreq [1, 9], 9, ⟨by decide +kernel, by decide +kernel, by decide +kernel, rfl⟩, by decide +kernel, by decide +kernel⟩,
    ⟨up, 1, 5, [1, 2], monPacket 1 0x01 5 0 [1, 2], by decide +kernel, by decide +kernel, by decide +kernel⟩,
    ⟨up, [1, 1, 5, 0, 0, 0, 0, 0], by decide +kernel, by decide +kernel, by decide +kernel, by decide +kernel, by decide +kernel, by decide +kernel⟩,
    ⟨inS 5, by decide +kernel⟩,
    ⟨ask 0xA0 10 [0, 0, 0, 0, 255, 0] host, 0, 0, cmd 0xA0 10 [0, 0, 0, 0, 255, 0], monPacket 1 0x01 5 0 [1, 2], [1, 2], 1, 5, by decide +kernel, by decide +kernel, by decide +kernel, by decide +kernel, by decide +kernel, by decide +kernel⟩,
    ⟨host, 0, by decide +kernel⟩,
    ⟨wrs [(F.DBG_TRACE_CTL.en, 1), (F.DBG_TRACE_CTL.sink, 2)] { up with dbg.trace := [⟨0, 0, 0, 0, 0, 0, 0⟩] }, by decide +kernel, by decide +kernel, by decide +kernel, by decide +kernel⟩,
    ⟨up, by decide +kernel⟩⟩

/-- Every hypothesis of `Obligations.FullResetsRestoreTheBlock` is met: one state and operands for each set of them. -/
theorem witness_FullResetsRestoreTheBlock :
    (∃ (s : State), s.cfg.restarting = true)
    ∧ (∃ (s : State), s.cfg.restarting = false)
    ∧ (∃ (s : State), s.pins.resetHeld = false ∧ s.halted 0 = false ∧ s.coreOn = true ∧ s.watched = false ∧ s.cfg.restarting = false)
    ∧ (∃ (s : State), s.pins.resetHeld = false ∧ s.halted 0 = false ∧ s.coreOn = true ∧ s.watched = true)
    ∧ (∃ (s : State), s.halted 0 = true) := by
  exact ⟨⟨{ up with cfg.restarting := true }, by decide +kernel⟩,
    ⟨up, by decide +kernel⟩,
    ⟨up, by decide +kernel, by decide +kernel, by decide +kernel, by decide +kernel, by decide +kernel⟩,
    ⟨{ up with cfg.wdtOnce := true, cfg.restartEnd := some 0 }, by decide +kernel, by decide +kernel, by decide +kernel, by decide +kernel⟩,
    ⟨stopped, by decide +kernel⟩⟩

/-- Every hypothesis of `Obligations.TheBlockBootsAndRestarts` is met: one state and operands for each set of them. -/
theorem witness_TheBlockBootsAndRestarts :
    (∃ (s : State), s.pins.resetHeld = false ∧ s.cfg.restarting = false ∧ s.cfg.boot = 0 ∧ s.pwr.state = 0)
    ∧ (∃ (s : State), s.pins.resetHeld = false ∧ s.cfg.restarting = false ∧ s.cfg.boot = 1 ∧ s.pwr.state = 0)
    ∧ (∃ (s : State), s.pins.resetHeld = false ∧ s.cfg.restarting = false ∧ s.cfg.boot = 2 ∧ s.pwr.state = 0 ∧ s.p57.pg = true)
    ∧ (∃ (s : State) (e : Nat), s.pins.resetHeld = false ∧ s.cfg.restarting = false ∧ s.cfg.boot = 3 ∧ s.pwr.state = 0 ∧ s.manifest = .rejected e)
    ∧ (∃ (s : State), s.pins.resetHeld = false ∧ s.cfg.restarting = false ∧ s.cfg.boot = 4 ∧ s.pwr.state = 0 ∧ s.cfg.patch = none)
    ∧ (∃ (s : State) (e : Nat), s.pins.resetHeld = false ∧ s.cfg.restarting = false ∧ s.cfg.boot = 5 ∧ s.pwr.state = 0 ∧ s.manifest = .rejected e)
    ∧ (∃ (s : State), s.pins.resetHeld = false ∧ s.cfg.restarting = false ∧ s.cfg.boot = 6 ∧ s.pwr.state = 0 ∧ s.pins.perst = true ∧ s.pins.cartDet = false)
    ∧ (∃ (s : State), (s.cfg.boot = 8 ∨ s.pins.resetHeld = true ∨ s.cfg.restarting = true))
    ∧ (∃ (s : State), s.cfg.restarting = false)
    ∧ (∃ (s : State), s.cfg.restarting = true)
    ∧ (∃ (s : State) (e : Elem), s.pins.resetHeld = false ∧ s.halted (elemNum e) = false ∧ s.coreOn = true ∧ s.on F.DBG_HALT_CTL.halt_on_fault = true)
    ∧ (∃ (s : State), s.pins.resetHeld = false ∧ s.coreOn = true ∧ s.on F.DBG_HALT_CTL.halt_on_fault = false ∧ s.halted 0 = false ∧ s.cfg.restarting = false)
    ∧ (∃ (s : State), s.pins.resetHeld = false ∧ s.coreOn = true ∧ s.on F.DBG_HALT_CTL.halt_on_fault = false ∧ s.halted 1 = false)
    ∧ (∃ (s : State), s.pins.resetHeld = false ∧ s.coreOn = true ∧ s.on F.DBG_HALT_CTL.halt_on_fault = false ∧ s.halted 2 = false)
    ∧ (∃ (s : State), s.pins.resetHeld = false ∧ s.phyOn = true ∧ s.on F.DBG_HALT_CTL.halt_on_fault = false ∧ s.halted 3 = false) := by
  exact ⟨⟨State.reset, by decide +kernel, by decide +kernel, by decide +kernel, by decide +kernel⟩,
    ⟨{ State.reset with cfg.boot := 1 }, by decide +kernel, by decide +kernel, by decide +kernel, by decide +kernel⟩,
    ⟨{ State.reset with cfg.boot := 2 }, by decide +kernel, by decide +kernel, by decide +kernel, by decide +kernel, by decide +kernel⟩,
    ⟨{ State.reset with cfg.boot := 3 }, 2, by decide +kernel, by decide +kernel, by decide +kernel, by decide +kernel, by decide +kernel⟩,
    ⟨{ State.reset with cfg.boot := 4 }, by decide +kernel, by decide +kernel, by decide +kernel, by decide +kernel, by decide +kernel⟩,
    ⟨{ State.reset with cfg.boot := 5 }, 2, by decide +kernel, by decide +kernel, by decide +kernel, by decide +kernel, by decide +kernel⟩,
    ⟨{ State.reset with cfg.boot := 6 }, by decide +kernel, by decide +kernel, by decide +kernel, by decide +kernel, by decide +kernel, by decide +kernel⟩,
    ⟨up, by decide +kernel⟩,
    ⟨up, by decide +kernel⟩,
    ⟨{ up with cfg.restarting := true }, by decide +kernel⟩,
    ⟨wrs [(F.DBG_HALT_CTL.halt_on_fault, 1)] up, .ls, by decide +kernel, by decide +kernel, by decide +kernel, by decide +kernel⟩,
    ⟨wrs [(F.DBG_HALT_CTL.halt_on_fault, 0)] up, by decide +kernel, by decide +kernel, by decide +kernel, by decide +kernel, by decide +kernel⟩,
    ⟨wrs [(F.DBG_HALT_CTL.halt_on_fault, 0)] up, by decide +kernel, by decide +kernel, by decide +kernel, by decide +kernel⟩,
    ⟨wrs [(F.DBG_HALT_CTL.halt_on_fault, 0)] up, by decide +kernel, by decide +kernel, by decide +kernel, by decide +kernel⟩,
    ⟨wrs [(F.DBG_HALT_CTL.halt_on_fault, 0)] (inS 3), by decide +kernel, by decide +kernel, by decide +kernel, by decide +kernel⟩⟩

/-- Every hypothesis of `Obligations.CyclesFollowOneAnother` is met: one state and operands for each set of them. -/
theorem witness_CyclesFollowOneAnother :
    (∃ (s : State), s.phyOn = true ∧ s.pins.resetHeld = false ∧ s.cfg.direct = [] ∧ s.cfg.apply = none)
    ∧ (∃ (s : State), s.phyOn = true ∧ s.pins.resetHeld = false)
    ∧ (∃ (s : State), (s.phyOn = false ∨ s.pins.resetHeld = true)) := by
  exact ⟨⟨inS 3, by decide +kernel, by decide +kernel, by decide +kernel, by decide +kernel⟩,
    ⟨inS 3, by decide +kernel, by decide +kernel⟩,
    ⟨inS 4, by decide +kernel⟩⟩

/-- Every hypothesis of `Obligations.BeaconsPlaceTheNode` is met: one state and operands for each set of them. -/
theorem witness_BeaconsPlaceTheNode :
    (∃ (s : State) (b : BeaconBurst), b.port = .a ∧ s.hears .a = true ∧ beaconGood b = true ∧ s.mastering .a = false ∧ s.rf F.LINE_MASTER_STATUS.role ≠ 3 ∧ s.plt.beaconOk = false ∧ (s.searches = true ∨ b.displacement.natAbs ≤ 64))
    ∧ (∃ (s : State) (b : BeaconBurst), b.port = .a ∧ s.hears .a = true ∧ beaconGood b = false)
    ∧ (∃ (s : State) (b : BeaconBurst), b.port = .a ∧ s.hears .a = true ∧ beaconGood b = true ∧ s.mastering .a = false ∧ s.plt.beaconOk = true)
    ∧ (∃ (s : State) (b : BeaconBurst), s.hears b.port = false)
    ∧ (∃ (s : State), s.expectsBeacon = true ∧ s.plt.beaconOk = false)
    ∧ (∃ (s : State), s.plt.beaconOk = true)
    ∧ (∃ (s : State), s.isB = true ∧ s.rf F.LINE_WAY_STATUS.b_role = 2)
    ∧ (∃ (s : State), s.mastering .a = false ∧ s.lineDown = false ∧ s.on F.PLT_LPC_STATUS.holdover = true ∧ s.downLimit ≤ s.plt.holdCount ∧ s.pwr.state ≠ 3)
    ∧ (∃ (s : State), s.on F.PLT_LPC_STATUS.holdover = false)
    ∧ (∃ (s : State), s.mastering .a = false ∧ 8 ≤ s.plt.silent)
    ∧ (∃ (s : State), s.plt.silent < 8) := by
  exact ⟨⟨{ node with plt.beaconOk := false }, beaconBurst 1000 60 (-64), by decide +kernel, by decide +kernel, by decide +kernel, by decide +kernel, by decide +kernel, by decide +kernel, by decide +kernel⟩,
    ⟨node, beaconBurst 1000 59 0, by decide +kernel, by decide +kernel, by decide +kernel⟩,
    ⟨node, beaconBurst 1000 60 0, by decide +kernel, by decide +kernel, by decide +kernel, by decide +kernel, by decide +kernel⟩,
    ⟨inS 4, beaconBurst 1000 64 0, by decide +kernel⟩,
    ⟨{ node with plt.beaconOk := false }, by decide +kernel, by decide +kernel⟩,
    ⟨node, by decide +kernel⟩,
    ⟨wrs [(F.LINE_WAY_STATUS.b_role, 2)] up, by decide +kernel, by decide +kernel⟩,
    ⟨wrs [(F.PLT_LPC_STATUS.holdover, 1)] { node with plt.holdCount := 64 }, by decide +kernel, by decide +kernel, by decide +kernel, by decide +kernel, by decide +kernel⟩,
    ⟨node, by decide +kernel⟩,
    ⟨{ node with plt.silent := 8 }, by decide +kernel, by decide +kernel⟩,
    ⟨{ node with plt.silent := 7 }, by decide +kernel⟩⟩

/-- Every hypothesis of `Obligations.LineTimeFiresWhatWaits` is met: one state and operands for each set of them. -/
theorem witness_LineTimeFiresWhatWaits :
    (∃ (s : State) (id : Half) (q : TalkReq), s.ccLink = true ∧ s.coreOn = true ∧ s.pins.resetHeld = false ∧ q.standing = false ∧ s.lateReq .a (fun x => !x.standing && decide (x.reqId = id)) = some q ∧ q.attempts < 3)
    ∧ (∃ (s : State) (id : Half) (q : TalkReq), s.ccLink = true ∧ s.coreOn = true ∧ s.pins.resetHeld = false ∧ s.lateReq .a (fun x => !x.standing && decide (x.reqId = id)) = some q ∧ 3 ≤ q.attempts)
    ∧ (∃ (s : State) (q : TalkReq), s.ccLink = true ∧ s.coreOn = true ∧ s.pins.resetHeld = false ∧ s.lateReq .a (fun x => x.standing) = some q ∧ 3 ≤ q.attempts)
    ∧ (∃ (s : State) (w : Nat) (c : Word), s.ccLink = true ∧ s.coreOn = true ∧ s.pins.resetHeld = false ∧ s.link.joinSent = some c ∧ 16 ≤ (s.lpc - c).toNat ∧ s.link.joinWindow = w ∧ w < 2 ^ s.joinMax .a)
    ∧ (∃ (s : State) (p : Port) (a : Fin 128) (r : MasterRow) (c : Word), s.ccLink = true ∧ s.coreOn = true ∧ s.pins.resetHeld = false ∧ s.mastering p = true ∧ (s.mst p).rowOf a = some r ∧ r.pollSent = some c ∧ 16 ≤ (s.lpc - c).toNat)
    ∧ (∃ (s : State), s.ccLink = false)
    ∧ (∃ (s : State), 65536 ≤ s.link.statusAge ∧ (s.addr .a).isSome = true ∧ s.mastering .a = false ∧ s.pwr.state < 2 ∧ s.pins.resetHeld = false)
    ∧ (∃ (s : State), s.link.statusAge < 65536)
    ∧ (∃ (s : State) (u : Fin 6) (d : Deadline), s.plt.units.getD u none = some d ∧ s.pwr.state = 0 ∧ s.pins.resetHeld = false ∧ d.cycle = s.lpc ∧ s.plt.waiting = [] ∧ s.plt.units.length = 6)
    ∧ (∃ (s : State) (u : Fin 6), s.plt.units.getD u none = none)
    ∧ (∃ (s : State) (c : Client) (j : Nat) (x : InFlight) (buf : List Byte), s.plt.sym = 0 ∧ s.dueDescriptor c = some (j, x, buf))
    ∧ (∃ (s : State) (c : Client), (s.plt.sym ≠ 0 ∨ s.dueDescriptor c = none))
    ∧ (∃ (s : State) (u : Fin 2), s.on (F.PLT_STROBE_CTL.en u.val) = true ∧ s.rf (F.PLT_STROBE_CTL.symbol u.val) ≤ 15624 ∧ s.rf (F.PLT_STROBE_CTL.period u.val) ≠ 0 ∧ s.lpc.toNat % s.rf (F.PLT_STROBE_CTL.period u.val) = 0 ∧ s.plt.sym ≤ s.rf (F.PLT_STROBE_CTL.symbol u.val) ∧ s.plt.lpcInvalid = false ∧ s.pins.resetHeld = false)
    ∧ (∃ (s : State) (u : Fin 2), (s.on (F.PLT_STROBE_CTL.en u.val) = false ∨ s.plt.lpcInvalid = true))
    ∧ (∃ (s : State), s.isWay = true ∧ s.rf F.LINE_WAY_STATUS.b_role = 2 ∧ 64 ≤ s.way.bMissing ∧ s.locked = false)
    ∧ (∃ (s : State), s.way.bMissing < 64) := by
  exact ⟨⟨{ node with link.reqs := [req (.session 0) false .sent 2] }, 3, req (.session 0) false .sent 2, by decide +kernel, by decide +kernel, by decide +kernel, by decide +kernel, by decide +kernel, by decide +kernel⟩,
    ⟨{ node with link.reqs := [req (.session 0) false .sent 3] }, 3, req (.session 0) false .sent 3, by decide +kernel, by decide +kernel, by decide +kernel, by decide +kernel, by decide +kernel⟩,
    ⟨{ node with link.reqs := [req (.session 0) true .sent 3] }, req (.session 0) true .sent 3, by decide +kernel, by decide +kernel, by decide +kernel, by decide +kernel, by decide +kernel⟩,
    ⟨{ lost with link.joinSent := some 984, link.joinWindow := 16 }, 16, 984, by decide +kernel, by decide +kernel, by decide +kernel, by decide +kernel, by decide +kernel, rfl, by decide +kernel⟩,
    ⟨{ boss with master.roster := [{ mrow 127 with pollSent := some 984 }] }, .a, 127, { mrow 127 with pollSent := some 984 }, 984, by decide +kernel, by decide +kernel, by decide +kernel, by decide +kernel, by decide +kernel, by decide +kernel, by decide +kernel⟩,
    ⟨{ up with cfg.restarting := true }, by decide +kernel⟩,
    ⟨{ node with link.statusAge := 65536 }, by decide +kernel, by decide +kernel, by decide +kernel, by decide +kernel, by decide +kernel⟩,
    ⟨{ node with link.statusAge := 65535 }, by decide +kernel⟩,
    ⟨{ node with plt.units := List.replicate 6 (some ⟨1000, 0, 0, 7⟩) }, 5, ⟨1000, 0, 0, 7⟩, by decide +kernel, by decide +kernel, by decide +kernel, by decide +kernel, by decide +kernel, by decide +kernel⟩,
    ⟨up, 5, by decide +kernel⟩,
    ⟨flight [fly (desc 0x01 4 1000 0 []) (.scheduled 1000 [])] node, 0, 0, fly (desc 0x01 4 1000 0 []) (.scheduled 1000 []), [], by decide +kernel, by decide +kernel⟩,
    ⟨node, 0, by decide +kernel⟩,
    ⟨wrs [(F.PLT_STROBE_CTL.en 1, 1), (F.PLT_STROBE_CTL.symbol 1, 15624), (F.PLT_STROBE_CTL.period 1, 250)] node, 1, by decide +kernel, by decide +kernel, by decide +kernel, by decide +kernel, by decide +kernel, by decide +kernel, by decide +kernel⟩,
    ⟨node, 0, by decide +kernel⟩,
    ⟨wrs [(F.LINE_ROLE.way_en, 1), (F.LINE_PORT_CTL.b_en, 1), (F.LINE_WAY_STATUS.b_role, 2)] { up with way.bMissing := 64 }, by decide +kernel, by decide +kernel, by decide +kernel, by decide +kernel⟩,
    ⟨up, by decide +kernel⟩⟩

/-- Every hypothesis of `Obligations.MastersSendBeacons` is met: one state and operands for each set of them. -/
theorem witness_MastersSendBeacons :
    (∃ (s : State) (p : Port), s.mastering p = true ∧ s.hears p = true ∧ s.noBeacon p (s.lpc + 1) = false ∧ s.ccLink = true)
    ∧ (∃ (s : State) (p : Port), s.mastering p = true ∧ s.hears p = true ∧ s.noBeacon p (s.lpc + 1) = false)
    ∧ (∃ (s : State) (p : Port), s.mastering p = true ∧ s.hears p = true ∧ s.noBeacon p (s.lpc + 1) = true)
    ∧ (∃ (s : State) (p : Port), s.mastering p = false)
    ∧ (∃ (s : State) (p : Port) (b : Beacon) (n : Nat), (s.mst p).next = some b ∧ s.mastering p = true ∧ s.hears p = true ∧ b.cycle = s.lpc ∧ (s.mst p).backoff = none ∧ s.sentBeacon p = false ∧ ((p = .b → s.locked = true)) ∧ n < 4)
    ∧ (∃ (s : State) (p : Port) (b : Beacon) (n : Nat), (s.mst p).next = some b ∧ s.mastering p = true ∧ s.hears p = true ∧ b.cycle = s.lpc ∧ (s.mst p).backoff = none ∧ s.sentBeacon p = false ∧ ((p = .b → s.locked = true)) ∧ 4 ≤ n)
    ∧ (∃ (s : State) (p : Port), (s.mst p).next = none)
    ∧ (∃ (s : State) (p : Port), s.mastering p = true ∧ (s.mst p).backoff = some 0)
    ∧ (∃ (s : State) (p : Port), (s.mst p).backoff = none)
    ∧ (∃ (s : State), s.masterCapable = true ∧ s.hears .a = true ∧ s.ccLink = true ∧ s.rf F.LINE_MASTER_STATUS.role = 0 ∧ ((s.plt.firstBeacon = true ∧ s.listenCycles ≤ s.plt.silent) ∨ s.lineDown = true))
    ∧ (∃ (s : State), s.masterCapable = false)
    ∧ (∃ (s : State), s.rf F.LINE_MASTER_STATUS.role = 3 ∧ s.master.delay = some 0 ∧ s.ccLink = true ∧ s.hears .a = true)
    ∧ (∃ (s : State), (s.rf F.LINE_MASTER_STATUS.role ≠ 3 ∨ s.master.delay ≠ some 0)) := by
  exact ⟨⟨wrs [(F.LINE_PORT_CTL.b_en, 1), (F.LINE_WAY_STATUS.b_role, 1)] { node with way.masterB := { Master.reset with next := some (bcn 1000 5) } }, .b, by decide +kernel, by decide +kernel, by decide +kernel, by decide +kernel⟩,
    ⟨boss, .a, by decide +kernel, by decide +kernel, by decide +kernel⟩,
    ⟨wrs [(F.LINE_LINK_STATUS.line_state, 1)] boss, .a, by decide +kernel, by decide +kernel, by decide +kernel⟩,
    ⟨node, .a, by decide +kernel⟩,
    ⟨wrs [(F.LINE_PORT_CTL.b_en, 1), (F.LINE_WAY_STATUS.b_role, 1)] { node with way.masterB := { Master.reset with next := some (bcn 1000 5) } }, .b, bcn 1000 5, 3, by decide +kernel, by decide +kernel, by decide +kernel, by decide +kernel, by decide +kernel, by decide +kernel, by decide +kernel, by decide +kernel⟩,
    ⟨{ boss with phy.tx := [] }, .a, bcn 1000 5, 4, by decide +kernel, by decide +kernel, by decide +kernel, by decide +kernel, by decide +kernel, by decide +kernel, by decide +kernel, by decide +kernel⟩,
    ⟨node, .a, by decide +kernel⟩,
    ⟨{ boss with master.backoff := some 0 }, .a, by decide +kernel, by decide +kernel⟩,
    ⟨boss, .a, by decide +kernel⟩,
    ⟨wrs [(F.LINE_ROLE.master_en, 1)] { up with plt.silent := up.listenCycles }, by decide +kernel, by decide +kernel, by decide +kernel, by decide +kernel, by decide +kernel⟩,
    ⟨wrs [(F.LINE_ROLE.master_en, 0)] up, by decide +kernel⟩,
    ⟨wrs [(F.LINE_MASTER_STATUS.role, 3)] { up with master.delay := some 0 }, by decide +kernel, by decide +kernel, by decide +kernel, by decide +kernel⟩,
    ⟨up, by decide +kernel⟩⟩

/-- Every hypothesis of `Obligations.LinesGoQuietAndReturn` is met: one state and operands for each set of them. -/
theorem witness_LinesGoQuietAndReturn :
    (∃ (s : State) (p : Port), s.mastering p = true ∧ s.hears p = true ∧ (s.mst p).horn = some s.lpc ∧ s.phy.hornOn = false)
    ∧ (∃ (s : State) (p : Port), (s.mst p).horn ≠ some s.lpc)
    ∧ (∃ (s : State) (p : Port), s.mastering p = true)
    ∧ (∃ (s : State) (p : Port), s.mastering p = false)
    ∧ (∃ (s : State), s.hears .a = true ∧ s.mastering .a = false)
    ∧ (∃ (s : State), s.mastering .a = true)
    ∧ (∃ (s : State) (p : Port), s.mastering p = true ∧ s.ccLink = true ∧ s.lineState p = 0 ∧ s.rf (lkF p F.LINE_QUIET_CTL.quiet_after_s) ≠ 0 ∧ 1000 * s.rf (lkF p F.LINE_QUIET_CTL.quiet_after_s) ≤ (s.mst p).idle ∧ s.noLeases p = true ∧ (s.mst p).queue = [] ∧ (s.mst p).quietAt = none ∧ (s.mst p).horn = none ∧ (s.mst p).takeover = none ∧ (s.lnk p).urgent = [])
    ∧ (∃ (s : State) (p : Port), s.rf (lkF p F.LINE_QUIET_CTL.quiet_after_s) = 0)
    ∧ (∃ (s : State) (p : Port) (q : Word), (s.mst p).quietAt = some q ∧ s.mastering p = true ∧ later q s.lpc = false)
    ∧ (∃ (s : State) (p : Port), (s.mst p).quietAt = none) := by
  exact ⟨⟨{ boss with master.horn := some 1000 }, .a, by decide +kernel, by decide +kernel, by decide +kernel, by decide +kernel⟩,
    ⟨boss, .a, by decide +kernel⟩,
    ⟨boss, .a, by decide +kernel⟩,
    ⟨node, .a, by decide +kernel⟩,
    ⟨node, by decide +kernel, by decide +kernel⟩,
    ⟨boss, by decide +kernel⟩,
    ⟨wrs [(F.LINE_QUIET_CTL.quiet_after_s, 60)] { boss with master.idle := 60000 }, .a, by decide +kernel, by decide +kernel, by decide +kernel, by decide +kernel, by decide +kernel, by decide +kernel, by decide +kernel, by decide +kernel, by decide +kernel, by decide +kernel, by decide +kernel⟩,
    ⟨wrs [(F.LINE_QUIET_CTL.quiet_after_s, 0)] boss, .a, by decide +kernel⟩,
    ⟨{ boss with master.quietAt := some 1000 }, .a, 1000, by decide +kernel, by decide +kernel, by decide +kernel⟩,
    ⟨boss, .a, by decide +kernel⟩⟩

/-- Every hypothesis of `Obligations.MastersKeepTheirTables` is met: one state and operands for each set of them. -/
theorem witness_MastersKeepTheirTables :
    (∃ (s : State) (p : Port) (i : Nat), s.works p = true ∧ (s.mst p).takeover = none ∧ i = (s.mst p).rosterPart % rosterParts (s.mst p))
    ∧ (∃ (s : State) (p : Port), s.works p = true)
    ∧ (∃ (s : State) (p : Port), s.works p = false)
    ∧ (∃ (s : State) (p : Port) (r : Nat) (n : Word) (c : Nat) (b : List Byte), (s.mst p).rearguard = some r ∧ s.works p = true ∧ (s.mst p).takeover = none ∧ (s.mst p).snapshot = none ∧ n = (s.mst p).ckptNumber + 1 ∧ b = s.ckptData p ++ toBe 4 (ckptCrc n (s.ckptData p)) ∧ c = (b.length + 151) / 152)
    ∧ (∃ (s : State) (p : Port) (k : Fin 64) (l : MLease), (s.mst p).lease k.val = some l ∧ s.works p = true ∧ 8 ≤ l.missed)
    ∧ (∃ (s : State) (p : Port) (k : Fin 64) (l : MLease), (s.mst p).lease k.val = some l ∧ l.missed < 8)
    ∧ (∃ (s : State) (p : Port) (a : Fin 128) (r : MasterRow), (s.mst p).rowOf a.val = some r ∧ s.works p = true ∧ 196608 ≤ r.unheard ∧ s.addr p ≠ some a.val)
    ∧ (∃ (s : State) (p : Port) (a : Fin 128) (r : MasterRow), (s.mst p).rowOf a.val = some r ∧ r.unheard < 196608) := by
  exact ⟨⟨boss, .a, _, by decide +kernel, by decide +kernel, rfl⟩,
    ⟨boss, .a, by decide +kernel⟩,
    ⟨node, .a, by decide +kernel⟩,
    ⟨{ boss with master.rearguard := some 9 }, .a, 9, _, _, _, by decide +kernel, by decide +kernel, by decide +kernel, by decide +kernel, rfl, rfl, rfl⟩,
    ⟨{ boss with master := boss.master.setLease 63 (some (mlease 9 8 0)) }, .a, 63, mlease 9 8 0, by decide +kernel, by decide +kernel, by decide +kernel⟩,
    ⟨{ boss with master := boss.master.setLease 63 (some (mlease 9 7 0)) }, .a, 63, mlease 9 7 0, by decide +kernel, by decide +kernel⟩,
    ⟨{ boss with master.roster := [{ mrow 9 with unheard := 196608 }] }, .a, 9, { mrow 9 with unheard := 196608 }, by decide +kernel, by decide +kernel, by decide +kernel, by decide +kernel⟩,
    ⟨{ boss with master.roster := [{ mrow 9 with unheard := 196607 }] }, .a, 9, { mrow 9 with unheard := 196607 }, by decide +kernel, by decide +kernel⟩⟩

/-- Every hypothesis of `Obligations.RearguardsTakeOver` is met: one state and operands for each set of them. -/
theorem witness_RearguardsTakeOver :
    (∃ (s : State) (b : Beacon), s.link.beacon = some b ∧ s.isRearguard = true ∧ s.masterCapable = true ∧ s.locked = true ∧ s.lineDown = false ∧ s.hears .a = true ∧ s.ccLink = true ∧ 3 ≤ s.rf F.PLT_LPC_STATUS.missed_beacons)
    ∧ (∃ (s : State), (s.rf F.PLT_LPC_STATUS.missed_beacons < 3 ∨ s.isRearguard = false))
    ∧ (∃ (s : State) (p : Port), (s.mst p).takeover = none)
    ∧ (∃ (s : State) (p : Port) (k : Fin 2) (c : Word) (gone : List (Nat × Nat)), (s.mst p).takeover = some c ∧ s.works p = true ∧ later (c + 17 + BitVec.ofNat 32 k.val) s.lpc = false ∧ gone = ((s.mst p).audited.filter (fun x => decide (x.1 / 32 = k.val))).filter (fun x => !(s.mst p).heard.contains x.2 && decide (s.addr p ≠ some x.2) && (match (s.mst p).lease x.1 with | some l => decide (l.holder = x.2) | none => false)))
    ∧ (∃ (s : State) (p : Port) (k : Fin 16) (n a : Nat) (c : Word) (r : MasterRow), a = 8 * k.val + s.lpc.toNat % 8 ∧ (s.mst p).takeover = some c ∧ (s.mst p).rowOf a = some r ∧ s.mastering p = true ∧ s.hears p = true ∧ s.ccLink = true ∧ later (c + 64) s.lpc = true ∧ later c s.lpc = false ∧ n ≤ 704 ∧ s.addr p ≠ some a)
    ∧ (∃ (s : State) (c : Word), s.link.reRange = some c ∧ later (c + 64) s.lpc = false)
    ∧ (∃ (s : State) (c : Word), s.link.reRange = some c ∧ later (c + 64) s.lpc = true)
    ∧ (∃ (s : State) (c : Word), s.link.reRange = none ∧ s.master.takeover = some c ∧ later (c + 64) s.lpc = false ∧ s.mastering .a = true ∧ s.ccLink = true) := by
  exact ⟨⟨guard, bcn 1000 5, by decide +kernel, by decide +kernel, by decide +kernel, by decide +kernel, by decide +kernel, by decide +kernel, by decide +kernel, by decide +kernel⟩,
    ⟨node, by decide +kernel⟩,
    ⟨boss, .a, by decide +kernel⟩,
    ⟨{ boss with master.takeover := some 982 }, .a, 1, 982, _, by decide +kernel, by decide +kernel, by decide +kernel, rfl⟩,
    ⟨{ boss with master.takeover := some 937, master.roster := [mrow 120] }, .a, 15, 704, 120, 937, mrow 120, by decide +kernel, by decide +kernel, by decide +kernel, by decide +kernel, by decide +kernel, by decide +kernel, by decide +kernel, by decide +kernel, by decide +kernel, by decide +kernel⟩,
    ⟨{ node with link.reRange := some 936 }, 936, by decide +kernel, by decide +kernel⟩,
    ⟨{ node with link.reRange := some 937 }, 937, by decide +kernel, by decide +kernel⟩,
    ⟨taken, 936, by decide +kernel, by decide +kernel, by decide +kernel, by decide +kernel, by decide +kernel⟩⟩

/-- Every hypothesis of `Obligations.NodesSendInTheirTurn` is met: one state and operands for each set of them. -/
theorem witness_NodesSendInTheirTurn :
    (∃ (s : State) (p : Port) (a : Nat), s.mayRing p = true ∧ s.mastering p = false ∧ s.addr p = some a ∧ (s.lnk p).reRange = none)
    ∧ (∃ (s : State) (p : Port), s.mayRing p = true ∧ s.mastering p = true)
    ∧ (∃ (s : State) (p : Port), s.mayRing p = false)
    ∧ (∃ (s : State) (p : Port) (c : Word), s.mastering p = false ∧ (s.lnk p).reRange = some c)
    ∧ (∃ (s : State) (a : Nat), s.addr .a = some a ∧ s.mayTx .a = true ∧ s.ccLink = true ∧ s.coreOn = true ∧ s.mastering .a = false ∧ s.rangesNow a = true)
    ∧ (∃ (s : State), (s.addr .a = none ∨ s.mastering .a = true))
    ∧ (∃ (s : State) (p : Port) (a : Nat) (reason : Byte), s.addr p = some a ∧ s.mayTx p = true ∧ s.ccLink = true ∧ s.coreOn = true ∧ s.lineState p = 0 ∧ s.ownsFrame p = true ∧ (s.lnk p).rangeReply = some reason)
    ∧ (∃ (s : State) (p : Port) (a : Nat) (m : Msg), s.addr p = some a ∧ s.mayTx p = true ∧ s.ccLink = true ∧ s.coreOn = true ∧ s.lineState p = 0 ∧ s.ownsFrame p = true ∧ (s.lnk p).rangeReply = none ∧ s.sendable p = some m)
    ∧ (∃ (s : State) (p : Port), (s.lnk p).rangeReply = none ∧ s.sendable p = none)
    ∧ (∃ (s : State) (p : Port), (s.ownsFrame p = false ∨ s.lineState p ≠ 0))
    ∧ (∃ (s : State) (p : Port) (k : Fin 64) (a : Nat) (h : HeldLease) (x : SlotPlan), s.addr p = some a ∧ (s.lnk p).held.find? (fun h => decide (h.slot = k.val) && !later h.start s.lpc) = some h ∧ s.mayTx p = true ∧ s.coreOn = true ∧ s.lineState p = 0 ∧ s.sendsIn p k.val = false ∧ x = s.slotPlan p h)
    ∧ (∃ (s : State) (p : Port) (k : Fin 64), (s.lnk p).held.find? (fun h => decide (h.slot = k.val) && !later h.start s.lpc) = none)
    ∧ (∃ (s : State) (p : Port), s.lineState p ≠ 0)
    ∧ (∃ (s : State) (b : Beacon) (nonce : BitVec 10) (body : List Byte), s.link.beacon = some b ∧ b.joinOpen = true ∧ s.joining .a = true ∧ s.mayTx .a = true ∧ s.ccLink = true ∧ s.coreOn = true ∧ s.link.joinWindow ≠ 0 ∧ s.link.joinWait = 0 ∧ s.link.joinSent = none ∧ body = toBe 6 s.dev.uid.toNat ++ toBe 2 (s.nonceWord nonce))
    ∧ (∃ (s : State), (s.joining .a = false ∨ s.link.joinWait ≠ 0 ∨ s.link.joinSent.isSome = true)) := by
  exact ⟨⟨node, .a, 5, by decide +kernel, by decide +kernel, by decide +kernel, by decide +kernel⟩,
    ⟨boss, .a, by decide +kernel, by decide +kernel⟩,
    ⟨up, .a, by decide +kernel⟩,
    ⟨{ node with link.reRange := some 5 }, .a, 5, by decide +kernel, by decide +kernel⟩,
    ⟨{ wrs [(F.LINE_ADDR.addr, 0)] node with link.reRange := some 1000 }, 0, by decide +kernel, by decide +kernel, by decide +kernel, by decide +kernel, by decide +kernel, by decide +kernel⟩,
    ⟨lost, by decide +kernel⟩,
    ⟨{ node with link.rangeReply := some 1 }, .a, 5, 1, by decide +kernel, by decide +kernel, by decide +kernel, by decide +kernel, by decide +kernel, by decide +kernel, by decide +kernel⟩,
    ⟨{ node with link.urgent := [⟨9, 0x34, [], none, none, 0, .none, 999⟩] }, .a, 5, ⟨9, 0x34, [], none, none, 0, .none, 999⟩, by decide +kernel, by decide +kernel, by decide +kernel, by decide +kernel, by decide +kernel, by decide +kernel, by decide +kernel, by decide +kernel⟩,
    ⟨node, .a, by decide +kernel, by decide +kernel⟩,
    ⟨up, .a, by decide +kernel⟩,
    ⟨{ node with link.held := [lease 63 1 .ptt] }, .a, 63, 5, lease 63 1 .ptt, _, by decide +kernel, by decide +kernel, by decide +kernel, by decide +kernel, by decide +kernel, by decide +kernel, rfl⟩,
    ⟨node, .a, 0, by decide +kernel⟩,
    ⟨wrs [(F.LINE_LINK_STATUS.line_state, 1)] node, .a, by decide +kernel⟩,
    ⟨{ lost with link.joinWindow := 16 }, bcn 1000 5, 0x3FF, _, by decide +kernel, by decide +kernel, by decide +kernel, by decide +kernel, by decide +kernel, by decide +kernel, by decide +kernel, by decide +kernel, by decide +kernel, rfl⟩,
    ⟨node, by decide +kernel⟩⟩

/-- Every hypothesis of `Obligations.NodesHearBurstsAndBells` is met: one state and operands for each set of them. -/
theorem witness_NodesHearBurstsAndBells :
    (∃ (s : State) (k : Fin 64) (b : SlotBurst) (x : RxSlot), s.hears b.port = true ∧ s.coreOn = true ∧ s.sendsIn b.port k.val = false ∧ b.trained = true ∧ b.crc.toNat = slotCrc s.lpc k.val b.header b.payload ∧ x = parseSlot b.port b.header b.payload ∧ x.format < 5 ∧ s.mixPort = b.port)
    ∧ (∃ (s : State) (k : Fin 64) (b : SlotBurst), s.hears b.port = true ∧ s.coreOn = true ∧ s.sendsIn b.port k.val = false ∧ b.trained = true ∧ b.crc.toNat = slotCrc s.lpc k.val b.header b.payload ∧ 5 ≤ (parseSlot b.port b.header b.payload).format)
    ∧ (∃ (s : State) (k : Fin 64) (b : SlotBurst), s.hears b.port = true ∧ s.coreOn = true ∧ s.sendsIn b.port k.val = false ∧ b.trained = true ∧ b.crc.toNat ≠ slotCrc s.lpc k.val b.header b.payload)
    ∧ (∃ (s : State) (k : Fin 64) (b : SlotBurst), (b.trained = false ∨ s.sendsIn b.port k.val = true))
    ∧ (∃ (s : State) (o : BellObs), s.hears .a = true ∧ s.mastering .a = false ∧ s.addr .a = some o.position.val ∧ s.ringsOwn .a = false ∧ s.rung .a o = true ∧ s.pwr.state = 2)
    ∧ (∃ (s : State) (o : BellObs), s.hears .a = true ∧ s.mastering .a = false ∧ s.addr .a = some o.position.val ∧ s.ringsOwn .a = false ∧ s.rung .a o = true ∧ s.pwr.state = 3 ∧ o.pair.val ≠ 1)
    ∧ (∃ (s : State) (o : BellObs), (s.rung .a o = false ∨ s.addr .a ≠ some o.position.val ∨ s.pwr.state < 2))
    ∧ (∃ (s u v : State) (p : Port) (os : List BellObs), s.mastering p = true ∧ s.hears p = true ∧ s.ccLink = true ∧ s.lineState p = 0 ∧ u = { s with plt := { s.plt with sym := max s.plt.sym 1024 } } ∧ v = ((List.range 128).filter (fun a => (u.ringers p os 0).contains a || (u.ringers p os 1).contains a || (u.ringers p os 2).contains a)).foldl (fun t a => t.bellFrom p a) u ∧ (u.ringers p os 1).isEmpty = true ∧ (u.ringers p os 2).isEmpty = true ∧ ((v.ownRequests p).dueRepeats p).lineState p = 0)
    ∧ (∃ (s : State) (p : Port), s.mastering p = false)
    ∧ (∃ (s : State) (j : JoinBurst) (b : Beacon) (uid : Uid), s.mastering j.port = true ∧ s.hears j.port = true ∧ s.ccLink = true ∧ (s.mst j.port).last = some b ∧ b.joinOpen = true ∧ b.cycle = s.lpc ∧ j.arrival ≤ 704 ∧ beAt j.body 8 2 = joinCrc s.lpc j.body ∧ uid = BitVec.ofNat 48 (beAt j.body 0 6) ∧ uid ≠ s.dev.uid)
    ∧ (∃ (s : State) (j : JoinBurst) (b : Beacon), s.mastering j.port = true ∧ s.hears j.port = true ∧ s.ccLink = true ∧ (s.mst j.port).last = some b ∧ b.joinOpen = true ∧ b.cycle = s.lpc ∧ j.arrival ≤ 704 ∧ beAt j.body 8 2 ≠ joinCrc s.lpc j.body)
    ∧ (∃ (s : State) (j : JoinBurst), (s.mastering j.port = false ∨ 704 < j.arrival ∨ (s.mst j.port).last = none)) := by
  exact ⟨⟨node, 63, slotBurst node 63 0x12000400, _, by decide +kernel, by decide +kernel, by decide +kernel, by decide +kernel, by decide +kernel, rfl, by decide +kernel, by decide +kernel⟩,
    ⟨node, 0, slotBurst node 0 0x12000500, by decide +kernel, by decide +kernel, by decide +kernel, by decide +kernel, by decide +kernel, by decide +kernel⟩,
    ⟨node, 0, { slotBurst node 0 0x12000000 with crc := (slotBurst node 0 0x12000000).crc + 1 }, by decide +kernel, by decide +kernel, by decide +kernel, by decide +kernel, by decide +kernel⟩,
    ⟨node, 0, { slotBurst node 0 0 with trained := false }, by decide +kernel⟩,
    ⟨{ node with pwr.state := 2 }, ⟨5, 0, 101, 400⟩, by decide +kernel, by decide +kernel, by decide +kernel, by decide +kernel, by decide +kernel, by decide +kernel⟩,
    ⟨{ node with pwr.state := 3, phy.watch := some 1000 }, ⟨5, 2, 101, 400⟩, by decide +kernel, by decide +kernel, by decide +kernel, by decide +kernel, by decide +kernel, by decide +kernel, by decide +kernel⟩,
    ⟨node, ⟨5, 0, 100, 400⟩, by decide +kernel⟩,
    ⟨boss, _, _, .a, [], by decide +kernel, by decide +kernel, by decide +kernel, by decide +kernel, rfl, rfl, by decide +kernel, by decide +kernel, by decide +kernel⟩,
    ⟨node, .a, by decide +kernel⟩,
    ⟨boss, joinBurst boss true, bcn 1000 5, 0x3B07C14E0123, by decide +kernel, by decide +kernel, by decide +kernel, by decide +kernel, by decide +kernel, by decide +kernel, by decide +kernel, by decide +kernel, by decide +kernel, by decide +kernel⟩,
    ⟨boss, joinBurst boss false, bcn 1000 5, by decide +kernel, by decide +kernel, by decide +kernel, by decide +kernel, by decide +kernel, by decide +kernel, by decide +kernel, by decide +kernel⟩,
    ⟨node, joinBurst node true, by decide +kernel⟩⟩

/-- Every hypothesis of `Obligations.StackPartsExchangeHeadersAndWindows` is met: one state and operands for each set of them. -/
theorem witness_StackPartsExchangeHeadersAndWindows :
    (∃ (s : State) (bytes : List Byte), s.stackOn = true ∧ s.rf F.STK_CTL.member_id ≠ 0 ∧ stackCrcOk bytes 60 = true)
    ∧ (∃ (s : State) (bytes : List Byte), (s.stackOn = false ∨ s.rf F.STK_CTL.member_id = 0 ∨ stackCrcOk bytes 60 = false))
    ∧ (∃ (s u : State) (n : Fin 4) (bytes : List Byte), s.stackOn = true ∧ s.rf F.STK_CTL.member_id = 0 ∧ n.val ≠ 0 ∧ stackCrcOk bytes 1916 = true ∧ u = (s.setBit F.STK_STATUS.present n.val).setBit F.STK_STATUS.present 0)
    ∧ (∃ (s : State) (n : Fin 4) (bytes : List Byte), s.stackOn = true ∧ s.rf F.STK_CTL.member_id = 0 ∧ n.val ≠ 0 ∧ stackCrcOk bytes 1916 = false ∧ s.stack.crcRun.getD n.val 0 < 2)
    ∧ (∃ (s u : State) (n : Fin 4) (bytes : List Byte), s.stackOn = true ∧ s.rf F.STK_CTL.member_id = 0 ∧ n.val ≠ 0 ∧ stackCrcOk bytes 1916 = false ∧ s.stack.crcRun.getD n.val 0 = 2 ∧ u = s.bump F.STK_STATUS.window_crc)
    ∧ (∃ (s : State), (s.stackOn = false ∨ s.rf F.STK_CTL.member_id ≠ 0)) := by
  exact ⟨⟨stacked 3, stackBytes 60, by decide +kernel, by decide +kernel, by decide +kernel⟩,
    ⟨up, [], by decide +kernel⟩,
    ⟨stacked 0, _, 3, stackBytes 1916, by decide +kernel, by decide +kernel, by decide +kernel, by decide +kernel, rfl⟩,
    ⟨{ stacked 0 with stack.crcRun := [0, 0, 0, 1] }, 3, [], by decide +kernel, by decide +kernel, by decide +kernel, by decide +kernel, by decide +kernel⟩,
    ⟨{ stacked 0 with stack.crcRun := [0, 0, 0, 2] }, _, 3, [], by decide +kernel, by decide +kernel, by decide +kernel, by decide +kernel, by decide +kernel, rfl⟩,
    ⟨up, by decide +kernel⟩⟩

/-- Every hypothesis of `Obligations.LedgerFramesAreChecked` is met: one state and operands for each set of them. -/
theorem witness_LedgerFramesAreChecked :
    (∃ (s : State) (f : LedgerFrame) (n : Nat) (c : Instr), c ∈ ledgerCommands f n ∧ s.hears f.port = false)
    ∧ (∃ (s : State) (f : LedgerFrame) (n : Nat) (c : Instr), c ∈ ledgerCommands f n ∧ 3 ≤ s.pwr.state)
    ∧ (∃ (s : State) (f : LedgerFrame) (n : Nat) (c : Instr), c ∈ ledgerCommands f n ∧ s.hears f.port = true ∧ s.pwr.state < 3 ∧ 160 < f.length.toNat)
    ∧ (∃ (s : State) (f : LedgerFrame) (n : Nat) (c : Instr), c ∈ ledgerCommands f n ∧ s.hears f.port = true ∧ s.pwr.state < 3 ∧ f.length.toNat ≤ 160 ∧ s.frameCrcOk f = false)
    ∧ (∃ (s : State) (f : LedgerFrame) (n : Nat) (c : Instr), c ∈ ledgerCommands f n ∧ s.hears f.port = true ∧ s.pwr.state < 3 ∧ f.length.toNat ≤ 160 ∧ s.frameCrcOk f = true ∧ s.ccLink = true ∧ f.typ.toNat ≠ tyRangeReply ∧ (s.checkedFrame f).forMe f.port f.destination = false ∧ s.mastering f.port = false)
    ∧ (∃ (s : State) (f : LedgerFrame), s.hears f.port = true ∧ s.pwr.state < 2 ∧ f.length.toNat ≤ 160 ∧ s.frameCrcOk f = true ∧ s.ccLink = true ∧ f.typ.toNat = tyMonitor ∧ lengthOk tyMonitor f.payload = true ∧ f.length.toNat = f.payload.length ∧ (s.checkedFrame f).forMe f.port f.destination = false ∧ s.addr f.port ≠ some f.destination.toNat ∧ f.destination.toNat < 0x80 ∧ s.mastering f.port = true ∧ f.flags.getLsbD 0 = false)
    ∧ (∃ (s : State) (f : LedgerFrame) (n : Nat) (c : Instr), c ∈ ledgerCommands f n ∧ s.hears f.port = true ∧ s.pwr.state < 3 ∧ f.length.toNat ≤ 160 ∧ s.frameCrcOk f = true ∧ s.ccLink = true ∧ f.typ.toNat ≠ tyRangeReply ∧ (s.checkedFrame f).forMe f.port f.destination = true ∧ lengthOk f.typ.toNat f.payload = false)
    ∧ (∃ (s : State) (f : LedgerFrame) (n : Nat) (c : Instr), c ∈ ledgerCommands f n ∧ s.hears f.port = true ∧ s.pwr.state < 3 ∧ f.length.toNat ≤ 160 ∧ s.frameCrcOk f = true ∧ s.ccLink = true ∧ f.typ.toNat ≠ tyRangeReply ∧ (s.checkedFrame f).forMe f.port f.destination = true ∧ lengthOk f.typ.toNat f.payload = true ∧ f.length.toNat = f.payload.length ∧ (s.checkedFrame f).isDup f.port (f.source.toNat % 128) f.sequence = true) := by
  exact ⟨⟨inS 4, frame node 1 5 tyTime 0 (List.replicate 16 0), 0, .time (frame node 1 5 tyTime 0 (List.replicate 16 0)), by decide +kernel, by decide +kernel⟩,
    ⟨{ node with pwr.state := 3 }, frame node 1 5 tyTime 0 (List.replicate 16 0), 0, .time (frame node 1 5 tyTime 0 (List.replicate 16 0)), by decide +kernel, by decide +kernel⟩,
    ⟨node, { frame node 1 5 tyTime 0 (List.replicate 16 0) with length := 161 }, 0, .time ({ frame node 1 5 tyTime 0 (List.replicate 16 0) with length := 161 }), by decide +kernel, by decide +kernel, by decide +kernel, by decide +kernel⟩,
    ⟨node, { frame node 1 5 tyTime 0 (List.replicate 16 0) with crc := 0 }, 0, .time ({ frame node 1 5 tyTime 0 (List.replicate 16 0) with crc := 0 }), by decide +kernel, by decide +kernel, by decide +kernel, by decide +kernel, by decide +kernel⟩,
    ⟨node, frame node 1 6 tyTime 0 (List.replicate 16 0), 0, .time (frame node 1 6 tyTime 0 (List.replicate 16 0)), by decide +kernel, by decide +kernel, by decide +kernel, by decide +kernel, by decide +kernel, by decide +kernel, by decide +kernel, by decide +kernel, by decide +kernel⟩,
    ⟨boss, frame boss 1 9 tyMonitor 0 [0, 1, 0, 0], by decide +kernel, by decide +kernel, by decide +kernel, by decide +kernel, by decide +kernel, by decide +kernel, by decide +kernel, by decide +kernel, by decide +kernel, by decide +kernel, by decide +kernel, by decide +kernel, by decide +kernel⟩,
    ⟨node, frame node 1 5 tyTime 0 (List.replicate 15 0), 0, .time (frame node 1 5 tyTime 0 (List.replicate 15 0)), by decide +kernel, by decide +kernel, by decide +kernel, by decide +kernel, by decide +kernel, by decide +kernel, by decide +kernel, by decide +kernel, by decide +kernel⟩,
    ⟨{ node with link.recent := [(1, 40, 936)] }, frame node 1 5 tyTime 0 (List.replicate 16 0), 0, .time (frame node 1 5 tyTime 0 (List.replicate 16 0)), by decide +kernel, by decide +kernel, by decide +kernel, by decide +kernel, by decide +kernel, by decide +kernel, by decide +kernel, by decide +kernel, by decide +kernel, by decide +kernel, by decide +kernel⟩⟩

/-- Every hypothesis of `Obligations.LedgerMessagesTakeEffect` is met: one state and operands for each set of them. -/
theorem witness_LedgerMessagesTakeEffect :
    (∃ (s u : State) (f : LedgerFrame), Accepted s f tyAddressAssign u ∧ beAt f.payload 0 6 = u.dev.uid.toNat ∧ byteAt f.payload 8 = 0 ∧ (u.lnk f.port).nonce = some (BitVec.ofNat 16 (beAt f.payload 6 2)))
    ∧ (∃ (s u : State) (f : LedgerFrame), Accepted s f tyAddressAssign u ∧ beAt f.payload 0 6 = u.dev.uid.toNat ∧ byteAt f.payload 8 = 1 ∧ (u.addr f.port).isSome = true)
    ∧ (∃ (s u : State) (f : LedgerFrame), Accepted s f tyAddressAssign u ∧ beAt f.payload 0 6 = u.dev.uid.toNat ∧ byteAt f.payload 8 = 3 ∧ (u.addr f.port).isSome = true)
    ∧ (∃ (s u : State) (f : LedgerFrame), Accepted s f tyAddressAssign u ∧ beAt f.payload 0 6 ≠ u.dev.uid.toNat)
    ∧ (∃ (s u : State) (f : LedgerFrame), Accepted s f tyRangePoll u ∧ beAt f.payload 0 6 = u.dev.uid.toNat ∧ (u.addr f.port).isSome = true)
    ∧ (∃ (s u : State) (f : LedgerFrame) (r : MasterRow), Accepted s f tyRangeReply u ∧ (u.mst f.port).rowOf (f.source.toNat % 128) = some r ∧ u.mastering f.port = true ∧ beAt f.payload 0 6 = r.row.uid.toNat)
    ∧ (∃ (s u : State) (f : LedgerFrame), Accepted s f tyRangeReply u ∧ u.mastering f.port = false)
    ∧ (∃ (s u : State) (f : LedgerFrame) (q : MReq), Accepted s f tyLeaseReq u ∧ u.fromMember f = true ∧ byteAt f.payload 0 = 0 ∧ byteAt f.payload 1 ≤ 63 ∧ (byteAt f.payload 2 = 1 ∨ byteAt f.payload 2 = 2) ∧ byteAt f.payload 3 ≤ 3 ∧ byteAt f.payload 4 ≤ 2 ∧ q = { addr := f.source.toNat % 128, group := byteAt f.payload 1, format := byteAt f.payload 2, prec := byteAt f.payload 3, catchup := byteAt f.payload 4, reqId := BitVec.ofNat 16 (beAt f.payload 6 2) } ∧ (u.mst f.port).queue.find? (fun x => decide (x.addr = q.addr) && decide (x.reqId = q.reqId)) = none)
    ∧ (∃ (s u : State) (f : LedgerFrame), Accepted s f tyLeaseReq u ∧ u.fromMember f = false)
    ∧ (∃ (s u : State) (f : LedgerFrame), Accepted s f tyLeaseGrant u ∧ u.mastering f.port = false)
    ∧ (∃ (s u : State) (f : LedgerFrame) (ks : List Nat), Accepted s f tyLeaseRelease u ∧ u.fromMember f = true ∧ ks = (releasedSlots f.payload).filter (fun k => match (u.mst f.port).lease k with | some l => decide (l.holder = f.source.toNat % 128) | none => false) ∧ ks ≠ [])
    ∧ (∃ (s u : State) (f : LedgerFrame), Accepted s f tyLeaseRelease u ∧ u.fromMember f = false)
    ∧ (∃ (s u : State) (f : LedgerFrame), Accepted s f tyLeaseAudit u ∧ u.mastering f.port = false)
    ∧ (∃ (s u : State) (f : LedgerFrame) (x : CallIn), x = callOf f.port f.payload ∧ Accepted s f tyCall u ∧ u.mastering f.port = false ∧ u.wayOn = false ∧ u.seenCall x = false ∧ u.concerned x = true ∧ bitOf (byteAt f.payload 3) 3 = false)
    ∧ (∃ (s u : State) (f : LedgerFrame), Accepted s f tyCall u ∧ u.mastering f.port = false ∧ u.seenCall (callOf f.port f.payload) = true)
    ∧ (∃ (s u : State) (f : LedgerFrame) (r : Nat) (c : CallRec), Accepted s f tyCallAck u ∧ u.mastering f.port = false ∧ u.wayOn = false ∧ u.ackedRec f.port f.payload = some r ∧ u.callRec r = some c ∧ c.acked = false ∧ byteAt f.payload 4 = 0)
    ∧ (∃ (s u : State) (f : LedgerFrame), Accepted s f tyRoster u ∧ u.mastering f.port = false)
    ∧ (∃ (s u : State) (f : LedgerFrame), Accepted s f tyCheckpoint u ∧ u.isRearguard = true ∧ f.port = .a ∧ byteAt f.payload 4 = 0 ∧ byteAt f.payload 5 ≠ 1)
    ∧ (∃ (s u : State) (f : LedgerFrame) (x : Fill), Accepted s f tyCheckpoint u ∧ u.isRearguard = true ∧ f.port = .a ∧ u.rear.fill = some x ∧ byteAt f.payload 4 ≠ 0 ∧ x.number = BitVec.ofNat 32 (beAt f.payload 0 4) ∧ x.next = byteAt f.payload 4 ∧ byteAt f.payload 4 + 1 = x.count)
    ∧ (∃ (s u : State) (f : LedgerFrame), Accepted s f tyCheckpoint u ∧ u.isRearguard = false)
    ∧ (∃ (s u : State) (f : LedgerFrame), Accepted s f tyTime u ∧ u.on F.PWR_CTL.rtc_from_line = true ∧ bitOf (beAt f.payload 14 2) 0 = true)
    ∧ (∃ (s u : State) (f : LedgerFrame), Accepted s f tyTime u ∧ u.on F.PWR_CTL.rtc_from_line = false)
    ∧ (∃ (s u : State) (f : LedgerFrame), Accepted s f tyPowerDirective u ∧ u.mastering f.port = false ∧ byteAt f.payload 0 = 0)
    ∧ (∃ (s u : State) (f : LedgerFrame), Accepted s f tyPowerDirective u ∧ u.mastering f.port = false ∧ byteAt f.payload 0 = 1 ∧ u.addr f.port = some (byteAt f.payload 1))
    ∧ (∃ (s u : State) (f : LedgerFrame) (r : MasterRow), Accepted s f tyNodeStatus u ∧ u.mastering f.port = true ∧ (u.mst f.port).rowOf (f.source.toNat % 128) = some r)
    ∧ (∃ (s u : State) (f : LedgerFrame), Accepted s f tyNodeStatus u ∧ u.mastering f.port = false)
    ∧ (∃ (s u : State) (f : LedgerFrame), Accepted s f tyMonitor u ∧ (bitOf (byteAt f.payload 1) 0 = true ∨ f.destination.toNat < 0x80))
    ∧ (∃ (s u : State) (f : LedgerFrame), Accepted s f tyMonitor u ∧ bitOf (byteAt f.payload 1) 0 = false ∧ 0x80 ≤ f.destination.toNat)
    ∧ (∃ (s u : State) (f : LedgerFrame), Accepted s f tyGroupPush u ∧ u.on F.MIX_PUSH_CTL.accept = true ∧ u.rf F.MIX_PUSH_CTL.min_prec ≤ byteAt f.payload 1 ∧ byteAt f.payload 0 ≤ 2 ∧ (beAt f.payload 2 2 = 0 ∨ beAt f.payload 2 2 = u.rf F.MIX_ROOM.room_id))
    ∧ (∃ (s u : State) (f : LedgerFrame), Accepted s f tyGroupPush u ∧ u.on F.MIX_PUSH_CTL.accept = false) := by
  exact ⟨⟨{ lost with link.nonce := some 7 }, _, frame ({ lost with link.nonce := some 7 }) 1 0xFF tyAddressAssign 0 (toBe 6 node.dev.uid.toNat ++ toBe 2 7 ++ [BitVec.ofNat 8 0, 5] ++ List.replicate 4 0), accepted (by decide +kernel), by decide +kernel, by decide +kernel, by decide +kernel⟩,
    ⟨node, _, frame node 1 5 tyAddressAssign 0 (toBe 6 node.dev.uid.toNat ++ toBe 2 7 ++ [BitVec.ofNat 8 1, 5] ++ List.replicate 4 0), accepted (by decide +kernel), by decide +kernel, by decide +kernel, by decide +kernel⟩,
    ⟨node, _, frame node 1 5 tyAddressAssign 0 (toBe 6 node.dev.uid.toNat ++ toBe 2 7 ++ [BitVec.ofNat 8 3, 5] ++ List.replicate 4 0), accepted (by decide +kernel), by decide +kernel, by decide +kernel, by decide +kernel⟩,
    ⟨node, _, frame node 1 5 tyAddressAssign 0 (List.replicate 14 0), accepted (by decide +kernel), by decide +kernel⟩,
    ⟨node, _, frame node 1 5 tyRangePoll 0 (toBe 6 node.dev.uid.toNat ++ [0, 0]), accepted (by decide +kernel), by decide +kernel, by decide +kernel⟩,
    ⟨boss, _, frame boss 9 5 tyRangeReply 0 (toBe 6 0x3B0700000009 ++ List.replicate 154 0), mrow 9, accepted (by decide +kernel), by decide +kernel, by decide +kernel, by decide +kernel⟩,
    ⟨node, _, frame node 1 5 tyRangeReply 0 (List.replicate 160 0), accepted (by decide +kernel), by decide +kernel⟩,
    ⟨boss, _, frame boss 9 5 tyLeaseReq 0 [0, 63, 2, 3, 2, 0, 0, 9], _, accepted (by decide +kernel), by decide +kernel, by decide +kernel, by decide +kernel, by decide +kernel, by decide +kernel, by decide +kernel, rfl, by decide +kernel⟩,
    ⟨node, _, frame node 1 5 tyLeaseReq 0 [0, 63, 2, 3, 2, 0, 0, 9], accepted (by decide +kernel), by decide +kernel⟩,
    ⟨node, _, frame node 1 0xFF tyLeaseGrant 0 (1 :: List.replicate 11 0), accepted (by decide +kernel), by decide +kernel⟩,
    ⟨{ boss with master := boss.master.setLease 63 (some (mlease 9 0 0)) }, _, frame ({ boss with master := boss.master.setLease 63 (some (mlease 9 0 0)) }) 9 5 tyLeaseRelease 0 (toBe 8 (2 ^ 63)), [63], accepted (by decide +kernel), by decide +kernel, by decide +kernel, by decide +kernel⟩,
    ⟨node, _, frame node 1 5 tyLeaseRelease 0 (toBe 8 1), accepted (by decide +kernel), by decide +kernel⟩,
    ⟨node, _, frame node 1 0xFF tyLeaseAudit 0 (List.replicate 132 0), accepted (by decide +kernel), by decide +kernel⟩,
    ⟨wrs [(F.MIX_LISTEN0.groups, 4)] node, _, frame (wrs [(F.MIX_LISTEN0.groups, 4)] node) 9 0xFF tyCall 0 ([0, 7, 9, 2, 2, 0xFF] ++ List.replicate 22 0), callOf .a ([0, 7, 9, 2, 2, 0xFF] ++ List.replicate 22 0), rfl, accepted (by decide +kernel), by decide +kernel, by decide +kernel, by decide +kernel, by decide +kernel, by decide +kernel⟩,
    ⟨{ node with link.callsSeen := [(9, 7)] }, _, frame ({ node with link.callsSeen := [(9, 7)] }) 1 0xFF tyCall 0 ([0, 7, 9, 2, 2, 0xFF] ++ List.replicate 22 0), accepted (by decide +kernel), by decide +kernel, by decide +kernel⟩,
    ⟨called 7 ({ rec0 .ringing with own := true }) node, _, frame (called 7 ({ rec0 .ringing with own := true }) node) 9 0xFF tyCallAck 0 [0, 7, 5, 9, 0, 0, 0, 0], 7, ({ rec0 .ringing with own := true }), accepted (by decide +kernel), by decide +kernel, by decide +kernel, by decide +kernel, by decide +kernel, by decide +kernel, by decide +kernel⟩,
    ⟨node, _, frame node 1 0xFF tyRoster 0 (List.replicate 8 0), accepted (by decide +kernel), by decide +kernel⟩,
    ⟨guard, _, frame guard 1 5 tyCheckpoint 0 ([0, 0, 0, 1, 0, 2, 0, 0] ++ List.replicate 152 0), accepted (by decide +kernel), by decide +kernel, by decide +kernel, by decide +kernel, by decide +kernel⟩,
    ⟨{ guard with rear.fill := some ⟨1, 1, 2, List.replicate 152 0⟩ }, _, frame ({ guard with rear.fill := some ⟨1, 1, 2, List.replicate 152 0⟩ }) 1 5 tyCheckpoint 0 ([0, 0, 0, 1, 1, 2, 0, 0] ++ List.replicate 20 0), ⟨1, 1, 2, List.replicate 152 0⟩, accepted (by decide +kernel), by decide +kernel, by decide +kernel, by decide +kernel, by decide +kernel, by decide +kernel, by decide +kernel, by decide +kernel⟩,
    ⟨node, _, frame node 1 5 tyCheckpoint 0 (List.replicate 8 0), accepted (by decide +kernel), by decide +kernel⟩,
    ⟨wrs [(F.PWR_CTL.rtc_from_line, 1)] node, _, frame (wrs [(F.PWR_CTL.rtc_from_line, 1)] node) 1 0xFF tyTime 0 (List.replicate 15 0 ++ [1]), accepted (by decide +kernel), by decide +kernel, by decide +kernel⟩,
    ⟨wrs [(F.PWR_CTL.rtc_from_line, 0)] node, _, frame (wrs [(F.PWR_CTL.rtc_from_line, 0)] node) 1 0xFF tyTime 0 (List.replicate 16 0), accepted (by decide +kernel), by decide +kernel⟩,
    ⟨node, _, frame node 1 0xFF tyPowerDirective 0 (List.replicate 8 0), accepted (by decide +kernel), by decide +kernel, by decide +kernel⟩,
    ⟨node, _, frame node 1 0xFF tyPowerDirective 0 [1, 5, 2, 0, 0, 0, 0, 0], accepted (by decide +kernel), by decide +kernel, by decide +kernel, by decide +kernel⟩,
    ⟨boss, _, frame boss 9 5 tyNodeStatus 0 (List.replicate 32 0), mrow 9, accepted (by decide +kernel), by decide +kernel, by decide +kernel⟩,
    ⟨node, _, frame node 1 5 tyNodeStatus 0 (List.replicate 32 0), accepted (by decide +kernel), by decide +kernel⟩,
    ⟨node, _, frame node 1 5 tyMonitor 0 [0, 1, 0, 0], accepted (by decide +kernel), by decide +kernel⟩,
    ⟨node, _, frame node 1 0xFF tyMonitor 0 [0, 0, 0, 0], accepted (by decide +kernel), by decide +kernel, by decide +kernel⟩,
    ⟨wrs [(F.MIX_PUSH_CTL.accept, 1)] node, _, frame (wrs [(F.MIX_PUSH_CTL.accept, 1)] node) 1 0xFF tyGroupPush 0 ([2, 3] ++ List.replicate 10 0), accepted (by decide +kernel), by decide +kernel, by decide +kernel, by decide +kernel, by decide +kernel⟩,
    ⟨wrs [(F.MIX_PUSH_CTL.accept, 0)] node, _, frame (wrs [(F.MIX_PUSH_CTL.accept, 0)] node) 1 0xFF tyGroupPush 0 (List.replicate 12 0), accepted (by decide +kernel), by decide +kernel⟩⟩

/-- Every hypothesis of `Obligations.MastersArbitrateLeases` is met: one state and operands for each set of them. -/
theorem witness_MastersArbitrateLeases :
    (∃ (s u : State) (f : LedgerFrame) (q : MReq), Accepted s f tyLeaseReq u ∧ u.fromMember f = true ∧ byteAt f.payload 0 = 0 ∧ byteAt f.payload 1 ≤ 63 ∧ (byteAt f.payload 2 = 1 ∨ byteAt f.payload 2 = 2) ∧ byteAt f.payload 3 ≤ 3 ∧ byteAt f.payload 4 ≤ 2 ∧ q = { addr := f.source.toNat % 128, group := byteAt f.payload 1, format := byteAt f.payload 2, prec := byteAt f.payload 3, catchup := byteAt f.payload 4, reqId := BitVec.ofNat 16 (beAt f.payload 6 2) } ∧ (u.mst f.port).queue.find? (fun x => decide (x.addr = q.addr) && decide (x.reqId = q.reqId)) = none)
    ∧ (∃ (m : Master) (q : MReq) (k : Nat), k < 64 ∧ m.lease k = none ∧ ((∀ j, j < k → m.lease j ≠ none)) ∧ q.format = 1 ∧ q.catchup = 0)
    ∧ (∃ (m : Master) (q : MReq) (k : Nat), k < 64 ∧ k % 2 = 0 ∧ m.lease k = none ∧ m.lease (k + 1) = none ∧ ((∀ j, j < k → j % 2 = 0 → m.lease j ≠ none ∨ m.lease (j + 1) ≠ none)) ∧ q.format = 2 ∧ q.catchup = 0)
    ∧ (∃ (m : Master) (q : MReq) (k : Nat), k < 64 ∧ m.lease k = none ∧ ((∀ j, j < k → m.lease j ≠ none)) ∧ ((∀ j, j < 64 → j % 2 = 0 → m.lease j ≠ none ∨ m.lease (j + 1) ≠ none)) ∧ q.format = 2 ∧ q.catchup = 0)
    ∧ (∃ (m : Master) (q : MReq) (k : Nat) (l : MLease), ((∀ j, j < 64 → m.lease j ≠ none)) ∧ q.prec = 3 ∧ k < 64 ∧ m.lease k = some l ∧ l.prec = 0 ∧ ((∀ j x, j < 64 → j ≠ k → m.lease j = some x → x.prec = 0 → x.stamp < l.stamp)))
    ∧ (∃ (m : Master) (q : MReq) (w : List MReq), ((∀ j, j < 64 → m.lease j ≠ none)) ∧ (q.prec ≠ 3 ∨ (∀ j x, j < 64 → m.lease j = some x → x.prec ≠ 0)) ∧ m.queue.length < 32 ∧ w = m.queue.takeWhile (fun x => decide (q.prec ≤ x.prec)) ++ q :: m.queue.dropWhile (fun x => decide (q.prec ≤ x.prec)))
    ∧ (∃ (m : Master) (q : MReq) (ks : List MReq) (x : MReq), ((∀ j, j < 64 → m.lease j ≠ none)) ∧ q.prec ≠ 3 ∧ 32 ≤ m.queue.length ∧ m.queue = ks ++ [x] ∧ q.prec ≤ x.prec) := by
  exact ⟨⟨boss, _, frame boss 9 5 tyLeaseReq 0 [0, 63, 2, 3, 2, 0, 0, 9], _, accepted (by decide +kernel), by decide +kernel, by decide +kernel, by decide +kernel, by decide +kernel, by decide +kernel, by decide +kernel, rfl, by decide +kernel⟩,
    ⟨leasedMaster (List.range 63), mrq 1 0, 63, by decide +kernel, by decide +kernel, by decide +kernel, by decide +kernel, by decide +kernel⟩,
    ⟨leasedMaster (List.range 61), mrq 2 0, 62, by decide +kernel, by decide +kernel, by decide +kernel, by decide +kernel, by decide +kernel, by decide +kernel, by decide +kernel⟩,
    ⟨leasedMaster ((List.range 32).map (fun i => 2 * i + 1)), mrq 2 0, 0, by decide +kernel, by decide +kernel, by decide +kernel, by decide +kernel, by decide +kernel, by decide +kernel⟩,
    ⟨fullMaster, mrq 1 3, 63, mlease 9 0 63, by decide +kernel, by decide +kernel, by decide +kernel, by decide +kernel, by decide +kernel, newest_of_full⟩,
    ⟨{ fullMaster with queue := List.replicate 31 (mrq 1 1) }, mrq 1 2, _, by decide +kernel, Or.inl (by decide), by decide +kernel, rfl⟩,
    ⟨{ fullMaster with queue := List.replicate 32 (mrq 1 1) }, mrq 1 1, List.replicate 31 (mrq 1 1), mrq 1 1, by decide +kernel, by decide +kernel, by decide +kernel, by decide +kernel, by decide +kernel⟩⟩

/-- Every hypothesis of `Obligations.EveryCommandKeepsTheBlockSound` is met: one state and operands for each set of them. -/
theorem witness_EveryCommandKeepsTheBlockSound :
    (∃ (s t : State), s.Canon ∧ step s = .next t)
    ∧ (∃ (s t : State) (c : Instr) (q : List Instr), s.pending = c :: q ∧ step s = .next t) := by
  exact ⟨⟨up, up.tick, ⟨by decide +kernel, by decide +kernel, by decide +kernel, by decide +kernel, by decide +kernel⟩, rfl⟩,
    ⟨{ up with p57.phase := .off, pending := [.p57InputRise] }, { up with p57.phase := .inrush }, .p57InputRise, [], by decide +kernel, rfl⟩⟩

/-- Every hypothesis of `Obligations.ResetLeavesTheTableValues` is met: one state and operands for each set of them. -/
theorem witness_ResetLeavesTheTableValues :
    (∃ (i : Nat), i < 16) := by
  exact ⟨15, by decide +kernel⟩

end Sys2Proof.Tests
end

/-! ## The master's lease table as a request finds it

The lowest free slot and pair (R122), the routine lease granted last (R125), the place in the queue (R124), and what `Master.answer` makes of
each. -/

namespace Sys2Proof.Proofs

open Sys2Proof.Machine

/-! ### Free slots -/

theorem head_freeList {m : Master} {k : Nat} (hk : k < 64) (hfree : m.lease k = none) (hlow : ∀ j, j < k → m.lease j ≠ none) :
    m.freeList.head? = some k := by
  rw [Master.freeList, List.head?_filter, List.find?_range_eq_some]
  exact ⟨by simp [hfree], by simpa using hk, fun j hj => by simpa [Option.isSome_iff_ne_none] using hlow j hj⟩

theorem freeList_of_full {m : Master} (hfull : ∀ j, j < 64 → m.lease j ≠ none) : m.freeList = [] := by
  rw [Master.freeList, List.filter_eq_nil_iff]
  intro j hj
  simpa using hfull j (List.mem_range.1 hj)

/-- The lowest free pair is a search over all slots. -/
theorem freePair_eq_find (m : Master) : m.freePair =
    (List.range 64).find? (fun k => decide (m.lease k = none ∧ k % 2 = 0 ∧ m.lease (k + 1) = none)) := by
  rw [Master.freePair, Master.freeList, List.find?_filter, List.find?_filter]
  refine congrArg (List.find? · _) (funext fun k => ?_)
  rw [Bool.eq_iff_iff]
  simp

theorem freePair_of_lowest {m : Master} {k : Nat} (hk : k < 64) (heven : k % 2 = 0) (hfree : m.lease k = none) (hnext : m.lease (k + 1) = none)
    (hlow : ∀ j, j < k → j % 2 = 0 → m.lease j ≠ none ∨ m.lease (j + 1) ≠ none) : m.freePair = some k := by
  rw [freePair_eq_find, List.find?_range_eq_some]
  refine ⟨by simp [hfree, hnext, heven], by simpa using hk, fun j hj => ?_⟩
  simp only [Bool.not_eq_true', decide_eq_false_iff_not]
  exact fun ⟨hfirst, hpair, hsecond⟩ => (hlow j hj hpair).elim (· hfirst) (· hsecond)

theorem freePair_of_none {m : Master} (h : ∀ j, j < 64 → j % 2 = 0 → m.lease j ≠ none ∨ m.lease (j + 1) ≠ none) : m.freePair = none := by
  rw [freePair_eq_find, List.find?_eq_none]
  intro j hj
  simp only [decide_eq_true_eq]
  exact fun ⟨hfirst, hpair, hsecond⟩ => (h j (List.mem_range.1 hj) hpair).elim (· hfirst) (· hsecond)

theorem liveSlots_single {m : Master} {k n : Nat} (hhead : m.freeList.head? = some k) (hpair : n ≠ 2 ∨ m.freePair = none) :
    m.liveSlots n = [(k, 1)] := by
  obtain ⟨l, hl⟩ := List.head?_eq_some_iff.1 hhead
  rcases hpair with hn | hnone
  · simp [Master.liveSlots, hl, hn]
  · simp [Master.liveSlots, hl, hnone]

theorem liveSlots_pair {m : Master} {k : Nat} (h : m.freePair = some k) : m.liveSlots 2 = [(k, 2), (k + 1, 3)] := by
  simp [Master.liveSlots, h]

theorem liveSlots_of_full {m : Master} (hfull : ∀ j, j < 64 → m.lease j ≠ none) (n : Nat) : m.liveSlots n = [] := by
  have hpair : m.freePair = none := freePair_of_none (fun j hj _ => .inl (hfull j hj))
  simp [Master.liveSlots, freeList_of_full hfull, hpair]

/-! ### The routine lease granted last (R125) -/

/-- The better victim of `best` and slot `k`: one step of the search in `Master.victim`. -/
def laterVictim (m : Master) (best : Option (Nat × MLease)) (k : Nat) : Option (Nat × MLease) :=
  match m.lease k with
  | some l => if l.prec = 0 then (match best with
      | some (_, b) => if b.stamp < l.stamp then some (k, l) else best
      | none => some (k, l)) else best
  | none => best

theorem victim_eq_foldl (m : Master) : m.victim = (List.range 64).foldl (laterVictim m) none := rfl

theorem laterVictim_skips {m : Master} {k : Nat} (best : Option (Nat × MLease)) (h : ∀ x, m.lease k = some x → x.prec ≠ 0) :
    laterVictim m best k = best := by
  unfold laterVictim
  split
  · next l hl => rw [if_neg (h l hl)]
  · rfl

theorem laterVictim_takes {m : Master} {best : Option (Nat × MLease)} {k : Nat} {l : MLease} (hl : m.lease k = some l) (hp : l.prec = 0)
    (hold : ∀ b ∈ best, b.2.stamp < l.stamp) : laterVictim m best k = some (k, l) := by
  cases best with
  | none => simp [laterVictim, hl, hp]
  | some b => simp [laterVictim, hl, hp, hold b rfl]

/-- A victim at least as late as slot `k`'s lease stays. -/
theorem laterVictim_keeps {m : Master} {k : Nat} {b : Nat × MLease} (h : ∀ x, m.lease k = some x → x.prec = 0 → x.stamp ≤ b.2.stamp) :
    laterVictim m (some b) k = some b := by
  cases hl : m.lease k with
  | none => simp [laterVictim, hl]
  | some x =>
    have hx : x.prec = 0 → ¬ b.2.stamp < x.stamp := fun hp => Nat.not_lt.2 (h x hl hp)
    simp +contextual [laterVictim, hl, hx]

theorem foldl_laterVictim_keeps {m : Master} {b : Nat × MLease} (ks : List Nat)
    (h : ∀ j ∈ ks, ∀ x, m.lease j = some x → x.prec = 0 → x.stamp ≤ b.2.stamp) : ks.foldl (laterVictim m) (some b) = some b := by
  induction ks with
  | nil => rfl
  | cons j ks ih =>
    rw [List.foldl_cons, laterVictim_keeps (h j List.mem_cons_self)]
    exact ih (fun i hi => h i (List.mem_cons_of_mem j hi))

/-- A step past another slot leaves a victim that is older than the latest one. -/
theorem laterVictim_older {m : Master} {best : Option (Nat × MLease)} {j n : Nat} (hbest : ∀ b ∈ best, b.2.stamp < n)
    (hj : ∀ x, m.lease j = some x → x.prec = 0 → x.stamp < n) : ∀ b ∈ laterVictim m best j, b.2.stamp < n := by
  unfold laterVictim
  grind

theorem foldl_laterVictim_finds {m : Master} {k : Nat} {l : MLease} (hl : m.lease k = some l) (hp : l.prec = 0) (ks : List Nat)
    (hlast : ∀ j ∈ ks, j ≠ k → ∀ x, m.lease j = some x → x.prec = 0 → x.stamp < l.stamp) (hk : k ∈ ks) (best : Option (Nat × MLease))
    (hbest : ∀ b ∈ best, b.2.stamp < l.stamp) : ks.foldl (laterVictim m) best = some (k, l) := by
  induction ks generalizing best with
  | nil => cases hk
  | cons j ks ih =>
    have hrest : ∀ i ∈ ks, i ≠ k → ∀ x, m.lease i = some x → x.prec = 0 → x.stamp < l.stamp :=
      fun i hi => hlast i (List.mem_cons_of_mem j hi)
    rw [List.foldl_cons]
    by_cases hjk : j = k
    · subst hjk
      rw [laterVictim_takes hl hp hbest]
      refine foldl_laterVictim_keeps ks (fun i hi x hx hx0 => ?_)
      by_cases hij : i = j
      · have hxl : x = l := Option.some.inj (hx.symm.trans (hij ▸ hl))
        exact Nat.le_of_eq (congrArg MLease.stamp hxl)
      · exact Nat.le_of_lt (hrest i hi hij x hx hx0)
    · exact ih hrest ((List.mem_cons.1 hk).resolve_left (Ne.symm hjk)) _
        (laterVictim_older hbest (hlast j List.mem_cons_self hjk))

theorem victim_of_latest {m : Master} {k : Nat} {l : MLease} (hk : k < 64) (hl : m.lease k = some l) (hp : l.prec = 0)
    (hlast : ∀ j x, j < 64 → j ≠ k → m.lease j = some x → x.prec = 0 → x.stamp < l.stamp) : m.victim = some (k, l) := by
  rw [victim_eq_foldl]
  exact foldl_laterVictim_finds hl hp _ (fun j hj hjk x => hlast j x (List.mem_range.1 hj) hjk) (List.mem_range.2 hk) none (by simp)

theorem victim_of_no_routine {m : Master} (h : ∀ j x, j < 64 → m.lease j = some x → x.prec ≠ 0) : m.victim = none := by
  rw [victim_eq_foldl]
  exact List.foldlRecOn (motive := (· = none)) _ _ rfl
    (fun best hbest j hj => (laterVictim_skips best (fun x => h j x (List.mem_range.1 hj))).trans hbest)

/-! ### The queue (R124) -/

/-- A request stands behind those of its precedence and higher, and before those of lower ones. -/
theorem insertReq_eq (q : MReq) (l : List MReq) : insertReq q l =
    l.takeWhile (fun x => decide (q.prec ≤ x.prec)) ++ q :: l.dropWhile (fun x => decide (q.prec ≤ x.prec)) := by
  induction l with
  | nil => rfl
  | cons x xs ih =>
    by_cases hx : x.prec < q.prec
    · simp [insertReq, hx, Nat.not_le.2 hx]
    · simp [insertReq, hx, Nat.not_lt.1 hx, ih]

theorem enqueueReq_of_room {m : Master} (q : MReq) (hroom : m.queue.length < 32) : m.enqueueReq q =
    ({ m with queue := insertReq q m.queue },
      [⟨1, q.addr, 0xFF, q.group, q.prec, q.format, queuePos (insertReq q m.queue) q.addr q.reqId, q.reqId⟩]) := by
  simp [Master.enqueueReq, hroom]

/-- At a full queue whose last request ranks no lower, the new request is refused. -/
theorem enqueueReq_refused {m : Master} {q x : MReq} (hfull : 32 ≤ m.queue.length) (hlast : m.queue.getLast? = some x) (hx : q.prec ≤ x.prec) :
    m.enqueueReq q = (m, [⟨3, q.addr, 0xFF, q.group, q.prec, q.format, 0, q.reqId⟩]) := by
  simp [Master.enqueueReq, Nat.not_lt.2 hfull, hlast, Nat.not_lt.2 hx]

/-! ### Answers -/

/-- The free slots a request without catch-up gets are its live ones. -/
theorem grantFree_live (m : Master) (a group format prec : Nat) (id : Half) : m.grantFree a group format prec 0 id =
    ((m.liveSlots format).foldl (fun m x => m.grantSlot x.1 x.2 a group prec) m,
      (m.liveSlots format).map (fun x => ⟨0, a, x.1, group, prec, x.2, 0, id⟩)) := by
  simp [Master.grantFree]

theorem grantFree_of_full {m : Master} (hfull : ∀ j, j < 64 → m.lease j ≠ none) (a group format prec cu : Nat) (id : Half) :
    m.grantFree a group format prec cu id = (m, []) := by
  simp [Master.grantFree, liveSlots_of_full hfull]

/-- A request for which slots are free is granted them. -/
theorem answer_of_live {m : Master} {q : MReq} (hcu : q.catchup = 0) (hlive : m.liveSlots q.format ≠ []) : m.answer q =
    ((m.liveSlots q.format).foldl (fun m x => m.grantSlot x.1 x.2 q.addr q.group q.prec) m,
      (m.liveSlots q.format).map (fun x => ⟨0, q.addr, x.1, q.group, q.prec, x.2, 0, q.reqId⟩)) := by
  simp [Master.answer, hcu, grantFree_live, hlive]

theorem answer_single {m : Master} {q : MReq} {k : Nat} (hcu : q.catchup = 0) (hlive : m.liveSlots q.format = [(k, 1)]) :
    m.answer q = (m.grantSlot k 1 q.addr q.group q.prec, [⟨0, q.addr, k, q.group, q.prec, 1, 0, q.reqId⟩]) := by
  rw [answer_of_live hcu (by simp [hlive]), hlive]
  rfl

theorem answer_pair {m : Master} {q : MReq} {k : Nat} (hcu : q.catchup = 0) (hlive : m.liveSlots q.format = [(k, 2), (k + 1, 3)]) :
    m.answer q = ((m.grantSlot k 2 q.addr q.group q.prec).grantSlot (k + 1) 3 q.addr q.group q.prec,
      [⟨0, q.addr, k, q.group, q.prec, 2, 0, q.reqId⟩, ⟨0, q.addr, k + 1, q.group, q.prec, 3, 0, q.reqId⟩]) := by
  rw [answer_of_live hcu (by simp [hlive]), hlive]
  rfl

theorem answer_preempts {m : Master} {q : MReq} {k : Nat} {l : MLease} (hfull : ∀ j, j < 64 → m.lease j ≠ none) (hq : q.prec = 3)
    (hv : m.victim = some (k, l)) : m.answer q = ((m.setLease k none).grantSlot k 1 q.addr q.group q.prec,
      [⟨2, l.holder, k, l.group, l.prec, l.format, 0, 0⟩, ⟨0, q.addr, k, q.group, q.prec, 1, 0, q.reqId⟩]) := by
  simp [Master.answer, grantFree_of_full hfull, hq, hv]

/-- With every slot leased, a request that may not preempt goes to the queue. -/
theorem answer_enqueues {m : Master} {q : MReq} (hfull : ∀ j, j < 64 → m.lease j ≠ none) (hq : q.prec ≠ 3 ∨ m.victim = none) :
    m.answer q = m.enqueueReq q := by
  rcases hq with hq | hv
  · simp [Master.answer, grantFree_of_full hfull, hq]
  · simp [Master.answer, grantFree_of_full hfull, hv]

end Sys2Proof.Proofs

/-! ## Accepted ledger frames and LEASE_REQ

A ledger frame that is accepted has its message's effect on the state in which it takes effect (R75, R108, R109); the LEASE_REQ of a member becomes
the master's answer (R121). -/

namespace Sys2Proof.Proofs

open Sys2Proof.Machine Sys2Proof.Laws

theorem checkedFrame_pwr (s : State) (f : LedgerFrame) : (s.checkedFrame f).pwr = s.pwr :=
  ((frame_journalFrame _ f).eq_of .pwr rfl).trans ((frame_frameReceived s f).eq_of .pwr rfl)

/-- CC runs or not whatever a frame's checks do. -/
theorem frameReceived_ccLink (s : State) (f : LedgerFrame) : (s.frameReceived f).1.ccLink = s.ccLink := by
  have helem : (s.frameReceived f).1.elem 0 = s.elem 0 := by
    rw [State.elem, State.elem, (frame_frameReceived s f).eq_of .dbg rfl]
  have hcfg : (s.frameReceived f).1.cfg = s.cfg := (frame_frameReceived s f).eq_of .cfg rfl
  rw [State.ccLink, State.ccLink, State.halted, State.halted, helem, hcfg]

theorem frameReceived_ok {s : State} {f : LedgerFrame} (hlen : f.length.toNat ≤ 160) (hcrc : s.frameCrcOk f = true) :
    (s.frameReceived f).2 = true := by
  simp [State.frameReceived, Nat.not_lt.2 hlen, hcrc]

/-- Ending a wait for a bell changes nothing when none is under way. -/
theorem end_bellUntil_of_none {v : State} (h : v.pwr.bellUntil = none) (c : Bool) :
    (if c then { v with pwr := { v.pwr with bellUntil := none } } else v) = v := by
  split
  · rw [← h]
  · rfl

/-- A frame that is accepted has its effect on `u`. -/
theorem frame_of_accepted {s u : State} {f : LedgerFrame} {ty : Nat} (h : Accepted s f ty u) (wakes : State → Bool) (act : State → State) :
    s.frame f ty wakes act = act u := by
  obtain ⟨hears, awake, calm, run, short, crc, mine, sized, whole, typ, fresh, rfl⟩ := h
  have hok := frameReceived_ok short crc
  have hrun : (s.frameReceived f).1.ccLink = true := (frameReceived_ccLink s f).trans run
  have hdeep : ¬ 3 ≤ s.pwr.state := by omega
  have hawake : ¬ 2 ≤ (s.checkedFrame f).pwr.state := by rw [checkedFrame_pwr]; omega
  have hcalm : (s.checkedFrame f).pwr.bellUntil = none := by rw [checkedFrame_pwr]; exact calm
  have hbell := end_bellUntil_of_none hcalm
  unfold State.checkedFrame at mine fresh hawake hbell ⊢
  rw [typ] at sized
  simp only [State.frame, State.takenUp, hears, hok, hrun, mine, sized, whole, typ, fresh, hdeep, hawake, hbell,
    decide_false, Bool.not_true, Bool.or_false, Bool.false_and, Bool.false_eq_true, if_false, ne_eq, not_true_eq_false]

/-- A sound request in a LEASE_REQ is taken as a request of its source (Table 3-6). -/
theorem leaseReqFrom_request {s : State} {p : Port} {a : Nat} {d : List Byte} (hop : byteAt d 0 = 0) (hgroup : byteAt d 1 ≤ 63)
    (hformat : byteAt d 2 = 1 ∨ byteAt d 2 = 2) (hprec : byteAt d 3 ≤ 3) (hcu : byteAt d 4 ≤ 2) : s.leaseReqFrom p a d =
    s.request p { addr := a, group := byteAt d 1, format := byteAt d 2, prec := byteAt d 3, catchup := byteAt d 4,
                  reqId := BitVec.ofNat 16 (beAt d 6 2) } := by
  simp [State.leaseReqFrom, hop, hgroup, hformat, hprec, hcu]

theorem request_of_new {s : State} {p : Port} {q : MReq}
    (h : (s.mst p).queue.find? (fun x => decide (x.addr = q.addr) && decide (x.reqId = q.reqId)) = none) :
    s.request p q = s.leaseChange p (fun m => { m with idle := 0 }.answer q) := by
  rw [State.request, h]
  rfl

theorem exec_leaseReq_of_accepted {s u : State} {f : LedgerFrame} (h : Accepted s f tyLeaseReq u) (hmember : u.fromMember f = true) :
    exec (.leaseReq f) s = .next (u.leaseReqFrom f.port (f.source.toNat % 128) f.payload) := by
  show execLeaseReq f s = _
  rw [execLeaseReq, frame_of_accepted h, if_pos hmember]

/-- Settles O58: the answer to a request follows from the lowest free slot or pair, else the latest routine lease, else the queue. -/
theorem mastersArbitrateLeases : Obligations.MastersArbitrateLeases := by
  unfold Obligations.MastersArbitrateLeases
  refine ⟨?command, ?single, ?pair, ?noPair, ?preempt, ?queued, ?refused⟩
  case command =>
    intro s u f q hacc hmember hop hgroup hformat hprec hcu hq hnew
    subst hq
    rw [exec_leaseReq_of_accepted hacc hmember, leaseReqFrom_request hop hgroup hformat hprec hcu, request_of_new hnew]
  case single =>
    intro m q k hk hfree hlow hformat hcu
    exact answer_single hcu (liveSlots_single (head_freeList hk hfree hlow) (.inl (by simp [hformat])))
  case pair =>
    intro m q k hk heven hfree hnext hlow hformat hcu
    exact answer_pair hcu (hformat ▸ liveSlots_pair (freePair_of_lowest hk heven hfree hnext hlow))
  case noPair =>
    intro m q k hk hfree hlow hnone _ hcu
    exact answer_single hcu (liveSlots_single (head_freeList hk hfree hlow) (.inr (freePair_of_none hnone)))
  case preempt =>
    intro m q k l hfull hq hk hl hp hlast
    exact answer_preempts hfull hq (victim_of_latest hk hl hp hlast)
  case queued =>
    intro m q w hfull hq hroom hw
    rw [answer_enqueues hfull (hq.imp_right victim_of_no_routine), enqueueReq_of_room q hroom, insertReq_eq, ← hw]
  case refused =>
    intro m q ks x hfull hq hlen hks hx
    rw [answer_enqueues hfull (.inl hq), enqueueReq_refused hlen (by simp [hks]) hx]

end Sys2Proof.Proofs

/-! ## The horn and the Quiet line

What setting the line state leaves in it, the master's horn (R89, R141, R142), the horn another node hears (R143), and the way of an idle line into
Quiet (R138). -/

namespace Sys2Proof.Proofs

open Sys2Proof.Machine Sys2Proof.Laws

/-- Raising an event leaves the line state of either port. -/
theorem raise_lineState (s : State) (code a b c : Nat) (arg : Word) (p : Port) : (s.raise code a b c arg).lineState p = s.lineState p :=
  (frame_raise s code a b c arg).rf_eq (by cases p <;> rfl)

/-- A line state that is set is the port's line state, whether it was so before or not. -/
theorem setLineState_lineState {s : State} {p : Port} {n : Nat} (hn : n < 4) : (s.setLineState p n).lineState p = n := by
  unfold State.setLineState
  split
  · assumption
  · rw [raise_lineState, State.lineState, rf_wr_same _ _ _ (by cases p <;> rfl)]
    cases p <;> exact Nat.mod_eq_of_lt hn

/-- In its horn cycle a master that is not driving a horn yet drives one of the configured length. -/
theorem exec_hornStart_due {s : State} {p : Port} (hmaster : s.mastering p = true) (hhears : s.hears p = true) (hdue : (s.mst p).horn = some s.lpc)
    (hoff : s.phy.hornOn = false) : exec (.hornStart p) s = .next (State.drive { s with phy := { s.phy with hornOn := true } }
      (.horn (State.hornPeriods { s with phy := { s.phy with hornOn := true } } p))) := by
  show execHornStart p s = _
  rw [execHornStart, if_pos ⟨hmaster, hhears, hdue, by simp [hoff]⟩]

theorem exec_hornStart_not_due {s : State} {p : Port} (h : (s.mst p).horn ≠ some s.lpc) : exec (.hornStart p) s = .next s := by
  show execHornStart p s = _
  rw [execHornStart, if_neg (fun hc => h hc.2.2.1)]

theorem exec_hornEnd_master {s : State} {p : Port} (h : s.mastering p = true) :
    exec (.hornEnd p) s = .next { s with phy := { s.phy with hornOn := false } } := by
  show execHornEnd p s = _
  rw [execHornEnd, if_pos h]

theorem exec_hornEnd_other {s : State} {p : Port} (h : s.mastering p = false) : exec (.hornEnd p) s = .next s := by
  show execHornEnd p s = _
  rw [execHornEnd, if_neg (by simp [h])]

theorem exec_hornDetected_node {s : State} (hhears : s.hears .a = true) (hother : s.mastering .a = false) :
    exec .hornDetected s = .next (s.setLineState .a 0) := by
  show execHornDetected s = _
  rw [execHornDetected, if_pos (by simp [hhears, hother])]

theorem exec_hornDetected_master {s : State} (h : s.mastering .a = true) : exec .hornDetected s = .next s := by
  show execHornDetected s = _
  rw [execHornDetected, if_neg (by simp [h])]

theorem exec_quietEntry_never {s : State} {p : Port} (h : s.rf (lkF p F.LINE_QUIET_CTL.quiet_after_s) = 0) : exec (.quietEntry p) s = .next s := by
  show execQuietEntry p s = _
  rw [execQuietEntry, if_neg (fun hc => hc.2.2.2.1 h)]

theorem exec_quietCycle_reached {s : State} {p : Port} {q : Word} (hq : (s.mst p).quietAt = some q) (hmaster : s.mastering p = true)
    (hreached : later q s.lpc = false) : exec (.quietCycle p) s =
    .next ((s.modMst p (fun m => { m with quietAt := none, owner := none })).setLineState p 1) := by
  show execQuietCycle p s = _
  simp only [execQuietCycle, hq]
  rw [if_pos ⟨hmaster, by simp [hreached]⟩]

theorem exec_quietCycle_none {s : State} {p : Port} (h : (s.mst p).quietAt = none) : exec (.quietCycle p) s = .next s := by
  show execQuietCycle p s = _
  simp only [execQuietCycle, h]

/-- Settles O50: each command's guard holds or fails by the hypotheses, and a line state that is set stays. -/
theorem linesGoQuietAndReturn : Obligations.LinesGoQuietAndReturn := by
  unfold Obligations.LinesGoQuietAndReturn
  refine ⟨?hornStart, fun s p => exec_hornStart_not_due, fun s p => exec_hornEnd_master, fun s p => exec_hornEnd_other, ?hornDetected,
    fun s => exec_hornDetected_master, ?quietEntry, fun s p => exec_quietEntry_never, ?quietCycle, fun s p => exec_quietCycle_none⟩
  case hornStart =>
    intro s p hmaster hhears hdue hoff
    have hexec := exec_hornStart_due hmaster hhears hdue hoff
    exact ⟨_, hexec, rfl, List.mem_append_right _ List.mem_cons_self, (exFrame (frame_execHornStart p s) hexec).only⟩
  case hornDetected =>
    intro s hhears hother
    exact ⟨_, exec_hornDetected_node hhears hother, rfl, setLineState_lineState (by decide)⟩
  case quietEntry =>
    intro s p hmaster hcc hactive hon hidle hfree hqueue hquiet hhorn htakeover hurgent
    show execQuietEntry p s = _
    rw [execQuietEntry, if_pos ⟨hmaster, hcc, hactive, hon, hidle, hfree, by simp [hqueue], by simp [hquiet], by simp [hhorn],
      by simp [htakeover], by simp [hurgent]⟩]
  case quietCycle =>
    intro s p q hq hmaster hreached
    exact ⟨_, exec_quietCycle_reached hq hmaster hreached, rfl, setLineState_lineState (by decide)⟩

end Sys2Proof.Proofs

/-! ## The P57's sources, its surges and its causes

The source selected (R208, R210), the energy a surge leaves in the FIFO (R214, R215), and the causes (R213, R217, R227). -/

namespace Sys2Proof.Proofs

open Sys2Proof.Machine Sys2Proof.Laws

/-! ### Sources -/

/-- HOST5 is selected while it is preferred and the line is not forced; VSYS5 is up, so PG is. -/
theorem exec_host5Select_preferred {s : State} (hpref : s.p57.srcCtl.getLsbD 0 = true) (hforce : s.p57.srcCtl.getLsbD 1 = false)
    (hhost : s.p57.srcHost = false) :
    exec .host5Select s = .next { s with p57 := ({ s.p57 with srcHost := true, pg := true }).setCause 3 } := by
  show execHost5Select s = _
  simp only [execHost5Select, State.modP57, hpref, hforce, hhost, Bool.not_false, Bool.and_self, if_true]

/-- The buck takes over from HOST5. -/
theorem exec_host5Deselect_on {s : State} (hhost : s.p57.srcHost = true) (hphase : s.p57.phase = .on) :
    exec .host5Deselect s = .next { s with p57 := ({ s.p57 with srcHost := false }).setCause 3 } := by
  show execHost5Deselect s = _
  simp [execHost5Deselect, State.modP57, hhost, hphase]

/-- Without the buck HOST5 was the last source. -/
theorem exec_host5Deselect_off {s : State} (hhost : s.p57.srcHost = true) (hphase : s.p57.phase ≠ .on) :
    exec .host5Deselect s = .next { s with p57 := s.p57.powerLoss s.p57.phase } := by
  show execHost5Deselect s = _
  simp [execHost5Deselect, State.modP57, hhost, hphase]

/-! ### The surge FIFO -/

/-- The energies before the newest stay as they are. -/
theorem addNewest_concat (mj : Nat) (l : List Nat) (x : Nat) : addNewest mj (l ++ [x]) = l ++ [min 65535 (x + mj)] := by
  induction l with
  | nil => rfl
  | cons y ys ih => simp [addNewest, ih]

theorem exec_surgeEnd_room {s : State} (mj : Nat) (hsurge : s.p57.surging = true) (hroom : s.p57.fifo.length < 4) :
    exec (.surgeEnd mj) s =
      .next { s with p57 := ({ s.p57 with surging := false, fifo := s.p57.fifo ++ [min 65535 mj] }).setCause 0 } := by
  show execSurgeEnd mj s = _
  simp [execSurgeEnd, State.modP57, hsurge, hroom]

theorem exec_surgeEnd_full {s : State} (mj : Nat) (hsurge : s.p57.surging = true) (hfull : 4 ≤ s.p57.fifo.length) :
    exec (.surgeEnd mj) s =
      .next { s with p57 := ({ s.p57 with surging := false, fifo := addNewest mj s.p57.fifo, overflow := true }).setCause 0 } := by
  show execSurgeEnd mj s = _
  simp [execSurgeEnd, State.modP57, hsurge, Nat.not_lt.2 hfull]

/-- Settles O4: the change of source and the end of a surge split on their guards; the other commands have none. -/
theorem p57SourcesAndSurges : Obligations.P57SourcesAndSurges := by
  unfold Obligations.P57SourcesAndSurges
  refine ⟨fun s => exec_host5Select_preferred, fun s => exec_host5Deselect_on, ?lastSource, fun s => rfl, fun s mj => exec_surgeEnd_room mj,
    ?full, fun s => rfl, fun s v => rfl, fun s => rfl⟩
  case lastSource =>
    intro s hhost hphase
    exact ⟨_, exec_host5Deselect_off hhost hphase, rfl, rfl, rfl, rfl, rfl⟩
  case full =>
    intro s mj l x hsurge hfifo hlen
    have hfull : 4 ≤ s.p57.fifo.length := by simp [hfifo, hlen]
    rw [exec_surgeEnd_full mj hsurge hfull, hfifo, addNewest_concat]
    rfl

end Sys2Proof.Proofs

/-! ## Every command goes on and keeps the block sound

Every meaning answers a next state, its frame lies within the parts a command may change (all but the part's identity and the queue), and a frame
keeps the canonical stores; so every command does, and so every step does. -/

namespace Sys2Proof.Proofs

open Sys2Proof.Machine Sys2Proof.Laws

/-- A frame that leaves the part's identity and the queue alone. -/
theorem wide_of_frame {w : List Part} {r : Option (List Nat)} {s t : State} (h : Frame w r s t) (hw : within w r wide none = true) :
    Frame wide none s t := h.mono hw

theorem execIntakeBusRetry_goesOn (ack : Bool) (s : State) : ∃ t, execIntakeBusRetry ack s = .next t := by
  unfold execIntakeBusRetry
  split
  · exact ⟨_, rfl⟩
  · split
    · exact ⟨_, rfl⟩
    · split <;> exact ⟨_, rfl⟩

theorem execCheckJob_goesOn (c : Client) (buf : List Byte) (s : State) : ∃ t, execCheckJob c buf s = .next t := by
  unfold execCheckJob
  split
  · split <;> exact ⟨_, rfl⟩
  · exact ⟨_, rfl⟩

theorem execTagBudgetExpiry_goesOn (s : State) : ∃ t, execTagBudgetExpiry s = .next t := by
  unfold execTagBudgetExpiry
  split
  · exact ⟨_, rfl⟩
  · dsimp only
    split <;> exact ⟨_, rfl⟩

theorem execBufferTransferCompletion_goesOn (c : Client) (id : Half) (ok : Bool) (moved : Nat) (s : State) :
    ∃ t, execBufferTransferCompletion c id ok moved s = .next t := by
  unfold execBufferTransferCompletion
  split
  · exact ⟨_, rfl⟩
  · split
    · exact ⟨_, rfl⟩
    · split
      · exact ⟨_, rfl⟩
      · split
        · split <;> exact ⟨_, rfl⟩
        · split <;> exact ⟨_, rfl⟩

/-- No command ends in a fault or a refusal. -/
theorem exec_goesOn (c : Instr) (s : State) : ∃ t, exec c s = .next t := by
  cases c with
  | intakeBusRetry ack => exact execIntakeBusRetry_goesOn ack s
  | checkJob c buf => exact execCheckJob_goesOn c buf s
  | tagBudgetExpiry => exact execTagBudgetExpiry_goesOn s
  | bufferTransferCompletion c id ok moved => exact execBufferTransferCompletion_goesOn c id ok moved s
  | _ => exact ⟨_, rfl⟩

/-- What any command may change: everything but the part's identity and the queue, each addressed store staying canonical. -/
theorem frame_exec (c : Instr) (s : State) : Frame wide none s (nextOf s (exec c s)) := by
  cases c with
  | cycleBoundary o => exact wide_of_frame (frame_execCycleBoundary o s) rfl
  | pltLpcCycleRead => exact wide_of_frame (frame_execPltLpcCycleRead s) rfl
  | beaconAccepted b => exact wide_of_frame (frame_execBeaconAccepted b s) rfl
  | beaconMissing p => exact wide_of_frame (frame_execBeaconMissing p s) rfl
  | lineDown p => exact wide_of_frame (frame_execLineDown p s) rfl
  | firmwareCompareFire u => exact wide_of_frame (frame_execFirmwareCompareFire u s) rfl
  | scheduledDescriptorStart c => exact wide_of_frame (frame_execScheduledDescriptorStart c s) rfl
  | strobePulseStart u => exact wide_of_frame (frame_execStrobePulseStart u s) rfl
  | strobePulseEnd u => exact wide_of_frame (frame_execStrobePulseEnd u s) rfl
  | slotReceived k b => exact wide_of_frame (frame_execSlotReceived k b s) rfl
  | beaconSend p differing draw => exact wide_of_frame (frame_execBeaconSend p differing draw s) rfl
  | beaconCommit p ccReady => exact wide_of_frame (frame_execBeaconCommit p ccReady s) rfl
  | bellSend p => exact wide_of_frame (frame_execBellSend p s) rfl
  | bellReceived o => exact wide_of_frame (frame_execBellReceived o s) rfl
  | bellFieldRead p os => exact wide_of_frame (frame_execBellFieldRead p os s) rfl
  | ledgerFrameSend p => exact wide_of_frame (frame_execLedgerFrameSend p s) rfl
  | slotSend p k => exact wide_of_frame (frame_execSlotSend p k s) rfl
  | joinRequestSend nonce => exact wide_of_frame (frame_execJoinRequestSend nonce s) rfl
  | joinRequestReceived j => exact wide_of_frame (frame_execJoinRequestReceived j s) rfl
  | hornStart p => exact wide_of_frame (frame_execHornStart p s) rfl
  | hornEnd p => exact wide_of_frame (frame_execHornEnd p s) rfl
  | hornDetected => exact wide_of_frame (frame_execHornDetected s) rfl
  | addressAssign f => exact wide_of_frame (frame_execAddressAssign f s) rfl
  | rangePoll f => exact wide_of_frame (frame_execRangePoll f s) rfl
  | rangeReply f arrival => exact wide_of_frame (frame_execRangeReply f arrival s) rfl
  | leaseReq f => exact wide_of_frame (frame_execLeaseReq f s) rfl
  | leaseGrant f => exact wide_of_frame (frame_execLeaseGrant f s) rfl
  | leaseRelease f => exact wide_of_frame (frame_execLeaseRelease f s) rfl
  | leaseAudit f => exact wide_of_frame (frame_execLeaseAudit f s) rfl
  | call f => exact wide_of_frame (frame_execCall f s) rfl
  | callAck f => exact wide_of_frame (frame_execCallAck f s) rfl
  | roster f => exact wide_of_frame (frame_execRoster f s) rfl
  | checkpoint f => exact wide_of_frame (frame_execCheckpoint f s) rfl
  | time f => exact wide_of_frame (frame_execTime f s) rfl
  | powerDirective f => exact wide_of_frame (frame_execPowerDirective f s) rfl
  | nodeStatus f => exact wide_of_frame (frame_execNodeStatus f s) rfl
  | monitor f => exact wide_of_frame (frame_execMonitor f s) rfl
  | groupPush f => exact wide_of_frame (frame_execGroupPush f s) rfl
  | ledgerResponseTimeout w => exact wide_of_frame (frame_execLedgerResponseTimeout w s) rfl
  | leaseLapse p k => exact wide_of_frame (frame_execLeaseLapse p k s) rfl
  | leaseLostNoBeacon => exact wide_of_frame (frame_execLeaseLostNoBeacon s) rfl
  | nodeStatusPeriodic => exact wide_of_frame (frame_execNodeStatusPeriodic s) rfl
  | rosterFullPart p => exact wide_of_frame (frame_execRosterFullPart p s) rfl
  | timePeriodic p utc offset valid => exact wide_of_frame (frame_execTimePeriodic p utc offset valid s) rfl
  | leaseAuditPeriodic p => exact wide_of_frame (frame_execLeaseAuditPeriodic p s) rfl
  | checkpointSnapshot p => exact wide_of_frame (frame_execCheckpointSnapshot p s) rfl
  | quietEntry p => exact wide_of_frame (frame_execQuietEntry p s) rfl
  | quietCycle p => exact wide_of_frame (frame_execQuietCycle p s) rfl
  | electionStart => exact wide_of_frame (frame_execElectionStart s) rfl
  | electionDelayExpiry => exact wide_of_frame (frame_execElectionDelayExpiry s) rfl
  | collisionBackoffExpiry p => exact wide_of_frame (frame_execCollisionBackoffExpiry p s) rfl
  | rosterEntryExpiry p a => exact wide_of_frame (frame_execRosterEntryExpiry p a s) rfl
  | takeover => exact wide_of_frame (frame_execTakeover s) rfl
  | rangingBellSend => exact wide_of_frame (frame_execRangingBellSend s) rfl
  | rangingBellReceived p position arrival => exact wide_of_frame (frame_execRangingBellReceived p position arrival s) rfl
  | takeoverReclaim p part => exact wide_of_frame (frame_execTakeoverReclaim p part s) rfl
  | reRangingEnd => exact wide_of_frame (frame_execReRangingEnd s) rfl
  | waystationStandbyExpiry => exact wide_of_frame (frame_execWaystationStandbyExpiry s) rfl
  | stackHeader bytes => exact wide_of_frame (frame_execStackHeader bytes s) rfl
  | stackWindow n bytes entries => exact wide_of_frame (frame_execStackWindow n bytes entries s) rfl
  | p57InputRise => exact wide_of_frame (frame_execP57InputRise s) rfl
  | p57InputFall => exact wide_of_frame (frame_execP57InputFall s) rfl
  | p57RestartDelay inputUp => exact wide_of_frame (frame_execP57RestartDelay inputUp s) rfl
  | inrushTimeout => exact wide_of_frame (frame_execInrushTimeout s) rfl
  | p57Overload => exact wide_of_frame (frame_execP57Overload s) rfl
  | p57PowerWarning avgMw => exact wide_of_frame (frame_execP57PowerWarning avgMw s) rfl
  | host5Select => exact wide_of_frame (frame_execHost5Select s) rfl
  | host5Deselect => exact wide_of_frame (frame_execHost5Deselect s) rfl
  | surgeStart => exact wide_of_frame (frame_execSurgeStart s) rfl
  | surgeEnd mj => exact wide_of_frame (frame_execSurgeEnd mj s) rfl
  | p57HornDetect levelMv => exact wide_of_frame (frame_execP57HornDetect levelMv s) rfl
  | p57ActivityDetect levelMv => exact wide_of_frame (frame_execP57ActivityDetect levelMv s) rfl
  | p57CauseWrite v => exact wide_of_frame (frame_execP57CauseWrite v s) rfl
  | p57SurgeERead => exact wide_of_frame (frame_execP57SurgeERead s) rfl
  | intakeAttention ack => exact wide_of_frame (frame_execIntakeAttention ack s) rfl
  | shedStep => exact wide_of_frame (frame_execShedStep s) rfl
  | shedExhausted => exact wide_of_frame (frame_execShedExhausted s) rfl
  | shedRestore => exact wide_of_frame (frame_execShedRestore s) rfl
  | pgFall => exact wide_of_frame (frame_execPgFall s) rfl
  | pgRestored ack lowMs => exact wide_of_frame (frame_execPgRestored ack lowMs s) rfl
  | brownoutSustained => exact wide_of_frame (frame_execBrownoutSustained s) rfl
  | intakeBusRetry ack => exact wide_of_frame (frame_execIntakeBusRetry ack s) rfl
  | telemetryCopy m => exact wide_of_frame (frame_execTelemetryCopy m s) rfl
  | topPrecHoldExpiry => exact wide_of_frame (frame_execTopPrecHoldExpiry s) rfl
  | catchUpPlaybackStart => exact wide_of_frame (frame_execCatchUpPlaybackStart s) rfl
  | tdmSafePoint => exact wide_of_frame (frame_execTdmSafePoint s) rfl
  | asrcLock => exact wide_of_frame (frame_execAsrcLock s) rfl
  | annunciatorOvercurrent => exact wide_of_frame (frame_execAnnunciatorOvercurrent s) rfl
  | annunciatorRetry => exact wide_of_frame (frame_execAnnunciatorRetry s) rfl
  | pvddSpkLow => exact wide_of_frame (frame_execPvddSpkLow s) rfl
  | pvddSpkRestored => exact wide_of_frame (frame_execPvddSpkRestored s) rfl
  | chimeEntryEnd => exact wide_of_frame (frame_execChimeEntryEnd s) rfl
  | reconvergenceEnd => exact wide_of_frame (frame_execReconvergenceEnd s) rfl
  | howlFound freq => exact wide_of_frame (frame_execHowlFound freq s) rfl
  | notchRelease n => exact wide_of_frame (frame_execNotchRelease n s) rfl
  | howlGainStep => exact wide_of_frame (frame_execHowlGainStep s) rfl
  | ringTimeout r => exact wide_of_frame (frame_execRingTimeout r s) rfl
  | talkKeyPress => exact wide_of_frame (frame_execTalkKeyPress s) rfl
  | pushToTalkStart => exact wide_of_frame (frame_execPushToTalkStart s) rfl
  | pushToTalkRelease => exact wide_of_frame (frame_execPushToTalkRelease s) rfl
  | declineKey => exact wide_of_frame (frame_execDeclineKey s) rfl
  | callEndHold r => exact wide_of_frame (frame_execCallEndHold r s) rfl
  | toneDetectorStart n => exact wide_of_frame (frame_execToneDetectorStart n s) rfl
  | toneDetectorEnd n => exact wide_of_frame (frame_execToneDetectorEnd n s) rfl
  | muteOn => exact wide_of_frame (frame_execMuteOn s) rfl
  | muteOff => exact wide_of_frame (frame_execMuteOff s) rfl
  | micModeChange => exact wide_of_frame (frame_execMicModeChange s) rfl
  | micStartEnd => exact wide_of_frame (frame_execMicStartEnd s) rfl
  | micBridgeEnd => exact wide_of_frame (frame_execMicBridgeEnd s) rfl
  | stuckWindow constant => exact wide_of_frame (frame_execStuckWindow constant s) rfl
  | probeDecision w aFollows bFollows => exact wide_of_frame (frame_execProbeDecision w aFollows bFollows s) rfl
  | probeRetry w => exact wide_of_frame (frame_execProbeRetry w s) rfl
  | wakeEvent start score => exact wide_of_frame (frame_execWakeEvent start score s) rfl
  | historyFetchOverrun stream => exact wide_of_frame (frame_execHistoryFetchOverrun stream s) rfl
  | sqTailDoorbell c size v => exact wide_of_frame (frame_execSqTailDoorbell c size v s) rfl
  | cqHeadDoorbell c size v => exact wide_of_frame (frame_execCqHeadDoorbell c size v s) rfl
  | eventAcknowledge c size v => exact wide_of_frame (frame_execEventAcknowledge c size v s) rfl
  | ringEnable c => exact wide_of_frame (frame_execRingEnable c s) rfl
  | ringDisable c => exact wide_of_frame (frame_execRingDisable c s) rfl
  | clientDrained c => exact wide_of_frame (frame_execClientDrained c s) rfl
  | descriptorFetch c => exact wide_of_frame (frame_execDescriptorFetch c s) rfl
  | descriptorFetchCompletion c r => exact wide_of_frame (frame_execDescriptorFetchCompletion c r s) rfl
  | completionWrite c => exact wide_of_frame (frame_execCompletionWrite c s) rfl
  | vectorFire c => exact wide_of_frame (frame_execVectorFire c s) rfl
  | functionLevelReset => exact wide_of_frame (frame_execFunctionLevelReset s) rfl
  | perstNAssert => exact wide_of_frame (frame_execPerstNAssert s) rfl
  | perstNDeassert => exact wide_of_frame (frame_execPerstNDeassert s) rfl
  | linkDown => exact wide_of_frame (frame_execLinkDown s) rfl
  | busMasterEnableChange bme => exact wide_of_frame (frame_execBusMasterEnableChange bme s) rfl
  | dStateChange d3hot => exact wide_of_frame (frame_execDStateChange d3hot s) rfl
  | linkPowerStateChange l => exact wide_of_frame (frame_execLinkPowerStateChange l s) rfl
  | sbRegisterRead addr words => exact wide_of_frame (frame_execSbRegisterRead addr words s) rfl
  | sbRegisterWrite addr ws => exact wide_of_frame (frame_execSbRegisterWrite addr ws s) rfl
  | sbMailboxWrite bytes => exact wide_of_frame (frame_execSbMailboxWrite bytes s) rfl
  | sbCompletionRead clocked => exact wide_of_frame (frame_execSbCompletionRead clocked s) rfl
  | sbBufferWrite off data => exact wide_of_frame (frame_execSbBufferWrite off data s) rfl
  | sbBufferRead off n => exact wide_of_frame (frame_execSbBufferRead off n s) rfl
  | sbyHostWakeActive => exact wide_of_frame (frame_execSbyHostWakeActive s) rfl
  | sbyHostWakeTest => exact wide_of_frame (frame_execSbyHostWakeTest s) rfl
  | sbyReqWakeN => exact wide_of_frame (frame_execSbyReqWakeN s) rfl
  | nop c => exact wide_of_frame (frame_execNop c s) rfl
  | fence c => exact wide_of_frame (frame_execFence c s) rfl
  | listenSet c => exact wide_of_frame (frame_execListenSet c s) rfl
  | talkOpen c => exact wide_of_frame (frame_execTalkOpen c s) rfl
  | talkClose c => exact wide_of_frame (frame_execTalkClose c s) rfl
  | precedenceSet c => exact wide_of_frame (frame_execPrecedenceSet c s) rfl
  | roomSet c => exact wide_of_frame (frame_execRoomSet c s) rfl
  | streamOpen c => exact wide_of_frame (frame_execStreamOpen c s) rfl
  | streamBuf c buf => exact wide_of_frame (frame_execStreamBuf c buf s) rfl
  | streamClose c => exact wide_of_frame (frame_execStreamClose c s) rfl
  | callSend c => exact wide_of_frame (frame_execCallSend c s) rfl
  | callAnswer c => exact wide_of_frame (frame_execCallAnswer c s) rfl
  | eventSubscribe c => exact wide_of_frame (frame_execEventSubscribe c s) rfl
  | ledgerSend c buf => exact wide_of_frame (frame_execLedgerSend c buf s) rfl
  | ledgerSendWithdraw c => exact wide_of_frame (frame_execLedgerSendWithdraw c s) rfl
  | tagRead c => exact wide_of_frame (frame_execTagRead c s) rfl
  | tagWrite c buf => exact wide_of_frame (frame_execTagWrite c buf s) rfl
  | tagLifePost c => exact wide_of_frame (frame_execTagLifePost c s) rfl
  | checkJob c buf => exact wide_of_frame (frame_execCheckJob c buf s) rfl
  | powerVote c => exact wide_of_frame (frame_execPowerVote c s) rfl
  | perfRequest c => exact wide_of_frame (frame_execPerfRequest c s) rfl
  | historyFetch c => exact wide_of_frame (frame_execHistoryFetch c s) rfl
  | configStage c buf => exact wide_of_frame (frame_execConfigStage c buf s) rfl
  | configApply c => exact wide_of_frame (frame_execConfigApply c s) rfl
  | configGroupApply g => exact wide_of_frame (frame_execConfigGroupApply g s) rfl
  | monitorCmd c buf => exact wide_of_frame (frame_execMonitorCmd c buf s) rfl
  | diag c buf => exact wide_of_frame (frame_execDiag c buf s) rfl
  | cartridgePresent image => exact wide_of_frame (frame_execCartridgePresent image s) rfl
  | cartridgeAbsent => exact wide_of_frame (frame_execCartridgeAbsent s) rfl
  | lineOkRise => exact wide_of_frame (frame_execLineOkRise s) rfl
  | tagTransactionRetry => exact wide_of_frame (frame_execTagTransactionRetry s) rfl
  | tagBudgetExpiry => exact wide_of_frame (frame_execTagBudgetExpiry s) rfl
  | deferredRetry => exact wide_of_frame (frame_execDeferredRetry s) rfl
  | tagArbitrationLoss byte bit => exact wide_of_frame (frame_execTagArbitrationLoss byte bit s) rfl
  | tagWiredRead addr n => exact wide_of_frame (frame_execTagWiredRead addr n s) rfl
  | tagWiredWrite addr data => exact wide_of_frame (frame_execTagWiredWrite addr data s) rfl
  | tagAppend data => exact wide_of_frame (frame_execTagAppend data s) rfl
  | contactlessRead page => exact wide_of_frame (frame_execContactlessRead page s) rfl
  | contactlessWrite page data => exact wide_of_frame (frame_execContactlessWrite page data s) rfl
  | tagLockRelease => exact wide_of_frame (frame_execTagLockRelease s) rfl
  | contactlessSessionLimit => exact wide_of_frame (frame_execContactlessSessionLimit s) rfl
  | tollStart p n mode => exact wide_of_frame (frame_execTollStart p n mode s) rfl
  | tollFinish p n => exact wide_of_frame (frame_execTollFinish p n s) rfl
  | tollAbort p n => exact wide_of_frame (frame_execTollAbort p n s) rfl
  | tollData8 p n v => exact wide_of_frame (frame_execTollData8 p n v s) rfl
  | tollData16 p n v => exact wide_of_frame (frame_execTollData16 p n v s) rfl
  | tollData32 p n v => exact wide_of_frame (frame_execTollData32 p n v s) rfl
  | s1Entry => exact wide_of_frame (frame_execS1Entry s) rfl
  | s1Exit => exact wide_of_frame (frame_execS1Exit s) rfl
  | sleepHoldExpiry => exact wide_of_frame (frame_execSleepHoldExpiry s) rfl
  | sleepEntryAbort => exact wide_of_frame (frame_execSleepEntryAbort s) rfl
  | wakeSource bits => exact wide_of_frame (frame_execWakeSource bits s) rfl
  | watchCycle => exact wide_of_frame (frame_execWatchCycle s) rfl
  | rtcTick => exact wide_of_frame (frame_execRtcTick s) rfl
  | rtcAlarm => exact wide_of_frame (frame_execRtcAlarm s) rfl
  | perfLevelChangeDone => exact wide_of_frame (frame_execPerfLevelChangeDone s) rfl
  | refusalReport => exact wide_of_frame (frame_execRefusalReport s) rfl
  | watchdogExpiry => exact wide_of_frame (frame_execWatchdogExpiry s) rfl
  | fullReset powerOn => exact wide_of_frame (frame_execFullReset powerOn s) rfl
  | vin33Loss => exact wide_of_frame (frame_execVin33Loss s) rfl
  | bootStepDone => exact wide_of_frame (frame_execBootStepDone s) rfl
  | setupLock p => exact wide_of_frame (frame_execSetupLock p s) rfl
  | warmRestartRequest => exact wide_of_frame (frame_execWarmRestartRequest s) rfl
  | warmRestartEnd => exact wide_of_frame (frame_execWarmRestartEnd s) rfl
  | warmRestartOverrun => exact wide_of_frame (frame_execWarmRestartOverrun s) rfl
  | elementInternalFault e => exact wide_of_frame (frame_execElementInternalFault e s) rfl
  | uartPacket bytes => exact wide_of_frame (frame_execUartPacket bytes s) rfl
  | uartByteGap => exact wide_of_frame (frame_execUartByteGap s) rfl
  | monitorSessionIdle t => exact wide_of_frame (frame_execMonitorSessionIdle t s) rfl
  | monitorFragmentTimeout addr session => exact wide_of_frame (frame_execMonitorFragmentTimeout addr session s) rfl
  | ping r => exact wide_of_frame (frame_execPing r s) rfl
  | status r => exact wide_of_frame (frame_execStatus r s) rfl
  | close r => exact wide_of_frame (frame_execClose r s) rfl
  | replyFetch r => exact wide_of_frame (frame_execReplyFetch r s) rfl
  | regRead r => exact wide_of_frame (frame_execRegRead r s) rfl
  | regWrite r => exact wide_of_frame (frame_execRegWrite r s) rfl
  | halt r => exact wide_of_frame (frame_execHalt r s) rfl
  | resume r => exact wide_of_frame (frame_execResume r s) rfl
  | step r => exact wide_of_frame (frame_execStep r s) rfl
  | stepDone e => exact wide_of_frame (frame_execStepDone e s) rfl
  | elemRead r => exact wide_of_frame (frame_execElemRead r s) rfl
  | elemWrite r => exact wide_of_frame (frame_execElemWrite r s) rfl
  | memRead r => exact wide_of_frame (frame_execMemRead r s) rfl
  | memWrite r => exact wide_of_frame (frame_execMemWrite r s) rfl
  | otpRead r => exact wide_of_frame (frame_execOtpRead r s) rfl
  | traceRead r => exact wide_of_frame (frame_execTraceRead r s) rfl
  | stimWrite r => exact wide_of_frame (frame_execStimWrite r s) rfl
  | flashRead r => exact wide_of_frame (frame_execFlashRead r s) rfl
  | flashErase r => exact wide_of_frame (frame_execFlashErase r s) rfl
  | flashWrite r => exact wide_of_frame (frame_execFlashWrite r s) rfl
  | reset r => exact wide_of_frame (frame_execReset r s) rfl
  | externalTrigger gpio => exact wide_of_frame (frame_execExternalTrigger gpio s) rfl
  | traceData => exact wide_of_frame (frame_execTraceData s) rfl
  | traceEnable p => exact wide_of_frame (frame_execTraceEnable p s) rfl
  | wakeHistOldestLoRead => exact wide_of_frame (frame_execWakeHistOldestLoRead s) rfl
  | wakeLastStartLoRead => exact wide_of_frame (frame_execWakeLastStartLoRead s) rfl
  | tagSerialLoRead => exact wide_of_frame (frame_execTagSerialLoRead s) rfl
  | registerWrite off size v => exact wide_of_frame (frame_execRegisterWrite off size v s) rfl
  | inrushEnd => exact wide_of_frame (frame_execInrushEnd s) rfl
  | p57Thermal => exact wide_of_frame (frame_execP57Thermal s) rfl
  | asrcLockLoss => exact wide_of_frame (frame_execAsrcLockLoss s) rfl
  | rtcCrystalLoss => exact wide_of_frame (frame_execRtcCrystalLoss s) rfl
  | resetRelease => exact wide_of_frame (frame_execResetRelease s) rfl
  | readClearRead off size => exact wide_of_frame (frame_execReadClearRead off size s) rfl
  | bufferTransferCompletion c id ok moved => exact wide_of_frame (frame_execBufferTransferCompletion c id ok moved s) rfl
  | hostWriteRefused c => exact wide_of_frame (frame_execHostWriteRefused c s) rfl

theorem exec_frame {c : Instr} {s t : State} (h : exec c s = .next t) : Frame wide none s t := exFrame (frame_exec c s) h

theorem exec_keeps_sound {c : Instr} {s t : State} (h : exec c s = .next t) :
    t.dev = s.dev ∧ t.pending = s.pending ∧ (s.Canon → t.Canon) :=
  ⟨(exec_frame h).eq_of .dev rfl, (exec_frame h).eq_of .pending rfl, (exec_frame h).canon⟩

theorem step_of_empty {s : State} (h : s.pending = []) : step s = .next s.tick := by
  rw [step, h]

theorem step_of_front {s : State} {c : Instr} {q : List Instr} (h : s.pending = c :: q) : step s = exec c { s with pending := q } := by
  rw [step, h]

theorem canon_tick {s : State} (h : s.Canon) : s.tick.Canon := ⟨h.regs, h.sram, h.flash, h.buf, h.cart⟩

theorem canon_of_pending {s : State} (h : s.Canon) (q : List Instr) : State.Canon { s with pending := q } :=
  ⟨h.regs, h.sram, h.flash, h.buf, h.cart⟩

theorem step_keeps_canon {s t : State} (h : s.Canon) (hstep : step s = .next t) : t.Canon := by
  cases hp : s.pending with
  | nil =>
    rw [step_of_empty hp] at hstep
    cases hstep
    exact canon_tick h
  | cons c q =>
    rw [step_of_front hp] at hstep
    exact (exec_frame hstep).canon (canon_of_pending h q)

theorem step_goesOn (s : State) : s.goesOn := by
  cases hp : s.pending with
  | nil => exact ⟨_, step_of_empty hp⟩
  | cons c q =>
    obtain ⟨t, ht⟩ := exec_goesOn c { s with pending := q }
    exact ⟨t, (step_of_front hp).trans ht⟩

/-- Settles O59: every command's frame lies within `wide`, and a step is a command or one symbol. -/
theorem everyCommandKeepsTheBlockSound : Obligations.EveryCommandKeepsTheBlockSound := by
  unfold Obligations.EveryCommandKeepsTheBlockSound
  refine ⟨?commands, fun s t => step_keeps_canon, ?queue, step_goesOn⟩
  case commands =>
    intro c s
    obtain ⟨t, ht⟩ := exec_goesOn c s
    exact ⟨t, ht, exec_keeps_sound ht⟩
  case queue =>
    intro s t c q hp hstep
    rw [step_of_front hp] at hstep
    obtain ⟨hdev, hpending, -⟩ := exec_keeps_sound hstep
    exact ⟨hpending, hdev⟩

/-- Settles O1: the front command leaves the queue and runs. -/
theorem stepRunsFrontCommand : Obligations.StepRunsFrontCommand := by
  unfold Obligations.StepRunsFrontCommand
  intro c q s
  exact step_of_front rfl

/-- Settles O2: a step with an empty queue is one symbol. -/
theorem emptyQueueIsASymbol : Obligations.EmptyQueueIsASymbol := by
  unfold Obligations.EmptyQueueIsASymbol
  intro s hp
  exact step_of_empty hp

end Sys2Proof.Proofs

/-! ## Bits, register fields and wake sources

What the bit tests of the model say, what a one-bit write leaves, which sources of a set fire, and what a wake leaves of the intake (R552). -/

namespace Sys2Proof.Proofs

open Sys2Proof.Machine Sys2Proof.Laws

theorem bitOf_eq_testBit (v i : Nat) : bitOf v i = v.testBit i := by
  rw [bitOf, Nat.testBit_eq_decide_div_mod_eq]

theorem rf_put_same (s : State) (f : Field) (b : Bool) (h : fits f = true) (hw : f.width = 1) : (s.put f b).rf f = bit b := by
  rw [State.put, rf_wr_same _ _ _ h, hw]
  cases b <;> rfl

theorem rf_put_apart (s : State) (f g : Field) (b : Bool) (hg : fits g = true) (h : apart f g = true) : (s.put f b).rf g = s.rf g :=
  rf_wr_apart _ _ _ _ hg h

/-- A sum of the powers of two that `p` selects has just those bits. -/
theorem testBit_sum_filter (p : Nat → Bool) (n j : Nat) :
    (((List.range n).filter p).foldl (fun m i => m + 2 ^ i) 0).testBit j = (decide (j < n) && p j) ∧
      ((List.range n).filter p).foldl (fun m i => m + 2 ^ i) 0 < 2 ^ n := by
  induction n with
  | zero => simp
  | succ n ih =>
    obtain ⟨hbit, hlt⟩ := ih
    have hpow : 2 ^ (n + 1) = 2 ^ n + 2 ^ n := by rw [Nat.pow_succ]; omega
    rw [List.range_succ, List.filter_append, List.foldl_append]
    cases hp : p n with
    | false =>
      simp only [List.filter_cons, hp, Bool.false_eq_true, if_false, List.filter_nil, List.foldl_nil]
      refine ⟨?_, by omega⟩
      rw [hbit]
      by_cases hj : j = n
      · simp [hj, hp]
      · simp only [show decide (j < n) = decide (j < n + 1) from decide_eq_decide.2 (by omega)]
    | true =>
      simp only [List.filter_cons, hp, if_true, List.filter_nil, List.foldl_cons, List.foldl_nil]
      refine ⟨?_, by omega⟩
      rw [Nat.add_comm]
      rcases Nat.lt_trichotomy j n with hj | hj | hj
      · rw [Nat.testBit_two_pow_add_gt hj, hbit]
        simp [hj, Nat.lt_succ_of_lt hj]
      · subst hj
        rw [Nat.testBit_two_pow_add_eq, hbit]
        simp [hp]
      · rw [Nat.testBit_lt_two_pow (Nat.lt_of_lt_of_le (by omega) (Nat.pow_le_pow_right (by decide) hj))]
        simp [show ¬ j < n + 1 by omega]

/-- Which sources of a set fire: those that are enabled. -/
theorem bitOf_firing (s : State) (bits i : Nat) : bitOf (s.firing bits) i = (decide (i < 13) && (bitOf bits i && s.wakeEnabled i)) := by
  rw [bitOf_eq_testBit, State.firing]
  exact (testBit_sum_filter _ 13 i).1

theorem firing_lt (s : State) (bits : Nat) : s.firing bits < 2 ^ 13 := (testBit_sum_filter _ 13 0).2

/-- The fold of Table 13-3's rebuilding over the banks that were lost. -/
theorem frame_rebuildBanks (l : List Nat) (lost : Nat → Bool) (s : State) : Frame [.regs, .phy, .link, .rear, .mix, .ech, .wake]
    (some [0x3080, 0x4804]) s (l.foldl (fun t b => if lost b then t.rebuildBank b else t) s) :=
  Frame.foldl (Frame.rfl' s) (fun _ _ h => Frame.ite ((frame_rebuildBank _ _).after (by decide) h) h)

/-- An exit to S0 from any state but S5 leaves the intake as it is. -/
theorem exitToRun_intake {s : State} (h : s.pwr.state ≠ 5) : s.exitToRun.intake = s.intake := by
  unfold State.exitToRun
  split
  · rfl
  split
  · exact stim_intake _ _ _
  dsimp -proj only
  have hbanks : ((List.range 12).foldl (fun t b => if s.pwr.lost.getLsbD b then t.rebuildBank b else t)
      (s.clearDomain s.wasOff).restoreEq).intake = s.intake :=
    ((frame_rebuildBanks _ _ _).eq_of .intake rfl).trans
      (((frame_restoreEq _).eq_of .intake rfl).trans ((frame_clearDomain _ _).eq_of .intake rfl))
  rw [(frame_exitEvents _).eq_of .intake rfl, (frame_reloadModel _).eq_of .intake rfl]
  split
  all_goals
    refine ((frame_setPower _ _).eq_of .intake rfl).trans (Eq.trans ?_ hbanks)
    split <;> rfl

/-- A wake leaves the intake as it is, in every state but S5. -/
theorem wakeBy_intake {s : State} (h : s.pwr.state ≠ 5) (bits : Nat) : (s.wakeBy bits).intake = s.intake := by
  unfold State.wakeBy
  dsimp -proj only
  split
  · rfl
  have hbase := ((frame_abortEntry ((s.wr F.PWR_WAKE_CAUSE.cause (Nat.lor (s.rf F.PWR_WAKE_CAUSE.cause) (s.firing bits))).stim 13
    (s.firing bits)) (lowestBit (s.firing bits) 13)).eq_of .intake rfl).trans (stim_intake _ _ _)
  split
  · rw [exitToRun_intake]
    · exact hbase
    · rw [abortEntry_state, stim_pwr]
      exact h
  · exact hbase

theorem wakeBy_pins (s : State) (bits : Nat) : (s.wakeBy bits).pins = s.pins := (frame_wakeBy s bits).eq_of .pins rfl

theorem wakeBy_p57 (s : State) (bits : Nat) : (s.wakeBy bits).p57 = s.p57 := (frame_wakeBy s bits).eq_of .p57 rfl

end Sys2Proof.Proofs

/-! ## The P57's warning and its detectors

The power warning (R202) and HORN_WAKE (R211 to R213). -/

namespace Sys2Proof.Proofs

open Sys2Proof.Machine Sys2Proof.Laws

theorem exec_p57PowerWarning_rises {s : State} {mw : Nat} (hoff : s.p57.pwarn = false)
    (habove : classMw s.p57.cls.toNat * s.p57.warnPercent < 100 * mw) :
    exec (.p57PowerWarning mw) s = .next (s.modP57 (fun p => ({ p with pwarn := true }).setCause 1)) := by
  show execP57PowerWarning mw s = _
  rw [execP57PowerWarning, if_pos ⟨by simp [hoff], habove⟩]

theorem exec_p57PowerWarning_falls {s : State} {mw : Nat} (hon : s.p57.pwarn = true)
    (hbelow : 100 * mw ≤ classMw s.p57.cls.toNat * (s.p57.warnPercent - 5)) :
    exec (.p57PowerWarning mw) s = .next (s.modP57 (fun p => { p with pwarn := false })).warnClear := by
  show execP57PowerWarning mw s = _
  rw [execP57PowerWarning, if_neg (by simp [hon]), if_pos ⟨hon, hbelow⟩]

theorem exec_p57HornDetect_above {s : State} {mv : Nat} (hline : s.p57.lineOk = true) (hen : s.p57.hornCtl.getLsbD 0 = true)
    (hlevel : s.p57.hornLevel ≤ mv) : exec (.p57HornDetect mv) s = .next (s.hornWake 6) := by
  show execP57HornDetect mv s = _
  rw [execP57HornDetect, if_pos (by simp [hline, hen, hlevel])]

theorem exec_p57ActivityDetect_above {s : State} {mv : Nat} (hline : s.p57.lineOk = true) (hen : s.p57.hornCtl.getLsbD 1 = true)
    (hlevel : s.p57.hornLevel ≤ mv) : exec (.p57ActivityDetect mv) s = .next (s.hornWake 7) := by
  show execP57ActivityDetect mv s = _
  rw [execP57ActivityDetect, if_pos (by simp [hline, hen, hlevel])]

/-- HORN_WAKE rises with cause bit `i` (R211 to R213). -/
def raiseHorn (i : Nat) (p : P57) : P57 := { p.setCause i with hornWake := true }

theorem hornWake_eq {s v : State} {i : Nat}
    (hv : (if 4 ≤ s.pwr.state then (s.modP57 (raiseHorn i)).wakeBy 2 else s.modP57 (raiseHorn i)) = v) :
    s.hornWake i = if v.intakeFree then v.modP57 (fun p => p.clearCause (BitVec.ofNat 8 (2 ^ i))) else v := by
  rw [← hv]
  rfl

/-- HORN_WAKE in S0 to S3: nothing wakes, and the cause is cleared at once where the intake bus is free. -/
theorem hornWake_awake {s : State} {i : Nat} (h : s.pwr.state < 4) : s.hornWake i =
    { s with p57 := if s.intakeFree then (raiseHorn i s.p57).clearCause (BitVec.ofNat 8 (2 ^ i)) else raiseHorn i s.p57 } := by
  have hfree : State.intakeFree (s.modP57 (raiseHorn i)) = s.intakeFree := rfl
  rw [hornWake_eq (if_neg (Nat.not_le.2 h)), hfree]
  split <;> rfl

theorem wakeEnabled_horn (s : State) : s.wakeEnabled 1 = true := rfl

/-- HORN_WAKE wakes a node that sleeps in S4, and the cause is cleared once the intake bus is free. -/
theorem hornWake_asleep {s : State} {i : Nat} (hs4 : s.pwr.state = 4) (hfree : s.intakeFree = true) :
    (s.hornWake i).pwr.state = 0 ∧ (s.hornWake i).p57 = (raiseHorn i s.p57).clearCause (BitVec.ofNat 8 (2 ^ i)) := by
  have hwakes : ((s.modP57 (raiseHorn i)).wakeBy 2).pwr.state = 0 :=
    wakeBy_state_sleep _ 2 1 (by decide) (by rw [bitOf_firing, wakeEnabled_horn]; rfl) (by simp [wakeRange, hs4]) (by simp [wakeRange, hs4])
  have hfree' : ((s.modP57 (raiseHorn i)).wakeBy 2).intakeFree = true := by
    rw [State.intakeFree, wakeBy_intake (by rw [modP57_pwr]; omega), wakeBy_pins]
    exact hfree
  rw [hornWake_eq (if_pos (Nat.le_of_eq hs4.symm)), if_pos hfree']
  refine ⟨hwakes, ?_⟩
  show P57.clearCause ((s.modP57 (raiseHorn i)).wakeBy 2).p57 _ = _
  rw [wakeBy_p57]
  rfl

/-- Setting bit 6 and clearing it again clears it. -/
theorem clearCause_raiseHorn (p : P57) : (raiseHorn 6 p).clearCause (BitVec.ofNat 8 (2 ^ 6)) =
    { p with cause := p.cause &&& 0xBF, hornWake := decide (p.cause &&& 0x80 ≠ 0) } := by
  have hcause : ∀ c : BitVec 8, (c ||| 0x40) &&& ~~~0x40 = c &&& 0xBF := by decide
  have hother : ∀ c : BitVec 8, c &&& 0xBF &&& 0xC0 = c &&& 0x80 := by decide
  show ({ p with cause := (p.cause ||| 0x40) &&& ~~~0x40, hornWake := true && decide ((p.cause ||| 0x40) &&& ~~~0x40 &&& 0xC0 ≠ 0) } : P57) = _
  rw [hcause, hother, Bool.true_and]

/-- Setting bit 7 and clearing it again clears it. -/
theorem clearCause_raiseActivity (p : P57) : (raiseHorn 7 p).clearCause (BitVec.ofNat 8 (2 ^ 7)) =
    { p with cause := p.cause &&& 0x7F, hornWake := decide (p.cause &&& 0x40 ≠ 0) } := by
  have hcause : ∀ c : BitVec 8, (c ||| 0x80) &&& ~~~0x80 = c &&& 0x7F := by decide
  have hother : ∀ c : BitVec 8, c &&& 0x7F &&& 0xC0 = c &&& 0x40 := by decide
  show ({ p with cause := (p.cause ||| 0x80) &&& ~~~0x80, hornWake := true && decide ((p.cause ||| 0x80) &&& ~~~0x80 &&& 0xC0 ≠ 0) } : P57) = _
  rw [hcause, hother, Bool.true_and]

/-- Settles O5: the warning has two thresholds, and a detector is HORN_WAKE with its bit, awake or asleep. -/
theorem p57WarnsAndDetects : Obligations.P57WarnsAndDetects := by
  unfold Obligations.P57WarnsAndDetects
  refine ⟨fun s mw => exec_p57PowerWarning_rises, fun s mw => exec_p57PowerWarning_falls, ?horn, ?hornAsleep, ?activity, ?activityAsleep⟩
  case horn =>
    intro s mv hline hen hlevel hawake
    rw [exec_p57HornDetect_above hline hen hlevel, hornWake_awake hawake, clearCause_raiseHorn]
    rfl
  case hornAsleep =>
    intro s mv hline hen hlevel hs4 hfree
    obtain ⟨hrun, hp57⟩ := hornWake_asleep (i := 6) hs4 hfree
    exact ⟨_, exec_p57HornDetect_above hline hen hlevel, hrun, by rw [hp57, clearCause_raiseHorn]⟩
  case activity =>
    intro s mv hline hen hlevel hawake
    rw [exec_p57ActivityDetect_above hline hen hlevel, hornWake_awake hawake, clearCause_raiseActivity]
    rfl
  case activityAsleep =>
    intro s mv hline hen hlevel hs4 hfree
    obtain ⟨hrun, hp57⟩ := hornWake_asleep (i := 7) hs4 hfree
    exact ⟨_, exec_p57ActivityDetect_above hline hen hlevel, hrun, by rw [hp57, clearCause_raiseActivity]⟩

end Sys2Proof.Proofs

/-! ## Shedding

The step in force and the level it caps (R220 to R222). -/

namespace Sys2Proof.Proofs

open Sys2Proof.Machine Sys2Proof.Laws

theorem capLevel_lt (s : State) : s.capLevel < 2 ^ F.PWR_PERF.cap.width := by
  unfold State.capLevel
  split
  · decide
  · split <;> decide

theorem relevel_cap (s : State) : s.relevel.rf F.PWR_PERF.cap = s.capLevel := by
  show (((s.wr F.PWR_PERF.host_req s.hostReq).wr F.PWR_PERF.cap s.capLevel).put F.PWR_PERF.capped _).rf F.PWR_PERF.cap = _
  rw [rf_put_apart _ _ _ _ rfl rfl, rf_wr_same _ _ _ rfl, Nat.mod_eq_of_lt (capLevel_lt s)]

theorem stim_rf (s : State) (p n : Nat) (f : Field) (h : f.off ≠ 0x6028) : (s.stim p n).rf f = s.rf f :=
  (frame_stim s p n).rf_eq (by simpa using h)

/-- The step a write to it leaves before the levels are looked at. -/
theorem rf_step_of_wr (s : State) {n : Nat} (h : n < 8) : ((s.wr F.PWR_SHED_STATUS.step n).stim 12 n).rf F.PWR_SHED_STATUS.step = n := by
  rw [stim_rf _ _ _ _ (by decide), rf_wr_same _ _ _ rfl]
  exact Nat.mod_eq_of_lt h

theorem setStep_step (s : State) {n : Nat} (h : n < 8) : (s.setStep n).rf F.PWR_SHED_STATUS.step = n := by
  rw [State.setStep, (frame_relevel _).rf_eq rfl, rf_step_of_wr s h]

theorem setStep_cap (s : State) {n : Nat} (h : n < 8) :
    (s.setStep n).rf F.PWR_PERF.cap = if s.intake.brownout = true ∨ 6 ≤ n then 3 else if n = 5 then 2 else 0 := by
  rw [State.setStep, relevel_cap, State.capLevel, rf_step_of_wr s h, stim_intake, wr_intake]

theorem rf_step_lt (s : State) : s.rf F.PWR_SHED_STATUS.step < 8 := rf_lt s _

theorem exec_shedStep_due {s : State} (hshed : s.intake.shedding = true) (hwarn : s.p57.pwarn = true)
    (hstep : s.rf F.PWR_SHED_STATUS.step < 6) : exec .shedStep s = .next (s.setStep (s.rf F.PWR_SHED_STATUS.step + 1)) := by
  show execShedStep s = _
  rw [execShedStep, if_pos ⟨hshed, hwarn, hstep⟩]

theorem exec_shedRestore_due {s : State} (hwarn : s.p57.pwarn = false) (hstep : 0 < s.rf F.PWR_SHED_STATUS.step) :
    exec .shedRestore s = .next (s.setStep (s.rf F.PWR_SHED_STATUS.step - 1)) := by
  show execShedRestore s = _
  rw [execShedRestore, if_pos ⟨by simp [hwarn], hstep⟩]

theorem exec_shedExhausted_due {s : State} (hstep : s.rf F.PWR_SHED_STATUS.step = 6) (hwarn : s.p57.pwarn = true)
    (honce : s.intake.exhausted = false) :
    exec .shedExhausted s = .next (State.evBrownout { s with intake := { s.intake with exhausted := true } } 2 0) := by
  show execShedExhausted s = _
  rw [execShedExhausted, if_pos ⟨hstep, hwarn, by simp [honce]⟩]

theorem exec_shedExhausted_told {s : State} (honce : s.intake.exhausted = true) : exec .shedExhausted s = .next s := by
  show execShedExhausted s = _
  rw [execShedExhausted, if_neg (by simp [honce])]

/-- EV_BROWNOUT tells its cause, the shed step and the time PG was low (Table 10-11). -/
theorem told_evBrownout (s : State) (cause ms : Nat) :
    Told s (s.evBrownout cause ms) 17 cause (s.rf F.PWR_SHED_STATUS.step) 0 (BitVec.ofNat 32 ms) := told_raise _ _ _ _ _ _

theorem evBrownout_intake (s : State) (cause ms : Nat) : (s.evBrownout cause ms).intake = s.intake := raise_intake _ _ _ _ _ _

/-- Settles O6: a step or a restore sets the step, whose value caps the level; exhaustion sets its flag and raises its event. -/
theorem sheddingMovesByOneStep : Obligations.SheddingMovesByOneStep := by
  unfold Obligations.SheddingMovesByOneStep
  refine ⟨?shed, ?restore, ?exhausted, fun s => exec_shedExhausted_told⟩
  case shed =>
    intro s hshed hwarn hstep
    have hexec := exec_shedStep_due hshed hwarn hstep
    refine ⟨_, hexec, setStep_step s (by omega), fun h5 => ?_, (exFrame (frame_execShedStep s) hexec).only⟩
    rw [setStep_cap s (by omega), if_pos (.inr (by omega))]
  case restore =>
    intro s hwarn hstep
    have hexec := exec_shedRestore_due hwarn hstep
    have hlt := rf_step_lt s
    refine ⟨_, hexec, setStep_step s (by omega), fun hbrown h6 => ?_, (exFrame (frame_execShedRestore s) hexec).only⟩
    rw [setStep_cap s (by omega), if_neg (by simp [hbrown, h6]), if_pos (by omega)]
  case exhausted =>
    intro s hstep hwarn honce
    have hexec := exec_shedExhausted_due hstep hwarn honce
    refine ⟨_, hexec, evBrownout_intake _ _ _, ?_, (exFrame (frame_execShedExhausted s) hexec).only⟩
    exact told_from (hstep ▸ told_evBrownout { s with intake := { s.intake with exhausted := true } } 2 0) rfl rfl

end Sys2Proof.Proofs

/-! ## The intake master

Attention, retries and telemetry (R218, R219, R228). -/

namespace Sys2Proof.Proofs

open Sys2Proof.Machine Sys2Proof.Laws

theorem exec_intakeAttention_free {s : State} (ack : Bool) (hsurge : s.p57.surgeN = true) (hfree : s.intakeFree = true) :
    exec (.intakeAttention ack) s = .next (if ack then s.serveAttention else s.keepRetry none) := by
  show execIntakeAttention ack s = _
  rw [execIntakeAttention, if_pos ⟨hsurge, hfree⟩]

theorem takeSurge_p57 (s : State) (o : Bool) (mj : Nat) : (s.takeSurge o mj).p57 = s.p57 := (frame_takeSurge s o mj).eq_of .p57 rfl

theorem foldl_takeSurge_p57 (o : Bool) (l : List Nat) (s : State) : (l.foldl (fun t mj => t.takeSurge o mj) s).p57 = s.p57 := by
  induction l generalizing s with
  | nil => rfl
  | cons mj l ih => rw [List.foldl_cons, ih, takeSurge_p57]

/-- The P57 after an attention that was answered: its causes cleared but for the detectors' and its FIFO emptied (R218). -/
theorem serveAttention_p57 (s : State) : s.serveAttention.p57 =
    { s.p57.clearCause (s.p57.cause &&& 0x3F) with fifo := [], overflow := false } := by
  have hwarn : ∀ u : State, u.p57 = s.p57 → (if s.p57.cause.getLsbD 1 then u.warnRise else u).p57 = s.p57 := by
    intro u hu
    split
    · exact ((frame_warnRise u).eq_of .p57 rfl).trans hu
    · exact hu
  unfold State.serveAttention
  dsimp -proj only
  rw [foldl_takeSurge_p57, wakeBy_p57]
  show ({ P57.clearCause (State.p57 (ite _ _ _)) _ with fifo := [], overflow := false } : P57) = _
  rw [hwarn _ (stim_p57 _ _ _)]

theorem clearCause_read (p : P57) : p.clearCause (p.cause &&& 0x3F) =
    { p with cause := p.cause &&& 0xC0, hornWake := p.hornWake && decide (p.cause &&& 0xC0 ≠ 0) } := by
  have hcause : ∀ c : BitVec 8, c &&& ~~~(c &&& 0x3F) = c &&& 0xC0 := by decide
  have hhorn : ∀ c : BitVec 8, c &&& 0xC0 &&& 0xC0 = c &&& 0xC0 := by decide
  show ({ p with cause := p.cause &&& ~~~(p.cause &&& 0x3F), hornWake := p.hornWake && decide (p.cause &&& ~~~(p.cause &&& 0x3F) &&& 0xC0 ≠ 0) } : P57) = _
  rw [hcause, hhorn]

theorem exec_intakeBusRetry_again {s : State} {w : Option Nat} {n : Nat} (hretry : s.intake.retry = some (w, n)) (hn : n < 2) :
    exec (.intakeBusRetry false) s = .next { s with intake := { s.intake with retry := some (w, n + 1) } } := by
  show execIntakeBusRetry false s = _
  simp [execIntakeBusRetry, hretry, hn]

/-- The state in which the third retry has failed: the bus is given up until PG returns (R228). -/
def busGivenUp (s : State) : State :=
  State.bump { s with intake := { s.intake with retry := none, waiting := true } } F.PWR_INTAKE_STATUS.bus_err

theorem exec_intakeBusRetry_last {s : State} {w : Option Nat} {n : Nat} (hretry : s.intake.retry = some (w, n)) (hn : 2 ≤ n) :
    exec (.intakeBusRetry false) s = .next (if s.p57.pg then (busGivenUp s).evBrownout 3 0 else busGivenUp s) := by
  show execIntakeBusRetry false s = _
  unfold execIntakeBusRetry
  rw [hretry]
  dsimp -proj only
  rw [if_neg Bool.false_ne_true, if_neg (Nat.not_lt.2 hn)]
  rfl

theorem busGivenUp_bus_err (s : State) :
    (busGivenUp s).rf F.PWR_INTAKE_STATUS.bus_err = min (s.rf F.PWR_INTAKE_STATUS.bus_err + 1) 255 := bump_rf _ _ rfl

theorem frame_busGivenUp (s : State) :
    Frame [.regs, .intake, .hif] (some (F.PWR_INTAKE_STATUS.bus_err.off :: dropCounts)) s (busGivenUp s) :=
  (frame_bump _ _).after (by decide) (Frame.set_intake _ rfl (Frame.rfl' s))

theorem evBrownout_rf (s : State) (cause ms : Nat) (f : Field) (h : evRegs.elem f.off = false) : (s.evBrownout cause ms).rf f = s.rf f :=
  (frame_evBrownout s cause ms).rf_eq h

theorem exec_intakeBusRetry_answered {s : State} {n : Nat} (hretry : s.intake.retry = some (none, n)) :
    exec (.intakeBusRetry true) s = .next (State.serveAttention { s with intake := { s.intake with retry := none } }) := by
  show execIntakeBusRetry true s = _
  unfold execIntakeBusRetry
  rw [hretry]
  rfl

/-- The state a telemetry copy leaves while CORE is on and the bus is free (R219). -/
def telemetryCopied (s : State) (m : P57Telem) : State :=
  ((((((s.modP57 (fun p => { p with telem := m })).wr F.PWR_INTAKE_TELEM0.vin m.vin.toNat).wr F.PWR_INTAKE_TELEM0.iin m.iin.toNat).wr
    F.PWR_INTAKE_TELEM1.pin m.pin.toNat).wr F.PWR_INTAKE_TELEM1.vsys m.vsys.toNat).put F.PWR_INTAKE_STATUS.telem_stale false)

theorem exec_telemetryCopy_on {s : State} (m : P57Telem) (hon : s.pwr.state ≤ 1) (hfree : s.intakeFree = true) :
    exec (.telemetryCopy m) s = .next (telemetryCopied s m) := by
  have hfree' : State.intakeFree (s.modP57 (fun p => { p with telem := m })) = true := hfree
  show execTelemetryCopy m s = _
  unfold execTelemetryCopy
  dsimp -proj only
  rw [if_pos ⟨hon, hfree'⟩]
  rfl

theorem exec_telemetryCopy_off {s : State} (m : P57Telem) (hoff : 1 < s.pwr.state) :
    exec (.telemetryCopy m) s = .next (s.modP57 (fun p => { p with telem := m })) := by
  show execTelemetryCopy m s = _
  rw [execTelemetryCopy, if_neg (fun h => absurd h.1 (Nat.not_le.2 hoff))]

/-- Settles O7: an attention is served or kept for its retries, a retry counts up to the third, and telemetry is copied while CORE is on. -/
theorem intakeMasterTransacts : Obligations.IntakeMasterTransacts := by
  unfold Obligations.IntakeMasterTransacts
  refine ⟨?served, fun s => exec_intakeAttention_free false, fun s w n => exec_intakeBusRetry_again, ?givenUp, ?retried, ?copied,
    fun s => exec_telemetryCopy_off⟩
  case served =>
    intro s hsurge hfree
    exact ⟨_, exec_intakeAttention_free true hsurge hfree, by rw [if_pos rfl, serveAttention_p57, clearCause_read]⟩
  case givenUp =>
    intro s w n hretry hn
    have hexec := exec_intakeBusRetry_last hretry hn
    refine ⟨_, hexec, ?_, ?_, (Frame.ite (.after (frame_evBrownout _ _ _) (by decide) (frame_busGivenUp s)) (frame_busGivenUp s)).only⟩
    · split
      · exact evBrownout_intake _ _ _
      · rfl
    · split
      · rw [evBrownout_rf _ _ _ _ rfl, busGivenUp_bus_err]
      · exact busGivenUp_bus_err s
  case retried =>
    intro s n hretry hsurge hbrown hwait hreset
    have hfree : State.intakeFree { s with intake := { s.intake with retry := none } } = true := by
      simp [State.intakeFree, hbrown, hwait, hreset]
    exact (exec_intakeBusRetry_answered hretry).trans (exec_intakeAttention_free (s := { s with intake := { s.intake with retry := none } })
      true hsurge hfree).symm
  case copied =>
    intro s m hon hfree
    have hexec := exec_telemetryCopy_on m hon hfree
    have hword : ∀ h : Half, h.toNat % 2 ^ 16 = h.toNat := fun h => Nat.mod_eq_of_lt h.isLt
    refine ⟨_, hexec, rfl, ?_, ?_, ?_, ?_, ?_, (exFrame (frame_execTelemetryCopy m s) hexec).only⟩
    · rw [telemetryCopied, rf_put_apart _ _ _ _ rfl rfl, rf_wr_apart _ _ _ _ rfl rfl, rf_wr_apart _ _ _ _ rfl rfl,
        rf_wr_apart _ _ _ _ rfl rfl, rf_wr_same _ _ _ rfl]
      exact hword _
    · rw [telemetryCopied, rf_put_apart _ _ _ _ rfl rfl, rf_wr_apart _ _ _ _ rfl rfl, rf_wr_apart _ _ _ _ rfl rfl,
        rf_wr_same _ _ _ rfl]
      exact hword _
    · rw [telemetryCopied, rf_put_apart _ _ _ _ rfl rfl, rf_wr_apart _ _ _ _ rfl rfl, rf_wr_same _ _ _ rfl]
      exact hword _
    · rw [telemetryCopied, rf_put_apart _ _ _ _ rfl rfl, rf_wr_same _ _ _ rfl]
      exact hword _
    · exact rf_put_same _ _ _ rfl rfl

end Sys2Proof.Proofs

/-! ## Brownout

PG's fall, its return and a fall that lasts (R224 to R226). -/

namespace Sys2Proof.Proofs

open Sys2Proof.Machine Sys2Proof.Laws

/-- The state PG's fall leaves: the actions of a brownout in force (R224). -/
def brownoutBegun (s : State) : State :=
  State.relevel { (s.modP57 (fun p => { p with pg := false })).put F.PWR_INTAKE_STATUS.pg false with
    intake := { s.intake with brownout := true, sustained := false } }

theorem exec_pgFall_begins {s : State} (h : s.intake.brownout = false) : exec .pgFall s = .next (brownoutBegun s) := by
  have h' : ((s.modP57 (fun p => { p with pg := false })).put F.PWR_INTAKE_STATUS.pg false).intake.brownout = false := h
  show execPgFall s = _
  unfold execPgFall
  dsimp -proj only
  rw [if_neg (by rw [h']; exact Bool.false_ne_true)]
  rfl

theorem brownoutBegun_cap (s : State) : (brownoutBegun s).rf F.PWR_PERF.cap = 3 := by
  rw [brownoutBegun, relevel_cap, State.capLevel, if_pos (.inl rfl)]

theorem brownoutBegun_pg (s : State) : (brownoutBegun s).rf F.PWR_INTAKE_STATUS.pg = 0 := by
  rw [brownoutBegun, (frame_relevel _).rf_eq rfl]
  exact rf_put_same _ _ _ rfl rfl

/-- PG is high again (R225). -/
def pgRaised (s : State) : State := (s.modP57 (fun p => { p with pg := true })).put F.PWR_INTAKE_STATUS.pg true

/-- PG is back and has woken what it wakes; the P57 has not been spoken to yet (R225, R560). -/
def pgBack (s : State) : State := (pgRaised s).wakeBy 1024

theorem exec_pgRestored (s : State) (ack : Bool) (ms : Nat) :
    exec (.pgRestored ack ms) s = .next (if ack then (pgBack s).restorePg ms else (pgBack s).keepRetry (some ms)) := rfl

theorem frame_pgRaised (s : State) : Frame [.regs, .p57] (some [F.PWR_INTAKE_STATUS.pg.off]) s (pgRaised s) :=
  (frame_put _ _ _).after (by decide) ((frame_modP57 s _).mono (by decide))

theorem frame_pgBack_run {s : State} (h : s.pwr.state = 0) :
    Frame [.regs, .p57, .pwr, .dbg] (some [F.PWR_INTAKE_STATUS.pg.off, 0x0864, 0x0890, 0x6028]) s (pgBack s) :=
  (frame_wakeBy_run (pgRaised s) 1024 h).after (by decide) ((frame_pgRaised s).mono (by decide))

theorem pgBack_p57 (s : State) : (pgBack s).p57 = { s.p57 with pg := true } := wakeBy_p57 (pgRaised s) _

theorem pgBack_state {s : State} (h : s.pwr.state = 0) : (pgBack s).pwr.state = 0 :=
  wakeBy_state_run (pgRaised s) _ h

theorem pgBack_intake {s : State} (h : s.pwr.state = 0) : (pgBack s).intake = s.intake := (frame_pgBack_run h).eq_of .intake rfl

theorem pgBack_rf {s : State} (h : s.pwr.state = 0) (f : Field) (hf : fits f = true) (hpg : apart F.PWR_INTAKE_STATUS.pg f = true)
    (hoff : List.elem f.off [0x0864, 0x0890, 0x6028] = false) : (pgBack s).rf f = s.rf f := by
  rw [pgBack, (frame_wakeBy_run (pgRaised s) 1024 h).rf_eq hoff]
  exact rf_put_apart _ _ _ _ hf hpg

theorem pgBack_pg {s : State} (h : s.pwr.state = 0) : (pgBack s).rf F.PWR_INTAKE_STATUS.pg = 1 := by
  rw [pgBack, (frame_wakeBy_run (pgRaised s) 1024 h).rf_eq rfl]
  exact rf_put_same _ _ _ rfl rfl

/-- The brownout is over (R225). -/
def calmed (u : State) : State :=
  State.relevel { u with intake := { u.intake with brownout := false, sustained := false, waiting := false, retry := none } }

theorem frame_calmed (u : State) : Frame [.regs, .intake, .pwr] (some [0x0880]) u (calmed u) :=
  (frame_relevel _).after (by decide) (Frame.set_intake _ rfl (Frame.rfl' u))

theorem restorePg_kept {u : State} (ms : Nat) (h : u.p57.fresh = false) (hwas : u.intake.brownout = true) :
    u.restorePg ms = (calmed u).evBrownout 0 ms := by
  unfold State.restorePg
  dsimp -proj only
  rw [h, if_neg Bool.false_ne_true, if_neg Bool.false_ne_true, if_pos hwas]
  rfl

/-- A P57 that came back from its own reset is written again, and the tag is told. -/
def p57Renewed (u : State) : State :=
  State.lifeEvent (calmed u.rewriteP57) 3 ((calmed u.rewriteP57).rf F.PWR_INTAKE_STATUS.p57_gen) false

theorem restorePg_fresh {u : State} (ms : Nat) (h : u.p57.fresh = true) :
    u.restorePg ms = if u.rewriteP57.intake.brownout then (p57Renewed u).evBrownout 0 ms else p57Renewed u := by
  unfold State.restorePg
  dsimp -proj only
  rw [h, if_pos rfl, if_pos rfl]
  rfl

theorem frame_p57Renewed {u : State} (h : u.pwr.state = 0) :
    Frame [.regs, .hif, .sby, .tag, .cart, .intake, .p57, .pwr, .dbg, .free]
      (some (evRegs ++ [0x864, 0x890, 0x1414, 0x5004, 0x5010, 0x5014, 0x501C, 0x6028, 0x6848, 0x880])) u.rewriteP57 (p57Renewed u) := by
  have hcore : (calmed u.rewriteP57).coreOn = true := by
    show decide (u.pwr.state ≤ 1) = true
    rw [h]
    rfl
  exact (frame_lifeEvent_run _ _ _ _ hcore).after (by decide) ((frame_calmed _).mono (by decide))

theorem p57Renewed_p57 (u : State) : (p57Renewed u).p57 = u.rewriteP57.p57 :=
  ((frame_lifeEvent _ _ _ _).eq_of .p57 rfl).trans ((frame_calmed _).eq_of .p57 rfl)

theorem rewriteP57_gen (u : State) :
    u.rewriteP57.rf F.PWR_INTAKE_STATUS.p57_gen = (u.rf F.PWR_INTAKE_STATUS.p57_gen + 1) % 256 := by
  rw [State.rewriteP57, rf_put_apart _ _ _ _ rfl rfl, State.wrapInc, rf_wr_same _ _ _ rfl]
  rfl

theorem rewriteP57_flag (u : State) : u.rewriteP57.rf F.GLB_BLOCK_RESET.p57 = 1 := rf_put_same _ _ _ rfl rfl

/-- Telling the end of a brownout, where there was one, leaves what the renewal left. -/
theorem restorePg_fresh_rf {u : State} (ms : Nat) (h : u.p57.fresh = true) (hs : u.pwr.state = 0) (f : Field)
    (hev : evRegs.elem f.off = false)
    (hoff : List.elem f.off (evRegs ++ [0x864, 0x890, 0x1414, 0x5004, 0x5010, 0x5014, 0x501C, 0x6028, 0x6848, 0x880]) = false) :
    (u.restorePg ms).rf f = u.rewriteP57.rf f := by
  rw [restorePg_fresh ms h]
  split
  · rw [evBrownout_rf _ _ _ _ hev, (frame_p57Renewed hs).rf_eq hoff]
  · exact (frame_p57Renewed hs).rf_eq hoff

theorem restorePg_fresh_p57 {u : State} (ms : Nat) (h : u.p57.fresh = true) : (u.restorePg ms).p57 = u.rewriteP57.p57 := by
  rw [restorePg_fresh ms h]
  split
  · exact (raise_p57 _ _ _ _ _ _).trans (p57Renewed_p57 u)
  · exact p57Renewed_p57 u

theorem exec_brownoutSustained_first {s : State} (hbrown : s.intake.brownout = true) (honce : s.intake.sustained = false) :
    exec .brownoutSustained s = .next (State.evBrownout { s with intake := { s.intake with sustained := true } } 1 0) := by
  show execBrownoutSustained s = _
  rw [execBrownoutSustained, if_pos ⟨hbrown, by simp [honce]⟩]

/-- Settles O8: the fall begins a brownout, PG's answered return ends it and renews a P57 that lost its power. -/
theorem brownoutBeginsAndEnds : Obligations.BrownoutBeginsAndEnds := by
  unfold Obligations.BrownoutBeginsAndEnds
  refine ⟨?fall, ?restored, ?renewed, ?unanswered, ?sustained⟩
  case fall =>
    intro s h
    have hexec := exec_pgFall_begins h
    exact ⟨_, hexec, rfl, rfl, brownoutBegun_pg s, brownoutBegun_cap s, ((exFrame (frame_execPgFall s) hexec).mono (by decide)).only⟩
  case restored =>
    intro s ms hs hbrown hfresh
    have hrun := frame_pgBack_run hs
    have hframe := (frame_calmed (pgBack s)).after (by decide) (hrun.mono (w' := [.regs, .p57, .intake, .pwr, .dbg])
      (r' := some [F.PWR_INTAKE_STATUS.pg.off, 0x0864, 0x0890, 0x6028, 0x0880]) (by decide))
    have hkept : (pgBack s).restorePg ms = (calmed (pgBack s)).evBrownout 0 ms :=
      restorePg_kept ms (by rw [pgBack_p57]; exact hfresh) (by rw [pgBack_intake hs]; exact hbrown)
    refine ⟨_, exec_pgRestored s true ms, ?_, ?_, ?_, ?_⟩ <;> rw [if_pos rfl, hkept]
    · exact (raise_p57 _ _ _ _ _ _).trans (((frame_calmed _).eq_of .p57 rfl).trans (pgBack_p57 s))
    · rw [evBrownout_intake]
      show ({ (pgBack s).intake with brownout := false, sustained := false, waiting := false, retry := none } : Intake) = _
      rw [pgBack_intake hs]
    · rw [evBrownout_rf _ _ _ _ rfl, (frame_calmed _).rf_eq rfl, pgBack_pg hs]
    · have htold := told_evBrownout (calmed (pgBack s)) 0 ms
      rw [hframe.rf_eq rfl] at htold
      exact told_from htold (hframe.eq_of .hif rfl).symm (hframe.eq_of .plt rfl).symm
  case renewed =>
    intro s ms hs hfresh
    have hfresh' : (pgBack s).p57.fresh = true := by rw [pgBack_p57]; exact hfresh
    have hs' := pgBack_state hs
    refine ⟨_, exec_pgRestored s true ms, ?_, ?_, ?_⟩ <;> rw [if_pos rfl]
    · rw [restorePg_fresh_p57 ms hfresh']
      show ({ (pgBack s).p57 with
        cls := BitVec.ofNat 2 (pgBack s).intake.admitted, percent := 90, hornCtl := 0x41, srcCtl := 0x01, causeEn := 0x7F, fresh := false } : P57) = _
      rw [pgBack_p57, pgBack_intake hs]
    · rw [restorePg_fresh_rf ms hfresh' hs' _ rfl rfl, rewriteP57_gen, pgBack_rf hs _ rfl rfl rfl]
    · rw [restorePg_fresh_rf ms hfresh' hs' _ rfl rfl, rewriteP57_flag]
  case unanswered =>
    intro s ms hs
    refine ⟨_, exec_pgRestored s false ms, pgBack_p57 s, ?_⟩
    show ({ (pgBack s).intake with retry := some (some ms, 0) } : Intake) = _
    rw [pgBack_intake hs]
  case sustained =>
    intro s hbrown honce
    have hexec := exec_brownoutSustained_first hbrown honce
    refine ⟨_, hexec, evBrownout_intake _ _ _, ?_, (exFrame (frame_execBrownoutSustained s) hexec).only⟩
    exact told_from (told_evBrownout { s with intake := { s.intake with sustained := true } } 1 0) rfl rfl

end Sys2Proof.Proofs

/-! ## Entering and leaving sleep

What an entry leaves (R539), and an entry that must report first (R537). -/

namespace Sys2Proof.Proofs

open Sys2Proof.Machine Sys2Proof.Laws

theorem enterSleep_state (s : State) (n : Nat) : (s.enterSleep n).pwr.state = n := congrArg Pwr.state (stim_pwr _ _ _)

theorem enterSleep_entering (s : State) (n : Nat) : (s.enterSleep n).pwr.entering = none := congrArg Pwr.entering (stim_pwr _ _ _)

theorem enterSleep_holds (s : State) (n : Nat) : (s.enterSleep n).pwr.holds = [0, 0, 0, 0] := congrArg Pwr.holds (stim_pwr _ _ _)

theorem enterSleep_tx (s : State) (n : Nat) : (s.enterSleep n).phy.tx = [] := congrArg Phy.tx (stim_phy _ _ _)

theorem enterSleep_beaconOk (s : State) (n : Nat) : (s.enterSleep n).plt.beaconOk = false := congrArg Plt.beaconOk (stim_plt _ _ _)

theorem loseBanks_plt (s : State) (n : Nat) : (s.loseBanks n).plt = s.plt := (frame_loseBanks s n).eq_of .plt rfl

/-- Line time is lost in S4 and S5 (R47). -/
theorem enterSleep_lpcInvalid (s : State) {n : Nat} (h : 4 ≤ n) : (s.enterSleep n).plt.lpcInvalid = true := by
  have hpins : ∀ u : State, (if n = 5 then { u with pins := { u.pins with callLed := 7 } } else u).plt = u.plt := by
    intro u
    split <;> rfl
  refine (congrArg Plt.lpcInvalid (stim_plt _ _ _)).trans ?_
  show Plt.lpcInvalid (State.plt (ite _ _ _)) = true
  rw [hpins, loseBanks_plt, if_pos h]

/-- Refused votes are looked at again and told before an entry (R551). -/
def votesTold (s : State) (n : Nat) : State := (s.refreshRefusals).tellShallow n

theorem frame_votesTold (s : State) (n : Nat) : Frame [.regs, .hif, .pwr] (some (evRegs ++ refuseRegs)) s (votesTold s n) :=
  (frame_tellShallow _ n).after (by decide) ((frame_refreshRefusals_regs s).mono (by decide))

theorem mustReport_votesTold (s : State) (k n : Nat) : (votesTold s k).mustReport n = s.mustReport n := by
  have hrf : ∀ f : Field, List.elem f.off (evRegs ++ refuseRegs) = false → (votesTold s k).rf f = s.rf f :=
    fun f hf => (frame_votesTold s k).rf_eq hf
  unfold State.mustReport State.addr State.locked State.lineDown State.lineState State.on
  rw [(frame_votesTold s k).eq_of .link rfl, hrf _ rfl, hrf (lkF .a F.LINE_ADDR.addr) rfl, hrf F.PLT_LPC_STATUS.locked rfl,
    hrf F.PLT_LPC_STATUS.line_down rfl, hrf _ rfl]

theorem startEntry_silent {s : State} {n : Nat} (h : s.mustReport n = false) : s.startEntry n = (votesTold s n).enterSleep n := by
  have h' : (votesTold s n).mustReport n = false := (mustReport_votesTold s n n).trans h
  unfold State.startEntry
  exact if_neg (by rw [← votesTold, h']; exact Bool.false_ne_true)

theorem startEntry_reports {s : State} {n : Nat} (h : s.mustReport n = true) : s.startEntry n =
    State.statusDue { votesTold s n with pwr := { (votesTold s n).pwr with entering := some n, entrySince := some (votesTold s n).lpc } } .a := by
  have h' : (votesTold s n).mustReport n = true := (mustReport_votesTold s n n).trans h
  unfold State.startEntry
  exact if_pos h'

theorem countRefuser_state (s : State) (c : Nat) : (s.countRefuser c).pwr.state = s.pwr.state := by
  rw [State.countRefuser, bump_pwr]

theorem foldl_countRefuser_state (l : List Nat) (s : State) : (l.foldl (fun t c => t.countRefuser c) s).pwr.state = s.pwr.state := by
  induction l generalizing s with
  | nil => rfl
  | cons c l ih => rw [List.foldl_cons, ih, countRefuser_state]

theorem tellRefused_state (s : State) (r : RefusedVote) : (s.tellRefused r).pwr.state = s.pwr.state := by
  rw [State.tellRefused, raise_pwr]

theorem foldl_tellRefused_state (l : List RefusedVote) (s : State) : (l.foldl (fun t r => t.tellRefused r) s).pwr.state = s.pwr.state := by
  induction l generalizing s with
  | nil => rfl
  | cons r l ih => rw [List.foldl_cons, ih, tellRefused_state]

theorem refreshRefusals_state (s : State) : s.refreshRefusals.pwr.state = s.pwr.state := by
  unfold State.refreshRefusals
  dsimp -proj only
  exact foldl_countRefuser_state _ s

theorem votesTold_state (s : State) (n : Nat) : (votesTold s n).pwr.state = s.pwr.state := by
  rw [votesTold, State.tellShallow, foldl_tellRefused_state, refreshRefusals_state]

theorem exec_sleepHoldExpiry_due {s : State} {n : Nat} (hcore : s.coreOn = true) (hnone : s.pwr.entering = none)
    (hrun : s.pins.resetHeld = false) (hbell : s.awaitsBell = false) (hdue : s.dueState = some n) :
    exec .sleepHoldExpiry s = .next (s.startEntry n) := by
  show execSleepHoldExpiry s = _
  simp [execSleepHoldExpiry, hcore, hnone, hrun, hbell, hdue]

theorem exec_sleepEntryAbort_late {s : State} {e : Word} (hsince : s.pwr.entrySince = some e) (hlate : 64 ≤ (s.lpc - e).toNat) :
    exec .sleepEntryAbort s = .next { s with pwr := { s.pwr with entering := none, entrySince := none, holds := [0, 0, 0, 0] } } := by
  show execSleepEntryAbort s = _
  unfold execSleepEntryAbort
  rw [hsince]
  dsimp -proj only
  rw [if_pos hlate]

theorem exec_s1Entry_allowed {s : State} (hs : s.pwr.state = 0) (hdepth : 1 ≤ s.allowedDepth) (hnone : s.pwr.entering = none) :
    exec .s1Entry s = .next (State.stim { s with pwr := { s.pwr with state := 1 } } 2 (1 + 16 * s.rf F.PWR_PERF.in_force)) := by
  show execS1Entry s = _
  rw [execS1Entry, if_pos ⟨hs, hdepth, by simp [hnone]⟩]

theorem exec_s1Exit_s1 {s : State} (hs : s.pwr.state = 1) :
    exec .s1Exit s = .next (State.stim { s with pwr := { s.pwr with state := 0 } } 2 (16 * s.rf F.PWR_PERF.in_force)) := by
  show execS1Exit s = _
  rw [execS1Exit, if_pos hs]

/-- Settles O9: the entry due is made at once or waits for its report, and S1 is a change of state alone. -/
theorem sleepIsEntered : Obligations.SleepIsEntered := by
  unfold Obligations.SleepIsEntered
  refine ⟨?enters, ?waits, fun s e => exec_sleepEntryAbort_late, ?s1Entry, ?s1Exit⟩
  case enters =>
    intro s n hcore hnone hrun hbell hdue hsilent
    refine ⟨_, exec_sleepHoldExpiry_due hcore hnone hrun hbell hdue, ?_⟩
    rw [startEntry_silent hsilent]
    exact ⟨enterSleep_state _ _, enterSleep_entering _ _, enterSleep_holds _ _, enterSleep_tx _ _, enterSleep_beaconOk _ _,
      enterSleep_lpcInvalid _⟩
  case waits =>
    intro s n hcore hnone hrun hbell hdue hreport
    refine ⟨_, exec_sleepHoldExpiry_due hcore hnone hrun hbell hdue, ?_⟩
    rw [startEntry_reports hreport, (frame_statusDue _ _).eq_of .pwr rfl]
    exact ⟨votesTold_state s n, rfl, congrArg some (lpc_congr ((frame_votesTold s n).eq_of .plt rfl))⟩
  case s1Entry =>
    intro s hs hdepth hnone
    have hexec := exec_s1Entry_allowed hs hdepth hnone
    exact ⟨_, hexec, stim_pwr _ _ _, (exFrame (frame_execS1Entry s) hexec).only⟩
  case s1Exit =>
    intro s hs
    have hexec := exec_s1Exit_s1 hs
    exact ⟨_, hexec, stim_pwr _ _ _, (exFrame (frame_execS1Exit s) hexec).only⟩

end Sys2Proof.Proofs

/-! ## Wake sources and the real-time clock

The causes a source leaves (R552), the clock and its alarm (R553, R676). -/

namespace Sys2Proof.Proofs

open Sys2Proof.Machine Sys2Proof.Laws

/-- A source that fires in S0 only adds to the causes and ends an entry. -/
theorem wakeBy_cause_run {s : State} {bits : Nat} (hs : s.pwr.state = 0) (hfire : s.firing bits ≠ 0) :
    (s.wakeBy bits).rf F.PWR_WAKE_CAUSE.cause = Nat.lor (s.rf F.PWR_WAKE_CAUSE.cause) (s.firing bits) := by
  have hlor : Nat.lor (s.rf F.PWR_WAKE_CAUSE.cause) (s.firing bits) < 2 ^ 13 :=
    Nat.or_lt_two_pow (rf_lt s F.PWR_WAKE_CAUSE.cause) (firing_lt s bits)
  have hcause : ((((s.wr F.PWR_WAKE_CAUSE.cause (Nat.lor (s.rf F.PWR_WAKE_CAUSE.cause) (s.firing bits))).stim 13 (s.firing bits)).abortEntry
      (lowestBit (s.firing bits) 13))).rf F.PWR_WAKE_CAUSE.cause = Nat.lor (s.rf F.PWR_WAKE_CAUSE.cause) (s.firing bits) := by
    rw [(frame_abortEntry _ _).rf_eq rfl, stim_rf _ _ _ _ (by decide), rf_wr_same _ _ _ rfl]
    exact Nat.mod_eq_of_lt hlor
  unfold State.wakeBy
  dsimp -proj only
  rw [if_neg hfire]
  split
  · rw [State.exitToRun, if_pos]
    · exact hcause
    · rw [abortEntry_state, stim_pwr]
      exact hs
  · exact hcause

theorem exec_wakeSource_running {s : State} (bits : BitVec 13) (hrun : s.pins.resetHeld = false) :
    exec (.wakeSource bits) s = .next (s.wakeBy bits.toNat) := by
  show execWakeSource bits s = _
  rw [execWakeSource, if_neg (by simp [hrun])]

theorem exec_watchCycle_due {s : State} (hs : s.pwr.state = 3) (hdue : s.watchDue = true) :
    exec .watchCycle s = .next { s with phy := { s.phy with watch := some s.lpc } } := by
  show execWatchCycle s = _
  rw [execWatchCycle, if_pos ⟨hs, hdue⟩]

theorem exec_rtcTick_runs {s : State} (h : s.pins.rtcCrystal = true) :
    exec .rtcTick s = .next (s.wr F.PWR_RTC.seconds (s.rf F.PWR_RTC.seconds + 1)) := by
  show execRtcTick s = _
  rw [execRtcTick, if_pos h]

theorem exec_rtc_stopped {s : State} (h : s.pins.rtcCrystal = false) : exec .rtcTick s = .next s ∧ exec .rtcAlarm s = .next s := by
  show execRtcTick s = _ ∧ execRtcAlarm s = _
  rw [execRtcTick, execRtcAlarm, if_neg (by simp [h]), if_neg (by simp [h])]
  exact ⟨rfl, rfl⟩

theorem exec_rtcAlarm_due {s : State} (h : s.pins.rtcCrystal = true) (hset : s.rf F.PWR_RTC_ALARM.seconds ≠ 0)
    (hnow : s.rf F.PWR_RTC.seconds = s.rf F.PWR_RTC_ALARM.seconds) :
    exec .rtcAlarm s = .next ((s.wr F.PWR_RTC_ALARM.seconds 0).wakeBy 4) := by
  show execRtcAlarm s = _
  rw [execRtcAlarm, if_pos ⟨h, hset, hnow⟩]

/-- Source 2, the alarm, is optional (R552). -/
theorem wakeEnabled_rtc (s : State) : s.wakeEnabled 2 = bitOf (s.reg F.PWR_WAKE_EN.rtc.off).toNat 2 := rfl

theorem firing_rtc {s : State} (h : s.wakeEnabled 2 = true) : bitOf ((s.wr F.PWR_RTC_ALARM.seconds 0).firing 4) 2 = true := by
  have hen : (s.wr F.PWR_RTC_ALARM.seconds 0).wakeEnabled 2 = true := by
    rw [wakeEnabled_rtc, reg_wr_ne _ _ (by decide), ← wakeEnabled_rtc]
    exact h
  rw [bitOf_firing, hen]
  rfl

/-- Settles O10: a source that fires leaves its bit in S0, and brings a node in its range of states there. -/
theorem wakeSourcesAct : Obligations.WakeSourcesAct := by
  unfold Obligations.WakeSourcesAct
  refine ⟨?running, ?sleeping, fun s => exec_watchCycle_due, ?tick, fun s => rfl, fun s => exec_rtc_stopped, ?alarm, ?alarmWakes⟩
  case running =>
    intro s bits hrun hs hfire
    refine ⟨_, exec_wakeSource_running bits hrun, wakeBy_state_run s _ hs, fun i _ => ?_, ((frame_wakeBy_run s _ hs).mono (by decide)).only⟩
    rw [wakeBy_cause_run hs hfire, bitOf_eq_testBit, bitOf_eq_testBit, bitOf_eq_testBit]
    exact Nat.testBit_or _ _ i
  case sleeping =>
    intro s bits i hrun hi hfire hlow hhigh
    exact ⟨_, exec_wakeSource_running bits hrun, wakeBy_state_sleep s _ i hi hfire hlow hhigh⟩
  case tick =>
    intro s h
    have hexec := exec_rtcTick_runs h
    exact ⟨_, hexec, rf_wr_same _ _ _ rfl, (exFrame (frame_execRtcTick s) hexec).only⟩
  case alarm =>
    intro s h hset hnow hs
    have hwake := frame_wakeBy_run (s.wr F.PWR_RTC_ALARM.seconds 0) 4 hs
    refine ⟨_, exec_rtcAlarm_due h hset hnow, ?_, (hwake.after (by decide) ((frame_wr s _ 0).mono (by decide))).only⟩
    rw [hwake.rf_eq rfl, rf_wr_same _ _ _ rfl]
    rfl
  case alarmWakes =>
    intro s h hset hnow hen hlow hhigh
    exact ⟨_, exec_rtcAlarm_due h hset hnow,
      wakeBy_state_sleep (s.wr F.PWR_RTC_ALARM.seconds 0) 4 2 (by decide) (firing_rtc hen) hlow hhigh⟩

end Sys2Proof.Proofs

/-! ## The performance level and refused votes

The end of a change of level (R531, R562) and the report of a refusal (R551). -/

namespace Sys2Proof.Proofs

open Sys2Proof.Machine Sys2Proof.Laws

/-- The target level is in force and shown, before what waits for it completes. -/
def levelReached (s : State) : State :=
  State.stim { s.wr F.PWR_PERF.in_force s.targetLevel with pwr := { s.pwr with changing := false } } 2
    (s.pwr.state + 16 * (s.wr F.PWR_PERF.in_force s.targetLevel).rf F.PWR_PERF.in_force)

theorem exec_perfLevelChangeDone_changing {s : State} (hcore : s.coreOn = true) (hchange : s.pwr.changing = true) :
    exec .perfLevelChangeDone s = .next ((List.range 17).foldl (fun t c => t.perfDone c) (levelReached s)) := by
  show execPerfLevelChangeDone s = _
  rw [execPerfLevelChangeDone, if_pos ⟨hcore, hchange⟩]
  rfl

theorem targetLevel_lt (s : State) : s.targetLevel < 4 := by
  have hcap : s.capLevel < 4 := capLevel_lt s
  have hwant : s.wantLevel < 4 :=
    Nat.lt_of_le_of_lt (Nat.le_trans (Nat.min_le_left _ _) (Nat.min_le_left _ _)) (rf_lt s F.PWR_PERF.cc_req)
  exact Nat.max_lt.2 ⟨hwant, hcap⟩

theorem levelReached_in_force (s : State) : (levelReached s).rf F.PWR_PERF.in_force = s.targetLevel := by
  rw [levelReached, stim_rf _ _ _ _ (by decide)]
  show (s.wr F.PWR_PERF.in_force s.targetLevel).rf F.PWR_PERF.in_force = _
  rw [rf_wr_same _ _ _ rfl]
  exact Nat.mod_eq_of_lt (targetLevel_lt s)

theorem frame_levelWaits (s : State) : Frame [.regs, .hif, .dbg] (some [0x1414, 0x6028, 0x6848]) (levelReached s)
    ((List.range 17).foldl (fun t c => t.perfDone c) (levelReached s)) := perfFold _ _ _ (Frame.rfl' _)

theorem exec_refusalReport (s : State) : exec .refusalReport s =
    .next (match s.refreshRefusals.pwr.refused.find? (fun r => !r.reported) with
      | some r => s.refreshRefusals.tellRefused r
      | none => s.refreshRefusals) := rfl

/-- A report tells the lowest refuser and starts the count again (R551). -/
theorem told_tellRefused (s : State) (r : RefusedVote) :
    Told s (s.tellRefused r) 16 (r.refusers.foldl min 31) r.asked 0 (BitVec.ofNat 32 s.pwr.refusals) :=
  told_from (told_raise { s with pwr := _ } _ _ _ _ _) rfl rfl

theorem tellRefused_refusals (s : State) (r : RefusedVote) : (s.tellRefused r).pwr.refusals = 0 := by
  rw [State.tellRefused, raise_pwr]

/-- Settles O11: what waits for a level leaves the level and power alone, and a report is one event. -/
theorem levelsAndRefusalsAreTold : Obligations.LevelsAndRefusalsAreTold := by
  unfold Obligations.LevelsAndRefusalsAreTold
  refine ⟨?level, ?report, ?nothing⟩
  case level =>
    intro s hcore hchange
    have hexec := exec_perfLevelChangeDone_changing hcore hchange
    refine ⟨_, hexec, ?_, ?_, ((exFrame (frame_execPerfLevelChangeDone s) hexec).mono (by decide)).only⟩
    · rw [(frame_levelWaits s).rf_eq rfl, levelReached_in_force]
    · rw [(frame_levelWaits s).eq_of .pwr rfl]
      exact stim_pwr _ _ _
  case report =>
    intro s r hr
    have hexec : exec .refusalReport s = .next (s.refreshRefusals.tellRefused r) := by rw [exec_refusalReport, hr]
    exact ⟨_, hexec, tellRefused_refusals _ r, told_tellRefused _ r, (exFrame (frame_execRefusalReport s) hexec).parts⟩
  case nothing =>
    intro s hnone
    rw [exec_refusalReport, hnone]

end Sys2Proof.Proofs

/-! ## The tag's two sides

What a store to the tag's memory leaves (R473, R474, R495), and what a wired or contactless transaction does under the lock (R490 to R492). -/

namespace Sys2Proof.Proofs

open Sys2Proof.Machine Sys2Proof.Laws

/-! ### Stores -/

/-- A byte the store was given. -/
theorem get_put_inside (c : Cart) (a : Nat) (bs : List Byte) {i : Nat} (h : i < bs.length) : (c.put a bs).get (a + i) = bs.getD i 0 :=
  get_setList_same tagFactory c.mem a i bs 0 h

/-- A byte outside the store. -/
theorem get_put_outside (c : Cart) (a : Nat) (bs : List Byte) {x : Nat} (h : x < a ∨ a + bs.length ≤ x) : (c.put a bs).get x = c.get x :=
  get_setList_ne tagFactory c.mem a x bs h

theorem length_toLe (n v : Nat) : (toLe n v).length = n := by
  induction n generalizing v with
  | zero => rfl
  | succ n ih => rw [toLe, List.length_cons, ih]

theorem leNat_toLe (n v : Nat) : leNat (toLe n v) = v % 256 ^ n := by
  induction n generalizing v with
  | zero => simp [toLe, leNat, Nat.mod_one]
  | succ n ih =>
    have hpow : 256 ^ (n + 1) = 256 * 256 ^ n := by rw [Nat.pow_succ, Nat.mul_comm]
    rw [toLe, leNat, ih, BitVec.toNat_ofNat, hpow, Nat.mod_mul, show (2 : Nat) ^ 8 = 256 from rfl]

theorem map_range_getD (l : List Byte) (n : Nat) (h : l.length = n) : (List.range n).map (fun i => l.getD i 0) = l := by
  subst h
  refine List.ext_getElem (by simp) (fun i h1 h2 => ?_)
  simp [h2]

/-- The number stored little-endian at `a` reads back. -/
theorem leNat_get_put (c : Cart) (a n v : Nat) : leNat ((List.range n).map (fun i => (c.put a (toLe n v)).get (a + i))) = v % 256 ^ n := by
  have hbytes : (List.range n).map (fun i => (c.put a (toLe n v)).get (a + i)) = toLe n v := by
    rw [← map_range_getD (toLe n v) n (length_toLe n v)]
    refine List.map_congr_left (fun i hi => ?_)
    rw [map_range_getD _ _ (length_toLe n v)]
    exact get_put_inside c a _ (by rw [length_toLe]; exact List.mem_range.1 hi)
  rw [hbytes, leNat_toLe]

/-- next_record lies apart from the lock byte, so the lock does not change it. -/
theorem next_of_mem {c c' : Cart} (h : c'.mem = c.mem) : c'.next = c.next := by
  have hget : ∀ a, c'.get a = c.get a := fun a => by rw [Cart.get, Cart.get, h]
  refine congrArg leNat (List.map_congr_left (fun i hi => ?_))
  have hlt : i < 4 := List.mem_range.1 hi
  have hmod : (0x644 + i) % 2048 = 0x644 + i := Nat.mod_eq_of_lt (by omega)
  simp only [Cart.read, hmod, hget]
  rw [if_neg (by omega), if_neg (by omega), if_neg (by omega), if_neg (by omega), if_neg (by omega), if_neg (by omega)]

theorem wiredWrite_row (c : Cart) {a : Nat} {d : List Byte} (hlow : 0x240 ≤ a) (hhigh : a < 0x640) (hd : d ≠ []) (hrow : a % 16 + d.length ≤ 16) :
    c.wiredWrite a d = (c.put a d, true) := by
  have hstart : wiredStart a = true := by simp [wiredStart, hlow, hhigh]
  have hempty : d.isEmpty = false := by simpa using hd
  rw [Cart.wiredWrite, if_neg (by simp [hstart, hempty, hrow]), if_neg (by omega)]

theorem append_accepted (c : Cart) {d : List Byte} (hlen : d.length = 16) (hnum : leAt d 2 4 = c.next) :
    c.append d = ((c.put (0x040 + 16 * (c.next % 32)) d).put 0x644 (toLe 4 (c.next + 1)), true) := by
  rw [Cart.append, if_pos ⟨hlen, hnum⟩]

theorem append_refused (c : Cart) {d : List Byte} (hlen : 6 ≤ d.length) (hnum : leAt d 2 4 ≠ c.next) : c.append d = (c, false) := by
  rw [Cart.append, if_neg (fun h => hnum h.2)]
  simp [Nat.not_lt.2 hlen, hnum]

theorem append_short (c : Cart) {d : List Byte} (hlen : d.length < 16) (hnum : d.length < 6 ∨ leAt d 2 4 = c.next) :
    c.append d = (c, true) := by
  rw [Cart.append, if_neg (fun h => absurd h.1 (Nat.ne_of_lt hlen))]
  simpa [hlen] using hnum

/-! ### Transactions -/

/-- The tag as a wired transaction that it admits finds it. -/
def wiredCart (c : Cart) : Cart := { c with lock := .wired, ignoring := false }

/-- A wired transaction the tag admits acts on the tag with the wired lock. -/
theorem wiredDo_free {s : State} (f : Cart → Cart × List Byte × Bool) (hdet : s.pins.cartDet = true) (hlock : s.cart.lock ≠ .contactless) :
    s.wiredDo f = { s with cart := { (f (wiredCart s.cart)).1 with
      answer := (f (wiredCart s.cart)).2.1, acked := (f (wiredCart s.cart)).2.2 } } := by
  have hwired : s.wired = true := by simp [State.wired, hdet, hlock]
  rw [State.wiredDo, if_neg (by simp [hdet]), if_neg (by simp [hwired])]
  rfl

theorem wiredDo_locked {s : State} (f : Cart → Cart × List Byte × Bool) (hdet : s.pins.cartDet = true) (hlock : s.cart.lock = .contactless) :
    s.wiredDo f = { s with cart := { s.cart with answer := [], acked := false } } := by
  have hwired : s.wired = false := by simp [State.wired, hlock]
  rw [State.wiredDo, if_neg (by simp [hdet]), if_pos (by simp [hwired])]

/-- Within its session the contactless side acts on the tag as it is. -/
theorem contactlessDo_session {s : State} (f : Cart → Cart × List Byte × Bool) (hdet : s.pins.cartDet = true) (hing : s.cart.ignoring = false)
    (hlock : s.cart.lock = .contactless) :
    s.contactlessDo f = { s with cart := { (f s.cart).1 with answer := (f s.cart).2.1, acked := (f s.cart).2.2 } } := by
  have hcart : { s.cart with lock := .contactless } = s.cart := by rw [← hlock]
  rw [State.contactlessDo, if_neg (by simp [hdet]), if_neg (by simp [hing, hlock]), if_neg (by simp [hlock])]
  dsimp -proj only
  rw [hcart]

theorem contactlessDo_locked {s : State} (f : Cart → Cart × List Byte × Bool) (hdet : s.pins.cartDet = true) (hlock : s.cart.lock = .wired) :
    s.contactlessDo f = { s with cart := { s.cart with answer := [], acked := false } } := by
  rw [State.contactlessDo, if_neg (by simp [hdet]), if_pos (by simp [hlock])]

theorem exec_tagAppend_free {s : State} (d : List Byte) (hdet : s.pins.cartDet = true) (hlock : s.cart.lock ≠ .contactless) :
    exec (.tagAppend d) s = .next { s with cart := { ((wiredCart s.cart).append d).1 with
      answer := [], acked := ((wiredCart s.cart).append d).2 } } := by
  show Host.Outcome.next (s.wiredDo _) = _
  rw [wiredDo_free _ hdet hlock]

theorem next_wiredCart (c : Cart) : (wiredCart c).next = c.next := next_of_mem rfl

/-- The tag after an accepted append. -/
theorem exec_tagAppend_accepted {s : State} {d : List Byte} (hdet : s.pins.cartDet = true) (hlock : s.cart.lock ≠ .contactless)
    (hlen : d.length = 16) (hnum : leAt d 2 4 = s.cart.next) :
    exec (.tagAppend d) s = .next { s with cart := { ((wiredCart s.cart).put (0x040 + 16 * (s.cart.next % 32)) d).put 0x644
      (toLe 4 (s.cart.next + 1)) with answer := [], acked := true } } := by
  rw [exec_tagAppend_free d hdet hlock, append_accepted (wiredCart s.cart) hlen (by rw [hnum, next_wiredCart]), next_wiredCart]

/-- The bytes an append stores: the record in its slot and next_record, and no other. -/
theorem append_bytes (c : Cart) {d : List Byte} (n : Nat) (hlen : d.length = 16) :
    (∀ i, i < 16 → ((c.put (0x040 + 16 * (n % 32)) d).put 0x644 (toLe 4 (n + 1))).get (0x040 + 16 * (n % 32) + i) = d.getD i 0) ∧
    leNat ((List.range 4).map (fun i => ((c.put (0x040 + 16 * (n % 32)) d).put 0x644 (toLe 4 (n + 1))).get (0x644 + i))) = (n + 1) % 2 ^ 32 ∧
    ∀ x, (x < 0x040 + 16 * (n % 32) ∨ 0x050 + 16 * (n % 32) ≤ x) → (x < 0x644 ∨ 0x648 ≤ x) →
      ((c.put (0x040 + 16 * (n % 32)) d).put 0x644 (toLe 4 (n + 1))).get x = c.get x := by
  have hslot : n % 32 < 32 := Nat.mod_lt _ (by decide)
  refine ⟨fun i hi => ?_, leNat_get_put _ _ _ _, fun x hx hnext => ?_⟩
  · rw [get_put_outside _ _ _ (.inl (by omega)), get_put_inside _ _ _ (by omega)]
  · rw [get_put_outside _ _ _ (by rw [length_toLe]; omega), get_put_outside _ _ _ (by omega)]

/-- Settles O13: a side that the lock admits acts on the tag under its lock, the other is turned away. -/
theorem tagSidesTakeTurns : Obligations.TagSidesTakeTurns := by
  unfold Obligations.TagSidesTakeTurns
  refine ⟨?wiredRead, ?wiredWrite, ?append, ?refused, ?short, ?contactlessRead, ?contactlessWrite, ?wiredLocked, ?contactlessLocked, fun s => rfl,
    ?limit⟩
  case wiredRead =>
    intro s a n hdet hlock
    have hexec : exec (.tagWiredRead a n) s = .next { s with cart := { wiredCart s.cart with
        answer := (wiredCart s.cart).bytes a.toNat n, acked := true } } := by
      show Host.Outcome.next (s.wiredDo _) = _
      rw [wiredDo_free _ hdet hlock]
    exact ⟨_, hexec, rfl, rfl, rfl, rfl, rfl⟩
  case wiredWrite =>
    intro s a d hdet hlock hlow hhigh hd hrow
    have hexec : exec (.tagWiredWrite a d) s = .next { s with cart := { (wiredCart s.cart).put a.toNat d with answer := [], acked := true } } := by
      show Host.Outcome.next (s.wiredDo _) = _
      rw [wiredDo_free _ hdet hlock]
      dsimp -proj only
      rw [wiredWrite_row _ hlow hhigh hd hrow]
    exact ⟨_, hexec, rfl, rfl, rfl, fun i hi => get_put_inside (wiredCart s.cart) _ _ hi, fun x hx => get_put_outside (wiredCart s.cart) _ _ hx⟩
  case append =>
    intro s d hdet hlock hlen hnum
    exact ⟨_, exec_tagAppend_accepted hdet hlock hlen hnum, rfl, rfl, rfl, append_bytes (wiredCart s.cart) s.cart.next hlen⟩
  case refused =>
    intro s d hdet hlock hlen hnum
    have hexec := exec_tagAppend_free d hdet hlock
    rw [append_refused (wiredCart s.cart) hlen (by rw [next_wiredCart]; exact hnum)] at hexec
    exact ⟨_, hexec, rfl, rfl, rfl⟩
  case short =>
    intro s d hdet hlock hlen hnum
    have hexec := exec_tagAppend_free d hdet hlock
    rw [append_short (wiredCart s.cart) hlen (by rw [next_wiredCart]; exact hnum)] at hexec
    exact ⟨_, hexec, rfl, rfl, rfl⟩
  case contactlessRead =>
    intro s p hdet hing hlock hp
    have hexec : exec (.contactlessRead p) s = .next { s with cart := { s.cart with
        answer := (List.range 16).map (fun i => s.cart.pageByte (4 * p.toNat + i)), acked := true } } := by
      show Host.Outcome.next (s.contactlessDo _) = _
      rw [contactlessDo_session _ hdet hing hlock]
      dsimp -proj only
      rw [if_pos hp]
    exact ⟨_, hexec, rfl, rfl, hlock, rfl, rfl⟩
  case contactlessWrite =>
    intro s p d hdet hing hlock hlow hhigh hlen
    have hexec : exec (.contactlessWrite p d) s =
        .next { s with cart := { s.cart.put (0x240 + 4 * (p.toNat - 20)) d with answer := [], acked := true } } := by
      show Host.Outcome.next (s.contactlessDo _) = _
      rw [contactlessDo_session _ hdet hing hlock]
      dsimp -proj only
      rw [if_pos ⟨hlow, hhigh, hlen⟩]
    exact ⟨_, hexec, rfl, hlock, rfl, fun i hi => get_put_inside s.cart _ _ (by omega), fun x hx => get_put_outside s.cart _ _ (by omega)⟩
  case wiredLocked =>
    intro s a n hdet hlock
    exact congrArg _ (wiredDo_locked _ hdet hlock)
  case contactlessLocked =>
    intro s p hdet hlock
    exact congrArg _ (contactlessDo_locked _ hdet hlock)
  case limit =>
    intro s hlock
    show execContactlessSessionLimit s = _
    rw [execContactlessSessionLimit, if_pos hlock]

end Sys2Proof.Proofs

/-! ## The L64's transactions with the tag

A tag that is locked and one that is free (R493, R498), the budget's end and a lost arbitration (R501). -/

namespace Sys2Proof.Proofs

open Sys2Proof.Machine Sys2Proof.Laws

/-- With the contactless lock none is served, and lock_seen says so. -/
theorem tryTag_locked {s : State} {o : TagOp} {l : List TagOp} (hops : s.tag.ops = o :: l) (hmaster : s.tagMaster = true)
    (hdet : s.pins.cartDet = true) (hlock : s.cart.lock = .contactless) :
    s.tryTag = (s.traceTag o false).put F.TAG_STATUS.lock_seen true := by
  have hwired : s.wired = false := by simp [State.wired, hlock]
  rw [State.tryTag, if_neg (by simp [hmaster, hdet]), if_pos (by simp [hwired]), hops]

/-- The tag is free: the deferred queue is taken in before the transactions that wait. -/
def flushed (s : State) : State :=
  { (s.put F.TAG_STATUS.lock_seen false).flushDeferred with
    tag := { (s.put F.TAG_STATUS.lock_seen false).flushDeferred.tag with ops := [] } }

theorem tryTag_free {s : State} (hmaster : s.tagMaster = true) (hdet : s.pins.cartDet = true) (hlock : s.cart.lock ≠ .contactless) :
    s.tryTag = { s.tag.ops.foldl (fun t o => (t.traceTag o true).serveOp o) (flushed s) with
      cart := { (s.tag.ops.foldl (fun t o => (t.traceTag o true).serveOp o) (flushed s)).cart with lock := .wired } } := by
  have hwired : s.wired = true := by simp [State.wired, hdet, hlock]
  rw [State.tryTag, if_neg (by simp [hmaster, hdet]), if_neg (by simp [hwired])]
  rfl

theorem exec_tagTransactionRetry_waiting {s : State} (hops : s.tag.ops ≠ []) : exec .tagTransactionRetry s = .next s.tryTag := by
  show execTagTransactionRetry s = _
  rw [execTagTransactionRetry, if_neg (by simpa using hops)]

theorem exec_tagTransactionRetry_empty {s : State} (hops : s.tag.ops = []) : exec .tagTransactionRetry s = .next s := by
  show execTagTransactionRetry s = _
  rw [execTagTransactionRetry, if_pos (by simp [hops])]

theorem exec_deferredRetry_waiting {s : State} (h : s.tag.deferred ≠ []) : exec .deferredRetry s = .next s.tryTag := by
  show execDeferredRetry s = _
  rw [execDeferredRetry, if_neg (by simp [h])]

/-- One deferred event taken into the ledger. -/
def takeDeferred (acc : State × Crossed) (d : Deferred) : State × Crossed :=
  let r := acc.1.appendEvent acc.2 d
  (r.1, r.2.1)

theorem foldl_takeDeferred_tag (l : List Deferred) (acc : State × Crossed) : (l.foldl takeDeferred acc).1.tag = acc.1.tag := by
  induction l generalizing acc with
  | nil => rfl
  | cons d l ih =>
    rw [List.foldl_cons, ih]
    exact (frame_appendEvent acc.1 acc.2 d).eq_of .tag rfl

/-- The deferred queue is taken in by the cartridge in the socket (R498). -/
theorem flushDeferred_tag {s : State} {i : Identity} (hdef : s.tag.deferred ≠ []) (hid : s.tag.identity = some i) :
    s.flushDeferred.tag = { s.tag with deferred := [], lost := 0 } := by
  have hfold := foldl_takeDeferred_tag s.tag.deferred (s, (none, none, none))
  have happend : ∀ (c : Prop) [Decidable c] (u : State) k v st r, (if c then u else (u.append k v st r).1).tag = u.tag := by
    intro c _ u k v st r
    split
    · rfl
    · exact (frame_append u k v st r).eq_of .tag rfl
  unfold State.flushDeferred
  rw [if_neg (by simp [hdef, hid])]
  dsimp -proj only
  rw [raise_tag, (frame_closeAppends _ _).eq_of .tag rfl]
  dsimp only
  rw [happend]
  exact congrArg (fun t : Tag => { t with deferred := [], lost := 0 }) hfold

theorem exec_tagBudgetExpiry_host {s : State} {c : Nat} {id : Half} {rest : List TagOp} {j : Nat} (hops : s.tag.ops = .host c id :: rest)
    (hfind : s.findFlight c (fun x => decide (x.desc.id = id) && (decide (x.desc.opcode = 0x50) || decide (x.desc.opcode = 0x51))) = some j) :
    exec .tagBudgetExpiry s =
      .next (State.finish { s.bump F.TAG_ERR.contended with tag := { s.tag with ops := rest } } c j .tagContended 0 0) := by
  show execTagBudgetExpiry s = _
  unfold execTagBudgetExpiry
  rw [hops]
  dsimp -proj only
  rw [State.finishWhere]
  have hfind' : State.findFlight { s.bump F.TAG_ERR.contended with tag := { s.tag with ops := rest } } c
    (fun x => decide (x.desc.id = id) && (decide (x.desc.opcode = 0x50) || decide (x.desc.opcode = 0x51))) = some j := hfind
  rw [bump_tag, hfind']

theorem exec_tagBudgetExpiry_identity {s : State} {ins : Bool} {rest : List TagOp} (hops : s.tag.ops = .identity ins :: rest) :
    exec .tagBudgetExpiry s = .next { s.bump F.TAG_ERR.contended with tag := { s.tag with ops := rest ++ [.identity ins] } } := by
  show execTagBudgetExpiry s = _
  unfold execTagBudgetExpiry
  rw [hops]
  rfl

/-- Settles O14: a try at a locked tag only shows the lock, one at a free tag serves all that waits and takes the wired lock. -/
theorem tagTransactionsWaitAndRetry : Obligations.TagTransactionsWaitAndRetry := by
  unfold Obligations.TagTransactionsWaitAndRetry
  refine ⟨?locked, fun s => exec_tagTransactionRetry_empty, ?free, ?deferred, fun s c id rest j => exec_tagBudgetExpiry_host,
    fun s ins rest => exec_tagBudgetExpiry_identity, ?arbitration⟩
  case locked =>
    intro s hops hmaster hdet hlock
    obtain ⟨o, l, hl⟩ := List.exists_cons_of_ne_nil hops
    have hexec := exec_tagTransactionRetry_waiting hops
    rw [tryTag_locked hl hmaster hdet hlock] at hexec
    exact ⟨_, hexec, rf_put_same _ _ _ rfl rfl,
      ((frame_put _ _ _).after (by decide) ((frame_traceTag s o false).mono (by decide))).only⟩
  case free =>
    intro s hops hmaster hdet hlock
    exact ⟨_, exec_tagTransactionRetry_waiting hops, by rw [tryTag_free hmaster hdet hlock]⟩
  case deferred =>
    intro s i hdef hops hid hmaster hdet hlock
    refine ⟨_, exec_deferredRetry_waiting hdef, ?_⟩
    rw [tryTag_free hmaster hdet hlock, hops]
    refine ⟨?_, rfl⟩
    show ({ (s.put F.TAG_STATUS.lock_seen false).flushDeferred.tag with ops := [] } : Tag) = _
    rw [flushDeferred_tag (s := s.put F.TAG_STATUS.lock_seen false) hdef hid]
    rw [put_tag, ← hops]
  case arbitration =>
    intro s b i
    have hexec : exec (.tagArbitrationLoss b i) s = .next _ := rfl
    refine ⟨_, hexec, ?_, ?_, ?_, (exFrame (frame_execTagArbitrationLoss b i s) hexec).only⟩
    · rw [bump_rf_apart _ _ _ rfl rfl, rf_wr_apart _ _ _ _ rfl rfl, rf_wr_same _ _ _ rfl]
      exact Nat.mod_eq_of_lt b.isLt
    · rw [bump_rf_apart _ _ _ rfl rfl, rf_wr_same _ _ _ rfl]
      exact Nat.mod_eq_of_lt i.isLt
    · rw [bump_rf _ _ rfl, rf_wr_apart _ _ _ _ rfl rfl, rf_wr_apart _ _ _ _ rfl rfl]
      rfl

end Sys2Proof.Proofs

/-! ## Commands that act when they start

What a descriptor's checks leave (R388, R428 to R430), NOP, FENCE, EVENT_SUBSCRIBE, POWER_VOTE and PERF_REQUEST (R390, R432, R451, R456, R533), the
settings that wait for symbol 0 (R433, R436 to R438), and talk sessions (R439 to R442). -/

namespace Sys2Proof.Proofs

open Sys2Proof.Machine Sys2Proof.Laws

/-- Settles O16: the checks come before the effect, and the due cycle before the start. -/
theorem descriptorsAreCheckedBeforeTheyStart : Obligations.DescriptorsAreCheckedBeforeTheyStart := by
  unfold Obligations.DescriptorsAreCheckedBeforeTheyStart
  refine ⟨fun s c op j x st buf f hturn hlive hcheck => ?_, fun s c op j x buf f hturn hcheck hsched hdue => ?_⟩
  · have hcommand : s.command c op buf f = (s.finish c j st 0 0).settle c := by
      rw [State.command, hturn]
      dsimp -proj only
      rw [hcheck]
    rw [hcommand]
    exact ⟨answered_keeps (answered_finish s c j st 0 0 x (startable_flight hturn).1 hlive) (keeps_settle _ c),
      settle_only c ((frame_finish s c j st 0 0).mono (by decide)) (by decide)⟩
  · rw [State.command, hturn]
    dsimp -proj only
    rw [hcheck]
    dsimp -proj only
    rw [if_pos (by rw [hsched, State.isAhead, hdue]; rfl)]

/-! ### Fields of a client that settling leaves -/

theorem clientsSame_mask {s t : State} (h : ClientsSame s t) (c : Nat) : (t.client c).mask = (s.client c).mask := by
  obtain ⟨fl, w, e⟩ := h c
  rw [e]

theorem clientsSame_vote {s t : State} (h : ClientsSame s t) (c : Nat) : (t.client c).vote = (s.client c).vote := by
  obtain ⟨fl, w, e⟩ := h c
  rw [e]

theorem clientsSame_perf {s t : State} (h : ClientsSame s t) (c : Nat) : (t.client c).perf = (s.client c).perf := by
  obtain ⟨fl, w, e⟩ := h c
  rw [e]

theorem clientsSame_setPhase (s : State) (c j : Nat) (ph : Phase) : ClientsSame s (s.setPhase c j ph) :=
  clientsSame_modClient s c _ (fun _ => ⟨_, _, rfl⟩)

/-- A completion or a settling of a state whose client `c` is as `f` made it. -/
theorem client_started_modClient {s : State} {c op j : Nat} {x : InFlight} (h : Ready s c op j x) (f : ClientSt → ClientSt) :
    ((s.started c x.desc).modClient c f).client c = f (s.client c) := by
  rw [client_modClient_same _ _ (flight_length (started_flight h x.desc)), st_client]

/-- A change of the client's other fields leaves its descriptor in flight. -/
theorem started_modClient_flight {s : State} {c op j : Nat} {x : InFlight} (h : Ready s c op j x) {f : ClientSt → ClientSt}
    (hf : (f (s.client c)).flight = (s.client c).flight) : (((s.started c x.desc).modClient c f).client c).flight[j]? = some x := by
  rw [client_started_modClient h, hf]
  exact (startable_flight h.turn).1

theorem keeps_refreshRefusals (s : State) : Keeps s s.refreshRefusals := Keeps.of_hif ((frame_refreshRefusals s).eq_of .hif rfl)

theorem clientsSame_refreshRefusals (s : State) : ClientsSame s s.refreshRefusals := ClientsSame.of_hif ((frame_refreshRefusals s).eq_of .hif rfl)

/-- Telling of a refused vote appends to what waits and changes nothing else of a client. -/
theorem tellRefused_clients (s : State) (r : RefusedVote) : Keeps s (s.tellRefused r) ∧ ClientsSame s (s.tellRefused r) := by
  unfold State.tellRefused
  dsimp -proj only
  generalize hu : ({ s with pwr := _ } : State) = u
  have hhif : u.hif = s.hif := by rw [← hu]
  exact ⟨(Keeps.of_hif hhif).trans (keeps_raise u _ _ _ _ _), (ClientsSame.of_hif hhif).trans (clientsSame_raise u _ _ _ _ _)⟩

/-- The vote for `v` of client `c` as the last of the votes that may be refused. -/
def voteListed (s : State) (c v : Nat) : State :=
  { s with pwr := { s.pwr with refused := s.pwr.refused.filter (fun r => decide (r.client ≠ c)) ++
    [({ client := c, asked := v, refusers := [], reported := false } : RefusedVote)] } }

/-- Judging a vote appends to what waits and changes nothing else of a client. -/
theorem voted_clients (s : State) (c v : Nat) : Keeps s (s.voted c v) ∧ ClientsSame s (s.voted c v) := by
  have hhif : (voteListed s c v).hif = s.hif := rfl
  have hkeep := (Keeps.of_hif hhif).trans (keeps_refreshRefusals (voteListed s c v))
  have hsame := (ClientsSame.of_hif hhif).trans (clientsSame_refreshRefusals (voteListed s c v))
  have hvoted : s.voted c v = (if (voteListed s c v).refreshRefusals.rf F.PWR_REFUSE_CTL.report_ms = 0 then
      (match (voteListed s c v).refreshRefusals.pwr.refused.find? (fun r => decide (r.client = c)) with
        | some r => (voteListed s c v).refreshRefusals.tellRefused r
        | none => (voteListed s c v).refreshRefusals) else (voteListed s c v).refreshRefusals) := rfl
  rw [hvoted]
  split
  · split
    · exact ⟨hkeep.trans (tellRefused_clients _ _).1, hsame.trans (tellRefused_clients _ _).2⟩
    · exact ⟨hkeep, hsame⟩
  · exact ⟨hkeep, hsame⟩

theorem clientsSame_perfDone (s : State) (c : Nat) : ClientsSame s (s.perfDone c) := by
  unfold State.perfDone
  split
  · split
    · exact clientsSame_finish _ _ _ _ _ _
    · exact ClientsSame.refl s
  · exact ClientsSame.refl s

theorem checkEntry_hif (s : State) : s.checkEntry.hif = s.hif := (frame_checkEntry s).eq_of .hif rfl

/-! ### Plain commands -/

/-- The state with client `c`'s request for a level recorded, and its command waiting. -/
def perfAsked (s : State) (c j v : Nat) : State :=
  ((s.modClient c (fun x => { x with perf := if v = 0xFF then none else some v })).relevel).setPhase c j .perf

theorem doPerfRequest_perf (s : State) (c j : Nat) (d : Desc) (hc : c < s.hif.clients.length) :
    ((s.doPerfRequest c j d).client c).perf = if d.byte 20 = 0xFF then none else some (d.byte 20) := by
  have hset : ((perfAsked s c j (d.byte 20)).client c).perf = if d.byte 20 = 0xFF then none else some (d.byte 20) := by
    rw [perfAsked, clientsSame_perf (clientsSame_setPhase _ _ _ _), client_congr ((frame_relevel _).eq_of .hif rfl), client_modClient_same _ _ hc]
  have hdo : s.doPerfRequest c j d = if (perfAsked s c j (d.byte 20)).pwr.changing then perfAsked s c j (d.byte 20)
      else (perfAsked s c j (d.byte 20)).perfDone c := rfl
  rw [hdo]
  split
  · exact hset
  · rw [clientsSame_perf (clientsSame_perfDone _ _), hset]

/-- The state with the vote recorded. -/
def voteRecorded (s : State) (c v : Nat) : State :=
  if c = clientSB then { s with pwr := { s.pwr with sbVote := some v } } else s.modClient c (fun x => { x with vote := some v })

/-- Settles O17: each of the five commands acts as it starts. -/
theorem plainCommandsComplete : Obligations.PlainCommandsComplete := by
  unfold Obligations.PlainCommandsComplete
  refine ⟨fun s c j x h => ⟨_, nx (command_ready h _ _), answered_now h .ok 0 0⟩, fun s c j x h => ⟨_, nx (command_ready h _ _), answered_now h .ok 0 0⟩,
    ?subscribe, ?vote, ?perf⟩
  case subscribe =>
    intro s c j x m h hm
    have hexec : exec (.eventSubscribe c) s = .next ((((s.started c x.desc).modClient c (fun y => { y with mask := m })).finish c j .ok
        (m.setWidth 32) ((m >>> 32).setWidth 32)).settle c) := by
      refine (nx (command_ready h [] _)).trans (nx ?_)
      rw [State.doSubscribe, st_client, hm]
      rfl
    refine ⟨_, hexec, ?_, ?_, (exFrame (frame_execEventSubscribe c s) hexec).only⟩
    · rw [clientsSame_mask (clientsSame_settle _ _), clientsSame_mask (clientsSame_finish _ _ _ _ _ _), client_started_modClient h]
    · exact answered_command h (started_modClient_flight h rfl) (started_plt _ _ _) _ _ _
  case vote =>
    intro s c j x h
    have hexec : exec (.powerVote c) s = .next ((((((voteRecorded (s.started c x.desc) c (x.desc.byte 20)).finish c j .ok
        (BitVec.ofNat 32 (s.oldVote c)) 0).voted c (x.desc.byte 20)).checkEntry)).settle c) := by
      refine (nx (command_ready h [] _)).trans (nx ?_)
      have hold : (s.started c x.desc).oldVote c = s.oldVote c := by rw [State.oldVote, State.oldVote, st_pwr, st_client]
      rw [State.doPowerVote, hold]
      rfl
    have hflight : ((voteRecorded (s.started c x.desc) c (x.desc.byte 20)).client c).flight[j]? = some x := by
      unfold voteRecorded
      split
      · exact started_flight h x.desc
      · exact started_modClient_flight h rfl
    have hplt : (voteRecorded (s.started c x.desc) c (x.desc.byte 20)).plt = s.plt := by
      unfold voteRecorded
      split <;> exact started_plt _ _ _
    refine ⟨_, hexec, ?_, fun hc => ?_, (exFrame (frame_execPowerVote c s) hexec).parts⟩
    · exact answered_keeps (answered_of_plt (answered_finish _ c j .ok _ 0 x hflight h.live) hplt.symm)
        (((voted_clients _ _ _).1.trans (Keeps.of_hif (checkEntry_hif _))).trans (keeps_settle _ c))
    · have hvote : ((voteRecorded (s.started c x.desc) c (x.desc.byte 20)).client c).vote = some (x.desc.byte 20) := by
        rw [voteRecorded, if_neg hc, client_started_modClient h]
      rw [clientsSame_vote (clientsSame_settle _ _), clientsSame_vote (ClientsSame.of_hif (checkEntry_hif _)),
        clientsSame_vote (voted_clients _ _ _).2, clientsSame_vote (clientsSame_finish _ _ _ _ _ _), hvote]
  case perf =>
    intro s c j x h
    have hexec := nx (command_ready h [] (fun s j d => s.doPerfRequest c j d))
    refine ⟨_, hexec, ?_, (exFrame (frame_execPerfRequest c s) hexec).only⟩
    rw [clientsSame_perf (clientsSame_settle _ _), doPerfRequest_perf _ _ _ _ (flight_length (started_flight h x.desc))]

/-! ### Settings -/

/-- A setting command that starts now waits for symbol 0: its change joins those of the next cycle. -/
def settingQueued (s : State) (c j : Nat) (d : Desc) (x : SettingChange) : State :=
  { s.setPhase c j .applying with mix := { s.mix with changes := s.mix.changes ++ [(c, d.id, s.lpc + 1, x)] } }

theorem doSetting_now (s : State) (c j : Nat) (d : Desc) (x : SettingChange) : s.doSetting c j d x false = settingQueued s c j d x := rfl

theorem frame_settingQueued (s : State) (c j : Nat) (d : Desc) (x : SettingChange) :
    Frame [.mix, .hif] (some []) s (settingQueued s c j d x) :=
  Frame.set_mix _ rfl (Frame.mono (w := [.hif]) (r := some []) (frame_setPhase s c j .applying) (by decide))

/-- What a setting command that starts leaves: its change waits, and nothing is applied. -/
theorem settingQueued_settled (s : State) (c j : Nat) (d : Desc) (x : SettingChange) :
    ((settingQueued (s.started c d) c j d x).settle c).mix = { s.mix with changes := s.mix.changes ++ [(c, d.id, s.lpc + 1, x)] } ∧
    OnlyThese [.regs, .plt, .mix, .hif, .dbg] clientRegs s ((settingQueued (s.started c d) c j d x).settle c) := by
  refine ⟨?_, settle_only c ((frame_settingQueued _ _ _ _ _).after (by decide) ((frame_started s c d).mono (by decide))) (by decide)⟩
  rw [(frame_settle _ _).eq_of .mix rfl, settingQueued, st_mix, st_lpc]

/-- PRECEDENCE_SET of a session that holds a slot raises its flag and waits for the slot. -/
theorem doPrecedenceSet_session {s : State} {c j : Nat} {d : Desc} {y : Session} (h20 : d.byte 20 ≠ 0) (hsession : s.session (d.byte 22) = some y)
    (hclient : y.client = c) (hslots : s.slotsFor .a (.session (d.byte 22)) ≠ []) :
    s.doPrecedenceSet c j d false =
      (s.setSession (d.byte 22) (some { y with raised := decide (d.byte 21 = 1) })).setPhase c j (.raising (d.byte 22) y.raised) := by
  rw [State.doPrecedenceSet, if_neg h20]
  dsimp -proj only
  rw [hsession]
  dsimp -proj only
  rw [if_neg (not_not_intro hclient), if_neg (by simpa using hslots)]

theorem session_length {s : State} {n : Nat} {y : Session} (h : s.session n = some y) : n < s.hif.sessions.length := by
  refine Nat.lt_of_not_le fun hn => ?_
  rw [State.session, List.getD_eq_getElem?_getD, List.getElem?_eq_none hn] at h
  exact absurd h (by simp)

theorem session_setSession_same (s : State) {n : Nat} (x : Option Session) (h : n < s.hif.sessions.length) : (s.setSession n x).session n = x := by
  simp [State.session, State.setSession, h]

/-- Settles O18: the change is queued for symbol 0, the flag of a session raised. -/
theorem settingsWaitForSymbolZero : Obligations.SettingsWaitForSymbolZero := by
  unfold Obligations.SettingsWaitForSymbolZero
  refine ⟨fun s c j x h => ⟨_, nx (command_ready h _ _), settingQueued_settled s c j x.desc _⟩,
    fun s c j x h => ⟨_, nx (command_ready h _ _), settingQueued_settled s c j x.desc _⟩, ?floors, ?session⟩
  case floors =>
    intro s c j x h h20
    refine ⟨_, (nx (command_ready h [] _)).trans (nx ?_), settingQueued_settled s c j x.desc _⟩
    rw [State.doPrecedenceSet, if_pos h20, doSetting_now]
  case session =>
    intro s c j x y h h20 hsession hclient hslots
    refine ⟨_, (nx (command_ready h [] _)).trans (nx (congrArg (State.settle · c) (doPrecedenceSet_session (by rw [h20]; decide)
      ((st_session _ _ _ _).trans hsession) hclient (by rw [st_slots]; exact hslots)))), ?_, settle_only c ?_ (by decide)⟩
    · rw [session_settle]
      exact session_setSession_same _ _ (by rw [started_hif]; exact session_length hsession)
    · exact (frame_setPhase _ _ _ _).after (by decide) ((frame_setSession _ _ _).after (by decide) ((frame_started s c x.desc).mono (by decide)))

/-! ### Talk sessions -/

theorem triggerActive_link (s : State) (p : Port) : (s.triggerActive p).link = s.link := (frame_triggerActive s p).eq_of .link rfl

/-- Queueing a message asks for no lease. -/
theorem post_reqs (s : State) (m : Msg) : (s.post .a m).link.reqs = s.link.reqs := by
  have hlink : ∀ t : State, (if t.isUrgent .a m then t.modLnk .a (fun l => { l with urgent := l.urgent ++ [{ m with flags := m.flags ||| flagUrgent }] })
      else t.modLnk .a (fun l => { l with routine := l.routine ++ [m] })).link.reqs = t.link.reqs := fun t => by split <;> rfl
  unfold State.post
  dsimp -proj only
  rw [hlink]
  split
  · rw [triggerActive_link]
  · rfl

theorem requestLease_hif (s : State) (p : Port) (o : LeaseOwner) (standing : Bool) (g f pr k : Nat) :
    (s.requestLease p o standing g f pr k).hif = s.hif := (frame_requestLease s p o standing g f pr k).eq_of .hif rfl

/-- The request port A makes. -/
def newRequest (s : State) (o : LeaseOwner) (standing : Bool) (g f pr k : Nat) : TalkReq :=
  { owner := o, reqId := s.link.nextReq, standing := standing, group := g, format := f, prec := pr, catchup := k, phase := .unsent, attempts := 0,
    sentAt := s.lpc }

/-- What asking for a lease on port A adds to the requests. -/
theorem requestLease_reqs (s : State) (o : LeaseOwner) (standing : Bool) (g f pr k : Nat) :
    (s.requestLease .a o standing g f pr k).link.reqs = s.link.reqs ++ [newRequest s o standing g f pr k] := by
  have hring : ∀ t : State, (t.modLnk .a (fun l => if k = 0 then { l with ring1 := true } else { l with ring12 := true })).link.reqs = t.link.reqs :=
    fun t => by rw [State.modLnk]; split <;> rfl
  unfold State.requestLease
  dsimp -proj only
  split
  · rw [hring, triggerActive_link]
    rfl
  · rw [post_reqs]
    rfl

theorem session_setPhase (s : State) (c j n : Nat) (ph : Phase) : (s.setPhase c j ph).session n = s.session n := rfl

theorem client_setSession (s : State) (n c : Nat) (x : Option Session) : (s.setSession n x).client c = s.client c := rfl

theorem session_of_hif {s t : State} (h : t.hif = s.hif) (n : Nat) : t.session n = s.session n := by rw [State.session, State.session, h]

/-- The session TALK_OPEN takes. -/
def openedSession (c : Nat) (d : Desc) : Session :=
  { client := c, group := d.byte 20, format := d.byte 21, prec := d.byte 22, source := d.byte 23, feed := d.byte 24, raised := false, lastTx := 0 }

theorem doTalkOpen_shut {s : State} {c j : Nat} {d : Desc} (hsrc : streamSource (d.byte 23) = false) (hshut : s.lineShut = true) :
    s.doTalkOpen c j d = s.finish c j .lineDown 0 0 := by
  rw [State.doTalkOpen]
  dsimp -proj only
  rw [hsrc, if_neg (by simp), if_neg (by simp), if_pos hshut]

theorem doTalkOpen_free {s : State} {c j n : Nat} {d : Desc} (hsrc : streamSource (d.byte 23) = false) (hshut : s.lineShut = false)
    (hfree : (List.range 8).find? (fun k => (s.session k).isNone) = some n) :
    s.doTalkOpen c j d = ((s.setSession n (some (openedSession c d))).setPhase c j (.talkOpen n)).requestLease .a (.session n)
      (bitOf (d.byte 25) 0 || decide (s.lineState .a ≠ 0)) (d.byte 20) (d.byte 21) (d.byte 22) 0 := by
  rw [State.doTalkOpen]
  dsimp -proj only
  rw [hsrc, if_neg (by simp), if_neg (by simp), if_neg (by simp [hshut]), hfree]
  rfl

/-- TALK_CLOSE of a session without a slot whose request has not been sent: the request is taken back, and the session freed. -/
theorem doTalkClose_unsent {s : State} {c j : Nat} {d : Desc} {y : Session} {q : TalkReq} (hsession : s.session (d.byte 20) = some y)
    (hclient : y.client = c) (hslots : s.slotsFor .a (.session (d.byte 20)) = [])
    (hreq : s.link.reqs.find? (fun q => decide (q.owner = .session (d.byte 20))) = some q) (hphase : q.phase = .unsent) :
    s.doTalkClose c j d = ((s.dropTalk .a (.session (d.byte 20))).setSession (d.byte 20) none).finish c j .ok y.lastTx 0 := by
  rw [State.doTalkClose]
  dsimp -proj only
  rw [hsession]
  dsimp -proj only
  rw [if_neg (not_not_intro hclient), hslots, hreq]
  dsimp -proj only
  rw [if_pos hphase]
  rfl

theorem doTalkClose_foreign {s : State} {c j : Nat} {d : Desc} {y : Session} (hsession : s.session (d.byte 20) = some y) (hclient : y.client ≠ c) :
    s.doTalkClose c j d = s.finish c j .mismatch 0 0 := by
  rw [State.doTalkClose]
  dsimp -proj only
  rw [hsession]
  dsimp -proj only
  rw [if_pos hclient]

/-- Settles O19: an open line takes a session and a request, a close gives them back. -/
theorem talkSessionsOpenAndClose : Obligations.TalkSessionsOpenAndClose := by
  unfold Obligations.TalkSessionsOpenAndClose
  refine ⟨?opened, ?shut, ?closed, ?foreign⟩
  case opened =>
    intro s c j n x h hsrc hshut hfree hn
    have hlink := st_link s c x.desc
    generalize hu : (((s.started c x.desc).setSession n (some (openedSession c x.desc))).setPhase c j (.talkOpen n)) = u
    have hul : u.link = s.link := by rw [← hu]; exact hlink
    have hus : u.session n = some (openedSession c x.desc) := by
      rw [← hu, session_setPhase]
      exact session_setSession_same _ _ (by rw [started_hif]; exact hn)
    have hdo := doTalkOpen_free (s := s.started c x.desc) (c := c) (j := j) hsrc ((st_lineShut s c x.desc).trans hshut)
      (by simp only [st_session]; exact hfree)
    rw [hu] at hdo
    refine ⟨_, (nx (command_ready h [] _)).trans (nx (congrArg (State.settle · c) hdo)), ?_, ?_⟩
    · rw [session_settle, session_of_hif (requestLease_hif _ _ _ _ _ _ _ _)]
      exact hus
    · rw [(frame_settle _ _).eq_of .link rfl, requestLease_reqs, hul]
      exact ⟨_, rfl, rfl, rfl, rfl, rfl, rfl⟩
  case shut =>
    intro s c j x h hsrc hshut
    exact ⟨_, (nx (command_ready h [] _)).trans (nx (congrArg (State.settle · c)
      (doTalkOpen_shut hsrc ((st_lineShut s c x.desc).trans hshut)))), answered_now h .lineDown 0 0⟩
  case closed =>
    intro s c j x y q h hsession hclient hslots hreq hphase
    have hdrop := frame_dropTalk (s.started c x.desc) .a (.session (x.desc.byte 20))
    have hhif : ((s.started c x.desc).dropTalk .a (.session (x.desc.byte 20))).hif = s.hif := (hdrop.eq_of .hif rfl).trans (started_hif _ _ _)
    have hplt : ((s.started c x.desc).dropTalk .a (.session (x.desc.byte 20))).plt = s.plt := (hdrop.eq_of .plt rfl).trans (started_plt _ _ _)
    refine ⟨_, (nx (command_ready h [] _)).trans (nx (congrArg (State.settle · c) (doTalkClose_unsent ((st_session _ _ _ _).trans hsession) hclient
      ((st_slots _ _ _ _).trans hslots) (by rw [st_link]; exact hreq) hphase))), ?_, ?_⟩
    · rw [session_settle, session_finish]
      exact session_setSession_same _ _ (by rw [hhif]; exact session_length hsession)
    · refine answered_command (u := ((s.started c x.desc).dropTalk .a (.session (x.desc.byte 20))).setSession (x.desc.byte 20) none) h ?_ hplt .ok y.lastTx 0
      rw [client_setSession, client_congr hhif]
      exact (startable_flight h.turn).1
  case foreign =>
    intro s c j x y h hsession hclient
    refine ⟨_, (nx (command_ready h [] _)).trans (nx (congrArg (State.settle · c)
      (doTalkClose_foreign ((st_session _ _ _ _).trans hsession) hclient))), (answered_now h .mismatch 0 0).1, ?_⟩
    rw [session_settle, session_finish, st_session, hsession]

end Sys2Proof.Proofs

/-! ## Streams, messages and transfers

Streams and their fetches (R443 to R447, R457, R361), LEDGER_SEND and its withdrawal, DIAG and the end of a transfer (R452, R461, R414). -/

namespace Sys2Proof.Proofs

open Sys2Proof.Machine Sys2Proof.Laws

/-- A command whose turn has come leaves what its effect leaves, settled. -/
theorem command_acts {s u : State} {c op j : Nat} {x : InFlight} (h : Ready s c op j x) (buf : List Byte) (f : State → Nat → Desc → State)
    (hf : f (s.started c x.desc) j x.desc = u) : nxt (s.command c op buf f) = nxt (u.settle c) := by
  rw [command_ready h, hf]

/-! ### Streams -/

theorem stream_setStream_same (s : State) {n : Nat} (x : Option Stream) (h : n < s.hif.streams.length) : (s.setStream n x).stream n = x := by
  simp [State.stream, State.setStream, h]

theorem client_setStream (s : State) (n c : Nat) (x : Option Stream) : (s.setStream n x).client c = s.client c := rfl

theorem stream_setPhase (s : State) (c j n : Nat) (ph : Phase) : (s.setPhase c j ph).stream n = s.stream n := rfl

theorem stream_length {s : State} {n : Nat} {y : Stream} (h : s.stream n = some y) : n < s.hif.streams.length := by
  refine Nat.lt_of_not_le fun hn => ?_
  rw [State.stream, List.getD_eq_getElem?_getD, List.getElem?_eq_none hn] at h
  exact absurd h (by simp)

/-- A stream that completing and settling left differs in the buffers it queues alone. -/
theorem stream_of_same {s t : State} (h : StreamsSame s t) {n : Nat} {x : Stream} (hx : s.stream n = some x) :
    ∃ bufs, t.stream n = some { x with bufs := bufs } := by
  have hmap := h.2 n
  rw [hx, Option.map_some, Option.map_eq_some_iff] at hmap
  obtain ⟨y, hy, heq⟩ := hmap
  refine ⟨y.bufs, hy.trans (congrArg some ?_)⟩
  have hback := congrArg (fun z : Stream => { z with bufs := y.bufs }) heq
  exact hback

/-- The stream STREAM_OPEN takes. -/
def openedStream (c : Nat) (d : Desc) (now : Word) : Stream :=
  { client := c, kind := d.byte 20, tap := d.byte 21, group := d.byte 22, wide := decide (d.byte 23 = 1), frame := d.num 24 2, route := d.byte 26,
    gain := d.byte 27, bufs := [], gap := false, since := now + 1, last := none, closing := false, ended := false }

theorem doStreamOpen_free {s : State} {c j n : Nat} {d : Desc} (hkind : d.byte 20 ≠ 2)
    (hfree : (List.range 32).find? (fun k => (s.stream k).isNone) = some n) :
    s.doStreamOpen c j d = (s.setStream n (some (openedStream c d s.lpc))).finish c j .ok (BitVec.ofNat 32 n) 0 := by
  rw [State.doStreamOpen]
  dsimp -proj only
  rw [if_neg (fun h => hkind h.1), hfree]
  rfl

/-- A capture buffer as STREAM_BUF queues it. -/
def captureBuf (d : Desc) : StreamBufSt :=
  { id := d.id, len := d.bufLen, got := 0, first := 0, count := 0, consumed := 0, dropped := 0, live := false, muted := false, concealed := false,
    gap := false }

theorem doStreamBuf_capture {s : State} {c j : Nat} {d : Desc} {y : Stream} (buf : List Byte) (hstream : s.stream (d.byte 20) = some y)
    (hclient : y.client = c) (hended : y.ended = false) (hkind : y.kind = 0) (htap : y.tap ≠ 6) :
    s.doStreamBuf c j d buf =
      (s.setStream (d.byte 20) (some { y with bufs := y.bufs ++ [captureBuf d] })).setPhase c j (.streamBuf (d.byte 20)) := by
  rw [State.doStreamBuf]
  dsimp -proj only
  rw [hstream]
  dsimp -proj only
  rw [if_neg (not_not_intro hclient), if_neg (by simp [hended]), if_neg (fun h => h.1 hkind), if_neg (fun h => htap h.2), if_pos hkind, if_pos hkind]
  rfl

theorem doStreamClose_own {s : State} {c j : Nat} {d : Desc} {y : Stream} (hstream : s.stream (d.byte 20) = some y) (hclient : y.client = c) :
    s.doStreamClose c j d = (s.setStream (d.byte 20) (some { y with closing := true })).setPhase c j (.streamClose (d.byte 20)) := by
  rw [State.doStreamClose, hstream]
  dsimp -proj only
  rw [if_neg (not_not_intro hclient)]

/-- HISTORY_FETCH of an index the history still holds starts there. -/
theorem doHistoryFetch_held {s : State} {c j : Nat} {d : Desc} {y : Stream} {lo hi : Dword} (hstream : s.stream (d.byte 20) = some y)
    (hclient : y.client = c) (hkind : y.kind = 0) (htap : y.tap = 6) (hfetch : s.fetchOf (d.byte 20) = none) (hmuted : s.muted = false)
    (hrange : s.wake.range = some (lo, hi)) (hlo : lo ≤ BitVec.ofNat 64 (d.num 24 8)) :
    s.doHistoryFetch c j d = ((({ s with wake := { s.wake with fetches :=
          s.wake.fetches ++ [(d.byte 20, d.byte 21, BitVec.ofNat 64 (d.num 24 8))] } } : State).setStream (d.byte 20)
        (some { y with ended := false })).finish c j .ok ((BitVec.ofNat 64 (d.num 24 8)).setWidth 32)
        ((BitVec.ofNat 64 (d.num 24 8) >>> 32).setWidth 32)).serveFetch (d.byte 20) := by
  rw [State.doHistoryFetch]
  dsimp -proj only
  rw [hstream]
  dsimp -proj only
  rw [if_neg (by simp [hclient, hkind, htap]), if_neg (by simp [hfetch]), if_neg (by simp [hmuted]), hrange]
  dsimp -proj only
  rw [if_neg (BitVec.not_lt.2 hlo)]

/-- The state with the fetch into stream `i` ended and counted, before its buffers are given back. -/
def fetchDropped (s : State) (i : Nat) : State :=
  ({ s with wake := { s.wake with fetches := s.wake.fetches.filter (fun f => decide (f.1 ≠ i)) } } : State).bump F.WAKE_ERR.fetch_overrun

theorem fetchDropped_fetchOf (s : State) (i : Nat) : (fetchDropped s i).fetchOf i = none := by
  have hwake : (fetchDropped s i).wake.fetches = s.wake.fetches.filter (fun f => decide (f.1 ≠ i)) := rfl
  rw [State.fetchOf, hwake, List.find?_eq_none]
  intro f hf
  simpa using (List.mem_filter.1 hf).2

theorem fetchDropped_counted (s : State) (i : Nat) : (fetchDropped s i).rf F.WAKE_ERR.fetch_overrun =
    min (s.rf F.WAKE_ERR.fetch_overrun + 1) (2 ^ F.WAKE_ERR.fetch_overrun.width - 1) := by
  rw [fetchDropped, bump_rf _ _ (by decide)]
  rfl

/-- What ends a fetch gives its buffers back and touches neither the fetches nor the count again. -/
theorem endFetch_dropped {s : State} {i : Nat} {f : Nat × Nat × Dword} (h : s.fetchOf i = some f) :
    Frame [.regs, .hif, .dbg, .free] (some [0x1414, 0x6028, 0x6848]) (fetchDropped s i) (s.endFetch i) := by
  have hend : s.endFetch i = (match ((fetchDropped s i).writeHead i .aborted (f.2.2.setWidth 32) ((f.2.2 >>> 32).setWidth 32) true).stream i with
      | some x => (((fetchDropped s i).writeHead i .aborted (f.2.2.setWidth 32) ((f.2.2 >>> 32).setWidth 32) true).setStream i
          (some { x with ended := true })).abortBuffers i x.bufs.length
      | none => (fetchDropped s i).writeHead i .aborted (f.2.2.setWidth 32) ((f.2.2 >>> 32).setWidth 32) true) := by
    rw [State.endFetch, h]
    rfl
  have hwrite : Frame [.regs, .hif, .dbg, .free] (some [0x1414, 0x6028, 0x6848]) (fetchDropped s i)
      ((fetchDropped s i).writeHead i .aborted (f.2.2.setWidth 32) ((f.2.2 >>> 32).setWidth 32) true) :=
    (frame_writeHead _ _ _ _ _ _).mono (by decide)
  rw [hend]
  split
  · exact (frame_abortBuffers _ _ _).after (by decide) ((frame_setStream _ _ _).after (by decide) hwrite)
  · exact hwrite

/-- Settles O20: what each stream command leaves of its stream, and what an overrun leaves of its fetch. -/
theorem streamsOpenFillAndClose : Obligations.StreamsOpenFillAndClose := by
  unfold Obligations.StreamsOpenFillAndClose
  refine ⟨?opened, ?filled, ?closed, ?fetch, ?overrun⟩
  case opened =>
    intro s c j n x h hkind hfree hn
    have hexec : exec (.streamOpen c) s = .next ((((s.started c x.desc).setStream n (some (openedStream c x.desc s.lpc))).finish c j .ok
        (BitVec.ofNat 32 n) 0).settle c) := by
      refine (nx (command_ready h [] _)).trans (nx (congrArg (State.settle · c) ?_))
      rw [doStreamOpen_free hkind (by simp only [st_stream]; exact hfree), st_lpc]
    have hset : ((s.started c x.desc).setStream n (some (openedStream c x.desc s.lpc))).stream n = some (openedStream c x.desc s.lpc) :=
      stream_setStream_same _ _ (by rw [started_hif]; exact hn)
    obtain ⟨bufs, hstream⟩ := stream_of_same ((streamsSame_finish _ c j .ok (BitVec.ofNat 32 n) 0).trans (streamsSame_settle _ c)) hset
    refine ⟨_, hexec, ?_, ⟨_, hstream, rfl, rfl, rfl, rfl, rfl, rfl, rfl⟩, (exFrame (frame_execStreamOpen c s) hexec).only⟩
    exact answered_command (u := (s.started c x.desc).setStream n (some (openedStream c x.desc s.lpc))) h
      (by rw [client_setStream]; exact started_flight h _) (started_plt _ _ _) _ _ _
  case filled =>
    intro s c j x y buf h hstream hclient hended hkind htap
    refine ⟨_, (nx (command_ready h buf _)).trans (nx (congrArg (State.settle · c)
      (doStreamBuf_capture _ ((st_stream _ _ _ _).trans hstream) hclient hended hkind htap))), rfl, settle_only c ?_ (by decide)⟩
    exact (frame_setPhase _ _ _ _).after (by decide) ((frame_setStream _ _ _).after (by decide) ((frame_started s c x.desc).mono (by decide)))
  case closed =>
    intro s c j x y h hstream hclient
    have hexec : exec (.streamClose c) s = .next ((((s.started c x.desc).setStream (x.desc.byte 20) (some { y with closing := true })).setPhase c j
        (.streamClose (x.desc.byte 20))).settle c) := command_acts h [] _ (doStreamClose_own ((st_stream _ _ _ _).trans hstream) hclient)
    have hset : (((s.started c x.desc).setStream (x.desc.byte 20) (some { y with closing := true })).setPhase c j (.streamClose (x.desc.byte 20))).stream
        (x.desc.byte 20) = some { y with closing := true } := by
      rw [stream_setPhase]
      exact stream_setStream_same _ _ (by rw [started_hif]; exact stream_length hstream)
    obtain ⟨bufs, hafter⟩ := stream_of_same (streamsSame_settle _ c) hset
    exact ⟨_, hexec, ⟨_, hafter, rfl, hclient⟩, (exFrame (frame_execStreamClose c s) hexec).only⟩
  case fetch =>
    intro s c j x y lo hi h hstream hclient hkind htap hfetch hmuted hrange hlo
    have hdo := doHistoryFetch_held (j := j) ((st_stream s c x.desc _).trans hstream) hclient hkind htap (by rw [State.fetchOf, st_wake]; exact hfetch)
      ((st_muted _ _ _).trans hmuted) (by rw [st_wake]; exact hrange) hlo
    rw [st_wake] at hdo
    have hexec := command_acts h [] (fun s j d => s.doHistoryFetch c j d) hdo
    exact ⟨_, hexec, rfl, (exFrame (frame_execHistoryFetch c s) hexec).only⟩
  case overrun =>
    intro s n ch next lo hi hfetch hrange hlt
    have hexec : exec (.historyFetchOverrun n) s = .next (s.endFetch n) := by
      show execHistoryFetchOverrun n s = _
      rw [execHistoryFetchOverrun, hfetch, hrange]
      dsimp -proj only
      rw [if_pos hlt]
    have hafter := endFetch_dropped hfetch
    refine ⟨_, hexec, ?_, ?_⟩
    · rw [State.fetchOf, hafter.eq_of .wake rfl]
      exact fetchDropped_fetchOf s n
    · rw [hafter.rf_eq (by decide), fetchDropped_counted]

/-! ### Messages -/

theorem triggerActive_a_way (s : State) : (s.triggerActive .a).way = s.way := by
  unfold State.triggerActive
  dsimp -proj only
  split <;> rfl

/-- A message that does not rank as urgent joins port A's routine queue, and nothing of the waystation changes. -/
theorem post_routine (s : State) (m : Msg) (h : ∀ t : State, t.isUrgent .a m = false) :
    (s.post .a m).link.routine = s.link.routine ++ [m] ∧ (s.post .a m).link.urgent = s.link.urgent ∧ (s.post .a m).way = s.way := by
  have hpost : s.post .a m = (if mustReach m.typ.toNat then s.triggerActive .a else s).modLnk .a (fun l => { l with routine := l.routine ++ [m] }) := by
    unfold State.post
    dsimp -proj only
    exact if_neg (by rw [h]; decide)
  have hlink : (if mustReach m.typ.toNat then s.triggerActive .a else s).link = s.link := by
    split
    · exact triggerActive_link s .a
    · rfl
  have hway : (if mustReach m.typ.toNat then s.triggerActive .a else s).way = s.way := by
    split
    · exact triggerActive_a_way s
    · rfl
  rw [hpost]
  generalize (if mustReach m.typ.toNat then s.triggerActive .a else s) = u at hlink hway
  exact ⟨by rw [← hlink]; rfl, by rw [← hlink]; rfl, hway⟩

/-- MONITOR and GROUP_PUSH never rank as urgent (R96, Table 3-1). -/
theorem isUrgent_hostMsg (t : State) (cycle : Word) (dst typ : Nat) (payload : List Byte) (o : MsgOwner) (h : typ = tyMonitor ∨ typ = tyGroupPush) :
    t.isUrgent .a (newMsg cycle dst typ payload o) = false := by
  rcases h with rfl | rfl <;>
    simp [State.isUrgent, newMsg, tyMonitor, tyGroupPush, tyCall, tyCallAck, tyLeaseReq, tyAddressAssign, tyLeaseGrant, tyPowerDirective, tyLeaseAudit]

theorem doLedgerSend_other {s : State} {c j : Nat} {d : Desc} {buf : List Byte} (hmon : d.byte 21 ≠ tyMonitor) (hpush : d.byte 21 ≠ tyGroupPush) :
    s.doLedgerSend c j d buf = s.finish c j .refused 0 0 := by
  rw [State.doLedgerSend, if_pos ⟨hmon, hpush⟩]

theorem doLedgerSend_queued {s : State} {c j : Nat} {d : Desc} {buf : List Byte} (htyp : d.byte 21 = tyMonitor ∨ d.byte 21 = tyGroupPush)
    (hlen : lengthOk (d.byte 21) (buf.take d.bufLen) = true) (hbuf : d.bufLen ≤ buf.length) (hshut : s.lineShut = false) :
    s.doLedgerSend c j d buf = (s.setPhase c j (.ledgerSend s.lpc)).post .a
      (newMsg s.lpc (d.byte 20) (d.byte 21) (buf.take d.bufLen) (.host c d.id)) := by
  rw [State.doLedgerSend, if_neg (fun h => htyp.elim h.1 h.2), if_neg (by simp [hlen, hbuf]), if_neg (by simp [hshut])]

/-- The state with the message of host command `id` of client `c` taken back from port A's queue. -/
def messageWithdrawn (s : State) (c : Nat) (id : Half) : State := s.modLnk .a (fun l => l.purge (fun m => decide (m.owner = .host c id)))

theorem frame_messageWithdrawn (s : State) (c : Nat) (id : Half) : Frame [.link] (some []) s (messageWithdrawn s c id) :=
  Frame.set_link _ rfl (Frame.rfl' s)

theorem messageWithdrawn_owner (s : State) (c : Nat) (id : Half) {m : Msg}
    (h : m ∈ (messageWithdrawn s c id).link.urgent ∨ m ∈ (messageWithdrawn s c id).link.routine) : m.owner ≠ .host c id := by
  have hurgent : (messageWithdrawn s c id).link.urgent = s.link.urgent.filter (fun m => !decide (m.owner = .host c id)) := rfl
  have hroutine : (messageWithdrawn s c id).link.routine = s.link.routine.filter (fun m => !decide (m.owner = .host c id)) := rfl
  rw [hurgent, hroutine] at h
  rcases h with h | h <;> simpa using (List.mem_filter.1 h).2

/-! ### Transfers -/

theorem streamTurn_plain {s : State} {c j : Nat} {x : InFlight} (h : x.isStream = false) : s.streamTurn c j x = true := by
  rw [State.streamTurn, h]
  rfl

theorem exec_transfer_done {s : State} {c : Client} {id : Half} {moved j : Nat} {x : InFlight} {b : List Byte} {st : Status} {r i : Word}
    (hfind : s.findFlight c (movesBuffer id) = some j) (hflight : (s.client c).flight[j]? = some x) (hplain : x.isStream = false)
    (hphase : x.phase = .writing b st r i) :
    exec (.bufferTransferCompletion c id true moved) s = .next ((s.finish c j st r i).settle c) := by
  show execBufferTransferCompletion c id true moved s = _
  rw [execBufferTransferCompletion, hfind]
  dsimp -proj only
  rw [hflight]
  dsimp -proj only
  rw [if_neg (by simp [streamTurn_plain hplain]), if_neg (by simp), hphase]
  dsimp -proj only
  rw [if_neg (by simp [hplain])]

theorem exec_transfer_failed {s : State} {c : Client} {id : Half} {moved j : Nat} {x : InFlight} {b : List Byte} {st : Status} {r i : Word}
    (hfind : s.findFlight c (movesBuffer id) = some j) (hflight : (s.client c).flight[j]? = some x) (hplain : x.isStream = false)
    (hphase : x.phase = .writing b st r i) :
    exec (.bufferTransferCompletion c id false moved) s =
      .next (((s.bump F.HIF_ERR.buf_dma).finish c j .aborted (BitVec.ofNat 32 moved) 0).settle c) := by
  have hjob : s.releaseJob x = s := by rw [State.releaseJob, hphase]
  show execBufferTransferCompletion c id false moved s = _
  rw [execBufferTransferCompletion, hfind]
  dsimp -proj only
  rw [hflight]
  dsimp -proj only
  rw [if_neg (by simp [streamTurn_plain hplain]), if_pos (by rfl), if_neg (by simp [hplain]), hjob]

/-- Settles O21: a message waits in the routine queue or comes back out of it, and a transfer's end is its descriptor's. -/
theorem messagesAndTransfersComplete : Obligations.MessagesAndTransfersComplete := by
  unfold Obligations.MessagesAndTransfersComplete
  refine ⟨?queued, ?other, ?withdrawn, ?diag, ?done, ?failed⟩
  case queued =>
    intro s c j x buf h htyp hlen hbuf hshut
    have hexec : exec (.ledgerSend c buf) s = .next ((((s.started c x.desc).setPhase c j (.ledgerSend s.lpc)).post .a (newMsg s.lpc (x.desc.byte 20)
        (x.desc.byte 21) ((s.bufferOf c x.desc buf).take x.desc.bufLen) (.host c x.desc.id))).settle c) := by
      refine command_acts h buf _ ?_
      rw [st_bufferOf, doLedgerSend_queued htyp hlen hbuf ((st_lineShut _ _ _).trans hshut), st_lpc]
    obtain ⟨hroutine, hurgent, hway⟩ := post_routine ((s.started c x.desc).setPhase c j (.ledgerSend s.lpc)) (newMsg s.lpc (x.desc.byte 20)
      (x.desc.byte 21) ((s.bufferOf c x.desc buf).take x.desc.bufLen) (.host c x.desc.id)) (fun t => isUrgent_hostMsg t _ _ _ _ _ htyp)
    have hsettle := fun u : State => frame_settle u c
    have hlink : ((s.started c x.desc).setPhase c j (.ledgerSend s.lpc)).link = s.link := st_link s c x.desc
    have hwayStart : ((s.started c x.desc).setPhase c j (.ledgerSend s.lpc)).way = s.way := st_way s c x.desc
    refine ⟨_, hexec, ?_, ?_, tighten (p := .way) (Frame.mono (exFrame (frame_execLedgerSend c buf s) hexec) (r' := none) (by decide)).parts ?_⟩
    · rw [(hsettle _).eq_of .link rfl, hroutine, hlink]
    · rw [(hsettle _).eq_of .link rfl, hurgent, hlink]
    · exact ((hsettle _).eq_of .way rfl).trans (hway.trans hwayStart)
  case other =>
    intro s c j x buf h hmon hpush
    exact ⟨_, command_acts h buf _ (doLedgerSend_other hmon hpush), answered_now h .refused 0 0⟩
  case withdrawn =>
    intro s c j x hfind hflight hlive
    have hexec : exec (.ledgerSendWithdraw c) s = .next (((messageWithdrawn s c x.desc.id).finish c j .timeout 0 0).settle c) := by
      show execLedgerSendWithdraw c s = _
      rw [execLedgerSendWithdraw, hfind]
      dsimp -proj only
      rw [hflight]
      rfl
    have hlink : (((messageWithdrawn s c x.desc.id).finish c j .timeout 0 0).settle c).link = (messageWithdrawn s c x.desc.id).link := by
      rw [(frame_settle _ _).eq_of .link rfl, (frame_finish _ _ _ _ _ _).eq_of .link rfl]
    refine ⟨_, hexec, ?_, fun m hm => ?_, settle_only c ?_ (by decide)⟩
    · exact answered_keeps (answered_of_plt (s := messageWithdrawn s c x.desc.id) (answered_finish _ c j .timeout 0 0 x hflight hlive) rfl) (keeps_settle _ c)
    · rw [hlink] at hm
      exact messageWithdrawn_owner s c x.desc.id hm
    · exact (frame_finish _ _ _ _ _ _).after (by decide) ((frame_messageWithdrawn s c x.desc.id).mono (by decide))
  case diag =>
    intro s c j x buf h h20
    have hexec : exec (.diag c buf) s = .next (((s.started c x.desc).deliver c j ((s.bufferOf c x.desc buf).take x.desc.bufLen) .ok 0 0).settle c) := by
      refine command_acts h buf _ ?_
      rw [State.doDiag, h20, st_bufferOf]
      rfl
    refine ⟨_, hexec, fun hc => ?_, fun hc => ?_, (exFrame (frame_execDiag c buf s) hexec).only⟩
    · exact answered_keeps (answered_of_plt (answered_deliver (started_flight h _) h.live _ _ _ _ hc) (started_plt _ _ _).symm) (keeps_settle _ c)
    · rw [State.deliver, if_neg hc, State.bufferOf, if_neg hc]
  case done =>
    intro s c id moved j x b st r i hfind hflight hlive hplain hphase
    exact ⟨_, exec_transfer_done hfind hflight hplain hphase, answered_keeps (answered_finish s c j st r i x hflight hlive) (keeps_settle _ c),
      settle_only c ((frame_finish s c j st r i).mono (by decide)) (by decide)⟩
  case failed =>
    intro s c id moved j x b st r i hfind hflight hlive hplain hphase
    refine ⟨_, exec_transfer_failed hfind hflight hplain hphase, answered_keeps (answered_of_plt (s := s.bump F.HIF_ERR.buf_dma)
      (answered_finish _ c j .aborted _ 0 x ?_ hlive) rfl) (keeps_settle _ c), rfl⟩
    rw [client_congr (bump_hif _ _)]
    exact hflight

end Sys2Proof.Proofs

/-! ## Tag, check and configuration commands

TAG_READ, TAG_WRITE and TAG_LIFE_POST (R453, R454, R476), CHECK_JOB (R455, R519 to R523), and staged configuration (R266, R458, R459, R578, R579). -/

namespace Sys2Proof.Proofs

open Sys2Proof.Machine Sys2Proof.Laws

/-! ### Tag commands -/

theorem doLifePost_appended {s : State} {c j : Nat} {d : Desc} (hlow : 0x10 ≤ d.byte 20) (hhigh : d.byte 20 ≤ 0x1F)
    (hident : s.tag.identity.isSome = true) (hmaster : s.tagMaster = true) :
    s.doLifePost c j d = (s.setPhase c j (.tag [])).queueTag (.life
      { serial := s.tag.serial, kind := d.byte 20, amount := d.num 24 4, stamp := s.stampNow.1, rtc := s.stampNow.2 } (some (c, d.id)) false) := by
  have hmaster' : (s.setPhase c j (.tag [])).tagMaster = true := hmaster
  rw [State.doLifePost]
  dsimp -proj only
  rw [if_neg (by simp [Nat.not_lt.2 hlow, Nat.not_lt.2 hhigh, Option.isSome_iff_ne_none.1 hident]), if_neg (by rw [hmaster']; decide)]

theorem doLifePost_foreign {s : State} {c j : Nat} {d : Desc} (hkind : d.byte 20 < 0x10 ∨ 0x1F < d.byte 20) :
    s.doLifePost c j d = s.finish c j .refused 0 0 := by
  rw [State.doLifePost]
  dsimp -proj only
  rw [if_pos (by rcases hkind with h | h <;> simp [h])]

/-! ### Checks -/

theorem st_tollHolder (s : State) (c : Nat) (d : Desc) (u : Nat) :
    (s.started c d).rf (F.TOLL_STATUS.holder u) = s.rf (F.TOLL_STATUS.holder u) :=
  st_rf s c d _ (by show 0x5848 + 0x100 * u ≠ 0x6028; omega)

/-- Starting, completing and settling leave the job flags of the units. -/
theorem settle_job (s : State) (c : Nat) {u : Nat} (h : u < 4) : (s.settle c).rf (F.TOLL_STATUS.job u) = s.rf (F.TOLL_STATUS.job u) := by
  refine (frame_settle s c).rf_eq ?_
  have hoff : (F.TOLL_STATUS.job u).off = 0x5848 + 0x100 * u := rfl
  rw [hoff, List.elem_eq_mem, decide_eq_false_iff_not]
  simp
  omega

theorem doCheckJob_host {s : State} {c j : Nat} {d : Desc} {buf : List Byte} (hc : c ≠ clientSB) (hgood : s.jobBad d = false)
    (hheld : s.rf (F.TOLL_STATUS.holder (d.byte 20)) = 0) :
    s.doCheckJob c j d buf = (s.put (F.TOLL_STATUS.job (d.byte 20)) true).setPhase c j (.job (d.byte 20)
      ((s.jobSet d).job (d.byte 21) (d.num 24 4) buf).append ((s.jobSet d).job (d.byte 21) (d.num 24 4) buf).status
      (BitVec.ofNat 32 ((s.jobSet d).job (d.byte 21) (d.num 24 4) buf).value)
      (BitVec.ofNat 32 ((s.jobSet d).job (d.byte 21) (d.num 24 4) buf).info)) := by
  rw [State.doCheckJob]
  dsimp -proj only
  rw [if_neg (by simp [hgood]), if_neg (not_not_intro hheld), if_neg hc]

theorem doCheckJob_held {s : State} {c j : Nat} {d : Desc} {buf : List Byte} (hgood : s.jobBad d = false)
    (hheld : s.rf (F.TOLL_STATUS.holder (d.byte 20)) ≠ 0) : s.doCheckJob c j d buf = s.finish c j .busy 0 0 := by
  rw [State.doCheckJob]
  dsimp -proj only
  rw [if_neg (by simp [hgood]), if_pos hheld]

/-- A CHECK_JOB whose unit is held, or that no earlier job keeps waiting, is a command like the others. -/
theorem execCheckJob_turn {s : State} {c : Client} {j : Nat} {x : InFlight} (h : Ready s c 0x60 j x) (buf : List Byte)
    (hfree : ¬ (s.rf (F.TOLL_STATUS.holder (x.desc.byte 20)) = 0 ∧ s.jobWaits (x.desc.byte 20) x.order = true)) :
    exec (.checkJob c buf) s = .next (s.command c 0x60 buf (fun s j d => s.doCheckJob c j d (s.bufferOf c d buf))) := by
  show execCheckJob c buf s = _
  rw [execCheckJob, h.turn]
  dsimp -proj only
  rw [if_neg (fun hwait => hfree hwait.2)]

/-- Settles O22: each command's effect is the one its checks leave. -/
theorem tagAndCheckCommandsAct : Obligations.TagAndCheckCommandsAct := by
  unfold Obligations.TagAndCheckCommandsAct
  refine ⟨?read, ?readNone, ?write, ?writeOther, ?life, ?lifeOther, ?job, ?jobHeld⟩
  case read =>
    intro s c j x h hdet
    exact ⟨_, command_acts h [] (fun s j d => s.doTagRead c j d) (if_neg (by rw [st_pins, hdet]; decide)), rfl⟩
  case readNone =>
    intro s c j x h hdet
    exact ⟨_, command_acts h [] (fun s j d => s.doTagRead c j d) (if_pos (by rw [st_pins, hdet]; decide)), answered_now h .refused 0 2⟩
  case write =>
    intro s c j x buf h hmay hdet
    refine ⟨_, command_acts h buf (fun s j d => s.doTagWrite c j d (s.bufferOf c d buf)) ?_, rfl⟩
    rw [State.doTagWrite, st_bufferOf, if_neg (by rw [hmay]; decide), if_neg (by rw [st_pins, hdet]; decide)]
  case writeOther =>
    intro s c j x buf h hmay
    exact ⟨_, command_acts h buf (fun s j d => s.doTagWrite c j d (s.bufferOf c d buf)) (if_pos (by rw [hmay]; decide)), answered_now h .refused 0 1⟩
  case life =>
    intro s c j x h hlow hhigh hident hmaster
    have hdo := doLifePost_appended (s := s.started c x.desc) (c := c) (j := j) hlow hhigh (by rw [st_tag]; exact hident) hmaster
    rw [st_tag] at hdo
    exact ⟨_, command_acts h [] (fun s j d => s.doLifePost c j d) hdo, rfl⟩
  case lifeOther =>
    intro s c j x h hkind
    exact ⟨_, command_acts h [] (fun s j d => s.doLifePost c j d) (doLifePost_foreign hkind), answered_now h .refused 0 0⟩
  case job =>
    intro s c j x buf h hc hunit hgood hheld hwaits
    have hbuf : (s.started c x.desc).bufferOf c x.desc buf = buf.take x.desc.bufLen := if_neg hc
    have hexec := (execCheckJob_turn h buf (fun hw => by rw [hwaits] at hw; exact absurd hw.2 (by decide))).trans
      (command_acts h buf (fun s j d => s.doCheckJob c j d (s.bufferOf c d buf)) (doCheckJob_host hc hgood ((st_tollHolder _ _ _ _).trans hheld)))
    rw [hbuf] at hexec
    refine ⟨_, hexec, ?_, fun o ho => by rw [ho]⟩
    rw [settle_job _ _ hunit]
    exact rf_put_same _ (F.TOLL_STATUS.job (x.desc.byte 20)) true rfl rfl
  case jobHeld =>
    intro s c j x buf h hgood hunit hheld
    exact ⟨_, (execCheckJob_turn h buf (fun hw => hheld hw.1)).trans (command_acts h buf (fun s j d => s.doCheckJob c j d (s.bufferOf c d buf))
      (doCheckJob_held hgood (by rw [st_tollHolder]; exact hheld))), answered_now h .busy 0 0⟩

/-! ### Staged configuration -/

/-- The staging as a command of client `owner` leaves it. -/
def stagingSet (s : State) (es : List StageEntry) (owner : Option Nat) : State := { s with cfg := { s.cfg with staging := es, owner := owner } }

theorem doConfigStage_discard {s : State} {c j : Nat} {d : Desc} (buf : List Byte) (hwhole : s.on F.GLB_STATUS.epoch_mixed = false)
    (howner : s.cfg.owner = none ∨ s.cfg.owner = some c) (h20 : d.byte 20 = 1) :
    s.doConfigStage c j d buf = (stagingSet s [] none).finish c j .ok 0 0 := by
  rw [State.doConfigStage, if_neg (by simp [hwhole]), if_neg (by rcases howner with h | h <;> simp [h]), if_pos h20]
  rfl

theorem doConfigStage_added {s : State} {c j : Nat} {d : Desc} {buf : List Byte} {es : List StageEntry} (hwhole : s.on F.GLB_STATUS.epoch_mixed = false)
    (howner : s.cfg.owner = none ∨ s.cfg.owner = some c) (h20 : d.byte 20 ≠ 1) (hes : parseEntries buf (d.bufLen / 12) = es)
    (hsound : es.findSome? s.entryFails = none) (hroom : (s.cfg.staging ++ es).length ≤ 256) :
    s.doConfigStage c j d buf = (stagingSet s (s.cfg.staging ++ es) (some c)).finish c j .ok (BitVec.ofNat 32 (s.cfg.staging ++ es).length) 0 := by
  rw [State.doConfigStage, if_neg (by simp [hwhole]), if_neg (by rcases howner with h | h <;> simp [h]), if_neg h20]
  dsimp -proj only
  rw [hes, hsound]
  dsimp -proj only
  rw [if_neg (Nat.not_lt.2 hroom)]
  rfl

/-- A staging command that completes at once. -/
theorem staged_now {s : State} {c op j : Nat} {x : InFlight} (h : Ready s c op j x) (es : List StageEntry) (owner : Option Nat) (r : Word) :
    (((stagingSet (s.started c x.desc) es owner).finish c j .ok r 0).settle c).cfg = { s.cfg with staging := es, owner := owner } ∧
    Answered s (((stagingSet (s.started c x.desc) es owner).finish c j .ok r 0).settle c) c x.desc .ok r 0 := by
  refine ⟨?_, answered_command (u := stagingSet (s.started c x.desc) es owner) h (started_flight h _) (started_plt _ _ _) .ok r 0⟩
  rw [(frame_settle _ _).eq_of .cfg rfl, (frame_finish _ _ _ _ _ _).eq_of .cfg rfl, stagingSet, st_cfg]

/-- The state with a CONFIG_APPLY of client `c` waiting for a:0 of the next cycle. -/
def applyAwaited (s : State) (c j : Nat) (id : Half) : State :=
  { s.setPhase c j .configApply with cfg := { s.cfg with apply := some (c, id, s.lpc + 1) } }

theorem doConfigApply_now {s : State} {c j : Nat} {d : Desc} (hwhole : s.on F.GLB_STATUS.epoch_mixed = false) (hstaged : s.cfg.staging ≠ [])
    (howner : s.cfg.owner = some c) : s.doConfigApply c j d false = applyAwaited s c j d.id := by
  rw [State.doConfigApply, if_neg (by simp [hwhole]), if_neg (by simp [hstaged, howner])]
  rfl

theorem doConfigApply_foreign {s : State} {c j : Nat} {d : Desc} (hwhole : s.on F.GLB_STATUS.epoch_mixed = false) (howner : s.cfg.owner ≠ some c) :
    s.doConfigApply c j d false = s.finish c j .mismatch 0 0 := by
  rw [State.doConfigApply, if_neg (by simp [hwhole]), if_pos (.inr howner)]

theorem groupPoint_due {s : State} {g : CfgGroup} {x : PendingGroup} (hfind : s.cfg.groups.find? (fun x => decide (x.group = g)) = some x)
    (hdue : s.groupDue x = true) : s.groupPoint g = s.applyGroup x := by
  rw [State.groupPoint, hfind]
  dsimp -proj only
  rw [if_pos hdue]

theorem groupPoint_later {s : State} {g : CfgGroup} {x : PendingGroup} (hfind : s.cfg.groups.find? (fun x => decide (x.group = g)) = some x)
    (hdue : s.groupDue x = false) : s.groupPoint g = s := by
  rw [State.groupPoint, hfind]
  dsimp -proj only
  rw [if_neg (by simp [hdue])]

/-- Settles O23: what staging and applying leave, and when a group takes effect. -/
theorem configurationIsStagedAndApplied : Obligations.ConfigurationIsStagedAndApplied := by
  unfold Obligations.ConfigurationIsStagedAndApplied
  refine ⟨?discard, ?added, ?apply, ?foreign, fun s g x hfind => ⟨fun hdue => ?_, fun hdue => ?_⟩, ?format, ?group⟩
  case discard =>
    intro s c j x buf h hwhole howner h20
    have hexec := command_acts h buf (fun s j d => s.doConfigStage c j d (s.bufferOf c d buf))
      (doConfigStage_discard _ ((st_on _ _ _ _ (by decide)).trans hwhole) (by rw [st_cfg]; exact howner) h20)
    obtain ⟨hcfg, hanswer⟩ := staged_now h [] none 0
    exact ⟨_, hexec, hcfg, hanswer, (exFrame (frame_execConfigStage c buf s) hexec).only⟩
  case added =>
    intro s c j x buf es h hwhole howner h20 hes hsound hroom
    have hexec := command_acts h buf (fun s j d => s.doConfigStage c j d (s.bufferOf c d buf))
      (doConfigStage_added ((st_on _ _ _ _ (by decide)).trans hwhole) (by rw [st_cfg]; exact howner) h20 (by rw [st_bufferOf]; exact hes) hsound
        (by rw [st_cfg]; exact hroom))
    rw [st_cfg] at hexec
    obtain ⟨hcfg, hanswer⟩ := staged_now h (s.cfg.staging ++ es) (some c.val) (BitVec.ofNat 32 (s.cfg.staging ++ es).length)
    exact ⟨_, hexec, hcfg, hanswer, (exFrame (frame_execConfigStage c buf s) hexec).only⟩
  case apply =>
    intro s c j x h hwhole hstaged howner
    have hexec := command_acts h [] (fun s j d => s.doConfigApply c j d false)
      (doConfigApply_now ((st_on _ _ _ _ (by decide)).trans hwhole) (by rw [st_cfg]; exact hstaged) (by rw [st_cfg]; exact howner))
    refine ⟨_, hexec, ?_, settle_only c (Frame.set_cfg _ rfl ?_) (by decide)⟩
    · rw [(frame_settle _ _).eq_of .cfg rfl, applyAwaited, st_cfg, st_lpc]
    · exact (frame_setPhase _ _ _ _).after (by decide) ((frame_started s c x.desc).mono (by decide))
  case foreign =>
    intro s c j x h hwhole howner
    exact ⟨_, command_acts h [] (fun s j d => s.doConfigApply c j d false)
      (doConfigApply_foreign ((st_on _ _ _ _ (by decide)).trans hwhole) (by rw [st_cfg]; exact howner)), answered_now h .mismatch 0 0⟩
  · exact nx (congrArg State.settleAll (groupPoint_due hfind hdue))
  · exact nx (congrArg State.settleAll (groupPoint_later hfind hdue))
  case format =>
    intro s hnone hwanted heven hsym hcore
    refine nx ?_
    rw [if_neg (by simp [hnone]), if_pos ⟨hwanted, heven, hsym, hcore⟩]
  case group =>
    intro s x hfind hdue
    refine nx ?_
    have hany : s.cfg.groups.any (fun x => decide (x.group = .tdm)) = true :=
      List.any_eq_true.2 ⟨x, List.mem_of_find?_eq_some hfind, by simpa using List.find?_some hfind⟩
    rw [if_pos hany, groupPoint_due hfind hdue]

end Sys2Proof.Proofs

/-! ## The host link

Rings (R377, R378, R410), fetching and writing (R380 to R392, R398, R413, R419), the link's resets and states (R401 to R411, R565). -/

namespace Sys2Proof.Proofs

open Sys2Proof.Machine Sys2Proof.Laws

/-! ### Closing a client -/

/-- A client that runs is one of the block's. -/
theorem client_length {s : State} {c : Nat} (h : (s.client c).running = true) : c < s.hif.clients.length := by
  refine Nat.lt_of_not_le fun hn => ?_
  rw [State.client, List.getD_eq_getElem?_getD, List.getElem?_eq_none hn] at h
  exact absurd h (by decide)

theorem setSession_clients (s : State) (n : Nat) (x : Option Session) : (s.setSession n x).hif.clients = s.hif.clients := rfl

theorem dropTalk_hif (s : State) (p : Port) (o : LeaseOwner) : (s.dropTalk p o).hif = s.hif := (frame_dropTalk s p o).eq_of .hif rfl

/-- Ending a client's talk leaves every client's state as it was. -/
theorem closeTalk_clients (s : State) (n : Nat) : (s.closeTalk n).hif.clients = s.hif.clients := by
  unfold State.closeTalk
  generalize List.range 8 = l
  induction l generalizing s with
  | nil => rfl
  | cons k l ih =>
    rw [List.foldl_cons, ih]
    split
    · split
      · rw [setSession_clients, dropTalk_hif]
      · rfl
    · rfl

theorem closeStreams_clients (s : State) (n : Nat) : (s.closeStreams n).hif.clients = s.hif.clients := rfl

theorem releaseJob_hif (s : State) (x : InFlight) : (s.releaseJob x).hif = s.hif := by
  unfold State.releaseJob
  split <;> rfl

theorem foldl_releaseJob_hif (l : List InFlight) (s : State) : (l.foldl (fun t x => t.releaseJob x) s).hif = s.hif := by
  induction l generalizing s with
  | nil => rfl
  | cons x l ih => rw [List.foldl_cons, ih, releaseJob_hif]

theorem dropDeadlines_hif (s : State) (p : Deadline → Bool) : (s.dropDeadlines p).hif = s.hif := (frame_dropDeadlines s p).eq_of .hif rfl

/-- What ending a client does to its own entry. -/
def endedClient (c : ClientSt) : ClientSt :=
  { c with
    running := false, armed := false, fetching := 0, badChain := false, latched := [none, none, none], waiting := [], mask := 0, vote := none,
    perf := none, flight := (c.flight.filter (fun x => !x.endsWithClient)).map (fun x => { x with stale := true, chainLeft := 0 }) }

/-- The state with the jobs, deadlines, talk and streams of client `n` ended (R407, steps 2 to 5). -/
def clientWorkEnded (s : State) (n : Nat) : State :=
  (((((s.client n).flight.foldl (fun t x => t.releaseJob x) s).dropDeadlines (fun d => decide (d.client = n) &&
    !(s.client n).flight.any (fun x => decide (x.desc.id = d.id) && decide (x.desc.opcode = 0x91)))).closeTalk n).closeStreams n)

theorem endClient_eq (s : State) (n : Nat) : s.endClient n = (clientWorkEnded s n).modClient n endedClient := rfl

theorem clientWorkEnded_clients (s : State) (n : Nat) : (clientWorkEnded s n).hif.clients = s.hif.clients := by
  rw [clientWorkEnded, closeStreams_clients, closeTalk_clients, dropDeadlines_hif, foldl_releaseJob_hif]

theorem client_of_clients {s t : State} (h : t.hif.clients = s.hif.clients) (i : Nat) : t.client i = s.client i := by
  rw [State.client, State.client, h]

theorem endClient_client {s : State} {n : Nat} (h : n < s.hif.clients.length) : (s.endClient n).client n = endedClient (s.client n) := by
  rw [endClient_eq, client_modClient_same _ _ (by rw [clientWorkEnded_clients]; exact h), client_of_clients (clientWorkEnded_clients s n)]

theorem dropStagingOf_hif (s : State) (n : Nat) : (s.dropStagingOf n).hif = s.hif := (frame_dropStagingOf s n).eq_of .hif rfl

theorem closeClient_client {s : State} {n : Nat} (h : n < s.hif.clients.length) : (s.closeClient n).client n = endedClient (s.client n) := by
  have hhif : (s.closeClient n).hif = (s.endClient n).hif := by
    rw [State.closeClient, (frame_relevel _).eq_of .hif rfl, (frame_bumpGen _ _ _).eq_of .hif rfl, dropStagingOf_hif]
  rw [client_congr hhif, endClient_client h]

/-! ### Rings -/

/-- The fields of client `c`'s ring registers, each inside its word and apart from those that enabling writes. -/
theorem ringFields_apart (c : Fin 16) : fits (F.HIF_RING_CTL.en c) = true ∧ fits (F.HIF_FAULT.cause c) = true ∧
    apart (F.HIF_FAULT.cause c) (F.HIF_RING_CTL.en c) = true ∧ (F.HIF_RING_CTL.en c).width = 1 ∧
    ∀ f ∈ [F.HIF_SQ_BASE_LO.addr c, F.HIF_CQ_BASE_LO.addr c, F.HIF_RING_CTL.sq_log2 c, F.HIF_RING_CTL.cq_log2 c],
      fits f = true ∧ apart (F.HIF_RING_CTL.en c) f = true ∧ apart (F.HIF_FAULT.cause c) f = true ∧ (F.HIF_RING_CTL.en c).off ≠ 0x0890 ∧
        (F.HIF_FAULT.cause c).off ≠ 0x0890 := by
  revert c
  decide

/-- Client `c`'s ring enabled and its fault cleared, before the ring is looked at. -/
def ringAsked (s : State) (c : Nat) : State := (s.put (F.HIF_RING_CTL.en c) true).wr (F.HIF_FAULT.cause c) 0

theorem ringAsked_ringOk (s : State) (c : Fin 16) : (ringAsked s c).ringOk c = s.ringOk c := by
  obtain ⟨-, -, -, -, hfields⟩ := ringFields_apart c
  have hkeep : ∀ f ∈ [F.HIF_SQ_BASE_LO.addr c, F.HIF_CQ_BASE_LO.addr c, F.HIF_RING_CTL.sq_log2 c, F.HIF_RING_CTL.cq_log2 c],
      (ringAsked s c).rf f = s.rf f := fun f hf => by
    obtain ⟨hfit, hen, hcause, -, -⟩ := hfields f hf
    rw [ringAsked, rf_wr_apart _ _ _ _ hfit hcause, rf_put_apart _ _ _ _ hfit hen]
  unfold State.ringOk
  rw [hkeep _ (by simp), hkeep _ (by simp), hkeep _ (by simp), hkeep _ (by simp)]

theorem ringAsked_hif (s : State) (c : Nat) : (ringAsked s c).hif = s.hif := rfl

theorem ringAsked_on (s : State) (c : Fin 16) : (ringAsked s c).on (F.HIF_RING_CTL.en c) = true := by
  obtain ⟨hfitEn, -, hapart, hwidth, -⟩ := ringFields_apart c
  rw [State.on, ringAsked, rf_wr_apart _ _ _ _ hfitEn hapart, rf_put_same _ _ _ hfitEn hwidth]
  rfl

/-- A client as an enabled ring starts it. -/
def startedClient (c : ClientSt) : ClientSt :=
  { c with
    sqHead := 0, sqTail := 0, cqHead := 0, cqTail := 0, phase := true, running := true, enabled := true, faulted := false, armed := true, written := 0,
    fetching := 0, badChain := false, waiting := [], mask := 0, vote := none, perf := none }

theorem enableRing_good {s : State} {c : Fin 16} (h : s.ringOk c = true) :
    s.enableRing c = ((ringAsked s c).modClient c startedClient).checkEntry := by
  have hok : (ringAsked s c).ringOk c = true := (ringAsked_ringOk s c).trans h
  unfold State.enableRing
  exact if_neg (by show ¬ ((!(ringAsked s c).ringOk c) = true); rw [hok]; decide)

theorem enableRing_bad {s : State} {c : Fin 16} (h : s.ringOk c = false) : s.enableRing c = (ringAsked s c).clientFault c 4 := by
  have hok : (ringAsked s c).ringOk c = false := (ringAsked_ringOk s c).trans h
  unfold State.enableRing
  exact if_pos (by show (!(ringAsked s c).ringOk c) = true; rw [hok]; decide)

theorem exec_ringEnable {s : State} {c : Fin 16} (hreach : s.reach .bar0 (F.HIF_RING_CTL.en c).off = some s) :
    exec (.ringEnable c) s = .next (if s.on (F.HIF_RING_CTL.en c) then s else s.enableRing c) := by
  show execRingEnable c s = _
  rw [execRingEnable, hreach]

theorem exec_ringDisable {s : State} {c : Fin 16} (hreach : s.reach .bar0 (F.HIF_RING_CTL.en c).off = some s) :
    exec (.ringDisable c) s = .next (s.disableRing c) := by
  show execRingDisable c s = _
  rw [execRingDisable, hreach]

/-- Settles O28: what enabling, disabling and draining leave of a client. -/
theorem ringsAreEnabledAndDrained : Obligations.RingsAreEnabledAndDrained := by
  unfold Obligations.RingsAreEnabledAndDrained
  refine ⟨?enabled, ?bad, ?again, ?disabled, ?idle, ?drained, ?busy⟩
  case enabled =>
    intro s c hreach hoff hok hlen
    obtain ⟨-, hfitCause, -, -, hfields⟩ := ringFields_apart c
    have hoffs := (hfields _ (List.mem_cons_self ..)).2.2.2
    have hexec : exec (.ringEnable c) s = .next ((ringAsked s c).modClient c startedClient).checkEntry := by
      rw [exec_ringEnable hreach, if_neg (by simp [hoff]), enableRing_good hok]
    have hentry := frame_checkEntry ((ringAsked s c).modClient c startedClient)
    refine ⟨_, hexec, ?_, ?_, ?_, fun i hi => ?_⟩
    · rw [on_of hentry _ (by simpa using hoffs.1)]
      exact (on_of (frame_modClient _ _ _) _ rfl).trans (ringAsked_on s c)
    · rw [hentry.rf_eq (by simpa using hoffs.2), (frame_modClient _ _ _).rf_eq rfl]
      exact rf_wr_same _ _ _ hfitCause
    · rw [client_congr (hentry.eq_of .hif rfl), client_modClient_same _ _ (by rw [ringAsked_hif]; exact hlen), client_congr (ringAsked_hif s c)]
      rfl
    · rw [client_congr (hentry.eq_of .hif rfl), client_modClient_ne _ _ (fun h => hi h.symm), client_congr (ringAsked_hif s c)]
  case bad =>
    intro s c hreach hoff hok
    rw [exec_ringEnable hreach, if_neg (by simp [hoff]), enableRing_bad hok]
    rfl
  case again =>
    intro s c hreach hon
    rw [exec_ringEnable hreach, if_pos hon]
  case disabled =>
    intro s c hreach hrun
    have hexec : exec (.ringDisable c) s = .next ((s.put (F.HIF_RING_CTL.en c) false).closeClient c) := by
      rw [exec_ringDisable hreach, State.disableRing]
      exact nx (if_pos hrun)
    have hclient := closeClient_client (s := s.put (F.HIF_RING_CTL.en c) false) (n := c) (client_length hrun)
    exact ⟨_, hexec, by rw [hclient]; rfl, by rw [hclient]; rfl, by rw [hclient]; rfl⟩
  case idle =>
    intro s c hreach hrun
    rw [exec_ringDisable hreach, State.disableRing]
    exact nx (if_neg (by rw [client_congr (put_hif s _ _), hrun]; decide))
  case drained =>
    intro s c hrun hnone
    exact nx (if_pos ⟨by rw [hrun]; decide, hnone⟩)
  case busy =>
    intro s c hbusy
    refine nx (if_neg fun h => ?_)
    rcases hbusy with hrun | hsome
    · rw [hrun] at h
      exact absurd h.1 (by decide)
    · exact hsome h.2

/-! ### Fetching and writing -/

theorem client_waiting_length {s : State} {c : Nat} {e : Entry} {r : List Entry} (h : (s.client c).waiting = e :: r) :
    c < s.hif.clients.length := by
  refine Nat.lt_of_not_le fun hn => ?_
  rw [State.client, List.getD_eq_getElem?_getD, List.getElem?_eq_none hn] at h
  exact absurd h (by simp [ClientSt.reset])

/-- One descriptor that is no chain, and that the quotas have room for, leaves the ring. -/
theorem fetched_one {s : State} {n : Nat} {d : Desc} (hchain : d.chain = false) (hbad : (s.client n).badChain = false)
    (hquota : (s.client n).inFlight + 1 ≤ s.effQuota n) (htotal : s.totalInFlight + 1 ≤ 128) :
    s.fetched n [d] = (s.takeDescs n [d] false).modClient n (fun x => { x with badChain := false }) := by
  have hfind : [d].findIdx? (fun d => !d.chain) = some 0 := by simp [List.findIdx?_cons, hchain]
  have hdoom : ((s.client n).badChain || decide (s.effQuota n < 0 + 1)) = false := by
    rw [hbad, Bool.false_or, decide_eq_false_iff_not]
    omega
  rw [State.fetched]
  dsimp -proj only
  rw [hfind]
  dsimp -proj only
  rw [hdoom, if_neg (by simp only [Nat.zero_add]; omega)]
  rfl

theorem fireVector_clients (s : State) (v : Nat) : (s.fireVector v).hif.clients = s.hif.clients := by
  unfold State.fireVector
  split
  · split <;> rfl
  · split
    · rw [setBit_hif]
    · rfl

/-- A vector by MSI reaches the host while the bus is open. -/
theorem fireVector_msi {s : State} (v : Nat) (hmsix : s.hif.msix = false) (hmsi : s.hif.msi = true) (hbus : s.busOpen = true) :
    (s.fireVector v).hif.fired = v :: s.hif.fired := by
  rw [State.fireVector, if_neg (by simp [hmsix]), if_pos (by simp [hmsi, hbus])]
  rw [setBit_hif]

theorem fireClient_client {s : State} {n : Nat} (h : n < s.hif.clients.length) :
    (s.fireClient n).client n = { s.client n with armed := false } := by
  rw [State.fireClient, client_modClient_same _ _ (by rw [fireVector_clients]; exact h), client_of_clients (fireVector_clients s n)]

/-- The client an entry has been written for. -/
def wroteEntry (c : ClientSt) (k : Nat) (e : Entry) : ClientSt :=
  { c with
    ring := Cells.set (fun _ => none) c.ring c.cqTail (some (c.phase, e))
    cqTail := (c.cqTail + 1) % k
    phase := if c.cqTail + 1 = k then !c.phase else c.phase
    written := c.written + 1
    waiting := c.waiting.drop 1 }

/-- Writing an entry puts it at the tail of its ring, whether or not the vector fires. -/
theorem writeEntry_client {s : State} {n : Nat} (e : Entry) (h : n < s.hif.clients.length) :
    ((s.writeEntry n e).client n).ring = Cells.set (fun _ => none) (s.client n).ring (s.client n).cqTail (some ((s.client n).phase, e)) ∧
    ((s.writeEntry n e).client n).cqTail = ((s.client n).cqTail + 1) % s.cqSize n := by
  have hwrote : (s.modClient n (fun c => wroteEntry c (s.cqSize n) e)).client n = wroteEntry (s.client n) (s.cqSize n) e :=
    client_modClient_same _ _ h
  have hfired : ((s.modClient n (fun c => wroteEntry c (s.cqSize n) e)).fireClient n).client n =
      { wroteEntry (s.client n) (s.cqSize n) e with armed := false } := by
    rw [fireClient_client (by rw [length_modClient]; exact h), hwrote]
  unfold State.writeEntry
  dsimp -proj only
  split
  · exact ⟨(congrArg ClientSt.ring hfired), (congrArg ClientSt.cqTail hfired)⟩
  · exact ⟨(congrArg ClientSt.ring hwrote), (congrArg ClientSt.cqTail hwrote)⟩

theorem clientsSame_ring {s t : State} (h : ClientsSame s t) (c : Nat) :
    (t.client c).ring = (s.client c).ring ∧ (t.client c).cqTail = (s.client c).cqTail := by
  obtain ⟨fl, w, e⟩ := h c
  rw [e]
  exact ⟨rfl, rfl⟩

/-- Settles O29: who is fetched for, what is read, and where an entry goes. -/
theorem descriptorsAndEntriesMove : Obligations.DescriptorsAndEntriesMove := by
  unfold Obligations.DescriptorsAndEntriesMove
  refine ⟨?fetch, ?noFetch, ?read, ?readFailed, ?writeRefused, ?entry, ?slot, ?fire, ?unarmed⟩
  case fetch =>
    intro s c hbus hcore hrestart hturn
    exact ⟨_, nx (if_pos (by simp [hbus, hcore, hrestart, hturn])), rfl⟩
  case noFetch =>
    intro s c hno
    refine nx (if_neg fun h => ?_)
    simp only [Bool.and_eq_true, decide_eq_true_eq] at h
    obtain ⟨⟨⟨hbus, -⟩, -⟩, hturn⟩ := h
    rcases hno with h | h
    · rw [hbus] at h
      exact absurd h (by decide)
    · exact h hturn
  case read =>
    intro s c b hfetching hchain hbad hquota htotal
    obtain ⟨k, hk⟩ := Nat.exists_eq_succ_of_ne_zero hfetching
    refine ⟨_, nx (if_neg hfetching), ?_⟩
    dsimp -proj only
    rw [hk, ← fetched_one hchain hbad hquota htotal, List.take_succ_cons, List.take_nil]
    rfl
  case readFailed =>
    intro s c hfetching
    exact nx (if_neg hfetching)
  case writeRefused =>
    intro s c hrun
    exact nx (if_pos hrun)
  case entry =>
    intro s c e r hwaiting hc hrun hbus hrestart hroom
    have hexec : exec (.completionWrite c) s = .next ((s.writeEntry c e).settle c) := by
      show execCompletionWrite c s = _
      rw [execCompletionWrite, hwaiting]
      dsimp -proj only
      rw [if_neg hc, if_pos (by simp [hrun, hbus, hrestart, hroom])]
    obtain ⟨hring, htail⟩ := writeEntry_client e (client_waiting_length hwaiting)
    obtain ⟨hsameRing, hsameTail⟩ := clientsSame_ring (clientsSame_settle (s.writeEntry c e) c) c
    exact ⟨_, hexec, hsameRing.trans hring, hsameTail.trans htail⟩
  case slot =>
    intro s c e r hwaiting hc hslot hrestart hheld
    have hexec : exec (.completionWrite c) s = .next ((s.placeEntry e).settle c) := by
      show execCompletionWrite c s = _
      rw [execCompletionWrite, hwaiting]
      dsimp -proj only
      rw [if_pos hc, if_pos (by simp [hslot, hrestart, hheld])]
    exact ⟨_, hexec, (frame_settle _ _).eq_of .sby rfl⟩
  case fire =>
    intro s c hrun harmed hwritten
    refine ⟨_, nx (if_pos ⟨hrun, harmed, hwritten⟩), rfl, ?_, fun hmsix hmsi hbus => fireVector_msi c.val hmsix hmsi hbus⟩
    rw [fireClient_client (client_length hrun)]
  case unarmed =>
    intro s c harmed
    exact nx (if_neg fun h => by rw [harmed] at h; exact absurd h.2.1 (by decide))

end Sys2Proof.Proofs

/-! ## The link's resets and the standby port

Resets and states of the link (R401 to R411, R565), and what the standby port serves (R405, R406, R418 to R422). -/

namespace Sys2Proof.Proofs

open Sys2Proof.Machine Sys2Proof.Laws

/-! ### Function level reset -/

/-- A client that no ring serves. -/
def Stopped (c : ClientSt) : Prop := c.running = false ∧ c.waiting = [] ∧ c.mask = 0 ∧ c.vote = none

/-- A client as a reset of the function leaves it. -/
def flrClient (c : ClientSt) : ClientSt :=
  { ClientSt.reset with effQuota := c.effQuota, flight := c.flight, enabled := c.enabled && !c.flight.isEmpty }

theorem stopped_flrClient (s : State) (n : Nat) : Stopped ((s.modClient n flrClient).client n) := by
  by_cases hn : n < s.hif.clients.length
  · rw [client_modClient_same _ _ hn]
    exact ⟨rfl, rfl, rfl, rfl⟩
  · have hnone : (s.modClient n flrClient).client n = ClientSt.reset := by
      rw [State.client, List.getD_eq_getElem?_getD, List.getElem?_eq_none (by rw [length_modClient]; exact Nat.le_of_not_lt hn)]
      rfl
    rw [hnone]
    exact ⟨rfl, rfl, rfl, rfl⟩

/-- Resetting the clients of a list one after the other stops each of them. -/
theorem foldl_flrClient_stopped (l : List Nat) (s : State) (i : Nat) (h : i ∈ l ∨ Stopped (s.client i)) :
    Stopped ((l.foldl (fun t n => t.modClient n flrClient) s).client i) := by
  induction l generalizing s with
  | nil => exact h.resolve_left (by simp)
  | cons n l ih =>
    rw [List.foldl_cons]
    refine ih _ ?_
    by_cases hn : n = i
    · subst hn
      exact .inr (stopped_flrClient s n)
    · rw [client_modClient_ne _ _ hn]
      exact h.imp (fun hm => (List.mem_cons.1 hm).resolve_left (Ne.symm hn)) id

/-- The state with every host client ended and reset (R407, steps 1 to 7). -/
def flrClients (s : State) : State :=
  (List.range 16).foldl (fun t n => t.modClient n flrClient) ((List.range 16).foldl (fun t n => t.endClient n) s).dropStaging

/-- What a reset of the function leaves of HIF. -/
theorem flr_hif (s : State) : s.flr.hif = { (flrClients s).hif with
    bme := false, pmeStatus := false, msix := false, msi := false, d3hot := false, msixTable := [], pba := 0 } := by
  unfold State.flr
  dsimp -proj only
  rw [(frame_relevel _).eq_of .hif rfl, (frame_bumpGen _ _ _).eq_of .hif rfl, wr_hif]
  rfl

theorem flr_stopped (s : State) {i : Nat} (h : i < 16) : Stopped (s.flr.client i) := by
  have hclient : s.flr.client i = (flrClients s).client i := by rw [State.client, State.client, flr_hif]
  rw [hclient]
  exact foldl_flrClient_stopped _ _ _ (.inl (List.mem_range.2 h))

theorem showLink_hif (s : State) (l : LinkState) (speed : Nat) : (s.showLink l speed).hif = { s.hif with link := l } := rfl

theorem trainLink_hif (s : State) : s.trainLink.hif = { s.hif with linkUp := true, d3cold := false, link := .l0 } := rfl

/-- A link that goes down: the function is reset, and L2 is shown. -/
def linkLost (s : State) : State := s.flr.showLink .l2 0

theorem linkLost_hif (s : State) : (linkLost s).hif = { s.flr.hif with link := .l2 } := showLink_hif _ _ _

theorem linkLost_stopped (s : State) {i : Nat} (h : i < 16) : ((linkLost s).client i).running = false := by
  have hclients : (linkLost s).hif.clients = s.flr.hif.clients := by rw [linkLost_hif]
  rw [client_of_clients hclients]
  exact (flr_stopped s h).1

theorem linkLost_bme (s : State) : (linkLost s).hif.bme = false := by rw [linkLost_hif, flr_hif]

theorem linkLost_link (s : State) : (linkLost s).hif.link = .l2 := by rw [linkLost_hif]

theorem linkLost_pins (s : State) : (linkLost s).pins = s.pins := by
  rw [linkLost, (frame_showLink _ _ _).eq_of .pins rfl, (frame_flr _).eq_of .pins rfl]

/-- The link down after its reset, and the function in D3cold when PERST_N did it. -/
def linkGone (s : State) (cold : Bool) : State := { linkLost s with hif := { (linkLost s).hif with linkUp := false, d3cold := cold } }

theorem linkGone_stopped (s : State) (cold : Bool) {i : Nat} (h : i < 16) : ((linkGone s cold).client i).running = false := by
  have hclients : (linkGone s cold).hif.clients = (linkLost s).hif.clients := by rw [linkGone]
  rw [client_of_clients hclients]
  exact linkLost_stopped s h

theorem linkGone_link (s : State) (cold : Bool) : (linkGone s cold).hif.link = .l2 := by rw [linkGone, linkLost_link]

theorem linkGone_bme (s : State) (cold : Bool) : (linkGone s cold).hif.bme = false := by rw [linkGone, linkLost_bme]

theorem linkGone_pins (s : State) (cold : Bool) : (linkGone s cold).pins = s.pins := by rw [linkGone, linkLost_pins]

/-- The state as PERST_N finds it. -/
def perstLow (s : State) : State := { s with pins := { s.pins with perst := true } }

/-- The state as the release of PERST_N finds it, its wake request taken back. -/
def perstHigh (s : State) : State :=
  State.put { s with pins := { s.pins with perst := false, wakeN := false }, hif := { s.hif with d3cold := false } } F.SBY_HOST_WAKE.req_wake_n false

theorem showLink_lpm (s : State) (l : LinkState) (speed : Nat) : (s.showLink l speed).rf F.HIF_LINK_STATUS.lpm = lpmCode l := by
  rw [State.showLink, rf_wr_apart _ _ _ _ (by decide) (by decide), rf_wr_same _ _ _ (by decide)]
  cases l <;> rfl

/-- Settles O30: what each change of the link leaves of HIF. -/
theorem theLinkChangesState : Obligations.TheLinkChangesState := by
  unfold Obligations.TheLinkChangesState
  refine ⟨?master, ?dstate, ?flr, ?perst, ?down, ?train, ?power⟩
  case master =>
    intro s u b hup hperst hwake
    rw [← hwake]
    exact nx (if_pos (by simp [hup, hperst]))
  case dstate =>
    intro s u b hup hperst hwake
    have hframe : Frame [.regs, .hif] (some [F.HIF_LINK_STATUS.dstate.off]) u
        (({ u with hif := { u.hif with d3hot := b } } : State).wr F.HIF_LINK_STATUS.dstate (if b then 3 else 0)) :=
      Frame.after (frame_wr _ _ _) (by decide) (Frame.set_hif _ rfl (Frame.rfl' u))
    refine ⟨_, nx (if_pos (by simp [hup, hperst])), ?_, ?_, ?_⟩
    · rw [hwake]
      rfl
    · rw [rf_wr_same _ _ _ (by decide)]
      cases b <;> rfl
    · rw [hwake]
      exact hframe.only
  case flr =>
    intro s hheld hup
    have hhif := flr_hif (s.wakeBy 16)
    exact ⟨_, nx (if_neg (by simp [hheld, hup])), by rw [hhif], by rw [hhif], by rw [hhif], by rw [hhif], fun i hi => flr_stopped _ hi⟩
  case perst =>
    intro s hheld
    have hexec : exec .perstNAssert s = .next (linkGone (perstLow s) true) := by
      show execPerstNAssert s = _
      unfold execPerstNAssert linkGone linkLost perstLow
      dsimp -proj only
      rw [if_neg (by rw [hheld]; decide)]
    exact ⟨_, hexec, by rw [linkGone_pins]; rfl, rfl, rfl, linkGone_link _ _, linkGone_bme _ _, fun i hi => linkGone_stopped _ _ hi⟩
  case down =>
    intro s hheld hup
    have hexec : exec .linkDown s = .next (linkGone s (linkLost s).hif.d3cold) := by
      show execLinkDown s = _
      unfold execLinkDown linkGone linkLost
      rw [if_neg (by simp [hheld, hup])]
    exact ⟨_, hexec, rfl, linkGone_link _ _, linkGone_bme _ _, fun i hi => linkGone_stopped _ _ hi⟩
  case train =>
    intro s u hheld hwake hboot
    have hexec : exec .perstNDeassert s = .next (if ((perstHigh s).wakeBy 16).booted 7 then ((perstHigh s).wakeBy 16).trainLink
        else (perstHigh s).wakeBy 16) := by
      show execPerstNDeassert s = _
      unfold execPerstNDeassert
      dsimp -proj only
      rw [if_neg (by rw [hheld]; decide)]
      rfl
    have hu : (perstHigh s).wakeBy 16 = u := hwake
    rw [hu, if_pos hboot] at hexec
    exact ⟨_, hexec, by rw [trainLink_hif], by rw [trainLink_hif], by rw [trainLink_hif]⟩
  case power =>
    intro s l hheld hperst hup
    have hexec : exec (.linkPowerStateChange l) s = .next (s.showLink l (s.rf F.HIF_LINK_STATUS.speed)).checkEntry := by
      show execLinkPowerStateChange l s = _
      unfold execLinkPowerStateChange
      rw [if_neg (by simp [hheld, hperst]), if_pos hup]
    have hentry := frame_checkEntry (s.showLink l (s.rf F.HIF_LINK_STATUS.speed))
    refine ⟨_, hexec, ?_, ?_, ?_⟩
    · rw [hentry.eq_of .hif rfl, showLink_hif]
    · rw [hentry.rf_eq (by decide), showLink_lpm]
    · exact (hentry.after (by decide) ((frame_showLink s l (s.rf F.HIF_LINK_STATUS.speed)).mono (by decide))).only

/-! ### The standby port -/

theorem getD_take (b : List Byte) {n i : Nat} (h : i < (b.take n).length) : (b.take n).getD i 0 = b.getD i 0 := by
  have hn : i < n := Nat.lt_of_lt_of_le h (List.length_take_le n b)
  rw [List.getD_eq_getElem?_getD, List.getD_eq_getElem?_getD, List.getElem?_take_of_lt hn]

/-- What reading the standby buffer finds after bytes were written from offset `o` on. -/
theorem get_setList (m : Cells Byte) (o : Nat) (bs : List Byte) (i : Nat) :
    Cells.get (fun _ => (0 : Byte)) (Cells.setList (fun _ => 0) m o bs) i =
      if o ≤ i ∧ i < o + bs.length then bs.getD (i - o) 0 else Cells.get (fun _ => (0 : Byte)) m i := by
  split
  next h =>
    have hi : i = o + (i - o) := by omega
    have hlt : i - o < bs.length := by omega
    have hget := get_setList_same (fun _ => (0 : Byte)) m o (i - o) bs 0 hlt
    rwa [← hi] at hget
  next h => exact get_setList_ne _ _ _ _ _ (by omega)

theorem wakeHost_cold {s : State} (hen : s.hif.pmeEn = true) (hcold : s.hif.d3cold = true) : (s.wakeHost true).pins.wakeN = true := by
  rw [State.wakeHost, if_neg (by simp [hen]), if_pos hcold]

theorem wakeHost_hot {s : State} (hen : s.hif.pmeEn = true) (hcold : s.hif.d3cold = false) (hhot : s.hif.d3hot = true) :
    (s.wakeHost true).hif.pmeStatus = true := by
  rw [State.wakeHost, if_neg (by simp [hen]), if_neg (by simp [hcold]), if_pos hhot]

/-- Settles O31: what each access of the standby port leaves. -/
theorem theStandbyPortServes : Obligations.TheStandbyPortServes := by
  unfold Obligations.TheStandbyPortServes
  refine ⟨?reject, ?accept, ?slot, ?write, ?read, ?readBusy, ?active, ?test, ?wake⟩
  case reject =>
    intro s b hheld hno
    show execSbMailboxWrite b s = _
    rw [execSbMailboxWrite, if_neg (by simp [hheld]), if_pos hno]
  case accept =>
    intro s u b hheld hfree hlen hwake
    refine ⟨_, ?_, rfl⟩
    show execSbMailboxWrite b s = _
    rw [execSbMailboxWrite, if_neg (by simp [hheld]), if_neg (fun h => h.elim (by simp [hfree]) (by omega))]
    dsimp -proj only
    rw [hwake]
  case slot =>
    intro s k ph e hheld hslot
    show execSbCompletionRead k s = _
    rw [execSbCompletionRead, hslot]
    dsimp -proj only
    rw [if_neg (by simp [hheld])]
  case write =>
    intro s o b hheld
    have hexec : exec (.sbBufferWrite o b) s = .next { s with sby := { s.sby with
        buf := Cells.setList (fun _ => 0) s.sby.buf o.toNat (b.take (256 - o.toNat)) } } := nx (if_neg (by rw [hheld]; decide))
    refine ⟨_, hexec, fun i => ?_, (exFrame (frame_execSbBufferWrite o b s) hexec).only⟩
    refine (get_setList _ _ _ i).trans ?_
    split
    next h => exact getD_take b (by omega)
    next h => rfl
  case read =>
    intro s o n hheld hfree
    show execSbBufferRead o n s = _
    rw [execSbBufferRead]
    dsimp -proj only
    rw [if_neg (by simp [hheld]), if_neg (by simp [hfree])]
  case readBusy =>
    intro s o n hheld hbusy
    have hexec : exec (.sbBufferRead o n) s = .next (State.takeFree { s with sby := { s.sby with
        miso := (List.range (min n (256 - o.toNat))).map (fun i => Config.sbBufByte (s.free + i)) } } (min n (256 - o.toNat))) := by
      show execSbBufferRead o n s = _
      rw [execSbBufferRead]
      dsimp -proj only
      rw [if_neg (by simp [hheld]), if_pos hbusy]
    refine ⟨_, hexec, ?_, (exFrame (frame_execSbBufferRead o n s) hexec).only⟩
    exact (List.length_map _).trans List.length_range
  case active =>
    intro s hheld
    have hexec : exec .sbyHostWakeActive s = .next (s.put F.SBY_HOST_WAKE.active false) := nx (if_neg (by simp [hheld]))
    exact ⟨_, hexec, put_on s _ false (by decide) (by decide), (exFrame (frame_execSbyHostWakeActive s) hexec).only⟩
  case test =>
    intro s hheld
    have hexec : exec .sbyHostWakeTest s = .next (s.put F.SBY_HOST_WAKE.active true) := nx (if_neg (by simp [hheld]))
    exact ⟨_, hexec, put_on s _ true (by decide) (by decide), (exFrame (frame_execSbyHostWakeTest s) hexec).only⟩
  case wake =>
    intro s hheld
    have hexec : exec .sbyReqWakeN s = .next ((s.put F.SBY_HOST_WAKE.req_wake_n true).wakeHost (s.on F.HIF_WAKE_CTL.sb_req)) :=
      nx (if_neg (by simp [hheld]))
    refine ⟨_, hexec, ?_, fun hen hreq hcold => ?_, fun hen hreq hcold hhot => ?_, (exFrame (frame_execSbyReqWakeN s) hexec).only⟩
    · rw [on_of (frame_wakeHost _ _) _ rfl]
      exact put_on s _ true (by decide) (by decide)
    · rw [hreq]
      exact wakeHost_cold hen hcold
    · rw [hreq]
      exact wakeHost_hot hen hcold hhot

end Sys2Proof.Proofs

/-! ## Register reads, the lock and the restart, mixer and echo events

Reads (R11, R14, R48, R417, R640, R650), the setup lock, the warm restart and the trace (R576, R584, R586, R624), the mixer's events (R240, R251,
R264, R269, R674) and the echo path's (R291, R293 to R295). -/

namespace Sys2Proof.Proofs

open Sys2Proof.Machine Sys2Proof.Laws

/-! ### Reads -/

/-- A register that is the first half of no pair latches nothing. -/
theorem latchRead_plain {s : State} {o : Nat}
    (h : o ∉ [F.PLT_LPC_CYCLE.cycle.off, F.WAKE_HIST_OLDEST_LO.index_lo.off, F.WAKE_LAST_START_LO.start_lo.off, F.TAG_SERIAL_LO.serial_lo.off]) :
    s.latchRead o = s := by
  simp only [List.mem_cons, List.not_mem_nil, or_false, not_or] at h
  obtain ⟨hcycle, holdest, hstart, hserial⟩ := h
  rw [State.latchRead, if_neg hcycle, if_neg holdest, if_neg hstart, if_neg hserial]

theorem showLed_reg (s : State) (o : Nat) : s.showLed.reg o = s.reg o := by
  rw [State.reg, State.reg, (frame_showLed s).eq_of .regs rfl]

theorem and_not_of_and_eq_zero {a b : Word} (h : a &&& b = 0) : a &&& ~~~b = a := by
  ext i hi
  have hbit : (a &&& b)[i] = (0 : Word)[i] := by rw [h]
  simpa using hbit

/-- What a clearing read of a plain register leaves of the registers. -/
theorem readDone_reg {s : State} {o : Nat} {r : RegRow} (hrow : rowAt o = some r)
    (hplain : o ∉ [F.PLT_LPC_CYCLE.cycle.off, F.WAKE_HIST_OLDEST_LO.index_lo.off, F.WAKE_LAST_START_LO.start_lo.off, F.TAG_SERIAL_LO.serial_lo.off]) :
    (s.readDone o true).reg o = s.reg o &&& ~~~(r.acc s.isB .rc) ∧ ∀ q, q ≠ o → (s.readDone o true).reg q = s.reg q := by
  have hcleared : (s.setReg o (s.reg o &&& ~~~(r.acc s.isB .rc))).reg o = s.reg o &&& ~~~(r.acc s.isB .rc) ∧
      ∀ q, q ≠ o → (s.setReg o (s.reg o &&& ~~~(r.acc s.isB .rc))).reg q = s.reg q :=
    ⟨reg_setReg_same _ _ _, fun q hq => reg_setReg_ne _ _ hq⟩
  unfold State.readDone
  dsimp -proj only
  rw [latchRead_plain hplain, hrow]
  dsimp -proj only
  split
  next hno =>
    have hzero : s.reg o &&& r.acc s.isB .rc = 0 := by simpa using hno
    exact ⟨(and_not_of_and_eq_zero hzero).symm, fun _ _ => rfl⟩
  next =>
    split
    · exact ⟨by rw [showLed_reg, hcleared.1], fun q hq => by rw [showLed_reg, hcleared.2 q hq]⟩
    · exact hcleared

theorem latchCommand_open {s : State} {o : Nat} (hheld : s.pins.resetHeld = false) (hdomain : s.domainOn (domainOf o) = true) (hstate : s.pwr.state ≠ 5) :
    s.latchCommand o = s.latchRead o := by
  rw [State.latchCommand, if_neg (by simp [hheld, hdomain, hstate])]

theorem barRead_reached {s : State} {o : Nat} {r : RegRow} (hrow : rowAt o = some r) (hreach : s.reach .bar0 o = some s) :
    s.barRead o = s.readDone o true := by
  rw [State.barRead, if_neg (by rw [hrow]; simp), hreach]

/-- The bytes SB_MISO shifts out. -/
def misoSet (s : State) (bytes : List Byte) : State := { s with sby := { s.sby with miso := bytes } }

theorem frame_misoSet (s : State) (bytes : List Byte) : Frame [.sby] (some []) s (misoSet s bytes) :=
  Frame.set_sby _ rfl (fun hwf => hwf) (Frame.rfl' s)

/-- What one word read by the standby port leaves: the word on SB_MISO. -/
theorem exec_sbRegisterRead_one {s : State} {a : Half} (hheld : s.pins.resetHeld = false) :
    exec (.sbRegisterRead a 1) s = .next (misoSet (s.sbRead (sbOffset a 0)).1 (toLe 4 (s.sbRead (sbOffset a 0)).2.toNat)) :=
  nx (if_neg (by rw [hheld]; decide))

/-- The upper half of a 64-bit number fits a register. -/
theorem half_lt (d : Dword) : d.toNat / 2 ^ 32 % 2 ^ 32 = d.toNat / 2 ^ 32 := Nat.mod_eq_of_lt (by have := d.isLt; omega)

/-- Settles O33: what a read of each kind leaves of the registers. -/
theorem registersAreRead : Obligations.RegistersAreRead := by
  unfold Obligations.RegistersAreRead
  refine ⟨?clear, ?bad, ?cycle, ?oldest, ?start, ?serial, ?sb, ?sbNone⟩
  case clear =>
    intro s off r hword hrow hreach hplain
    have hexec : exec (.readClearRead off .b4) s = .next (s.readDone off.toNat true) := by
      rw [← barRead_reached hrow hreach]
      exact nx (if_pos hword)
    obtain ⟨hsame, hothers⟩ := readDone_reg (s := s) hrow hplain
    exact ⟨_, hexec, hsame, hothers, (frame_readDone s off.toNat true).parts⟩
  case bad =>
    intro s off hopen hword
    refine (nx (if_neg hword)).trans (nx ?_)
    rw [State.badSize, if_pos hopen]
  case cycle =>
    intro s hheld hdomain hstate
    have hexec : exec .pltLpcCycleRead s = .next ((s.wr F.PLT_LPC_SYM.symbol s.plt.sym).wr F.PLT_LPC_CYCLE_HI.cycle_hi (s.plt.lpc.toNat / 2 ^ 32)) :=
      nx (latchCommand_open hheld hdomain hstate)
    refine ⟨_, hexec, ?_, ?_, ((frame_wr _ _ _).after (by decide) ((frame_wr s _ _).mono (by decide))).only⟩
    · rw [rf_wr_apart _ _ _ _ (by decide) (by decide), rf_wr_same _ _ _ (by decide)]
      rfl
    · rw [rf_wr_same _ _ _ (by decide)]
      exact half_lt _
  case oldest =>
    intro s hheld hdomain hstate
    have hexec : exec .wakeHistOldestLoRead s = .next (s.wr F.WAKE_HIST_OLDEST_HI.index_hi (s.histOldest.toNat / 2 ^ 32)) :=
      nx (latchCommand_open hheld hdomain hstate)
    exact ⟨_, hexec, (rf_wr_same _ _ _ (by decide)).trans (half_lt _), (frame_wr s _ _).only⟩
  case start =>
    intro s hheld hdomain hstate
    have hexec : exec .wakeLastStartLoRead s = .next (s.wr F.WAKE_LAST_START_HI.start_hi (s.wake.lastStart.toNat / 2 ^ 32)) :=
      nx (latchCommand_open hheld hdomain hstate)
    exact ⟨_, hexec, (rf_wr_same _ _ _ (by decide)).trans (half_lt _), (frame_wr s _ _).only⟩
  case serial =>
    intro s hheld hdomain hstate
    have hexec : exec .tagSerialLoRead s = .next (s.wr F.TAG_SERIAL_HI.serial_hi (s.tag.serial.toNat / 2 ^ 32)) :=
      nx (latchCommand_open hheld hdomain hstate)
    exact ⟨_, hexec, (rf_wr_same _ _ _ (by decide)).trans (half_lt _), (frame_wr s _ _).only⟩
  case sb =>
    intro s a hheld hreach
    have hread : s.sbRead (sbOffset a 0) = (s.readDone (sbOffset a 0) true, s.value (sbOffset a 0)) := by rw [State.sbRead, hreach]
    have hexec := exec_sbRegisterRead_one (a := a) hheld
    rw [hread] at hexec
    have hframe := frame_readDone s (sbOffset a 0) true
    refine ⟨_, hexec, ?_, ?_⟩
    · rw [misoSet, hframe.eq_of .sby rfl]
    · exact ((frame_misoSet _ _).after (r' := none) (by decide) (hframe.mono (by decide))).parts
  case sbNone =>
    intro s a hheld hreach
    have hread : s.sbRead (sbOffset a 0) = (s, 0) := by rw [State.sbRead, hreach]
    have hzeros : toLe 4 (0 : Word).toNat = [0, 0, 0, 0] := by decide
    rw [exec_sbRegisterRead_one hheld, hread]
    rw [hzeros, misoSet]

/-! ### The lock, the restart and the trace -/

/-- The state a warm restart starts from: CC's generation and the restart counted, its element running. -/
def warmCounted (s : State) : State := ((s.bumpGen F.CFG_GEN0.cc 0).bump F.CFG_RESET_CAUSE.warm_restarts).freeElem 0

theorem frame_warmCounted (s : State) :
    Frame [.pins, .regs, .dbg] (some [F.GLB_BLOCK_RESET.gen_changed.off, F.CFG_GEN0.cc.off, F.CFG_RESET_CAUSE.warm_restarts.off]) s (warmCounted s) :=
  (frame_freeElem _ _).after (by decide) ((frame_bump _ _).after (by decide) ((frame_bumpGen s _ _).mono (by decide)))

theorem startWarm_calm {s : State} (hheld : s.pins.resetHeld = false) (hcalm : s.cfg.restarting = false) :
    s.startWarm = { (warmCounted s).loseMessages with
      cfg := { (warmCounted s).cfg with restarting := true }, mix := { (warmCounted s).mix with changes := [] } } := by
  rw [State.startWarm, if_neg (by simp [hheld, hcalm])]
  rfl

theorem loseMessages_queues (s : State) : s.loseMessages.link.urgent = [] ∧ s.loseMessages.link.routine = [] := ⟨rfl, rfl⟩

theorem warmCounted_restarts (s : State) :
    (warmCounted s).rf F.CFG_RESET_CAUSE.warm_restarts = min (s.rf F.CFG_RESET_CAUSE.warm_restarts + 1) 255 := by
  rw [warmCounted, (frame_freeElem _ _).rf_eq rfl, bump_rf _ _ (by decide), (frame_bumpGen _ _ _).rf_eq (by decide)]
  rfl

theorem restartTrace_dbg (s : State) : s.restartTrace.dbg = { s.dbg with trace := [], seq := 0, lost := 0, post := none } := rfl

theorem restartTrace_fields (s : State) : s.restartTrace.rf F.DBG_TRACE_STATUS.write_index = 0 ∧ s.restartTrace.on F.DBG_TRACE_STATUS.wrapped = false ∧
    s.restartTrace.on F.DBG_TRACE_STATUS.stopped = false := by
  unfold State.restartTrace
  dsimp -proj only
  refine ⟨?_, ?_, put_on _ _ false (by decide) (by decide)⟩
  · rw [rf_put_apart _ _ _ _ (by decide) (by decide), rf_put_apart _ _ _ _ (by decide) (by decide), rf_wr_same _ _ _ (by decide)]
    rfl
  · rw [State.on, rf_put_apart _ _ _ _ (by decide) (by decide), rf_put_same _ _ _ (by decide) (by decide)]
    rfl

/-- Settles O34: what the lock, a restart's request and the trace's enable leave. -/
theorem lockRestartAndTraceAct : Obligations.LockRestartAndTraceAct := by
  unfold Obligations.LockRestartAndTraceAct
  refine ⟨?lock, ?locked, ?restart, ?restartLocked, ?trace, ?traceLocked⟩
  case lock =>
    intro s p hreach hopen
    have hexec : exec (.setupLock p) s = .next s.setLock := by
      show execSetupLock p s = _
      rw [execSetupLock, hreach]
    have hlock : s.setLock.setupLocked = true := by
      rw [State.setLock, if_neg (by simp [hopen]), State.setupLocked, on_of (frame_cutQuotas _ _ _) _ rfl]
      exact put_on s _ true (by decide) (by decide)
    exact ⟨_, hexec, hlock, (frame_setLock s).only⟩
  case locked =>
    intro s p hreach hlocked
    show execSetupLock p s = _
    rw [execSetupLock, hreach]
    dsimp -proj only
    rw [State.setLock, if_pos hlocked]
  case restart =>
    intro s hheld hcore hopen hcalm
    have hexec : exec .warmRestartRequest s = .next s.startWarm := by
      show execWarmRestartRequest s = _
      rw [execWarmRestartRequest, if_neg (by simp [hheld, hcore]), if_neg (by simp [hopen])]
    have hcounted := frame_warmCounted s
    have hlost := frame_loseMessages (warmCounted s)
    rw [startWarm_calm hheld hcalm] at hexec
    refine ⟨_, hexec, ?_, ?_, (loseMessages_queues _).1, (loseMessages_queues _).2, (hlost.rf_eq rfl).trans (warmCounted_restarts s), ?_⟩
    · rw [hcounted.eq_of .cfg rfl]
    · rw [hcounted.eq_of .mix rfl]
    · exact (Frame.set_mix_cfg _ _ rfl (hlost.after (by decide) (hcounted.mono (by decide)))).only
  case restartLocked =>
    intro s hheld hcore hlocked
    show execWarmRestartRequest s = _
    rw [execWarmRestartRequest, if_neg (by simp [hheld, hcore]), if_pos hlocked]
    rfl
  case trace =>
    intro s p hreach hfree
    have hexec : exec (.traceEnable p) s = .next (s.put F.DBG_TRACE_CTL.en true).restartTrace := by
      show execTraceEnable p s = _
      rw [execTraceEnable, hreach]
      dsimp -proj only
      rw [if_neg (by simp [hfree])]
    have hframe := frame_restartTrace (s.put F.DBG_TRACE_CTL.en true)
    obtain ⟨hindex, hwrapped, hstopped⟩ := restartTrace_fields (s.put F.DBG_TRACE_CTL.en true)
    refine ⟨_, hexec, ?_, restartTrace_dbg _, hindex, hwrapped, hstopped, (hframe.after (by decide) ((frame_put s _ _).mono (by decide))).only⟩
    rw [on_of hframe _ (by decide)]
    exact put_on s _ true (by decide) (by decide)
  case traceLocked =>
    intro s p hreach hbound
    show execTraceEnable p s = _
    rw [execTraceEnable, hreach]
    dsimp -proj only
    rw [if_pos hbound]
    rfl

/-! ### Mixer events -/

/-- Settles O35: each event of the mixer sets the fields it names. -/
theorem mixerEventsAct : Obligations.MixerEventsAct := by
  unfold Obligations.MixerEventsAct
  refine ⟨?hold, ?playback, ?early, ?lock, ?loss, ?fault, ?retry, ?clean, fun s => rfl, fun s => rfl⟩
  case hold =>
    intro s hcore hlower
    have hmin : min (s.rf F.MIX_STATUS.top_prec) s.heldPrec = s.heldPrec := Nat.min_eq_right (Nat.le_of_lt hlower)
    refine ⟨_, nx (if_pos hcore), ?_, (frame_wr s _ _).only⟩
    rw [hmin, rf_wr_same _ _ _ (by decide)]
    exact Nat.mod_eq_of_lt (Nat.lt_trans hlower (rf_lt s F.MIX_STATUS.top_prec))
  case playback =>
    intro s p hplay hidle hcome hcore
    have hexec : exec .catchUpPlaybackStart s =
        .next (State.put { s with mix := { s.mix with playback := some { p with running := true } } } F.MIX_STATUS.cu_active true) := by
      show execCatchUpPlaybackStart s = _
      rw [execCatchUpPlaybackStart, hplay]
      dsimp -proj only
      rw [if_pos ⟨by rw [hidle]; decide, by rw [hcome]; decide, hcore⟩]
    exact ⟨_, hexec, rfl, put_on _ _ true (by decide) (by decide), (exFrame (frame_execCatchUpPlaybackStart s) hexec).only⟩
  case early =>
    intro s p hplay hahead
    show execCatchUpPlaybackStart s = _
    rw [execCatchUpPlaybackStart, hplay]
    dsimp -proj only
    rw [if_neg (fun h => by rw [hahead] at h; exact absurd h.2.1 (by decide))]
  case lock =>
    intro s hcore hen hslave
    exact ⟨_, nx (if_pos (by simp [hcore, hen, hslave])), put_on s _ true (by decide) (by decide), (frame_put s _ _).only⟩
  case loss =>
    intro s
    exact ⟨_, rfl, put_on s _ false (by decide) (by decide), (frame_put s _ _).only⟩
  case fault =>
    intro s hdrives
    have hexec : exec .annunciatorOvercurrent s = .next (State.put { s with mix := { s.mix with spkRetry := some false } } F.MIX_STATUS.spk_fault true) :=
      nx (if_pos hdrives)
    exact ⟨_, hexec, rfl, put_on _ _ true (by decide) (by decide), (exFrame (frame_execAnnunciatorOvercurrent s) hexec).only⟩
  case retry =>
    intro s hretry
    show execAnnunciatorRetry s = _
    rw [execAnnunciatorRetry, hretry]
  case clean =>
    intro s hretry
    have hexec : exec .annunciatorRetry s = .next (State.put { s with mix := { s.mix with spkRetry := none } } F.MIX_STATUS.spk_fault false) := by
      show execAnnunciatorRetry s = _
      rw [execAnnunciatorRetry, hretry]
    exact ⟨_, hexec, rfl, put_on _ _ false (by decide) (by decide), (exFrame (frame_execAnnunciatorRetry s) hexec).only⟩

/-! ### Echo events -/

/-- The fields that show a notch's frequency lie apart from the howl cut and the count of howls. -/
theorem notchFields_apart : ∀ n < 4, ∀ f ∈ [F.ECH_STATUS.howl_cut, F.ECH_ERR.howls], apart (F.ECH_HOWL_FREQ.freq_hz n) f = true := by decide

/-- Showing the notches leaves the howl cut and the count of howls. -/
theorem showNotches_rf (s : State) {f : Field} (hf : f ∈ [F.ECH_STATUS.howl_cut, F.ECH_ERR.howls]) : s.showNotches.rf f = s.rf f := by
  have hfit : fits f = true := by
    rcases List.mem_cons.1 hf with rfl | h
    · decide
    · rw [List.mem_singleton.1 h]
      decide
  have hcount : apart F.ECH_STATUS.notches f = true := by
    rcases List.mem_cons.1 hf with rfl | h
    · decide
    · rw [List.mem_singleton.1 h]
      decide
  have hfold : ∀ (g : State → Nat → Nat) (l : List Nat) (t : State), (∀ n ∈ l, n < 4) →
      (l.foldl (fun t n => t.wr (F.ECH_HOWL_FREQ.freq_hz n) (g t n)) t).rf f = t.rf f := by
    intro g l
    induction l with
    | nil => exact fun _ _ => rfl
    | cons n l ih =>
      intro t hl
      rw [List.foldl_cons, ih _ (fun k hk => hl k (List.mem_cons_of_mem _ hk)),
        rf_wr_apart _ _ _ _ hfit (notchFields_apart n (hl n (List.mem_cons_self ..)) f hf)]
  exact (hfold _ _ _ (fun n hn => List.mem_range.1 hn)).trans (rf_wr_apart _ _ _ _ hfit hcount)

theorem showNotches_ech (s : State) : s.showNotches.ech = s.ech := (frame_showNotches s).eq_of .ech rfl

/-- The howl cut after one step deeper is what it shows. -/
theorem howlCut_wr (s : State) {v : Nat} (h : v ≤ 3) : (s.wr F.ECH_STATUS.howl_cut v).rf F.ECH_STATUS.howl_cut = v := by
  rw [rf_wr_same _ _ _ (by decide)]
  exact Nat.mod_eq_of_lt (Nat.lt_of_le_of_lt h (by decide))

/-- The state with a howl counted and its notch taken and shown. -/
def notchTaken (s : State) (n : Nat) (f : BitVec 13) : State :=
  State.showNotches { s.bump F.ECH_ERR.howls with ech := { (s.bump F.ECH_ERR.howls).ech with
    notches := (s.bump F.ECH_ERR.howls).ech.notches.set n (some { freq := f.toNat, idle := 0 }) } }

/-- The state with a howl counted and the talk gain cut one step deeper. -/
def gainCut (s : State) : State :=
  State.wr { s.bump F.ECH_ERR.howls with ech := { s.ech with howlRun := 0, howlIdle := 0 } } F.ECH_STATUS.howl_cut
    (min 3 (s.rf F.ECH_STATUS.howl_cut + 1))

theorem bump_howls_cut (s : State) : (s.bump F.ECH_ERR.howls).rf F.ECH_STATUS.howl_cut = s.rf F.ECH_STATUS.howl_cut :=
  bump_rf_apart _ _ _ (by decide) (by decide)

theorem notchTaken_cut (s : State) (n : Nat) (f : BitVec 13) : (notchTaken s n f).rf F.ECH_STATUS.howl_cut = s.rf F.ECH_STATUS.howl_cut := by
  rw [notchTaken, showNotches_rf _ (by simp)]
  exact bump_howls_cut s

theorem notchTaken_howls (s : State) (n : Nat) (f : BitVec 13) :
    (notchTaken s n f).rf F.ECH_ERR.howls = min (s.rf F.ECH_ERR.howls + 1) (2 ^ F.ECH_ERR.howls.width - 1) := by
  rw [notchTaken, showNotches_rf _ (by simp)]
  exact bump_rf s _ (by decide)

theorem exec_howlFound_notch {s : State} {f : BitVec 13} {n : Nat} (hen : s.on F.ECH_HOWL_CTL.en = true) (hcore : s.coreOn = true)
    (hrun : s.halted 1 = false) (hfree : s.freeNotch = some n) :
    exec (.howlFound f) s = .next ((notchTaken s n f).raise 20 0 (s.rf F.ECH_STATUS.howl_cut) 0 (f.setWidth 32)) := by
  have hfree' : (s.bump F.ECH_ERR.howls).freeNotch = some n := hfree
  rw [← notchTaken_cut s n f]
  show execHowlFound f s = _
  rw [execHowlFound, if_neg (by simp [hen, hcore, hrun])]
  dsimp -proj only
  rw [hfree']
  rfl

theorem exec_howlFound_cut {s : State} {f : BitVec 13} (hen : s.on F.ECH_HOWL_CTL.en = true) (hcore : s.coreOn = true)
    (hrun : s.halted 1 = false) (hnone : s.freeNotch = none) :
    exec (.howlFound f) s = .next ((gainCut s).raise 20 1 (min 3 (s.rf F.ECH_STATUS.howl_cut + 1)) 0 (f.setWidth 32)) := by
  have hnone' : (s.bump F.ECH_ERR.howls).freeNotch = none := hnone
  rw [gainCut, ← bump_howls_cut s]
  show execHowlFound f s = _
  rw [execHowlFound, if_neg (by simp [hen, hcore, hrun])]
  dsimp -proj only
  rw [hnone']
  rfl

/-- Settles O37: the ends of reconvergence, and what a howl and its end leave. -/
theorem echoEventsAct : Obligations.EchoEventsAct := by
  unfold Obligations.EchoEventsAct
  refine ⟨?converged, ?converging, ?notch, ?cut, ?release, ?keep, ?deeper, ?back⟩
  case converged =>
    intro s hreconv hdone
    exact ⟨_, nx (if_pos ⟨hreconv, hdone⟩), put_on s _ false (by decide) (by decide), (frame_put s _ _).only⟩
  case converging =>
    intro s hgood hage
    exact nx (if_neg (fun h => by omega))
  case notch =>
    intro s f n hen hcore hrun hfree
    have hexec := exec_howlFound_notch (f := f) hen hcore hrun hfree
    have hraise := frame_raise (notchTaken s n f) 20 0 (s.rf F.ECH_STATUS.howl_cut) 0 (f.setWidth 32)
    refine ⟨_, hexec, ?_, ?_, ?_, (exFrame (frame_execHowlFound f s) hexec).parts⟩
    · rw [hraise.eq_of .ech rfl, notchTaken, showNotches_ech]
      rfl
    · rw [hraise.rf_eq (by decide), notchTaken_howls]
    · exact told_from (told_raise _ _ _ _ _ _) ((frame_showNotches _).eq_of .hif rfl) ((frame_showNotches _).eq_of .plt rfl)
  case cut =>
    intro s f hen hcore hrun hnone
    have hraise := frame_raise (gainCut s) 20 1 (min 3 (s.rf F.ECH_STATUS.howl_cut + 1)) 0 (f.setWidth 32)
    refine ⟨_, exec_howlFound_cut hen hcore hrun hnone, ?_, ?_, told_from (told_raise _ _ _ _ _ _) rfl rfl⟩
    · rw [hraise.rf_eq (by decide)]
      exact howlCut_wr _ (Nat.min_le_left _ _)
    · rw [hraise.eq_of .ech rfl]
      rfl
  case release =>
    intro s n x hheld hidle
    have hexec : exec (.notchRelease n) s = .next (State.showNotches { s with ech := { s.ech with notches := s.ech.notches.set n.val none } }) := by
      show execNotchRelease n s = _
      rw [execNotchRelease, hheld]
      dsimp -proj only
      rw [if_pos hidle]
    exact ⟨_, hexec, showNotches_ech _, (exFrame (frame_execNotchRelease n s) hexec).parts⟩
  case keep =>
    intro s n x hheld hidle
    show execNotchRelease n s = _
    rw [execNotchRelease, hheld]
    dsimp -proj only
    rw [if_neg (Nat.not_le.2 hidle)]
  case deeper =>
    intro s hlong hcut
    have hexec : exec .howlGainStep s = .next (State.wr { s with ech := { s.ech with howlRun := 0, howlIdle := 0 } } F.ECH_STATUS.howl_cut
        (min 3 (s.rf F.ECH_STATUS.howl_cut + 1))) := nx (if_pos ⟨hlong, hcut⟩)
    exact ⟨_, hexec, howlCut_wr _ (Nat.min_le_left _ _), (exFrame (frame_execHowlGainStep s) hexec).only⟩
  case back =>
    intro s hshort hquiet hcut
    have hexec : exec .howlGainStep s = .next (State.wr { s with ech := { s.ech with howlIdle := 0 } } F.ECH_STATUS.howl_cut
        (s.rf F.ECH_STATUS.howl_cut - 1)) := (nx (if_neg (fun h => by omega))).trans (nx (if_pos ⟨hquiet, hcut⟩))
    refine ⟨_, hexec, (rf_wr_same _ _ _ (by decide)).trans (Nat.mod_eq_of_lt ?_), (exFrame (frame_execHowlGainStep s) hexec).only⟩
    exact Nat.lt_of_le_of_lt (Nat.sub_le _ _) (rf_lt s F.ECH_STATUS.howl_cut)

end Sys2Proof.Proofs

/-! ## Microphone windows and monitor writes

Stuck wires, probes and wake events (R342 to R351), and the monitor's commands that write (R608 to R611, R621). -/

namespace Sys2Proof.Proofs

open Sys2Proof.Machine Sys2Proof.Laws

/-! ### Windows, probes and wake events -/

/-- Telling of causes leaves the channels a window flagged. -/
theorem setCause_stuck (s : State) (n v : Nat) : (s.setCause n v).rf F.MIC_FAULT_STATUS.stuck = s.rf F.MIC_FAULT_STATUS.stuck := by
  have hcause : ∀ w, (s.wr F.MIC_FAULT_CAUSE.cause w).rf F.MIC_FAULT_STATUS.stuck = s.rf F.MIC_FAULT_STATUS.stuck :=
    fun w => rf_wr_apart _ _ _ _ (by decide) (by decide)
  have hfaulted : ∀ (t : State) (w : Nat), (t.wr F.MIC_FAULT_STATUS.faulted w).rf F.MIC_FAULT_STATUS.stuck = t.rf F.MIC_FAULT_STATUS.stuck :=
    fun t w => rf_wr_apart _ _ _ _ (by decide) (by decide)
  unfold State.setCause State.setBit
  dsimp -proj only
  split
  · split
    · rw [hfaulted, hcause]
    · rw [hcause]
  · rw [hfaulted, hcause]

theorem foldl_setCause_stuck (l : List (Nat × Nat)) (s : State) :
    (l.foldl (fun t x => t.setCause x.1 x.2) s).rf F.MIC_FAULT_STATUS.stuck = s.rf F.MIC_FAULT_STATUS.stuck := by
  induction l generalizing s with
  | nil => rfl
  | cons x l ih => rw [List.foldl_cons, ih, setCause_stuck]

theorem setCauses_stuck (s : State) (xs : List (Nat × Nat)) : (s.setCauses xs).rf F.MIC_FAULT_STATUS.stuck = s.rf F.MIC_FAULT_STATUS.stuck := by
  unfold State.setCauses
  dsimp -proj only
  split
  · rfl
  · rw [(frame_raise _ _ _ _ _ _).rf_eq (by decide), foldl_setCause_stuck]

theorem startProbe_stuck (s : State) (w f : Nat) : (s.startProbe w f).rf F.MIC_FAULT_STATUS.stuck = s.rf F.MIC_FAULT_STATUS.stuck := by
  unfold State.startProbe
  split
  · rfl
  · rw [(frame_bump _ _).rf_eq (by decide)]
    rfl

theorem foldl_startProbe_stuck (f : State → Nat → Bool) (g : Nat) (l : List Nat) (s : State) :
    (l.foldl (fun t w => if f t w then t.startProbe w g else t) s).rf F.MIC_FAULT_STATUS.stuck = s.rf F.MIC_FAULT_STATUS.stuck := by
  induction l generalizing s with
  | nil => rfl
  | cons w l ih =>
    rw [List.foldl_cons, ih]
    split
    · exact startProbe_stuck s w g
    · rfl

/-- The channels a window finds stuck. -/
def windowFlags (s : State) (b : BitVec 8) : Nat := ((List.range 8).filter (fun n => b.getLsbD n && s.chanOn n)).foldl (fun m n => m + 2 ^ n) 0

/-- The state with a window's flags shown and its clean channels counted. -/
def windowShown (s : State) (b : BitVec 8) : State :=
  { s.wr F.MIC_FAULT_STATUS.stuck (windowFlags s b) with
    mic := { (s.wr F.MIC_FAULT_STATUS.stuck (windowFlags s b)).mic with
      clean := (List.range 8).foldl (fun (m : Cells Nat) n => Cells.set (fun _ => 0) m n
        (if bitOf (windowFlags s b) n || !(s.wr F.MIC_FAULT_STATUS.stuck (windowFlags s b)).chanOn n then 0
          else (s.wr F.MIC_FAULT_STATUS.stuck (windowFlags s b)).cleanFor n + 4)) [] } }

theorem windowShown_stuck (s : State) (b : BitVec 8) : (windowShown s b).rf F.MIC_FAULT_STATUS.stuck = windowFlags s b % 256 :=
  rf_wr_same s F.MIC_FAULT_STATUS.stuck (windowFlags s b) (by decide)

theorem exec_stuckWindow_live {s : State} {b : BitVec 8} (hwhole : s.mic.windowBad = false) (hlive : s.micLive = true) :
    exec (.stuckWindow b) s = .next (if (windowShown s b).on F.MIC_PROBE_CTL.en then
        (List.range 4).foldl (fun t w => if (onWire (windowFlags s b) w).any (fun n => !bitOf (t.rf F.MIC_FAULT_STATUS.faulted) n)
          then t.startProbe w (windowFlags s b) else t) (windowShown s b)
      else (windowShown s b).setCauses (((List.range 8).filter (fun n => bitOf (windowFlags s b) n &&
        decide ((windowShown s b).micCause n = 0))).map (fun n => (n, 3)))) := by
  show execStuckWindow b s = _
  rw [execStuckWindow, if_neg (by simp [hwhole, hlive])]
  rfl

/-- The state with wire `w`'s probe decided, before its causes are told. -/
def probeDecided (s : State) (w : Fin 4) (a b : Bool) : State :=
  { s with mic := { s.mic with
      probes := s.mic.probes.filter (fun x => decide (x.1 ≠ w.val))
      driven := (s.mic.driven &&& ~~~(BitVec.ofNat 8 (3 * 4 ^ w.val))) ||| BitVec.ofNat 8 (bit (!a) * 4 ^ w.val + bit (!b) * 2 * 4 ^ w.val) } }

theorem exec_probeDecision {s : State} {w : Fin 4} {a b : Bool} {f : Nat}
    (h : s.mic.probes.find? (fun x => decide (x.1 = w.val) && decide (x.2.1 = 0)) = some (w.val, 0, f)) :
    exec (.probeDecision w a b) s = .next (((probeDecided s w a b).setCauses
      ((probeCauses w.val f a b).filter (fun x => (probeDecided s w a b).chanOn x.1))).recover w) := by
  show execProbeDecision w a b s = _
  rw [execProbeDecision, h]
  rfl

/-- What lets a wake event through to the refractory time. -/
theorem wakeEvent_heard {s : State} {v : Byte} (harmed : s.wakeArmed = true) (hmute : s.muted = false) (hcore : s.coreOn = true)
    (hrun : s.halted 2 = false) (hscore : s.rf F.WAKE_CTL.threshold ≤ v.toNat) (hmode : s.rf F.MIC_STATUS.mode = 1 ∨ s.rf F.MIC_STATUS.mode = 2) :
    (!s.wakeArmed || s.muted || !s.coreOn || s.halted 2 || decide (v.toNat < s.rf F.WAKE_CTL.threshold)
      || !(decide (s.rf F.MIC_STATUS.mode = 1) || decide (s.rf F.MIC_STATUS.mode = 2))) = false := by
  have hlow : decide (v.toNat < s.rf F.WAKE_CTL.threshold) = false := decide_eq_false (Nat.not_lt.2 hscore)
  rw [harmed, hmute, hcore, hrun, hlow]
  rcases hmode with h | h <;> simp [h]

/-- Settles O39: what a window, a probe's decision and retry, and a wake event leave. -/
theorem windowsProbesAndWakeEventsAct : Obligations.WindowsProbesAndWakeEventsAct := by
  unfold Obligations.WindowsProbesAndWakeEventsAct
  refine ⟨?skipped, ?window, ?decided, ?noProbe, ?retry, ?dead, ?held, ?refractory, ?unheard⟩
  case skipped =>
    intro s b hskip
    exact nx (if_pos (by rcases hskip with h | h <;> simp [h]))
  case window =>
    intro s b hwhole hlive
    have hexec := exec_stuckWindow_live (b := b) hwhole hlive
    refine ⟨_, hexec, ?_, (exFrame (frame_execStuckWindow b s) hexec).parts⟩
    refine Eq.trans ?_ (windowShown_stuck s b)
    split
    · exact foldl_startProbe_stuck _ _ _ _
    · exact setCauses_stuck _ _
  case decided =>
    intro s w a b f hfind
    have hexec := exec_probeDecision (a := a) (b := b) hfind
    refine ⟨_, hexec, ?_, (exFrame (frame_execProbeDecision w a b s) hexec).only⟩
    rw [(frame_recover _ _).eq_of .mic rfl, (frame_setCauses _ _).eq_of .mic rfl]
    rfl
  case noProbe =>
    intro s w a b hnone
    show execProbeDecision w a b s = _
    rw [execProbeDecision, hnone]
    rfl
  case retry =>
    intro s u w hlive hrecover hen hwire
    refine ⟨_, ?_, rfl⟩
    show execProbeRetry w s = _
    rw [execProbeRetry, if_neg (by simp [hlive])]
    dsimp -proj only
    rw [hrecover, if_pos ⟨hen, hwire⟩]
  case dead =>
    intro s w hlive
    exact nx (if_pos (by simp [hlive]))
  case held =>
    intro s d v harmed hmute hcore hrun hscore hmode hnone hlast
    show execWakeEvent d v s = _
    rw [execWakeEvent, wakeEvent_heard harmed hmute hcore hrun hscore hmode, if_neg (by decide), hnone, hlast]
    rfl
  case refractory =>
    intro s d v c harmed hmute hcore hrun hscore hmode hlast hearly
    show execWakeEvent d v s = _
    rw [execWakeEvent, wakeEvent_heard harmed hmute hcore hrun hscore hmode, if_neg (by decide), hlast]
    dsimp -proj only
    rw [if_pos (by rw [Bool.or_eq_true]; exact .inr (decide_eq_true hearly))]
  case unheard =>
    intro s d v hno
    exact nx (if_pos (by rcases hno with h | h <;> simp [h]))

/-! ### Numbers in payloads -/

theorem leNat_lt (l : List Byte) : leNat l < 256 ^ l.length := by
  induction l with
  | nil => exact Nat.one_pos
  | cons b l ih =>
    have hb := b.isLt
    rw [leNat, List.length_cons, Nat.pow_succ]
    omega

theorem leAt_lt (l : List Byte) (o n : Nat) : leAt l o n < 256 ^ n :=
  Nat.lt_of_lt_of_le (leNat_lt _) (Nat.pow_le_pow_right (by decide) (List.length_take_le n _))

/-! ### Requests served -/

/-- A request that is heard, and that needs no resident firmware, is answered at once. -/
theorem serve_shell {s u : State} {r : MonReq} (cmd : Nat) {o : MonOut} (h : Heard s r u) (hres : isResident cmd = false) (hreset : cmd ≠ 0x60)
    (ho : u.monOp cmd r = o) (hnow : o.later = false) : s.serve cmd r = o.state.sendReply r cmd o.status o.payload := by
  rw [State.serve, if_neg (by simp [h.hears]), if_neg (by simp [h.free, h.room])]
  dsimp -proj only
  rw [h.opened, hres, if_neg (by simp), if_neg (c := false = true) (by simp), ho, if_neg (by simp [hnow]), if_neg (fun hr => hreset hr.1)]

theorem serve_ok {s u t : State} {r : MonReq} {cmd : Nat} {b : List Byte} (h : Heard s r u) (hres : isResident cmd = false) (hreset : cmd ≠ 0x60)
    (ho : u.monOp cmd r = monOk t b) : s.serve cmd r = t.sendReply r cmd .ok b := serve_shell cmd h hres hreset ho rfl

theorem serve_err {s u : State} {r : MonReq} {cmd : Nat} {st : MonStatus} (h : Heard s r u) (hres : isResident cmd = false) (hreset : cmd ≠ 0x60)
    (ho : u.monOp cmd r = monErr u st) : s.serve cmd r = u.sendReply r cmd st [] := serve_shell cmd h hres hreset ho rfl

/-- In S0 a resident command wakes nothing. -/
theorem wakeResident_run {u : State} (h : u.pwr.state = 0) : u.wakeResident = u := by
  simp [State.wakeResident, h]

theorem serve_resident {s u t : State} {r : MonReq} {cmd : Nat} {b : List Byte} (h : HeardByResident s r u) (hres : isResident cmd = true)
    (hreset : cmd ≠ 0x60) (ho : u.monOp cmd r = monOk t b) : s.serve cmd r = t.sendReply r cmd .ok b := by
  obtain ⟨hheard, hrun, hup⟩ := h
  rw [State.serve, if_neg (by simp [hheard.hears]), if_neg (by simp [hheard.free, hheard.room])]
  dsimp -proj only
  rw [hheard.opened, hres, if_pos rfl, wakeResident_run hrun, hup, if_neg (by decide), ho, if_neg (by simp [monOk]), if_neg (fun hr => hreset hr.1)]
  rfl

/-- One register is in a domain that is on, as a command of one word asks it. -/
theorem wordOffsets_one (o : Nat) : wordOffsets o 1 = [o] := rfl

theorem monRegWrite_form {u : State} {r : MonReq} (hlen : r.payload.length = 6) (hword : leAt r.payload 0 2 % 4 = 0)
    (hon : u.allOn [leAt r.payload 0 2] = true) :
    u.monRegWrite r = if !u.cfg.groups.isEmpty && [leAt r.payload 0 2].any (fun k => decide (u.stageable k ≠ 0)) then monErr u .refused
      else monOk (u.writeWord .mon (leAt r.payload 0 2) (BitVec.ofNat 32 (leAt r.payload 2 4))) [] := by
  have hlt := leAt_lt r.payload 0 2
  rw [State.monRegWrite, hlen]
  rw [if_neg (by omega), wordOffsets_one, if_neg (by simp [hon])]
  rfl

/-- Each erased byte takes what is programmed. -/
theorem programmed_erased {flash : Cells Byte} {free a : Nat} {b : List Byte} (h : ∀ i, i < b.length → Cells.get erasedByte flash (a + i) = 0xFF) :
    b.mapIdx (fun i x => programmed (free + i) (Cells.get erasedByte flash (a + i)) x) = b := by
  refine List.ext_getElem (List.length_mapIdx) (fun i h1 h2 => ?_)
  rw [List.getElem_mapIdx, programmed, h i h2, if_pos rfl]

/-- Settles O41: what each command that writes leaves, and its reply. -/
theorem monitorWritesTakeEffect : Obligations.MonitorWritesTakeEffect := by
  unfold Obligations.MonitorWritesTakeEffect
  refine ⟨?reg, ?regRefused, ?elem, ?mem, ?memRefused, ?stim, ?erase, ?program, ?noResident, ?busy⟩
  case reg =>
    intro s u r h hlen hword hon hgroups
    refine nx (serve_ok h rfl (by decide) ?_)
    refine (monRegWrite_form hlen hword hon).trans (if_neg ?_)
    simp [hgroups]
  case regRefused =>
    intro s u r h hlen hword hon hgroups hstage
    refine nx (serve_err h rfl (by decide) ?_)
    refine (monRegWrite_form hlen hword hon).trans (if_pos ?_)
    simpa [hgroups] using hstage
  case elem =>
    intro s u r h hlen helem hreg hon hhalt
    refine nx (serve_ok h rfl (by decide) ?_)
    show u.monElemWrite r = _
    rw [State.monElemWrite, if_neg (by simp [payloadIs, hlen]; omega), if_neg (by simp [hon]), if_neg (by simp [hhalt])]
  case mem =>
    intro s u r h hlen hbank howner
    refine nx (serve_ok h rfl (by decide) ?_)
    show u.monMemWrite r = _
    rw [State.monMemWrite, if_neg (by omega), List.length_drop, hbank]
    dsimp -proj only
    rw [if_neg (by omega)]
  case memRefused =>
    intro s u r h hlen hbank howner
    refine nx (serve_err h rfl (by decide) ?_)
    show u.monMemWrite r = _
    rw [State.monMemWrite, if_neg (by omega), List.length_drop, hbank]
    dsimp -proj only
    rw [if_pos howner]
  case stim =>
    intro s u r h hlen hlow hhigh hzero
    refine nx (serve_ok h rfl (by decide) ?_)
    show u.monStim r = _
    rw [State.monStim, if_neg (by simp [payloadIs, hlen, hzero]; omega)]
  case erase =>
    intro s u r h hlen hsector hsome hmax hsize
    refine nx (serve_resident h rfl (by decide) ?_)
    show u.monFlashErase r = _
    rw [State.monFlashErase, if_neg (by simp [payloadIs, hlen, hsector]; omega), if_neg (by omega)]
  case program =>
    intro s u r h hlen hmax hpage hsize herased
    have hdrop : (r.payload.drop 4).length = r.payload.length - 4 := List.length_drop
    have hsome : (r.payload.drop 4).isEmpty = false := by
      rw [← Bool.not_eq_true, List.isEmpty_iff_length_eq_zero]
      omega
    refine ⟨_, nx (serve_resident h rfl (by decide) ?_), rfl⟩
    show u.monFlashWrite r = _
    rw [State.monFlashWrite, hsome, hdrop, if_neg (by simp; omega), if_neg (by omega), programmed_erased (by rw [hdrop]; exact herased)]
  case noResident =>
    intro s r u h hrun hdown
    refine nx ?_
    rw [State.serve, if_neg (by simp [h.hears]), if_neg (by simp [h.free, h.room])]
    dsimp -proj only
    rw [h.opened, if_pos (show isResident 0x50 = true from rfl), wakeResident_run hrun, hdown, if_pos (by decide)]
  case busy =>
    intro s r hhears hbusy
    refine nx ?_
    rw [State.serve, if_neg (by simp [hhears]), if_pos (by simp [hbusy])]

end Sys2Proof.Proofs

/-! ## Halts and full resets

Elements that halt, step and resume (R613 to R619, R626, R631), and what a full reset restores and keeps (R563, R564, R583 to R585, R643, R675). -/

namespace Sys2Proof.Proofs

open Sys2Proof.Machine Sys2Proof.Laws

/-! ### One element halts -/

theorem elem_congr {s t : State} (h : t.dbg = s.dbg) (e : Nat) : t.elem e = s.elem e := by rw [State.elem, State.elem, h]

theorem halted_of_elem {s t : State} {e : Nat} (h : t.elem e = s.elem e) : t.halted e = s.halted e := by rw [State.halted, State.halted, h]

/-- An element that runs stops with its cause, its words as its firmware left them; one that has stopped keeps all it has. -/
theorem haltOne_elems (s : State) (c e : Nat) :
    (s.haltOne c e).dbg.elems = if s.halted e then s.dbg.elems else s.dbg.elems.set e (frozen s.free c) := by
  unfold State.haltOne
  split
  · rfl
  · have hstir : ∀ (l : List Nat) (t : State), (l.foldl (fun t b => t.stirBank b) t).dbg = t.dbg := by
      intro l
      induction l with
      | nil => exact fun _ => rfl
      | cons b l ih => exact fun t => by rw [List.foldl_cons, ih, (frame_stirBank t b).eq_of .dbg rfl]
    dsimp -proj only
    rw [(frame_onHalt _ _).eq_of .dbg rfl, (frame_bump _ _).eq_of .dbg rfl, hstir]
    rfl

theorem haltOne_halted {s : State} {c e : Nat} (h : s.halted e = true) : s.haltOne c e = s := by rw [State.haltOne, if_pos h]

theorem haltOne_elem_ne (s : State) (c : Nat) {e k : Nat} (h : e ≠ k) : (s.haltOne c e).elem k = s.elem k := by
  rw [State.elem, State.elem, haltOne_elems]
  split
  · rfl
  · rw [List.getD_eq_getElem?_getD, List.getD_eq_getElem?_getD, List.getElem?_set_ne h]

theorem haltOne_length (s : State) (c e : Nat) : (s.haltOne c e).dbg.elems.length = s.dbg.elems.length := by
  rw [haltOne_elems]
  split
  · rfl
  · exact List.length_set

theorem haltOne_halts {s : State} {c e : Nat} (hlen : e < s.dbg.elems.length) (hc : c ≠ 0) : (s.haltOne c e).halted e = true := by
  cases hhalt : s.halted e with
  | true => rw [haltOne_halted hhalt, hhalt]
  | false =>
    have helem : (s.haltOne c e).elem e = frozen s.free c := by
      rw [State.elem, haltOne_elems, hhalt, if_neg (by decide)]
      simp [hlen]
    rw [State.halted, helem]
    exact decide_eq_true hc

/-! ### Elements of a mask halt -/

/-- What halting a list of elements leaves of one that has stopped. -/
theorem foldl_haltOne_keeps (c : Nat) (l : List Nat) (s : State) {k : Nat} (h : s.halted k = true) :
    (l.foldl (fun t e => t.haltOne c e) s).elem k = s.elem k := by
  induction l generalizing s with
  | nil => rfl
  | cons e l ih =>
    rw [List.foldl_cons]
    by_cases he : e = k
    · subst he
      rw [haltOne_halted h, ih s h]
    · have hsame := haltOne_elem_ne s c he
      rw [ih _ ((halted_of_elem hsame).trans h), hsame]

theorem foldl_haltOne_length (c : Nat) (l : List Nat) (s : State) :
    (l.foldl (fun t e => t.haltOne c e) s).dbg.elems.length = s.dbg.elems.length := by
  induction l generalizing s with
  | nil => rfl
  | cons e l ih => rw [List.foldl_cons, ih, haltOne_length]

/-- Each element of a list stops. -/
theorem foldl_haltOne_halts {c : Nat} (hc : c ≠ 0) (l : List Nat) (s : State) {k : Nat} (hk : k ∈ l) (hlen : k < s.dbg.elems.length) :
    (l.foldl (fun t e => t.haltOne c e) s).halted k = true := by
  induction l generalizing s with
  | nil => exact absurd hk (by simp)
  | cons e l ih =>
    rw [List.foldl_cons]
    by_cases he : e = k
    · subst he
      have hhalt := haltOne_halts (s := s) hlen hc
      exact (halted_of_elem (foldl_haltOne_keeps c l _ hhalt)).trans hhalt
    · exact ih _ ((List.mem_cons.1 hk).resolve_left (Ne.symm he)) (by rw [haltOne_length]; exact hlen)

/-- The running elements of a mask. -/
def runningIn (s : State) (mask : Nat) : List Nat := (elemsIn mask).filter (fun e => !s.halted e)

/-- The elements that a halt of `mask` with cause `c` stops by the cross-trigger. -/
def crossedBy (s : State) (mask c : Nat) : List Nat :=
  if (runningIn s mask).any (fun e => bitOf (s.rf F.DBG_HALT_CTL.mask) e) ∧ c ≠ 5 then
    (elemsIn (s.rf F.DBG_HALT_CTL.mask)).filter (fun e => !s.halted e && !(runningIn s mask).contains e) else []

/-- The state with the elements of a mask stopped, then those the cross-trigger joins to them. -/
def maskHalted (s : State) (mask c : Nat) : State :=
  (crossedBy s mask c).foldl (fun t e => t.haltOne 2 e) ((runningIn s mask).foldl (fun t e => t.haltOne c e) s)

/-- A trace packet changes the trace of the debug block, and no element. -/
theorem store_elems (s : State) (kind port : Nat) (data : Word) : (s.store kind port data).dbg.elems = s.dbg.elems := by
  unfold State.store
  dsimp -proj only
  split
  · rfl
  · simp only [apply_ite State.dbg, put_dbg, wr_dbg, ite_self]

theorem traceAny_elem (s : State) (kind port : Nat) (data : Word) (e : Nat) : (s.traceAny kind port data).elem e = s.elem e := by
  rw [State.elem, State.elem, State.traceAny]
  split
  · rw [store_elems]
  · rfl

theorem haltElems_elem (s : State) (mask c e : Nat) :
    (s.haltElems mask c).elem e = if (runningIn s mask).isEmpty then s.elem e else (maskHalted s mask c).elem e := by
  have hdef : s.haltElems mask c = if (runningIn s mask).isEmpty then s else ((maskHalted s mask c).traceAny 1
      (maskOf (runningIn s mask ++ crossedBy s mask c)) (BitVec.ofNat 32 (maskHalted s mask c).causes)).showGpio := rfl
  rw [hdef]
  split
  · rfl
  · rw [elem_congr ((frame_showGpio _).eq_of .dbg rfl), traceAny_elem]

theorem mem_runningIn {s : State} {mask e : Nat} (he : e < 4) (hbit : bitOf mask e = true) (hrun : s.halted e = false) : e ∈ runningIn s mask := by
  simp [runningIn, elemsIn, he, hbit, hrun]

/-- An element that has stopped keeps its words and its cause. -/
theorem haltElems_keeps {s : State} (mask c : Nat) {e : Nat} (h : s.halted e = true) : (s.haltElems mask c).elem e = s.elem e := by
  rw [haltElems_elem]
  split
  · rfl
  · have hnamed := foldl_haltOne_keeps c (runningIn s mask) s h
    rw [maskHalted, foldl_haltOne_keeps _ _ _ ((halted_of_elem hnamed).trans h), hnamed]

theorem haltElems_halted_of {s : State} {mask c k : Nat} (hsome : (runningIn s mask).isEmpty = false) (h : (maskHalted s mask c).halted k = true) :
    (s.haltElems mask c).halted k = true := by
  refine (halted_of_elem ?_).trans h
  rw [haltElems_elem, hsome, if_neg (by decide)]

theorem runningIn_nonempty {s : State} {mask e : Nat} (h : e ∈ runningIn s mask) : (runningIn s mask).isEmpty = false := by
  rw [← Bool.not_eq_true, List.isEmpty_iff]
  exact List.ne_nil_of_mem h

/-- Every element of the mask stops. -/
theorem haltElems_named {s : State} {mask c e : Nat} (hlen : s.dbg.elems.length = 4) (hc : c ≠ 0) (he : e < 4) (hbit : bitOf mask e = true) :
    (s.haltElems mask c).halted e = true := by
  cases hhalt : s.halted e with
  | true => exact (halted_of_elem (haltElems_keeps mask c hhalt)).trans hhalt
  | false =>
    have hmem := mem_runningIn he hbit hhalt
    have hnamed := foldl_haltOne_halts hc _ s hmem (by omega)
    exact haltElems_halted_of (runningIn_nonempty hmem) ((halted_of_elem (foldl_haltOne_keeps 2 _ _ hnamed)).trans hnamed)

/-- With one of its elements the whole cross-trigger mask stops, but for a STEP's end. -/
theorem haltElems_crossed {s : State} {mask c e k : Nat} (hlen : s.dbg.elems.length = 4) (hc : c ≠ 0) (hstep : c ≠ 5) (he : e < 4) (hk : k < 4)
    (hbit : bitOf mask e = true) (hrun : s.halted e = false) (hmask : bitOf (s.rf F.DBG_HALT_CTL.mask) e = true)
    (hcross : bitOf (s.rf F.DBG_HALT_CTL.mask) k = true) : (s.haltElems mask c).halted k = true := by
  have hmem := mem_runningIn he hbit hrun
  cases hhalt : s.halted k with
  | true => exact (halted_of_elem (haltElems_keeps mask c hhalt)).trans hhalt
  | false =>
    refine haltElems_halted_of (runningIn_nonempty hmem) ?_
    by_cases hnamed : k ∈ runningIn s mask
    · have hstopped := foldl_haltOne_halts hc _ s hnamed (by omega)
      exact (halted_of_elem (foldl_haltOne_keeps 2 _ _ hstopped)).trans hstopped
    · refine foldl_haltOne_halts (by decide) _ _ ?_ (by rw [foldl_haltOne_length]; omega)
      rw [crossedBy, if_pos ⟨List.any_eq_true.2 ⟨e, hmem, hmask⟩, hstep⟩]
      simp [elemsIn, hk, hcross, hhalt, hnamed]

/-! ### Elements run again -/

theorem freeElem_runs {s : State} {e : Nat} (hlen : e < s.dbg.elems.length) : (s.freeElem e).halted e = false := by
  have hcause : ((s.freeElem e).elem e).cause = 0 := by
    have helems : (s.freeElem e).dbg.elems = s.dbg.elems.modify e (fun x => { x with cause := 0, steps := 0 }) := by
      rw [State.freeElem, (frame_showGpio _).eq_of .dbg rfl]
    rw [State.elem, helems]
    simp [hlen]
  rw [State.halted, hcause]
  rfl

theorem freeElem_stepping (s : State) (e : Nat) : (s.freeElem e).dbg.stepping = s.dbg.stepping ∧ (s.freeElem e).dbg.reply = s.dbg.reply ∧
    (s.freeElem e).dbg.tx = s.dbg.tx := by
  rw [State.freeElem, (frame_showGpio _).eq_of .dbg rfl]
  exact ⟨rfl, rfl, rfl⟩

theorem openSession_stepping (s : State) (t : Transport) : (s.openSession t).dbg.reply = s.dbg.reply ∧ (s.openSession t).dbg.tx = s.dbg.tx := by
  unfold State.openSession
  split <;> exact ⟨rfl, rfl⟩

/-- The elements of a one-element mask. -/
theorem elemsIn_single : ∀ e : Fin 4, byteAt [BitVec.ofNat 8 (2 ^ e.val)] 0 ≤ 15 ∧ elemsIn (byteAt [BitVec.ofNat 8 (2 ^ e.val)] 0) = [e.val] := by
  decide

theorem monResume_single {u : State} {r : MonReq} {e : Fin 4} (hpay : r.payload = [BitVec.ofNat 8 (2 ^ e.val)]) (hhalt : u.halted e = true) :
    u.monResume r = monOk (((u.resumeOne e).traceAny 2 (2 ^ e.val) 0).settleAll) (((u.resumeOne e).traceAny 2 (2 ^ e.val) 0).settleAll).haltedMask := by
  obtain ⟨hlow, helems⟩ := elemsIn_single e
  have hnamed : [e.val].filter u.halted = [e.val] := by simp [hhalt]
  have hmask : maskOf [e.val] = 2 ^ e.val := Nat.zero_add _
  rw [State.monResume, hpay, if_neg (by simp only [payloadIs, hpay]; simpa using hlow)]
  dsimp -proj only
  rw [helems, hnamed, hmask]
  rfl

/-- The state with element `e` stepping, its STEP to be answered. -/
def stepStarted (u : State) (e n : Nat) (r : MonReq) : State :=
  { u.freeElem e with dbg := { (u.freeElem e).dbg with
      elems := (u.freeElem e).dbg.elems.modify e (fun x => { x with steps := n }), stepping := (u.freeElem e).dbg.stepping ++ [(e, n, r)] } }

/-- What STEP asks for before it looks at the element. -/
theorem monStep_form {u : State} {r : MonReq} {e a b : Byte} (hpay : r.payload = [e, a, b]) (helem : e.toNat < 3)
    (hline : onLine r.via = true → e.toNat ≠ 0) (hcount : a ≠ 0 ∨ b ≠ 0) (hon : u.elemOn e.toNat = true) :
    u.monStep r = if !u.halted e.toNat then monErr u .notHalted else ⟨stepStarted u e.toNat (leAt [a, b] 0 2) r, .ok, [], true⟩ := by
  have hn : leAt [e, a, b] 1 2 ≠ 0 := by
    show a.toNat + 256 * (b.toNat + 256 * 0) ≠ 0
    rcases hcount with h | h
    · have ha : a.toNat ≠ 0 := fun hz => h (BitVec.eq_of_toNat_eq hz)
      omega
    · have hb : b.toNat ≠ 0 := fun hz => h (BitVec.eq_of_toNat_eq hz)
      omega
  have he : byteAt [e, a, b] 0 = e.toNat := rfl
  rw [State.monStep, hpay]
  dsimp -proj only
  rw [he, if_neg (by simp [payloadIs, hpay, hn]; omega), if_neg (fun h => h.elim (by omega) (fun h => hline h.1 h.2)), if_neg (by simp [hon])]
  rfl

/-- STEP is answered at the end of its count. -/
theorem serve_later {s u : State} {r : MonReq} {cmd : Nat} {o : MonOut} (h : Heard s r u) (hres : isResident cmd = false)
    (ho : u.monOp cmd r = o) (hlater : o.later = true) : s.serve cmd r = o.state := by
  rw [State.serve, if_neg (by simp [h.hears]), if_neg (by simp [h.free, h.room])]
  dsimp -proj only
  rw [h.opened, hres, if_neg (by simp), if_neg (c := false = true) (by simp), ho, if_pos hlater]

theorem exec_stepDone_only {s : State} {e : Elem} {n : Nat} {r : MonReq} (h : s.dbg.stepping = [(elemNum e, n, r)]) :
    exec (.stepDone e) s = .next (if s.halted (elemNum e) then
        (State.takeFree { s with dbg := { s.dbg with stepping := [] } } 1).sendReply r 0x22 .ok (toLe 2 (min n (Config.steppedCount s.free)))
      else (State.haltElems { s with dbg := { s.dbg with stepping := [] } } (2 ^ elemNum e) 5).sendReply r 0x22 .ok (toLe 2 n)) := by
  have hfind : s.dbg.stepping.find? (fun x => decide (x.1 = elemNum e)) = some (elemNum e, n, r) := by simp [h]
  have hgone : s.dbg.stepping.filter (fun x => decide (x.1 ≠ elemNum e)) = [] := by simp [h]
  show execStepDone e s = _
  rw [execStepDone, hfind]
  dsimp -proj only
  rw [hgone]
  rfl

/-- Settles O42: which elements a halt stops, what runs again, and when a STEP is answered. -/
theorem elementsHaltStepAndResume : Obligations.ElementsHaltStepAndResume := by
  unfold Obligations.ElementsHaltStepAndResume
  refine ⟨?halt, ?haltRefused, fun s m c e hlen hc he hbit => haltElems_named hlen hc he hbit, fun s m c e h => haltElems_keeps m c h,
    fun s m c e k hlen hc hstep he hk hbit hrun hmask hcross => haltElems_crossed hlen hc hstep he hk hbit hrun hmask hcross, ?resume,
    fun s e hlen he => freeElem_runs (by omega), ?step, ?notHalted, ?counted, ?cut, ?trigger, ?untriggered⟩
  case halt =>
    intro s u r m h hvia hpay hmask hon
    refine nx (serve_ok h rfl (by decide) ?_)
    have hbyte : byteAt [m] 0 = m.toNat := rfl
    show u.monHalt r = _
    rw [State.monHalt, hpay]
    dsimp -proj only
    rw [hbyte, if_neg (by simp [payloadIs, hpay]; omega), if_neg (by simp [hvia]), if_neg (by simp [hon])]
  case haltRefused =>
    intro s u r m h hvia hpay hmask hbits
    refine nx (serve_err h rfl (by decide) ?_)
    have hbyte : byteAt [m] 0 = m.toNat := rfl
    have hreach : ((u.haltReach m.toNat).contains 0 || (u.haltReach m.toNat).contains 3) = true := by
      rcases hbits with hbit | hbit <;> simp [State.haltReach, hbit]
    show u.monHalt r = _
    rw [State.monHalt, hpay]
    dsimp -proj only
    rw [hbyte, if_neg (by simp [payloadIs, hpay]; omega), hvia, hreach, if_pos (by decide)]
  case resume =>
    intro s u r e h hpay hhalt
    exact nx (serve_ok h rfl (by decide) (monResume_single hpay hhalt))
  case step =>
    intro s u r e a b h hpay helem hline hcount hon hhalt
    have hform := (monStep_form hpay helem hline hcount hon).trans (if_neg (by simp [hhalt]))
    obtain ⟨hstepping, hreply, htx⟩ := freeElem_stepping u e.toNat
    obtain ⟨hreply', htx'⟩ := openSession_stepping s r.via
    rw [h.opened] at hreply' htx'
    refine ⟨_, nx (serve_later h rfl hform rfl), ?_, hreply.trans hreply', htx.trans htx'⟩
    exact congrArg (· ++ [(e.toNat, leAt [a, b] 0 2, r)]) hstepping
  case notHalted =>
    intro s u r e a b h hpay helem hline hcount hon hhalt
    exact nx (serve_err h rfl (by decide) ((monStep_form hpay helem hline hcount hon).trans (if_pos (by simp [hhalt]))))
  case counted =>
    intro s e n r h hrun
    rw [exec_stepDone_only h, if_neg (by simp [hrun])]
  case cut =>
    intro s e n r h hhalt
    rw [exec_stepDone_only h, if_pos hhalt]
  case trigger =>
    intro s g hen hpin hfirst hsecond hheld
    exact nx (if_pos ⟨hen, hpin, by simp [hfirst], by simp [hsecond], by simp [hheld]⟩)
  case untriggered =>
    intro s g hoff
    exact nx (if_neg (fun h => by simp [hoff] at h))

/-! ### Full resets -/

/-- What a store reads with only the cells kept that `p` selects. -/
theorem get_filter (d : Nat → Word) (m : Cells Word) (p : Nat → Bool) (k : Nat) :
    Cells.get d (m.filter (fun c => p c.1)) k = if p k then Cells.get d m k else d k := by
  induction m with
  | nil => simp [Cells.get]
  | cons c m ih =>
    rw [List.filter_cons]
    by_cases hk : c.1 = k
    · subst hk
      cases hp : p c.1 with
      | true => simp [Cells.get]
      | false => simpa [hp] using ih
    · split
      · rw [Cells.get, if_neg hk, ih, Cells.get, if_neg hk]
      · rw [ih, Cells.get, if_neg hk]

/-- The block at its reset values, but for what a full reset keeps (Table 14-7). -/
def resetKept (s : State) (powerOn held : Bool) : State :=
  { State.reset with
    dev := s.dev
    mem := s.mem
    pins := { s.pins with resetHeld := held, wakeN := false, gpioHigh := 0, muteLed := true, callLed := 7, callLedSince := 0 }
    regs := s.regs.filter (fun c => keptInReset powerOn c.1)
    p57 := s.p57
    cart := s.cart
    hif := { Hif.reset s.dev.variant with d3cold := s.pins.perst }
    free := s.free
    pending := s.pending }

/-- The block at its reset values with every bank's contents lost. -/
def resetLost (s : State) (powerOn held : Bool) : State := (List.range 12).foldl (fun t b => t.loseBank b) (resetKept s powerOn held)

theorem fullResetBy_eq (s : State) (f : Field) (powerOn held : Bool) :
    s.fullResetBy f powerOn held = State.put { resetLost s powerOn held with pwr := Pwr.reset } f true := rfl

theorem foldl_loseBank_flash (l : List Nat) (s : State) : (l.foldl (fun t b => t.loseBank b) s).mem.flash = s.mem.flash := by
  induction l generalizing s with
  | nil => rfl
  | cons b l ih =>
    rw [List.foldl_cons, ih]
    rfl

theorem frame_resetLost (s : State) (powerOn held : Bool) :
    Frame [.mem, .pwr, .free] (some []) (resetKept s powerOn held) (resetLost s powerOn held) :=
  Frame.foldl (Frame.rfl' _) (fun _ _ h => Frame.after (frame_loseBank _ _) (by decide) h)

theorem resetLost_reg (s : State) (powerOn held : Bool) (o : Nat) :
    (resetLost s powerOn held).reg o = if keptInReset powerOn o then s.reg o else regReset o := by
  rw [State.reg, (frame_resetLost s powerOn held).eq_of .regs rfl]
  exact get_filter regReset s.regs (keptInReset powerOn) o

/-- The P57, the cartridge and the part stay. -/
theorem resetLost_kept (s : State) (powerOn held : Bool) : (resetLost s powerOn held).p57 = s.p57 ∧ (resetLost s powerOn held).cart = s.cart ∧
    (resetLost s powerOn held).dev = s.dev := by
  have hframe := frame_resetLost s powerOn held
  refine ⟨(hframe.eq_of .p57 rfl).trans ?_, (hframe.eq_of .cart rfl).trans ?_, (hframe.eq_of .dev rfl).trans ?_⟩ <;> rw [resetKept]

theorem resetLost_flash (s : State) (powerOn held : Bool) : (resetLost s powerOn held).mem.flash = s.mem.flash := by
  rw [resetLost, foldl_loseBank_flash, resetKept]

theorem fullResetBy_reg (s : State) {f : Field} (powerOn held : Bool) {o : Nat} (ho : o ≠ f.off) :
    (s.fullResetBy f powerOn held).reg o = if keptInReset powerOn o then s.reg o else regReset o := by
  rw [fullResetBy_eq, ← resetLost_reg s powerOn held]
  generalize resetLost s powerOn held = u
  exact reg_wr_ne { u with pwr := Pwr.reset } _ ho

theorem fullResetBy_pwr (s : State) (f : Field) (powerOn held : Bool) : (s.fullResetBy f powerOn held).pwr = Pwr.reset := by
  rw [fullResetBy_eq, put_pwr]

theorem fullResetBy_pins (s : State) (f : Field) (powerOn held : Bool) : (s.fullResetBy f powerOn held).pins.resetHeld = held := by
  have hpins : (resetLost s powerOn held).pins = (resetKept s powerOn held).pins := (frame_resetLost s powerOn held).eq_of .pins rfl
  rw [fullResetBy_eq, put_pins]
  exact congrArg Pins.resetHeld hpins

theorem fullResetBy_cfg (s : State) (f : Field) (powerOn held : Bool) : (s.fullResetBy f powerOn held).cfg = Cfg.reset := by
  rw [fullResetBy_eq, put_cfg]
  exact (frame_resetLost s powerOn held).eq_of .cfg rfl

/-- What lies outside the L64, the part and its flash stay. -/
theorem fullResetBy_kept (s : State) (f : Field) (powerOn held : Bool) : (s.fullResetBy f powerOn held).mem.flash = s.mem.flash ∧
    (s.fullResetBy f powerOn held).p57 = s.p57 ∧ (s.fullResetBy f powerOn held).cart = s.cart ∧ (s.fullResetBy f powerOn held).dev = s.dev := by
  rw [fullResetBy_eq, put_mem, put_p57, put_cart, put_dev]
  exact ⟨resetLost_flash s powerOn held, resetLost_kept s powerOn held⟩

/-- A register that no full reset keeps is at its reset value. -/
theorem keptInReset_apart (powerOn : Bool) {o : Nat} (hrtc : o ≠ F.PWR_RTC.seconds.off) (halarm : o ≠ F.PWR_RTC_ALARM.seconds.off) :
    keptInReset powerOn o = false := by
  simp [keptInReset, hrtc, halarm]

theorem fullResetBy_reset (s : State) {f : Field} (powerOn held : Bool) {o : Nat} (ho : o ≠ f.off) (hrtc : o ≠ F.PWR_RTC.seconds.off)
    (halarm : o ≠ F.PWR_RTC_ALARM.seconds.off) : (s.fullResetBy f powerOn held).reg o = regReset o := by
  rw [fullResetBy_reg s powerOn held ho, keptInReset_apart powerOn hrtc halarm, if_neg (by decide)]

theorem fullResetBy_cause (s : State) {f : Field} (powerOn held : Bool) (hfit : fits f = true) (hwidth : f.width = 1) :
    (s.fullResetBy f powerOn held).on f = true := by
  rw [fullResetBy_eq]
  exact put_on _ f true hfit hwidth

/-- The state a watchdog that expires with no restart behind it leaves. -/
theorem exec_watchdogExpiry_first {s : State} (hheld : s.pins.resetHeld = false) (hrun : s.halted 0 = false) (hcore : s.coreOn = true)
    (hfirst : s.watched = false) : exec .watchdogExpiry s = .next { (s.bump F.CFG_WDT.expiries).startWarm with
      cfg := { (s.bump F.CFG_WDT.expiries).startWarm.cfg with wdtOnce := true } } := by
  show execWatchdogExpiry s = _
  rw [execWatchdogExpiry, if_neg (by simp [hheld, hrun, hcore]), if_neg (by simp [hfirst])]

theorem startWarm_cfg {s : State} (hheld : s.pins.resetHeld = false) (hcalm : s.cfg.restarting = false) :
    s.startWarm.cfg = { s.cfg with restarting := true } := by
  rw [startWarm_calm hheld hcalm, (frame_warmCounted s).eq_of .cfg rfl]

/-- Settles O44: what each way to a full reset restores, keeps and shows. -/
theorem fullResetsRestoreTheBlock : Obligations.FullResetsRestoreTheBlock := by
  unfold Obligations.FullResetsRestoreTheBlock
  refine ⟨?full, ?power, fun s => rfl, ?overrun, ?calm, ?first, ?again, ?halted⟩
  case full =>
    intro s p
    have hoff : (if p then F.CFG_RESET_CAUSE.power_on else F.CFG_RESET_CAUSE.reset_pin).off = F.CFG_RESET_CAUSE.power_on.off := by cases p <;> rfl
    have hrtc : F.PWR_RTC.seconds.off ≠ (if p then F.CFG_RESET_CAUSE.power_on else F.CFG_RESET_CAUSE.reset_pin).off := by rw [hoff]; decide
    obtain ⟨hflash, hp57, hcart, hdev⟩ := fullResetBy_kept s (if p then F.CFG_RESET_CAUSE.power_on else F.CFG_RESET_CAUSE.reset_pin) p true
    refine ⟨_, rfl, fullResetBy_pins s _ p true, fullResetBy_cause s p true (by cases p <;> decide) (by cases p <;> rfl), fullResetBy_pwr s _ p true,
      fun o ho hr ha => fullResetBy_reset s p true (by rw [hoff]; exact ho) hr ha, ?_, hflash, hp57, hcart, hdev⟩
    rw [fullResetBy_reg s p true hrtc]
    cases p <;> rfl
  case power =>
    intro s
    obtain ⟨hflash, hp57, hcart, hdev⟩ := fullResetBy_kept s F.CFG_RESET_CAUSE.power_on true true
    refine ⟨_, rfl, fullResetBy_pins s _ true true, fullResetBy_cause s true true (by decide) rfl, fullResetBy_pwr s _ true true,
      fun o ho => ?_, hflash, hdev⟩
    rw [fullResetBy_reg s true true ho]
    rfl
  case overrun =>
    intro s hrestart
    have hcfg := fullResetBy_cfg s F.CFG_RESET_CAUSE.warm_overrun false false
    exact ⟨_, nx (if_pos hrestart), fullResetBy_pins s _ false false, fullResetBy_cause s false false (by decide) rfl, by rw [hcfg]; rfl,
      by rw [hcfg]; rfl, fun o ho hr ha => fullResetBy_reset s false false ho hr ha⟩
  case calm =>
    intro s hcalm
    exact nx (if_neg (by simp [hcalm]))
  case first =>
    intro s hheld hrun hcore hfirst hcalm
    refine ⟨_, exec_watchdogExpiry_first hheld hrun hcore hfirst, ?_, ?_⟩
    · show { (s.bump F.CFG_WDT.expiries).startWarm.cfg with wdtOnce := true } = _
      rw [startWarm_cfg (s := s.bump F.CFG_WDT.expiries) hheld hcalm, bump_cfg]
    · refine Eq.trans ?_ (bump_rf s F.CFG_WDT.expiries (by decide))
      exact (frame_startWarm (s.bump F.CFG_WDT.expiries)).rf_eq (by decide)
  case again =>
    intro s hheld hrun hcore hagain
    have hcfg := fullResetBy_cfg s F.CFG_RESET_CAUSE.watchdog false false
    refine ⟨_, ?_, fullResetBy_cause s false false (by decide) rfl, by rw [hcfg]; rfl, fullResetBy_pwr s _ false false⟩
    show execWatchdogExpiry s = _
    rw [execWatchdogExpiry, if_neg (by simp [hheld, hrun, hcore]), if_pos hagain]
  case halted =>
    intro s hhalt
    exact nx (if_pos (by simp [hhalt]))

end Sys2Proof.Proofs

/-! ## Cycles

What passes with a cycle boundary (R22). Settling a client arms and frees compare units and leaves the rest of the line clock alone. -/

namespace Sys2Proof.Proofs

open Sys2Proof.Machine Sys2Proof.Laws

/-! ### The line clock without its compare units -/

/-- The line clock but for the compare units and what waits for them. -/
def bareClock (x : Plt) : Plt := { x with units := [], waiting := [] }

theorem clock_of_bareClock {x y : Plt} (h : bareClock x = bareClock y) :
    x.lpc = y.lpc ∧ x.sym = y.sym ∧ x.beaconOk = y.beaconOk ∧ x.silent = y.silent :=
  ⟨(congrArg Plt.lpc h :), (congrArg Plt.sym h :), (congrArg Plt.beaconOk h :), (congrArg Plt.silent h :)⟩

theorem armUnits_bareClock (n : Nat) (s : State) : bareClock (s.armUnits n).plt = bareClock s.plt := by
  induction n generalizing s with
  | zero => rfl
  | succ n ih =>
    unfold State.armUnits
    split
    · rw [ih, setBit_plt]
      rfl
    · rfl

theorem schedule_bareClock (s : State) (c j : Nat) (d : Desc) (buf : List Byte) : bareClock (s.schedule c j d buf).plt = bareClock s.plt := by
  have hphase : (s.setPhase c j (.scheduled d.due buf)).plt = s.plt := (frame_setPhase _ _ _ _).eq_of .plt rfl
  rw [State.schedule, State.addDeadline, armUnits_bareClock, ← hphase]
  rfl

theorem finish_bareClock (s : State) (c j : Nat) (st : Status) (r v : Nat) : bareClock (s.finish c j st r v).plt = bareClock s.plt :=
  congrArg bareClock ((frame_finish _ _ _ _ _ _).eq_of .plt rfl)

theorem settleOne_bareClock {s t : State} {c : Nat} (h : s.settleOne c = some t) : bareClock t.plt = bareClock s.plt := by
  unfold State.settleOne at h
  obtain ⟨j, -, hj⟩ := List.exists_of_findSome?_eq_some h
  split at hj
  · split at hj
    · cases hj
    · split at hj
      · cases hj; exact finish_bareClock ..
      · split at hj
        · cases hj; exact finish_bareClock ..
        · split at hj
          · cases hj; exact schedule_bareClock ..
          · cases hj
  · cases hj

theorem settleN_bareClock (c n : Nat) (s : State) : bareClock (s.settleN c n).plt = bareClock s.plt := by
  induction n generalizing s with
  | zero => rfl
  | succ n ih =>
    unfold State.settleN
    split
    next t h => rw [ih, settleOne_bareClock h]
    · rfl

theorem foldl_settle_bareClock (l : List Nat) (s : State) : bareClock (l.foldl (fun t c => t.settle c) s).plt = bareClock s.plt := by
  induction l generalizing s with
  | nil => rfl
  | cons c l ih => rw [List.foldl_cons, ih, State.settle, settleN_bareClock]

theorem settleAll_bareClock (s : State) : bareClock s.settleAll.plt = bareClock s.plt := foldl_settle_bareClock _ s

/-! ### The boundary -/

theorem shedLoads_plt (s : State) : s.shedLoads.plt = s.plt := by
  unfold State.shedLoads
  split
  · dsimp -proj only
    split <;> rfl
  · rfl

theorem shedLoads_cfg (s : State) : s.shedLoads.cfg = s.cfg := by
  unfold State.shedLoads
  split
  · dsimp -proj only
    split <;> rfl
  · rfl

/-- With nothing written directly and no CONFIG_APPLY pending, the configuration block's symbol 0 leaves the line clock alone. -/
theorem configCycle_plt_of_idle {s : State} (hdirect : s.cfg.direct = []) (happly : s.cfg.apply = none) : s.configCycle.plt = s.plt := by
  have hcalm : s.applyDirect = s := by
    unfold State.applyDirect
    rw [hdirect]
    dsimp only [List.filter_nil, List.foldl_nil]
    rw [← hdirect]
  rw [State.configCycle, hcalm, shedLoads_cfg, happly, shedLoads_plt]

theorem newSettings_plt_of_idle {s : State} (hdirect : s.cfg.direct = []) (happly : s.cfg.apply = none) : s.newSettings.plt = s.plt := by
  have hcfg : s.applyChanges.cfg = s.cfg := (frame_applyChanges s).eq_of .cfg rfl
  have hown : ∀ (t : State) (p : Port), (t.syncOwnRow p).plt = t.plt := fun t p => (frame_syncOwnRow t p).eq_of .plt rfl
  unfold State.newSettings
  split
  · rw [hown, hown, configCycle_plt_of_idle (hcfg ▸ hdirect) (hcfg ▸ happly), (frame_applyChanges s).eq_of .plt rfl]
  · rfl

/-- The state in which the new cycle's own work begins. -/
def cycleBegun (s : State) (o : CycleObs) : State := (s.endOfCycle (s.plt.lpc.setWidth 32) o).advance.quietFollow

theorem cycleBegun_plt (s : State) (o : CycleObs) : (cycleBegun s o).plt =
    { s.plt with lpc := s.plt.lpc + 1, sym := 0, silent := (if s.plt.beaconOk then 0 else s.plt.silent + 1), beaconOk := false, syncOk := false } := by
  have hend : (s.endOfCycle (s.plt.lpc.setWidth 32) o).plt = s.plt := (frame_endOfCycle _ _ _).eq_of .plt rfl
  rw [cycleBegun, (frame_quietFollow _).eq_of .plt rfl, State.advance]
  dsimp -proj only
  rw [hend]

theorem cycleBegun_cfg (s : State) (o : CycleObs) : (cycleBegun s o).cfg = s.cfg := by
  rw [cycleBegun, (frame_quietFollow _).eq_of .cfg rfl, (frame_advance _).eq_of .cfg rfl, (frame_endOfCycle _ _ _).eq_of .cfg rfl]

/-- The state after the settings and the audio of the new cycle. -/
def cycleHeard (s : State) (o : CycleObs) : State := (cycleBegun s o).newSettings.audioCycle s.plt.lpc o

/-- What follows in the cycle that begins. -/
def cycleServed (s : State) (o : CycleObs) : State := (s.endRaises.beginJoin o.joinDraw).proxyUpdate.powerCycle

theorem cycleBoundary_eq (s : State) (o : CycleObs) : s.cycleBoundary o =
    (cycleServed { cycleHeard s o with phy := { (cycleHeard s o).phy with tx := [] } } o).settleAll := by
  unfold State.cycleBoundary cycleServed cycleHeard cycleBegun
  rfl

theorem frame_cycleServed (s : State) (o : CycleObs) : Frame [.regs, .link, .master, .way, .hif, .pwr, .dbg] none s (cycleServed s o) :=
  Frame.after (frame_powerCycle _) (by decide) (Frame.after (frame_proxyUpdate _) (by decide)
    (Frame.after (frame_beginJoin _ _) (by decide) ((frame_endRaises s).mono (by decide))))

/-- The line clock after a boundary, but for its compare units. -/
theorem cycleBoundary_bareClock {s : State} (o : CycleObs) (hdirect : s.cfg.direct = []) (happly : s.cfg.apply = none) :
    bareClock (s.cycleBoundary o).plt = bareClock { s.plt with lpc := s.plt.lpc + 1, sym := 0, silent := (if s.plt.beaconOk then 0 else s.plt.silent + 1), beaconOk := false, syncOk := false } := by
  have hbegun := cycleBegun_cfg s o
  rw [cycleBoundary_eq, settleAll_bareClock, (frame_cycleServed _ _).eq_of .plt rfl]
  dsimp -proj only
  rw [cycleHeard, (frame_audioCycle _ _ _).eq_of .plt rfl, newSettings_plt_of_idle (hbegun ▸ hdirect) (hbegun ▸ happly), cycleBegun_plt]

theorem cycleBoundary_phy (s : State) (o : CycleObs) : (s.cycleBoundary o).phy = { s.phy with tx := [] } := by
  have hheard : (cycleHeard s o).phy = s.phy := by
    rw [cycleHeard, (frame_audioCycle _ _ _).eq_of .phy rfl, (frame_newSettings _).eq_of .phy rfl, cycleBegun, (frame_quietFollow _).eq_of .phy rfl,
      (frame_advance _).eq_of .phy rfl, (frame_endOfCycle _ _ _).eq_of .phy rfl]
  rw [cycleBoundary_eq, (frame_settleAll _).eq_of .phy rfl, (frame_cycleServed _ _).eq_of .phy rfl, hheard]

theorem exec_cycleBoundary {s : State} (o : CycleObs) (hphy : s.phyOn = true) (hheld : s.pins.resetHeld = false) :
    exec (.cycleBoundary o) s = .next (s.cycleBoundary o) :=
  nx (if_pos (by simp [hphy, hheld]))

/-- Settles O46: the boundary runs its cycle with PHY powered, and with PHY off or the reset held nothing. -/
theorem cyclesFollowOneAnother : Obligations.CyclesFollowOneAnother := by
  unfold Obligations.CyclesFollowOneAnother
  refine ⟨?clock, ?line, ?off⟩
  case clock =>
    intro s o hphy hheld hdirect happly
    exact ⟨_, exec_cycleBoundary o hphy hheld, clock_of_bareClock (cycleBoundary_bareClock o hdirect happly)⟩
  case line =>
    intro s o hphy hheld
    exact ⟨_, exec_cycleBoundary o hphy hheld, cycleBoundary_phy s o, (frame_cycleBoundary s o).parts⟩
  case off =>
    intro s o hoff
    refine nx (if_neg ?_)
    rcases hoff with hphy | hheld
    · simp [hphy]
    · simp [hheld]

end Sys2Proof.Proofs

/-! ## A master's tables

The master's periodic work (R112, R128, R129, R162, R168, R183). -/

namespace Sys2Proof.Proofs

open Sys2Proof.Machine Sys2Proof.Laws

/-- A master that does not work takes no snapshot. -/
theorem exec_checkpointSnapshot_idle {s : State} {p : Port} (hidle : s.works p = false) : exec (.checkpointSnapshot p) s = .next s := by
  show execCheckpointSnapshot p s = _
  unfold execCheckpointSnapshot
  dsimp -proj only
  split
  · rfl
  · rw [if_pos (by simp [hidle])]

/-- Settles O51: each of the master's periodic commands, and what it leaves undone when the master does not work or nothing is due. -/
theorem mastersKeepTheirTables : Obligations.MastersKeepTheirTables := by
  unfold Obligations.MastersKeepTheirTables
  refine ⟨?roster, ?time, ?audit, ?idle, ?snapshot, ?lapse, ?held, ?expiry, ?heard⟩
  case roster =>
    intro s p i hworks hsettled hi
    subst hi
    exact nx (if_pos (by simp [hworks, hsettled]))
  case time =>
    intro s p utc o v hworks
    exact nx (if_pos hworks)
  case audit =>
    intro s p hworks
    exact nx (if_pos hworks)
  case idle =>
    intro s p hidle
    exact ⟨nx (if_neg (by simp [hidle])), nx (if_neg (by simp [hidle])), exec_checkpointSnapshot_idle hidle, fun utc o v => nx (if_neg (by simp [hidle]))⟩
  case snapshot =>
    intro s p r n c b hrear hworks hsettled hfirst hn hb hc
    subst hn hc hb
    show execCheckpointSnapshot p s = _
    unfold execCheckpointSnapshot
    dsimp -proj only
    rw [hrear, hfirst]
    exact nx (if_neg (by simp [hworks, hsettled]))
  case lapse =>
    intro s p k l hlease hworks hmissed
    show execLeaseLapse p k s = _
    rw [execLeaseLapse, hlease]
    exact nx (if_pos ⟨hworks, hmissed⟩)
  case held =>
    intro s p k l hlease hmissed
    show execLeaseLapse p k s = _
    rw [execLeaseLapse, hlease]
    exact nx (if_neg (by omega))
  case expiry =>
    intro s p a r hrow hworks hunheard hother
    show execRosterEntryExpiry p a s = _
    rw [execRosterEntryExpiry, hrow]
    exact nx (if_pos ⟨hworks, hunheard, hother⟩)
  case heard =>
    intro s p a r hrow hunheard
    show execRosterEntryExpiry p a s = _
    rw [execRosterEntryExpiry, hrow]
    exact nx (if_neg (by omega))

end Sys2Proof.Proofs

/-! ## Beacons of a master

Committing and sending beacons, backing off, and coming to be master by election (R127, R154 to R158, R161, R193). -/

namespace Sys2Proof.Proofs

open Sys2Proof.Machine Sys2Proof.Laws

/-! ### Sending a beacon -/

theorem on_put_apart (s : State) (f g : Field) (b : Bool) (hg : fits g = true) (h : apart f g = true) : (s.put f b).on g = s.on g := by
  rw [State.on, rf_put_apart s f g b hg h]
  rfl

theorem on_wr_apart (s : State) (f g : Field) (n : Nat) (hg : fits g = true) (h : apart f g = true) : (s.wr f n).on g = s.on g := by
  rw [State.on, rf_wr_apart s f g n hg h]
  rfl

theorem endHoldover_locked (s : State) : s.endHoldover.locked = s.locked := by
  show (((s.put F.PLT_LPC_STATUS.holdover false).put F.PLT_LPC_STATUS.line_down false).wr F.PLT_LPC_STATUS.missed_beacons 0).on F.PLT_LPC_STATUS.locked = _
  rw [on_wr_apart _ _ _ _ (by decide) (by decide), on_put_apart _ _ _ _ (by decide) (by decide), on_put_apart _ _ _ _ (by decide) (by decide)]
  rfl

/-- The sender of a beacon on port A is locked to its own LPC (R93). -/
theorem ownTime_locked (s : State) (b : Beacon) : (s.ownTime .a b).locked = true := by
  unfold State.ownTime
  dsimp -proj only
  generalize (s.modLnk .a (fun l => { l with beacon := some b })).setLineState .a b.lineState = u
  have hheld : ((u.put F.PLT_LPC_STATUS.locked true).put F.PLT_LPC_STATUS.ever_locked true).endHoldover.locked = true := by
    rw [endHoldover_locked, State.locked, on_put_apart _ _ _ _ (by decide) (by decide)]
    exact put_on _ _ _ (by decide) rfl
  generalize ((u.put F.PLT_LPC_STATUS.locked true).put F.PLT_LPC_STATUS.ever_locked true).endHoldover = v at hheld ⊢
  have hhop : ∀ n, (v.wr F.LINE_MASTER_STATUS.hop n).locked = true := fun n => (on_wr_apart v _ _ n (by decide) (by decide)).trans hheld
  have hway : ∀ t : State, (t.wayStep b).locked = t.locked := fun t => on_of (frame_wayStep t b) _ rfl
  rw [hway]
  split
  · exact (on_put_apart _ _ _ _ (by decide) (by decide)).trans (hhop _)
  · exact hhop _

/-- The beacon's sender has noted that it sends `b` (R156, R158). -/
def noteBeacon (s : State) (p : Port) (b : Beacon) : State :=
  let m := s.mst p
  let run := match m.last with | some l => if l.cycle + 1 = b.cycle ∨ 64 ≤ m.sentRun then m.sentRun + 1 else 1 | none => 1
  s.modMst p (fun m => { m with next := none, last := some b, sentRun := run, horn := if b.lineState = 0 then none else m.horn,
                                idle := if b.lineState = 0 ∧ m.horn.isSome then 0 else m.idle })

/-- The state after beacon `b` has left. -/
def beaconLeft (s : State) (p : Port) (b : Beacon) : State := ((noteBeacon s p b).drive (.beacon p (beaconBody b))).ownTime p b

/-- A beacon committed for this cycle is sent, whatever its body symbols show of another sender; with 4 of them off level it has collided. -/
theorem exec_beaconSend_due {s : State} {p : Port} {b : Beacon} (hnext : (s.mst p).next = some b) (hmaster : s.mastering p = true) (hhears : s.hears p = true)
    (hdue : b.cycle = s.lpc) (hfree : (s.mst p).backoff = none) (hunsent : s.sentBeacon p = false) (hlock : p = .b → s.locked = true) (n : Nat) (d : Fin 16) :
    exec (.beaconSend p n d) s = .next (if 4 ≤ n then (beaconLeft s p b).collide p d.val else beaconLeft s p b) := by
  have hgo : ¬ (!s.mastering p || !s.hears p || decide (b.cycle ≠ s.lpc) || (s.mst p).backoff.isSome || s.sentBeacon p
      || (decide (p = .b) && !s.locked && !s.on F.LINE_WAY_STATUS.island)) = true := by
    cases p with
    | a => simp [hmaster, hhears, hdue, hfree, hunsent]
    | b => simp [hmaster, hhears, hdue, hfree, hunsent, hlock rfl]
  show execBeaconSend p n d s = _
  rw [execBeaconSend]
  dsimp -proj only
  rw [hnext]
  exact nx (if_neg hgo)

theorem beaconLeft_tx (s : State) (p : Port) (b : Beacon) : Burst.beacon p (beaconBody b) ∈ (beaconLeft s p b).phy.tx := by
  rw [beaconLeft, (frame_ownTime _ _ _).eq_of .phy rfl, State.drive]
  exact List.mem_append_right _ (List.mem_singleton.mpr rfl)

/-! ### Election -/

/-- The contents of a beacon do not rest on what was committed before. -/
theorem compose_modMst_next (s : State) (b : Option Beacon) (p q : Port) (c : Word) : (s.modMst q (fun m => { m with next := b })).compose p c = s.compose p c := by
  cases p <;> cases q <;> rfl

/-- The master that an election makes, before its first beacon is composed (R156). -/
def elected (s : State) : State :=
  let s := if s.on F.PLT_LPC_STATUS.ever_locked then s else { s with plt := { s.plt with lpc := 0, sym := 0 } }
  let s := (s.loseAll .a 2).modLnk .a (fun l => { l with reRange := none, table := [], roster := [], parts := none })
  let s := { (s.wr F.LINE_MASTER_STATUS.role 1) with master := Master.reset }
  (s.wr (lkF .a F.LINE_LINK_STATUS.line_state) 0).enterSelf .a

theorem elected_mastering (s : State) : (elected s).mastering .a = true := by
  unfold elected
  dsimp -proj only
  generalize (State.loseAll _ .a 2).modLnk .a _ = u
  have hrole : (u.wr F.LINE_MASTER_STATUS.role 1).rf F.LINE_MASTER_STATUS.role = 1 := rf_wr_same u F.LINE_MASTER_STATUS.role 1 (by decide)
  have hstate : ∀ t : State, (t.wr (lkF .a F.LINE_LINK_STATUS.line_state) 0).rf F.LINE_MASTER_STATUS.role = t.rf F.LINE_MASTER_STATUS.role :=
    fun t => rf_wr_apart t _ _ _ (by decide) (by decide)
  rw [State.mastering, (frame_enterSelf _ _).rf_eq rfl, hstate]
  exact decide_eq_true hrole

theorem elected_lpc (s : State) : (elected s).plt.lpc = if s.on F.PLT_LPC_STATUS.ever_locked then s.plt.lpc else 0 := by
  unfold elected
  dsimp -proj only
  rw [(frame_enterSelf _ _).eq_of .plt rfl, wr_plt, wr_plt, modLnk_plt, (frame_loseAll _ _ _).eq_of .plt rfl]
  split <;> rfl

/-- Settles O49: what is committed, sent and withheld, how a backoff ends, and how an election is started and won. -/
theorem mastersSendBeacons : Obligations.MastersSendBeacons := by
  unfold Obligations.MastersSendBeacons
  refine ⟨?ready, ?stalled, ?silent, ?other, ?sent, ?collided, ?none, ?backoff, ?calm, ?start, ?incapable, ?won, ?waiting⟩
  case ready =>
    intro s p hmaster hhears hcarried hcc
    refine (nx (if_neg (by simp [hmaster, hhears]))).trans ((nx (if_neg ?_)).trans (nx (if_pos ?_)))
    · exact fun h => Bool.false_ne_true (hcarried.symm.trans h)
    · exact hcc
  case stalled =>
    intro s p hmaster hhears hcarried
    refine (nx (if_neg (by simp [hmaster, hhears]))).trans ((nx (if_neg ?_)).trans (nx (if_neg ?_)))
    · exact fun h => Bool.false_ne_true (hcarried.symm.trans h)
    · exact Bool.false_ne_true
  case silent =>
    intro s p r hmaster hhears hbare
    exact (nx (if_neg (by simp [hmaster, hhears]))).trans (nx (if_pos hbare))
  case other =>
    intro s p r hother
    exact nx (if_pos (by simp [hother]))
  case sent =>
    intro s p b n d hnext hmaster hhears hdue hfree hunsent hlock hn
    refine ⟨_, (exec_beaconSend_due hnext hmaster hhears hdue hfree hunsent hlock n d).trans (nx (if_neg (by omega))), beaconLeft_tx s p b, ?_⟩
    rintro rfl
    exact ownTime_locked _ _
  case collided =>
    intro s p b n d hnext hmaster hhears hdue hfree hunsent hlock hn
    have hdo := exec_beaconSend_due hnext hmaster hhears hdue hfree hunsent hlock
    exact ⟨_, (hdo 0 d).trans (nx (if_neg (by omega))), (hdo n d).trans (nx (if_pos hn))⟩
  case none =>
    intro s p n d hnext
    show execBeaconSend p n d s = _
    rw [execBeaconSend]
    dsimp -proj only
    rw [hnext]
  case backoff =>
    intro s p hmaster hover
    exact nx (if_pos ⟨hmaster, hover⟩)
  case calm =>
    intro s p hcalm
    exact nx (if_neg (by simp [hcalm]))
  case start =>
    intro s hcap hhears hcc hrole hquiet
    have hexec : exec .electionStart s = .next { (s.wr F.LINE_MASTER_STATUS.role 3) with
        master := { Master.reset with delay := some s.startDelay }, rear := Rearguard.reset } :=
      nx (if_pos ⟨hcap, hhears, hcc, Or.inl hrole, hquiet.imp (fun h => ⟨hrole, h⟩) id⟩)
    exact ⟨_, hexec, rf_wr_same s F.LINE_MASTER_STATUS.role 3 (by decide), rfl, rfl, (exFrame (frame_execElectionStart s) hexec).only⟩
  case incapable =>
    intro s hcap
    exact nx (if_neg (by simp [hcap]))
  case won =>
    intro s hrole hover hcc hhears
    refine ⟨(elected s).modMst .a (fun m => { m with next := some ((elected s).compose .a (elected s).lpc) }), ?_, ?_, ?_, elected_lpc s⟩
    · refine (nx (if_pos ⟨hrole, hover, hcc, hhears⟩)).trans ?_
      unfold elected
      rfl
    · exact elected_mastering s
    · exact congrArg some (compose_modMst_next _ _ _ _ _).symm
  case waiting =>
    intro s hnot
    refine nx (if_neg ?_)
    rintro ⟨hrole, hover, -⟩
    exact hnot.elim (fun h => h hrole) (fun h => h hover)

end Sys2Proof.Proofs

/-! ## Beacons heard

What an accepted, a damaged and a missing beacon do on port A, and what a line without beacons loses (R23, R26, R27, R44, R45, R67, R130, R145). -/

namespace Sys2Proof.Proofs

open Sys2Proof.Machine Sys2Proof.Laws

/-! ### Leases lost -/

/-- Queueing a message leaves the leases held. -/
theorem post_held (s : State) (p : Port) (m : Msg) : (s.post p m).link.held = s.link.held := by
  have hlink : ∀ t : State, (if t.isUrgent p m then t.modLnk p (fun l => { l with urgent := l.urgent ++ [{ m with flags := m.flags ||| flagUrgent }] })
      else t.modLnk p (fun l => { l with routine := l.routine ++ [m] })).link.held = t.link.held := fun t => by cases p <;> split <;> rfl
  unfold State.post
  dsimp -proj only
  rw [hlink]
  split
  · rw [triggerActive_link]
  · rfl

/-- Asking for a lease leaves the leases held. -/
theorem requestLease_held (s : State) (p : Port) (o : LeaseOwner) (standing : Bool) (g f pr k : Nat) :
    (s.requestLease p o standing g f pr k).link.held = s.link.held := by
  have hring : ∀ t : State, (t.modLnk p (fun l => if k = 0 then { l with ring1 := true } else { l with ring12 := true })).link.held = t.link.held :=
    fun t => by cases p <;> rw [State.modLnk] <;> split <;> rfl
  have hnew : ∀ (id : Half) (q : TalkReq), (s.modLnk p (fun l => { l with nextReq := nextReqId id, reqs := l.reqs ++ [q] })).link.held = s.link.held :=
    fun id q => by cases p <;> rfl
  unfold State.requestLease
  dsimp -proj only
  split
  · rw [hring, triggerActive_link, hnew]
  · rw [post_held, hnew]

theorem callAgain_held (s : State) (o : LeaseOwner) : (s.callAgain o).link.held = s.link.held := by
  have hcall : ∀ r, (s.requestForCall r).link.held = s.link.held := by
    intro r
    unfold State.requestForCall
    split
    · exact requestLease_held ..
    · rfl
  unfold State.callAgain
  split
  · split
    · split
      · split
        · rfl
        · exact hcall _
      · rfl
    · rfl
  · rfl

theorem tellLost_link (s : State) (o : LeaseOwner) (slot reason : Nat) : (s.tellLost o slot reason).link = s.link := by
  unfold State.tellLost
  split
  · rfl
  · rfl
  · exact raise_link ..

/-- A lease that is lost is no longer held; the others stay. -/
theorem loseLease_held (s : State) (h : HeldLease) (reason : Nat) :
    (s.loseLease .a h reason).link.held = s.link.held.filter (fun x => decide (x.slot ≠ h.slot)) := by
  rw [State.loseLease, callAgain_held, tellLost_link]
  rfl

theorem foldl_loseLease_held (l : List HeldLease) (reason : Nat) (s : State) : (l.foldl (fun t h => t.loseLease .a h reason) s).link.held =
    s.link.held.filter (fun x => l.all (fun h => decide (x.slot ≠ h.slot))) := by
  induction l generalizing s with
  | nil => exact (List.filter_eq_self.2 fun _ _ => rfl).symm
  | cons h l ih =>
    rw [List.foldl_cons, ih, loseLease_held, List.filter_filter]
    simp [Bool.and_comm]

/-- Losing every lease leaves none. -/
theorem loseAll_held (s : State) (reason : Nat) : (s.loseAll .a reason).link.held = [] := by
  rw [State.loseAll, foldl_loseLease_held, List.filter_eq_nil_iff]
  intro x hx hall
  exact of_decide_eq_true (List.all_eq_true.mp hall x hx) rfl

/-! ### The beacon a follower accepts -/

/-- The placing of an accepted beacon: the node stands in its cycle, at symbol 224, out of holdover. -/
def beaconPlaced (s : State) (x : Beacon) (d : Int) : State :=
  let j := s.place x d
  let s := (s.mismatchStep j d).adoptCycle x j
  let s := ((s.lockStep j).endHoldover).modLnk .a (fun l => { l with beacon := some x })
  { s with plt := { s.plt with sym := 224 } }

/-- What the node does once it is placed. -/
def beaconFollowed (s : State) (x : Beacon) (old : Option Beacon) (wasDown : Bool) (j : Placing) : State :=
  let s := (s.wr F.PLT_CLK_ERR.freq_err (Config.freqErr s.free)).takeFree 1
  let s := (s.wr F.LINE_MASTER_STATUS.hop x.hop).followRole x
  let s := (s.followState x wasDown).checkEpochs x (match old with | some b => b.cycle | none => x.cycle)
  let s := match old with
    | some b => if j.newMaster then s.changeMaster x b j.rebase else s
    | none => s
  let woken := match old with | some b => decide (b.lineState ≠ 0) && decide (x.lineState = 0) | none => false
  let s := if woken then s.modLnk .a (fun l => l.restartCounts s.lpc) else s
  (s.joinCycle x).wayStep x

theorem acceptBeacon_eq (s : State) (x : Beacon) (d : Int) :
    s.acceptBeacon x d = beaconFollowed (beaconPlaced s x d) x s.link.beacon s.lineDown (s.place x d) := rfl

theorem frame_beaconFollowed (s : State) (x : Beacon) (old : Option Beacon) (wasDown : Bool) (j : Placing) :
    Frame [.regs, .link, .master, .rear, .way, .p57, .intake, .hif, .free]
      (some (evRegs ++ [0x2080, 0x2084, 0x20C0, 0x20C4, 0x210C, 0x2110, 0x2118, 0x2130, 0x700C])) s (beaconFollowed s x old wasDown j) := by
  unfold beaconFollowed
  dsimp -proj only
  apply Frame.after (frame_wayStep _ _) (by decide +kernel)
  apply Frame.after (frame_joinCycle _ _) (by decide +kernel)
  have hshown : ∀ c, Frame [.regs, .link, .master, .rear, .way, .p57, .intake, .hif, .free]
      (some (evRegs ++ [0x2080, 0x2084, 0x20C0, 0x20C4, 0x210C, 0x2110, 0x2118, 0x2130, 0x700C])) s
      (((((s.wr F.PLT_CLK_ERR.freq_err (Config.freqErr s.free)).takeFree 1).wr F.LINE_MASTER_STATUS.hop x.hop).followRole x).followState x wasDown |>.checkEpochs x c) :=
    fun c => Frame.after (frame_checkEpochs _ _ _) (by decide +kernel) (Frame.after (frame_followState _ _ _) (by decide +kernel)
      (Frame.after (frame_followRole _ _) (by decide +kernel) (Frame.after (frame_wr _ _ _) (by decide +kernel)
        (Frame.after (frame_takeFree _ _) (by decide +kernel) ((frame_wr _ _ _).mono (by decide +kernel))))))
  have hwoken : ∀ {t : State} (b : Bool), Frame [.regs, .link, .master, .rear, .way, .p57, .intake, .hif, .free]
      (some (evRegs ++ [0x2080, 0x2084, 0x20C0, 0x20C4, 0x210C, 0x2110, 0x2118, 0x2130, 0x700C])) s t →
      Frame [.regs, .link, .master, .rear, .way, .p57, .intake, .hif, .free]
      (some (evRegs ++ [0x2080, 0x2084, 0x20C0, 0x20C4, 0x210C, 0x2110, 0x2118, 0x2130, 0x700C])) s (if b then t.modLnk .a (fun l => l.restartCounts t.lpc) else t) :=
    fun b ht => Frame.ite (Frame.after (frame_modLnk _ _ _) (by decide +kernel) ht) ht
  apply hwoken
  cases old with
  | none => exact hshown _
  | some b => exact Frame.ite (Frame.after (frame_changeMaster _ _ _ _) (by decide +kernel) (hshown _)) (hshown _)

/-- A rebase to cycle `c` makes it the cycle number. -/
theorem rebaseTo_lpc (s : State) (c : Word) : (s.rebaseTo c).lpc = c := by
  unfold State.rebaseTo
  dsimp -proj only
  rw [State.lpc, (frame_historyLost _).eq_of .plt rfl, (frame_moveGroups _).eq_of .plt rfl, (frame_finishEvery _ _ _).eq_of .plt rfl, State.wrapInc, wr_plt]
  exact BitVec.setWidth_append_eq_right

/-- The node stands in the beacon's cycle (R45, R144). -/
theorem adoptCycle_lpc (s : State) (x : Beacon) (j : Placing) : (s.adoptCycle x j).lpc = x.cycle := by
  unfold State.adoptCycle
  split
  · dsimp -proj only
    split
    · rw [State.lpc, (frame_giveUpAddress _ _ _).eq_of .plt rfl]
      exact rebaseTo_lpc s x.cycle
    · exact rebaseTo_lpc s x.cycle
  · show BitVec.setWidth 32 (s.plt.lpc + (x.cycle - BitVec.setWidth 32 s.plt.lpc).setWidth 64) = x.cycle
    rw [BitVec.setWidth_add _ _ (by decide), BitVec.setWidth_setWidth_of_le _ (by decide), BitVec.setWidth_eq, BitVec.add_comm, BitVec.sub_add_cancel]

theorem lockStep_lpc (s : State) (j : Placing) : (s.lockStep j).plt.lpc = s.plt.lpc := by
  have hstart : (if j.rebase then s.put F.PLT_LPC_STATUS.locked false else s).plt = s.plt := by
    split
    · exact put_plt ..
    · rfl
  unfold State.lockStep
  dsimp -proj only
  generalize (if j.rebase then s.put F.PLT_LPC_STATUS.locked false else s) = u at hstart ⊢
  rw [← hstart]
  generalize (if (j.rebase || j.mismatch || !(j.predicted || decide (u.plt.lockRun = 0))) = true then 1 else min 3 (u.plt.lockRun + 1)) = run
  split
  · rfl
  · split
    · rw [put_plt, put_plt]
    · rfl

theorem endHoldover_plt (s : State) : s.endHoldover.plt =
    { s.plt with beaconOk := true, syncOk := true, silent := 0, holdCount := 0, firstBeacon := false, lpcInvalid := false } := by
  unfold State.endHoldover
  dsimp -proj only
  rw [wr_plt, put_plt, put_plt]

theorem endHoldover_rf (s : State) (f : Field) : s.endHoldover.rf f =
    (((s.put F.PLT_LPC_STATUS.holdover false).put F.PLT_LPC_STATUS.line_down false).wr F.PLT_LPC_STATUS.missed_beacons 0).rf f := rfl

/-- Holdover and its marks are over. -/
theorem endHoldover_marks (s : State) : s.endHoldover.on F.PLT_LPC_STATUS.holdover = false ∧ s.endHoldover.on F.PLT_LPC_STATUS.line_down = false ∧
    s.endHoldover.rf F.PLT_LPC_STATUS.missed_beacons = 0 := by
  refine ⟨?_, ?_, (endHoldover_rf s _).trans (rf_wr_same _ F.PLT_LPC_STATUS.missed_beacons 0 (by decide))⟩
  · rw [State.on, endHoldover_rf, rf_wr_apart _ _ _ _ (by decide) (by decide), rf_put_apart _ _ _ _ (by decide) (by decide),
      rf_put_same _ _ _ (by decide) rfl]
    rfl
  · rw [State.on, endHoldover_rf, rf_wr_apart _ _ _ _ (by decide) (by decide), rf_put_same _ _ _ (by decide) rfl]
    rfl

theorem beaconPlaced_plt (s : State) (x : Beacon) (d : Int) : (beaconPlaced s x d).lpc = x.cycle ∧ (beaconPlaced s x d).plt.sym = 224 ∧
    (beaconPlaced s x d).plt.beaconOk = true ∧ (beaconPlaced s x d).plt.silent = 0 ∧ (beaconPlaced s x d).plt.holdCount = 0 := by
  unfold beaconPlaced
  dsimp -proj only
  rw [modLnk_plt, endHoldover_plt]
  refine ⟨?_, rfl, rfl, rfl, rfl⟩
  rw [State.lpc]
  dsimp only
  rw [lockStep_lpc]
  exact adoptCycle_lpc _ x _

theorem beaconPlaced_marks (s : State) (x : Beacon) (d : Int) : (beaconPlaced s x d).on F.PLT_LPC_STATUS.holdover = false ∧
    (beaconPlaced s x d).on F.PLT_LPC_STATUS.line_down = false ∧ (beaconPlaced s x d).rf F.PLT_LPC_STATUS.missed_beacons = 0 := by
  unfold beaconPlaced
  dsimp -proj only
  generalize (State.lockStep _ _) = u
  exact endHoldover_marks u

/-- What an accepted beacon makes of the line clock and its marks. -/
theorem acceptBeacon_clock (s : State) (x : Beacon) (d : Int) : (s.acceptBeacon x d).plt = (beaconPlaced s x d).plt ∧
    (s.acceptBeacon x d).on F.PLT_LPC_STATUS.holdover = false ∧ (s.acceptBeacon x d).on F.PLT_LPC_STATUS.line_down = false ∧
    (s.acceptBeacon x d).rf F.PLT_LPC_STATUS.missed_beacons = 0 := by
  have hframe := frame_beaconFollowed (beaconPlaced s x d) x s.link.beacon s.lineDown (s.place x d)
  obtain ⟨hhold, hdown, hmissed⟩ := beaconPlaced_marks s x d
  rw [acceptBeacon_eq]
  exact ⟨hframe.eq_of .plt rfl, (on_of hframe _ rfl).trans hhold, (on_of hframe _ rfl).trans hdown, (hframe.rf_eq rfl).trans hmissed⟩

/-! ### Judging a beacon on port A -/

/-- The node with a good beacon's sync pattern found. -/
def syncFound (s : State) : State := { s with plt := { s.plt with syncOk := true } }

/-- A follower judges a good beacon: the first of its cycle that falls in the search window is accepted. -/
theorem exec_beaconAccepted_good {s : State} {b : BeaconBurst} (hport : b.port = .a) (hhears : s.hears .a = true) (hgood : beaconGood b = true)
    (hfollow : s.mastering .a = false) (hrole : s.rf F.LINE_MASTER_STATUS.role ≠ 3) : exec (.beaconAccepted b) s =
      .next (if s.plt.beaconOk || (!s.searches && decide (64 < b.displacement.natAbs)) then syncFound s
        else (syncFound s).acceptBeacon (parseBeacon b.body) b.displacement) := by
  have hsync : 60 ≤ b.syncMatches := of_decide_eq_true (Bool.and_eq_true_iff.mp hgood).1
  refine (nx (if_neg (by simp [hport, hhears]))).trans ?_
  rw [hport]
  show nxt (s.beaconOnA b) = _
  unfold State.beaconOnA
  dsimp -proj only
  rw [if_pos hsync, if_neg (by simp [hgood])]
  refine nx ((if_neg (fun h => Bool.false_ne_true (hfollow.symm.trans h))).trans ?_)
  by_cases hpast : (s.plt.beaconOk || (!s.searches && decide (64 < b.displacement.natAbs))) = true
  · exact (if_pos hpast).trans (if_pos hpast).symm
  · refine (if_neg hpast).trans (Eq.trans ?_ (if_neg hpast).symm)
    exact congrArg (fun t => State.acceptBeacon t (parseBeacon b.body) b.displacement) (if_neg (t := (syncFound s).stepDown .a) (e := syncFound s) hrole)

/-! ### Missing beacons -/

/-- The node holds over for one beacon more (R27, R678). -/
def beaconMissed (s : State) : State :=
  let t := (s.put F.PLT_LPC_STATUS.holdover true).bump F.PLT_LPC_STATUS.missed_beacons
  { t with plt := { s.plt with holdCount := s.plt.holdCount + (if s.pwr.state = 3 ∧ s.lineState .a = 0 then 8 else 1)
                               lockRun := if s.locked then s.plt.lockRun else 0 } }

/-- The line is down (R44). -/
def lineFallen (s : State) : State :=
  let s := (s.put F.PLT_LPC_STATUS.line_down true).put F.PLT_LPC_STATUS.locked false
  let s := { s with plt := { s.plt with lockRun := 0 } }
  ((s.raise 10 3 0 0 0).endAllCalls 3).islandStep

/-- Marking the miss leaves what the length of the holdover rests on. -/
theorem beaconMissed_eq (s : State) : (let t := (s.put F.PLT_LPC_STATUS.holdover true).bump F.PLT_LPC_STATUS.missed_beacons
    { t with plt := { t.plt with holdCount := t.plt.holdCount + (if t.pwr.state = 3 ∧ t.lineState .a = 0 then 8 else 1)
                                 lockRun := if t.locked then t.plt.lockRun else 0 } }) = beaconMissed s := by
  have hline : ((s.put F.PLT_LPC_STATUS.holdover true).bump F.PLT_LPC_STATUS.missed_beacons).lineState .a = s.lineState .a := by
    rw [State.lineState, bump_rf_apart _ _ _ (by decide) (by decide), rf_put_apart _ _ _ _ (by decide) (by decide)]
    rfl
  have hlocked : ((s.put F.PLT_LPC_STATUS.holdover true).bump F.PLT_LPC_STATUS.missed_beacons).locked = s.locked := by
    rw [State.locked, State.on, bump_rf_apart _ _ _ (by decide) (by decide), rf_put_apart _ _ _ _ (by decide) (by decide)]
    rfl
  unfold beaconMissed
  dsimp -proj only
  rw [hline, hlocked, bump_plt, put_plt, bump_pwr, put_pwr]

theorem frame_beaconMissed (s : State) : Frame [.regs, .plt] (some [F.PLT_LPC_STATUS.holdover.off]) s (beaconMissed s) :=
  Frame.set_plt _ rfl (Frame.after (frame_bump _ _) (by decide) ((frame_put s _ _).mono (by decide)))

theorem beaconMissed_holdover (s : State) : (beaconMissed s).on F.PLT_LPC_STATUS.holdover = true := by
  show decide ((((s.put F.PLT_LPC_STATUS.holdover true).bump F.PLT_LPC_STATUS.missed_beacons).rf F.PLT_LPC_STATUS.holdover) ≠ 0) = true
  rw [bump_rf_apart _ _ _ (by decide) (by decide), rf_put_same _ _ _ (by decide) rfl]
  rfl

theorem lineFallen_down (s : State) : (lineFallen s).lineDown = true ∧ (lineFallen s).locked = false := by
  unfold lineFallen State.lineDown State.locked
  dsimp -proj only
  generalize hu : State.put _ F.PLT_LPC_STATUS.locked false = u
  have hlocked : u.on F.PLT_LPC_STATUS.locked = false := by
    rw [← hu]
    exact put_on _ _ _ (by decide) rfl
  have hdown : u.on F.PLT_LPC_STATUS.line_down = true := by
    rw [← hu, on_put_apart _ _ _ _ (by decide) (by decide)]
    exact put_on _ _ _ (by decide) rfl
  generalize hv : ({ u with plt := { u.plt with lockRun := 0 } } : State) = v
  have hregs : ∀ f, v.on f = u.on f := fun f => by rw [← hv]; rfl
  have hkept : ∀ f : Field, f.off = 0x7008 → ((v.raise 10 3 0 0 0).endAllCalls 3).islandStep.on f = v.on f := by
    intro f hf
    rw [on_of (frame_islandStep _) f (by rw [hf]; rfl), on_of (frame_endAllCalls _ _) f (by rw [hf]; rfl), on_of (frame_raise _ _ _ _ _ _) f (by rw [hf]; rfl)]
  exact ⟨(hkept _ rfl).trans ((hregs _).trans hdown), (hkept _ rfl).trans ((hregs _).trans hlocked)⟩

theorem lineFallen_plt (s : State) : (lineFallen s).plt = { s.plt with lockRun := 0 } := by
  unfold lineFallen
  dsimp -proj only
  rw [(frame_islandStep _).eq_of .plt rfl, (frame_endAllCalls _ _).eq_of .plt rfl, raise_plt, put_plt, put_plt]

/-- Settles O47: how each beacon on port A is judged and what it sets, what a missing one sets, and what enough of them take away. -/
theorem beaconsPlaceTheNode : Obligations.BeaconsPlaceTheNode := by
  unfold Obligations.BeaconsPlaceTheNode
  refine ⟨?accepted, ?damaged, ?second, ?deaf, ?missed, ?heard, ?standby, ?down, ?held, ?lost, ?recent⟩
  case accepted =>
    intro s b hport hhears hgood hfollow hrole honce hwindow
    obtain ⟨hclock, hhold, hdown, hmissed⟩ := acceptBeacon_clock (syncFound s) (parseBeacon b.body) b.displacement
    obtain ⟨hcycle, hsym, hok, hsilent, hcount⟩ := beaconPlaced_plt (syncFound s) (parseBeacon b.body) b.displacement
    refine ⟨_, (exec_beaconAccepted_good hport hhears hgood hfollow hrole).trans (nx (if_neg ?_)), ?_, ?_, ?_, ?_, ?_, hhold, hdown, hmissed⟩
    · rcases hwindow with hsearch | hnear
      · simp [honce, hsearch]
      · simp [honce, hnear]
    · rw [State.lpc, hclock]
      exact hcycle
    · rw [hclock]
      exact hsym
    · rw [hclock]
      exact hok
    · rw [hclock]
      exact hsilent
    · rw [hclock]
      exact hcount
  case damaged =>
    intro s b hport hhears hbad
    refine (nx (if_neg (by simp [hport, hhears]))).trans ?_
    rw [hport]
    show nxt (s.beaconOnA b) = _
    unfold State.beaconOnA
    dsimp -proj only
    rw [if_pos (by simp [hbad])]
    by_cases hsync : 60 ≤ b.syncMatches
    · rw [if_pos hsync, decide_eq_true hsync, Bool.or_true]
      rfl
    · rw [if_neg hsync, decide_eq_false hsync, Bool.or_false]
  case second =>
    intro s b hport hhears hgood hfollow honce
    have hsync : 60 ≤ b.syncMatches := of_decide_eq_true (Bool.and_eq_true_iff.mp hgood).1
    refine (nx (if_neg (by simp [hport, hhears]))).trans ?_
    rw [hport]
    show nxt (s.beaconOnA b) = _
    unfold State.beaconOnA
    dsimp -proj only
    rw [if_pos hsync, if_neg (by simp [hgood])]
    exact (nx (if_neg (fun h => Bool.false_ne_true (hfollow.symm.trans h)))).trans (nx (if_pos (by simp [honce])))
  case deaf =>
    intro s b hdeaf
    exact nx (if_pos (by simp [hdeaf]))
  case missed =>
    intro s hexpects hnone
    exact ⟨_, (nx (if_neg (by simp [hexpects, hnone]))).trans (nx (beaconMissed_eq s)), beaconMissed_holdover s, rfl, (frame_beaconMissed s).only⟩
  case heard =>
    intro s honce
    exact nx (if_pos (by simp [honce]))
  case standby =>
    intro s hB hrole
    exact nx (if_pos ⟨hB, hrole⟩)
  case down =>
    intro s hfollow hup hhold hlimit hawake
    have hexec : exec (.lineDown .a) s = .next (lineFallen s) := by
      refine (nx (if_pos ⟨rfl, by simp [hfollow], by simp [hup], hhold, hlimit⟩)).trans ?_
      rw [if_neg hawake]
      rfl
    exact ⟨_, hexec, (lineFallen_down s).1, (lineFallen_down s).2, lineFallen_plt s⟩
  case held =>
    intro s hhold
    exact nx (if_neg (by simp [hhold]))
  case lost =>
    intro s hfollow hsilent
    exact ⟨_, nx (if_pos ⟨by simp [hfollow], hsilent⟩), loseAll_held s 2⟩
  case recent =>
    intro s hsilent
    exact nx (if_neg (by omega))

end Sys2Proof.Proofs

/-! ## What a node sends

Bells, its ledger frame, its slots and its join request, each in its turn (R76, R93, R95 to R98, R106, R113, R118, R130, R175). -/

namespace Sys2Proof.Proofs

open Sys2Proof.Machine Sys2Proof.Laws

/-! ### Bells -/

/-- Ringing drives the pairs of its position in their order. -/
theorem ring_phy (p : Port) (a advance : Nat) (ks : List Nat) (s : State) :
    (s.ring p a advance ks).phy = { s.phy with tx := s.phy.tx ++ ks.map (fun k => .bell p a k advance) } := by
  unfold State.ring
  induction ks generalizing s with
  | nil => rw [List.foldl_nil, List.map_nil, List.append_nil]
  | cons k ks ih =>
    rw [List.foldl_cons, ih, List.map_cons]
    simp [State.drive]

/-- The standing request that a follower's pair 1 asks with. -/
def askedFor (l : Link) : Option TalkReq := if l.ring1 || l.ring12 then l.reqs.find? TalkReq.toRing else none

/-- An urgent message stands at the head of the queue (R96). -/
def urgentHead (s : State) (p : Port) : Bool := match (s.lnk p).head with | some m => s.isUrgent p m | none => false

/-- The pairs a follower rings (R95 to R98). -/
def ownPairs (s : State) (p : Port) : List Nat :=
  (if (s.lnk p).busy then [0] else []) ++ (if (askedFor (s.lnk p)).isSome then [1] else [])
    ++ (if urgentHead s p || (match askedFor (s.lnk p) with | some q => decide (q.catchup ≠ 0) | none => false) then [2] else [])

theorem ringOwn_phy (s : State) (p : Port) (a : Nat) : (s.ringOwn p a).phy =
    { s.phy with tx := s.phy.tx ++ (ownPairs s p).map (fun k => .bell p a k (s.rf (lkF p F.LINE_ADDR.rtd))) } := by
  have hrang : ∀ t : State, (t.rangStanding p).phy = t.phy := fun t => (frame_rangStanding t p).eq_of .phy rfl
  rw [← ring_phy]
  show (if (askedFor (s.lnk p)).isSome then State.rangStanding (s.ring p a (s.rf (lkF p F.LINE_ADDR.rtd)) (ownPairs s p)) p
    else s.ring p a (s.rf (lkF p F.LINE_ADDR.rtd)) (ownPairs s p)).phy = _
  split
  · exact hrang _
  · rfl

theorem exec_bellSend_own {s : State} {p : Port} {a : Nat} (hring : s.mayRing p = true) (hother : s.mastering p = false) (haddr : s.addr p = some a)
    (hranged : (s.lnk p).reRange = none) : exec (.bellSend p) s = .next (s.ringOwn p a) := by
  show execBellSend p s = _
  rw [execBellSend, if_neg (by simp [hring]), if_neg (by simp [hother]), haddr]
  exact nx (if_neg (by simp [hranged]))

/-- A pair that is due is rung. -/
theorem bell_mem {s : State} {p : Port} {a k : Nat} (h : k ∈ ownPairs s p) : Burst.bell p a k (s.rf (lkF p F.LINE_ADDR.rtd)) ∈ (s.ringOwn p a).phy.tx := by
  rw [ringOwn_phy]
  exact List.mem_append_right _ (List.mem_map_of_mem h)

theorem ownPairs_busy {s : State} {p : Port} (h : (s.lnk p).busy = true) : 0 ∈ ownPairs s p := by
  simp [ownPairs, h]

theorem askedFor_isSome {l : Link} (hring : (l.ring1 || l.ring12) = true) (hreq : l.reqs.any TalkReq.toRing = true) : (askedFor l).isSome = true := by
  rw [askedFor, if_pos hring, List.find?_isSome]
  exact List.any_eq_true.mp hreq

theorem ownPairs_standing {s : State} {p : Port} (hring : ((s.lnk p).ring1 || (s.lnk p).ring12) = true)
    (hreq : (s.lnk p).reqs.any TalkReq.toRing = true) : 1 ∈ ownPairs s p := by
  simp [ownPairs, askedFor_isSome hring hreq]

theorem ownPairs_urgent {s : State} {p : Port} {m : Msg} (hhead : (s.lnk p).head = some m) (hurgent : s.isUrgent p m = true) : 2 ∈ ownPairs s p := by
  have h : urgentHead s p = true := by rw [urgentHead, hhead]; exact hurgent
  simp [ownPairs, h]

theorem ownPairs_nil {s : State} {p : Port} (hhead : (s.lnk p).head = none) (hidle : (s.lnk p).busy = false)
    (hring : ((s.lnk p).ring1 || (s.lnk p).ring12) = false) : ownPairs s p = [] := by
  have hurgent : urgentHead s p = false := by rw [urgentHead, hhead]
  have hask : askedFor (s.lnk p) = none := by rw [askedFor, if_neg (by simp [hring])]
  simp [ownPairs, hurgent, hask, hidle]

/-! ### Frames -/

theorem length_toBe (n v : Nat) : (toBe n v).length = n := by
  rw [toBe, List.length_reverse, length_toLe]

theorem length_bytesOfBits (n : Nat) (l : List Bool) : (bytesOfBits n l).length = n := by
  induction n generalizing l with
  | zero => rfl
  | succ n ih => rw [bytesOfBits, List.length_cons, ih]

/-- Payload of a RANGE_REPLY (Table 3-5). -/
def rangeReplyPayload (s : State) (reason : Byte) : List Byte :=
  toBe 6 s.dev.uid.toNat ++ [reason, BitVec.ofNat 8 s.pwr.state] ++ toBe 24 0 ++ longTraining

theorem length_rangeReplyPayload (s : State) (reason : Byte) : (rangeReplyPayload s reason).length = 160 := by
  simp [rangeReplyPayload, length_toBe, longTraining, length_bytesOfBits]

theorem driveFrame_tx (s : State) (p : Port) (source destination typ : Byte) (sequence flags : Half) (payload : List Byte) :
    (s.driveFrame p source destination typ sequence flags payload).phy.tx = s.phy.tx ++
      [.ledger p (ledgerHeader source destination typ (BitVec.ofNat 8 payload.length) sequence flags) payload
        (BitVec.ofNat 32 (ledgerCrc s.lpc (ledgerHeader source destination typ (BitVec.ofNat 8 payload.length) sequence flags) payload))] := by
  unfold State.driveFrame
  dsimp -proj only
  rw [stim_phy]
  rfl

/-- The owner of the frame may send in it. -/
theorem frameTurn {s : State} {p : Port} (htx : s.mayTx p = true) (hcc : s.ccLink = true) (hcore : s.coreOn = true) (hline : s.lineState p = 0)
    (hown : s.ownsFrame p = true) : ¬ (!s.mayTx p || !s.ccLink || !s.coreOn || decide (s.lineState p ≠ 0) || !s.ownsFrame p) = true := by
  simp [htx, hcc, hcore, hline, hown]

/-! ### Slots and join requests -/

/-- The slot is driven, and at a master counts as heard. -/
def slotDriven (s : State) (p : Port) (k : Fin 64) (a : Nat) (h : HeldLease) (header : Word) : State :=
  let x := s.slotPlan p h
  let t := (s.drive (.slot p k header (s.slotPayload x) (BitVec.ofNat 16 (slotCrc s.lpc k header (s.slotPayload x))))).takeFree 32
  if t.mastering p then t.modMst p (fun m => match m.lease k with
      | some l => if l.holder = a then m.setLease k (some { l with missed := 0, held := true, heard := true }) else m
      | none => m) else t

theorem slotDriven_tx (s : State) (p : Port) (k : Fin 64) (a : Nat) (h : HeldLease) (header : Word) : (slotDriven s p k a h header).phy.tx = s.phy.tx ++
    [.slot p k.val header (s.slotPayload (s.slotPlan p h)) (BitVec.ofNat 16 (slotCrc s.lpc k.val header (s.slotPayload (s.slotPlan p h))))] := by
  unfold slotDriven
  dsimp -proj only
  split
  · rw [modMst_phy]
    rfl
  · rfl

/-- A slot whose lease has begun is sent. -/
theorem exec_slotSend_due {s : State} {p : Port} {k : Fin 64} {a : Nat} {h : HeldLease} (haddr : s.addr p = some a)
    (hheld : (s.lnk p).held.find? (fun h => decide (h.slot = k.val) && !later h.start s.lpc) = some h) (htx : s.mayTx p = true) (hcore : s.coreOn = true)
    (hline : s.lineState p = 0) (hfirst : s.sendsIn p k.val = false) : exec (.slotSend p k) s =
      .next ((slotDriven s p k a h (slotHeader a h.group (s.slotPlan p h).seq (s.slotPlan p h).format (s.slotPlan p h).raised (s.slotPlan p h).tone
        (s.slotEnds p h) (s.slotPlan p h).muted)).sessionSent h.owner) := by
  show execSlotSend p k s = _
  rw [execSlotSend, haddr, hheld]
  exact nx (if_neg (by simp [htx, hcore, hline, hfirst]))

/-- Settles O53: what is sent in each turn, and that nothing is sent out of it. -/
theorem nodesSendInTheirTurn : Obligations.NodesSendInTheirTurn := by
  unfold Obligations.NodesSendInTheirTurn
  refine ⟨?bell, ?sleepers, ?noBell, ?reranging, ?ranging, ?noRanging, ?reply, ?message, ?nothing, ?notOwner, ?slot, ?noSlot, ?quiet, ?join, ?noJoin⟩
  case bell =>
    intro s p a hring hother haddr hranged
    have hexec := exec_bellSend_own hring hother haddr hranged
    refine ⟨_, hexec, (exFrame (frame_execBellSend p s) hexec).only, fun h => bell_mem (ownPairs_busy h), fun h hr => bell_mem (ownPairs_standing h hr),
      fun m h hu => bell_mem (ownPairs_urgent h hu), fun hhead hidle hnone => ?_⟩
    rw [ringOwn_phy, ownPairs_nil hhead hidle hnone, List.map_nil, List.append_nil]
  case sleepers =>
    intro s p hring hmaster
    exact (nx (if_neg (by simp [hring]))).trans (nx (if_pos hmaster))
  case noBell =>
    intro s p hno
    exact nx (if_pos (by simp [hno]))
  case reranging =>
    intro s p c hother hrange
    show execBellSend p s = _
    rw [execBellSend]
    refine nx (ite_eq_left_iff.mpr fun _ => (if_neg (by simp [hother])).trans ?_)
    split
    · exact if_pos (by simp [hrange])
    · rfl
  case ranging =>
    intro s a haddr htx hcc hcore hother hnow
    have hexec : exec .rangingBellSend s = .next ((s.drive (.ranging (a / 8))).modLnk .a (fun l => { l with reRangeRung := true })) := by
      show execRangingBellSend s = _
      rw [execRangingBellSend, haddr]
      exact nx (if_pos (by simp [htx, hcc, hcore, hother, hnow]))
    exact ⟨_, hexec, rfl, rfl, (Frame.set_link _ rfl ((frame_drive s _).mono (by decide))).only⟩
  case noRanging =>
    intro s hno
    show execRangingBellSend s = _
    rw [execRangingBellSend]
    split
    next a haddr =>
      refine nx (if_neg ?_)
      rcases hno with hnone | hmaster
      · rw [hnone] at haddr; cases haddr
      · simp [hmaster]
    · rfl
  case reply =>
    intro s p a reason haddr htx hcc hcore hline hown hreply
    have hexec : exec (.ledgerFrameSend p) s = .next (s.sendRangeReply p a reason) := by
      show execLedgerFrameSend p s = _
      rw [execLedgerFrameSend, haddr]
      refine (nx (if_neg (frameTurn htx hcc hcore hline hown))).trans ?_
      rw [hreply]
    refine ⟨_, _, _, _, hexec, ?_, rfl, rfl, rfl, ?_⟩
    · show ((s.driveFrame p _ _ _ _ _ (rangeReplyPayload s reason)).modLnk p _).phy.tx = _
      rw [modLnk_phy, driveFrame_tx, length_rangeReplyPayload]
      rfl
    · cases p <;> rfl
  case message =>
    intro s p a m haddr htx hcc hcore hline hown hnone hfirst
    show execLedgerFrameSend p s = _
    rw [execLedgerFrameSend, haddr]
    refine (nx (if_neg (frameTurn htx hcc hcore hline hown))).trans ?_
    rw [hnone, hfirst]
  case nothing =>
    intro s p hnone hempty
    show execLedgerFrameSend p s = _
    rw [execLedgerFrameSend]
    split
    · rfl
    · refine nx (ite_eq_left_iff.mpr fun _ => ?_)
      rw [hnone, hempty]
  case notOwner =>
    intro s p hno
    show execLedgerFrameSend p s = _
    rw [execLedgerFrameSend]
    split
    · rfl
    · refine nx (if_pos ?_)
      rcases hno with hother | hquiet
      · simp [hother]
      · simp [hquiet]
  case slot =>
    intro s p k a h x haddr hheld htx hcore hline hfirst hx
    subst hx
    have hexec := exec_slotSend_due haddr hheld htx hcore hline hfirst
    refine ⟨_, _, hexec, rfl, ?_, (exFrame (frame_execSlotSend p k s) hexec).only⟩
    rw [(frame_sessionSent _ _).eq_of .phy rfl, slotDriven_tx]
  case noSlot =>
    intro s p k hnone
    show execSlotSend p k s = _
    rw [execSlotSend, hnone]
    split
    next h => cases h
    · rfl
  case quiet =>
    intro s p k hquiet
    show execSlotSend p k s = _
    rw [execSlotSend]
    split
    · exact nx (if_pos (by simp [hquiet]))
    · rfl
  case join =>
    intro s b nonce body hbeacon hopen hjoining htx hcc hcore hwindow hwait hsent hbody
    subst hbody
    have hexec : exec (.joinRequestSend nonce) s = .next ((s.drive (.join (toBe 6 s.dev.uid.toNat ++ toBe 2 (s.nonceWord nonce)
        ++ toBe 2 (joinCrc s.lpc (toBe 6 s.dev.uid.toNat ++ toBe 2 (s.nonceWord nonce)))))).modLnk .a
        (fun l => { l with joinSent := some s.lpc, nonce := some (BitVec.ofNat 16 (s.nonceWord nonce)) })) := by
      show execJoinRequestSend nonce s = _
      rw [execJoinRequestSend]
      dsimp -proj only
      rw [hbeacon]
      exact nx (if_pos (by simp [hopen, hjoining, htx, hcc, hcore, hwindow, hwait, hsent]))
    exact ⟨_, hexec, rfl, rfl, (Frame.set_link _ rfl ((frame_drive s _).mono (by decide))).only⟩
  case noJoin =>
    intro s nonce hno
    refine nx (if_neg ?_)
    rcases hno with hjoined | hwait | hsent
    · simp [hjoined]
    · simp [hwait]
    · simp [Option.isSome_iff_ne_none.mp hsent]

end Sys2Proof.Proofs

/-! ## What a node hears beside ledger frames

Slots, bells, the bell field and join requests (R71, R72, R79, R81, R99, R104, R105, R115). -/

namespace Sys2Proof.Proofs

open Sys2Proof.Machine Sys2Proof.Laws

/-! ### Slots -/

/-- The node once it knows the source of a slot whose CRC is valid. -/
def slotKnown (s : State) (k : Fin 64) (b : SlotBurst) : State :=
  s.slotSource b.port k (s.holderOf b.port k) (parseSlot b.port b.header b.payload)

theorem frame_slotKnown (s : State) (k : Fin 64) (b : SlotBurst) :
    Frame [.regs, .phy, .link, .master, .way, .hif, .free] (some (evRegs ++ [0x2048, 0x2058, 0x2080, 0x2084, 0x20C0, 0x20C4])) s (slotKnown s k b) :=
  frame_slotSource _ _ _ _ _

/-- A slot with a valid CRC is judged by its format, and kept when the mixer listens to its port. -/
theorem exec_slotReceived_valid {s : State} {k : Fin 64} {b : SlotBurst} (hhears : s.hears b.port = true) (hcore : s.coreOn = true)
    (hother : s.sendsIn b.port k.val = false) (htrained : b.trained = true) (hcrc : b.crc.toNat = slotCrc s.lpc k.val b.header b.payload) :
    exec (.slotReceived k b) s = .next (if 5 ≤ (parseSlot b.port b.header b.payload).format then (slotKnown s k b).bump (rxF b.port F.LINE_RX_ERR1.format_reserved)
      else
        let t := if (slotKnown s k b).wayOn then (slotKnown s k b).keepSlot k (parseSlot b.port b.header b.payload) else slotKnown s k b
        if t.mixPort = b.port then { t with mix := { t.mix with rx := Cells.set (fun _ => none) t.mix.rx k (some (parseSlot b.port b.header b.payload)) } } else t) :=
  (nx (if_neg (by simp [hhears, hcore, hother, htrained]))).trans (nx (if_neg (not_not_intro hcrc)))

/-- The node with the slot kept for forwarding. -/
def slotKept (s : State) (k : Fin 64) (b : SlotBurst) : State :=
  if (slotKnown s k b).wayOn then (slotKnown s k b).keepSlot k (parseSlot b.port b.header b.payload) else slotKnown s k b

theorem frame_slotKept (s : State) (k : Fin 64) (b : SlotBurst) :
    Frame [.regs, .phy, .link, .master, .way, .hif, .free] (some (evRegs ++ [0x2048, 0x2058, 0x2080, 0x2084, 0x20C0, 0x20C4])) s (slotKept s k b) :=
  Frame.ite (Frame.after (frame_keepSlot _ _ _) (by decide +kernel) (frame_slotKnown s k b)) (frame_slotKnown s k b)

theorem mixPort_of {w : List Part} {l : List Nat} {s t : State} (h : Frame w (some l) s t) (hdev : w.elem .dev = false)
    (hport : l.elem F.MIX_CTL.port_b.off = false) : t.mixPort = s.mixPort := by
  unfold State.mixPort State.isB
  rw [on_of h _ hport, h.eq_of .dev hdev]

/-- A slot whose CRC failed is counted. -/
theorem slotFailed_count (s : State) (p : Port) (k : Nat) (holder : Option Nat) :
    (s.slotFailed p k holder).rf (rxF p F.LINE_RX_ERR0.slot_crc) = min (s.rf (rxF p F.LINE_RX_ERR0.slot_crc) + 1) 65535 := by
  have hcharge : ∀ (t : State) (a : Nat), (t.chargeCrc p a).rf (rxF p F.LINE_RX_ERR0.slot_crc) = t.rf (rxF p F.LINE_RX_ERR0.slot_crc) :=
    fun t a => (frame_chargeCrc t p a).rf_eq (by cases p <;> decide)
  have hbump : (s.bump (rxF p F.LINE_RX_ERR0.slot_crc)).rf (rxF p F.LINE_RX_ERR0.slot_crc) = min (s.rf (rxF p F.LINE_RX_ERR0.slot_crc) + 1) 65535 := by
    rw [bump_rf _ _ (by cases p <;> decide)]
    cases p <;> rfl
  unfold State.slotFailed
  dsimp -proj only
  rw [(frame_stim _ _ _).rf_eq (by cases p <;> decide)]
  cases holder with
  | none => rw [modLnk_rf, hbump]
  | some a => rw [hcharge, modLnk_rf, hbump]

/-! ### The bell field -/

/-- The nodes whose bells the master reads are heard. -/
def bellsHeard (u : State) (p : Port) (os : List BellObs) : State :=
  ((List.range 128).filter (fun a => (u.ringers p os 0).contains a || (u.ringers p os 1).contains a || (u.ringers p os 2).contains a)).foldl
    (fun t a => t.bellFrom p a) u

/-- What a master does with the bell field it has read. -/
def fieldRead (u : State) (p : Port) (os : List BellObs) : State :=
  let s := if (u.ringers p os 1).isEmpty && (u.ringers p os 2).isEmpty then bellsHeard u p os else (bellsHeard u p os).triggerActive p
  let s : State := (u.ringers p os 1).foldl (fun t a => t.bellRequest p a ((u.ringers p os 2).contains a)) s
  let s := (s.ownRequests p).dueRepeats p
  if s.lineState p ≠ 0 then s
  else s.chooseOwner p (u.ringers p os 2) ((List.range 128).filter (fun a => (u.ringers p os 0).contains a || (s.mst p).rangedNow.contains a))

/-- With no request and no urgent pair in the field the line stays as it is, and the next owner is chosen. -/
theorem fieldRead_plain {u : State} {p : Port} {os : List BellObs} (hone : (u.ringers p os 1).isEmpty = true) (htwo : (u.ringers p os 2).isEmpty = true)
    (hstill : (((bellsHeard u p os).ownRequests p).dueRepeats p).lineState p = 0) : fieldRead u p os =
    (((bellsHeard u p os).ownRequests p).dueRepeats p).chooseOwner p [] ((List.range 128).filter (fun a =>
      (u.ringers p os 0).contains a || ((((bellsHeard u p os).ownRequests p).dueRepeats p).mst p).rangedNow.contains a)) := by
  unfold fieldRead
  dsimp -proj only
  rw [List.isEmpty_iff.mp hone, List.isEmpty_iff.mp htwo, List.foldl_nil, if_pos (c := (([] : List Nat).isEmpty && ([] : List Nat).isEmpty) = true) rfl,
    if_neg (not_not_intro hstill)]

/-- Settles O54: how each burst is judged, and what one that is not for the node leaves alone. -/
theorem nodesHearBurstsAndBells : Obligations.NodesHearBurstsAndBells := by
  unfold Obligations.NodesHearBurstsAndBells
  refine ⟨?kept, ?reserved, ?failed, ?missed, ?rung, ?watch, ?silent, ?field, ?follower, ?join, ?joinCrc, ?noJoin⟩
  case kept =>
    intro s k b x hhears hcore hother htrained hcrc hx hformat hport
    subst hx
    have hmix : (slotKept s k b).mix = s.mix := (frame_slotKept s k b).eq_of .mix rfl
    have hexec : exec (.slotReceived k b) s = .next { slotKept s k b with
        mix := { (slotKept s k b).mix with rx := Cells.set (fun _ => none) (slotKept s k b).mix.rx k (some (parseSlot b.port b.header b.payload)) } } := by
      refine (exec_slotReceived_valid hhears hcore hother htrained hcrc).trans ((nx (if_neg (by omega))).trans (nx (if_pos ?_)))
      exact (mixPort_of (frame_slotKept s k b) rfl rfl).trans hport
    refine ⟨_, hexec, ?_, (Frame.set_mix _ rfl ((frame_slotKept s k b).mono (by decide +kernel))).only⟩
    dsimp only
    rw [hmix]
  case reserved =>
    intro s k b hhears hcore hother htrained hcrc hformat
    refine ⟨_, (exec_slotReceived_valid hhears hcore hother htrained hcrc).trans (nx (if_pos hformat)), ?_, ?_⟩
    · rw [bump_rf _ _ (by cases b.port <;> decide), (frame_slotKnown s k b).rf_eq (by cases b.port <;> decide)]
      cases b.port <;> rfl
    · rw [bump_mix, (frame_slotKnown s k b).eq_of .mix rfl]
  case failed =>
    intro s k b hhears hcore hother htrained hcrc
    exact ⟨s.slotFailed b.port k (s.holderOf b.port k), (nx (if_neg (by simp [hhears, hcore, hother, htrained]))).trans (nx (if_pos hcrc)),
      slotFailed_count .., (frame_slotFailed _ _ _ _).eq_of .mix rfl⟩
  case missed =>
    intro s k b hno
    refine nx (if_pos ?_)
    rcases hno with huntrained | hsends
    · simp [huntrained]
    · simp [hsends]
  case rung =>
    intro s o hhears hother haddr hquiet hrung hstate
    exact (nx (if_neg (by simp [hhears, hother, haddr, hquiet, hrung]))).trans (nx (if_pos hstate))
  case watch =>
    intro s o hhears hother haddr hquiet hrung hstate hpair
    exact ⟨_, rfl, (nx (if_neg (by simp [hhears, hother, haddr, hquiet, hrung]))).trans ((nx (if_neg (by omega))).trans (nx (if_pos ⟨hstate, hpair⟩)))⟩
  case silent =>
    intro s o hno
    rcases hno with hrung | haddr | hawake
    · exact nx (if_pos (by simp [hrung]))
    · exact nx (if_pos (by simp [haddr]))
    · exact nx (ite_eq_left_iff.mpr fun _ => (if_neg (by omega)).trans (if_neg (by omega)))
  case field =>
    intro s u v p os hmaster hhears hcc hline hu hv hone htwo hstill
    have hturn : exec (.bellFieldRead p os) s = .next (fieldRead u p os) := by
      rw [hu]
      exact nx (if_neg (by simp [hmaster, hhears, hcc, hline]))
    subst hv
    exact hturn.trans (nx (fieldRead_plain hone htwo hstill))
  case follower =>
    intro s p os hfollow
    exact nx (if_pos (by simp [hfollow]))
  case join =>
    intro s j b uid hmaster hhears hcc hlast hopen hnow hnear hcrc huid hother
    subst huid
    show execJoinRequestReceived j s = _
    rw [execJoinRequestReceived]
    dsimp -proj only
    rw [hlast]
    exact (nx (if_neg (by simp [hmaster, hhears, hcc, hopen, hnow]; omega))).trans ((nx (if_neg (not_not_intro hcrc))).trans (nx (if_neg hother)))
  case joinCrc =>
    intro s j b hmaster hhears hcc hlast hopen hnow hnear hcrc
    have hexec : exec (.joinRequestReceived j) s = .next (State.bump { s with plt := { s.plt with sym := max s.plt.sym 15480 } } (rxF j.port F.LINE_RX_ERR2.join_crc)) := by
      show execJoinRequestReceived j s = _
      rw [execJoinRequestReceived]
      dsimp -proj only
      rw [hlast]
      exact (nx (if_neg (by simp [hmaster, hhears, hcc, hopen, hnow]; omega))).trans (nx (if_pos hcrc))
    refine ⟨_, hexec, bump_master _ _, bump_way _ _, ?_⟩
    rw [bump_rf _ _ (by cases j.port <;> decide)]
    cases j.port <;> rfl
  case noJoin =>
    intro s j hno
    show execJoinRequestReceived j s = _
    rw [execJoinRequestReceived]
    dsimp -proj only
    refine nx (if_pos ?_)
    rcases hno with hfollow | hlate | hlast
    · simp [hfollow]
    · simp [hlate]
    · simp [hlast]

end Sys2Proof.Proofs

/-! ## Ledger messages

What each message does where its frame is accepted (R83, R99, R116, R118, R121, R126 to R129, R136 to R138, R165, R170, R178, R262, R553, R599). -/

namespace Sys2Proof.Proofs

open Sys2Proof.Machine Sys2Proof.Laws

/-! ### The address while a frame is checked -/

theorem addr_of {w : List Part} {l : List Nat} {s t : State} (h : Frame w (some l) s t) (p : Port)
    (hfree : l.elem (lkF p F.LINE_ADDR.assigned).off = false) : t.addr p = s.addr p := by
  have hsame : (lkF p F.LINE_ADDR.addr).off = (lkF p F.LINE_ADDR.assigned).off := by cases p <;> rfl
  rw [State.addr, on_of h _ hfree, h.rf_eq (by rw [hsame]; exact hfree)]
  rfl

/-- A node that gives its address up has none. -/
theorem giveUpAddress_addr (s : State) (p : Port) (reason : Nat) : (s.giveUpAddress p reason).addr p = none := by
  have hclear : ∀ t : State, (((t.put (lkF p F.LINE_ADDR.assigned) false).wr (lkF p F.LINE_ADDR.rtd) 0).wr (lkF p F.LINE_ADDR.addr) 0).on
      (lkF p F.LINE_ADDR.assigned) = false := by
    intro t
    rw [on_wr_apart _ _ _ _ (by cases p <;> decide) (by cases p <;> decide), on_wr_apart _ _ _ _ (by cases p <;> decide) (by cases p <;> decide)]
    exact put_on t _ false (by cases p <;> decide) (by cases p <;> rfl)
  unfold State.giveUpAddress
  dsimp -proj only
  rw [addr_of (frame_modLnk _ _ _) p rfl, State.addr, hclear, if_neg (by decide)]

/-- Hearing its own address from another node, a node keeps it or has none. -/
theorem ownAddrSeen_addr (s : State) (p : Port) : (s.ownAddrSeen p).addr p = s.addr p ∨ (s.ownAddrSeen p).addr p = none := by
  have hbump : (s.bump (rxF p F.LINE_RX_ERR2.own_addr_seen)).addr p = s.addr p := addr_of (frame_bump _ _) p (by cases p <;> rfl)
  unfold State.ownAddrSeen
  dsimp -proj only
  split
  · exact Or.inl hbump
  · split
    · right
      rw [addr_of (frame_modLnk _ _ _) p rfl]
      exact giveUpAddress_addr _ _ _
    · exact Or.inl hbump

/-- An address that a node still holds once a good frame has been taken in is the one it held. -/
theorem frameReceived_addr {s : State} {f : LedgerFrame} {a : Nat} (hlen : f.length.toNat ≤ 160) (hcrc : s.frameCrcOk f = true)
    (h : (s.frameReceived f).1.addr f.port = some a) : s.addr f.port = some a := by
  have htaps : ∀ t : State, ((t.creditCrc f.port (f.source.toNat % 128)).adaptTaps f.port (f.source.toNat % 128)).addr f.port = t.addr f.port := fun t =>
    (addr_of (frame_adaptTaps _ _ _) f.port rfl).trans (addr_of (frame_creditCrc _ _ _) f.port (by cases f.port <;> rfl))
  have hheard : ∀ t : State, (t.hearNode f.port (f.source.toNat % 128)).addr f.port = t.addr f.port := fun t => addr_of (frame_hearNode _ _ _) f.port rfl
  have hown : ∀ t : State, (t.ownAddrSeen f.port).addr f.port = some a → t.addr f.port = some a := fun t ht =>
    (ownAddrSeen_addr t f.port).elim (fun hk => hk.symm.trans ht) (fun hn => absurd (hn.symm.trans ht) (by simp))
  have hstep : ∀ (c d : Bool) (t₀ t₁ : State), t₀ = (if c then s else (s.creditCrc f.port (f.source.toNat % 128)).adaptTaps f.port (f.source.toNat % 128)) →
      t₁ = (if d then t₀.ownAddrSeen f.port else t₀) → (if c then t₁ else t₁.hearNode f.port (f.source.toNat % 128)).addr f.port = some a →
      s.addr f.port = some a := by
    intro c d t₀ t₁ h₀ h₁ hc
    have hlast : t₁.addr f.port = some a := by cases c with | false => exact (hheard t₁).symm.trans hc | true => exact hc
    have hfirst : t₀.addr f.port = some a := by subst h₁; cases d with | false => exact hlast | true => exact hown t₀ hlast
    subst h₀
    cases c with | false => exact (htaps s).symm.trans hfirst | true => exact hfirst
  rw [State.frameReceived, if_neg (by omega), if_neg (by simp [hcrc])] at h
  exact hstep _ _ _ _ rfl rfl h

theorem checkedFrame_addr {s : State} {f : LedgerFrame} {a : Nat} (hlen : f.length.toNat ≤ 160) (hcrc : s.frameCrcOk f = true)
    (h : (s.checkedFrame f).addr f.port = some a) : s.addr f.port = some a :=
  frameReceived_addr hlen hcrc ((addr_of (frame_journalFrame _ f) f.port (by cases f.port <;> rfl)).symm.trans h)

/-- A message for the node itself is not passed on to another. -/
theorem passesOn_of_accepted {s u : State} {f : LedgerFrame} {ty : Nat} (h : Accepted s f ty u) (expect : Nat) : s.passesOn f expect = false := by
  have hmine := h.mine
  simp only [State.forMe, Bool.or_eq_true, Bool.and_eq_true, decide_eq_true_eq] at hmine
  rcases hmine with (hall | ⟨hcapable, -⟩) | hown
  · simp [State.passesOn, hall]
  · simp [State.passesOn, hcapable]
  · simp [State.passesOn, checkedFrame_addr h.short h.crc hown]

theorem trainsOn_of_accepted {s u : State} {f : LedgerFrame} (h : Accepted s f tyRangeReply u) : s.trainsOn f = true := by
  have hsized : f.payload.length = 160 := by
    have := h.sized
    rw [h.typ] at this
    exact of_decide_eq_true this
  have hwhole := h.whole
  have hawake : s.pwr.state < 3 := Nat.lt_succ_of_lt h.awake
  simp [State.trainsOn, h.hears, hawake, h.typ, hwhole, hsized, h.crc]

/-! ### The effects -/

/-- A master alone passes a message on. -/
theorem relay_of_follower {s : State} {f : LedgerFrame} (h : s.mastering f.port = false) : s.relay f = s := by
  rw [State.relay, if_neg (by simp [h])]

theorem concerned_of_regs {s t : State} (h : t.regs = s.regs) (x : CallIn) : t.concerned x = s.concerned x := by
  unfold State.concerned State.addr State.listens State.on State.rf State.reg64 State.reg
  rw [h]

/-- A CALL without catch-up plays nothing. -/
theorem playsCall_plain {s : State} {x : CallIn} {d : List Byte} (h : bitOf (byteAt d 3) 3 = false) : s.playsCall x d = s := by
  rw [State.playsCall, if_neg (by simp [h])]

theorem wayOn_of {w : List Part} {l : List Nat} {s t : State} (h : Frame w (some l) s t) (hdev : w.elem .dev = false)
    (hrole : l.elem F.LINE_ROLE.way_en.off = false) (hport : l.elem F.LINE_PORT_CTL.b_en.off = false)
    (hmaster : l.elem F.LINE_WAY_STATUS.b_role.off = false) : t.wayOn = s.wayOn := by
  unfold State.wayOn State.isWay State.isB State.mastering
  dsimp only
  rw [h.eq_of .dev hdev, on_of h _ hrole, on_of h _ hport, h.rf_eq hmaster]

/-- The record of the node's own call with its first CALL_ACK. -/
def ackShown (u : State) (r : Nat) (c : CallRec) (d : List Byte) : State :=
  ((u.setCall r (some { c with acked := true })).raise 2 (byteAt d 3) r 0 (BitVec.ofNat 32 c.callId.toNat)).answerWakes

theorem callAcked_first {u : State} {p : Port} {d : List Byte} {r : Nat} {c : CallRec} (hrec : u.ackedRec p d = some r) (hcall : u.callRec r = some c)
    (hfirst : c.acked = false) (hcode : byteAt d 4 = 0) : u.callAcked p d = ackShown u r c d := by
  rw [State.callAcked, hrec]
  dsimp -proj only
  rw [hcall]
  exact if_neg (by simp [hfirst, hcode])

theorem frame_ackShown (u : State) (r : Nat) (c : CallRec) (d : List Byte) :
    Frame [.pins, .regs, .call, .hif, .dbg] (some (evRegs ++ [0x1804, 0x6028])) u (ackShown u r c d) :=
  Frame.after (frame_answerWakes _) (by decide +kernel) (Frame.after (frame_raise _ _ _ _ _ _) (by decide +kernel) ((frame_setCall u r _).mono (by decide +kernel)))

/-- A node that is no waystation forwards no CALL_ACK. -/
theorem forwardAck_of_wayOff {s : State} (p : Port) (d : List Byte) (h : s.wayOn = false) : s.forwardAck p d = s := by
  rw [State.forwardAck, if_pos (by simp [h])]

/-- Settles O57: the frame is accepted, and its message has the effect that its type and its fields call for. -/
theorem ledgerMessagesTakeEffect : Obligations.LedgerMessagesTakeEffect := by
  unfold Obligations.LedgerMessagesTakeEffect
  refine ⟨?assigned, ?timed, ?refused, ?foreign, ?poll, ?ranged, ?trained, ?request, ?stranger, ?grants, ?release, ?noRelease, ?audit, ?call, ?again, ?ack,
    ?roster, ?first, ?last, ?noFill, ?time, ?noTime, ?quiet, ?cls, ?status, ?noStatus, ?fragment, ?discard, ?push, ?noPush⟩
  case assigned =>
    intro s u f hacc huid hstatus hnonce
    show execAddressAssign f s = _
    rw [execAddressAssign, frame_of_accepted hacc, if_pos huid, State.takeAssign, hstatus]
    exact nx (if_pos (decide_eq_true hnonce))
  case timed =>
    intro s u f hacc huid hstatus haddr
    show execAddressAssign f s = _
    rw [execAddressAssign, frame_of_accepted hacc, if_pos huid, State.takeAssign, hstatus]
    exact nx (if_pos haddr)
  case refused =>
    intro s u f hacc huid hstatus haddr
    show execAddressAssign f s = _
    rw [execAddressAssign, frame_of_accepted hacc, if_pos huid, State.takeAssign, hstatus]
    exact nx (if_pos haddr)
  case foreign =>
    intro s u f hacc huid
    show execAddressAssign f s = _
    rw [execAddressAssign, frame_of_accepted hacc, if_neg huid]
  case poll =>
    intro s u f hacc huid haddr
    show execRangePoll f s = _
    rw [execRangePoll, frame_of_accepted hacc, if_pos ⟨huid, haddr⟩]
  case ranged =>
    intro s u f n r hacc hrow hmaster huid
    show execRangeReply f n s = _
    rw [execRangeReply, frame_of_accepted hacc, if_pos (trainsOn_of_accepted hacc), hrow]
    dsimp -proj only
    rw [if_pos ⟨hmaster, huid⟩]
  case trained =>
    intro s u f n hacc hfollow
    have hact : (match (u.mst f.port).rowOf (f.source.toNat % 128) with
        | some r => if u.mastering f.port ∧ beAt f.payload 0 6 = r.row.uid.toNat then u.ranged f.port r n else u
        | none => u) = u := by
      split
      · exact if_neg (by simp [hfollow])
      · rfl
    show execRangeReply f n s = _
    rw [execRangeReply, frame_of_accepted hacc, if_pos (trainsOn_of_accepted hacc)]
    exact nx (congrArg (fun t => State.trainEq t f.port (f.source.toNat % 128)) hact)
  case request =>
    intro s u f q hacc hmember hop hgroup hformat hprec hcu hq hnew
    subst hq
    rw [exec_leaseReq_of_accepted hacc hmember, leaseReqFrom_request hop hgroup hformat hprec hcu, request_of_new hnew]
  case stranger =>
    intro s u f hacc hmember
    show execLeaseReq f s = _
    rw [execLeaseReq, frame_of_accepted hacc, if_neg (by simp [hmember])]
  case grants =>
    intro s u f hacc hfollow
    show execLeaseGrant f s = _
    rw [execLeaseGrant, frame_of_accepted hacc, if_neg (by simp [hfollow])]
  case release =>
    intro s u f ks hacc hmember hks hsome
    subst hks
    show execLeaseRelease f s = _
    rw [execLeaseRelease, frame_of_accepted hacc, if_pos hmember]
    exact nx (congrArg (State.leaseChange u f.port) (funext fun m => if_neg (mt List.isEmpty_iff.mp hsome)))
  case noRelease =>
    intro s u f hacc hmember
    show execLeaseRelease f s = _
    rw [execLeaseRelease, frame_of_accepted hacc, if_neg (by simp [hmember])]
  case audit =>
    intro s u f hacc hfollow
    show execLeaseAudit f s = _
    rw [execLeaseAudit, frame_of_accepted hacc, if_neg (by simp [hfollow])]
  case call =>
    intro s u f x hx hacc hfollow hway hnew hconcerned hplain
    subst hx
    refine ⟨_, ?_, rfl⟩
    show execCall f s = _
    rw [execCall]
    dsimp -proj only
    rw [frame_of_accepted hacc, relay_of_follower hfollow, if_neg (by simp [hnew]), if_pos ((concerned_of_regs (modLnk_regs _ _ _) _).trans hconcerned),
      playsCall_plain hplain]
  case again =>
    intro s u f hacc hfollow hseen
    show execCall f s = _
    rw [execCall]
    dsimp -proj only
    rw [frame_of_accepted hacc, relay_of_follower hfollow, if_pos hseen]
  case ack =>
    intro s u f r c hacc hfollow hway hrec hcall hfirst hcode
    refine ⟨ackShown u r c f.payload, ?_, rfl⟩
    show execCallAck f s = _
    rw [execCallAck, frame_of_accepted hacc, relay_of_follower hfollow, callAcked_first hrec hcall hfirst hcode,
      forwardAck_of_wayOff _ _ ((wayOn_of (frame_ackShown u r c f.payload) rfl rfl rfl rfl).trans hway)]
  case roster =>
    intro s u f hacc hfollow
    show execRoster f s = _
    rw [execRoster, frame_of_accepted hacc, if_neg (by simp [hfollow])]
  case first =>
    intro s u f hacc hrear hport hpart hcount
    show execCheckpoint f s = _
    rw [execCheckpoint, frame_of_accepted hacc, if_pos ⟨hrear, hport⟩, State.takePart, if_pos hpart, State.fillPart, if_neg (fun h => hcount h.symm)]
  case last =>
    intro s u f x hacc hrear hport hfill hpart hnumber hnext hcount
    show execCheckpoint f s = _
    rw [execCheckpoint, frame_of_accepted hacc, if_pos ⟨hrear, hport⟩, State.takePart, if_neg hpart, hfill]
    dsimp -proj only
    rw [if_pos ⟨hnumber, hnext⟩, State.fillPart, if_pos hcount]
  case noFill =>
    intro s u f hacc hrear
    show execCheckpoint f s = _
    rw [execCheckpoint, frame_of_accepted hacc, if_neg (by simp [hrear])]
  case time =>
    intro s u f hacc hon hvalid
    have hexec : exec (.time f) s = .next (u.wr F.PWR_RTC.seconds (beAt f.payload 4 8)) := by
      show execTime f s = _
      rw [execTime, frame_of_accepted hacc, if_pos ⟨hon, hvalid⟩]
    exact ⟨_, hexec, rf_wr_same u F.PWR_RTC.seconds _ (by decide), (frame_wr _ _ _).only⟩
  case noTime =>
    intro s u f hacc hoff
    show execTime f s = _
    rw [execTime, frame_of_accepted hacc, if_neg (by simp [hoff])]
  case quiet =>
    intro s u f hacc hfollow hop
    show execPowerDirective f s = _
    rw [execPowerDirective, frame_of_accepted hacc, if_neg (by simp [hfollow]), hop]
    rfl
  case cls =>
    intro s u f hacc hfollow hop haddr
    show execPowerDirective f s = _
    rw [execPowerDirective, frame_of_accepted hacc, if_neg (by simp [hfollow]), hop]
    exact nx (if_pos haddr)
  case status =>
    intro s u f r hacc hmaster hrow
    show execNodeStatus f s = _
    rw [execNodeStatus, frame_of_accepted hacc, if_pos hmaster, hrow]
  case noStatus =>
    intro s u f hacc hfollow
    show execNodeStatus f s = _
    rw [execNodeStatus, frame_of_accepted hacc, if_neg (by simp [hfollow])]
  case fragment =>
    intro s u f hacc hone
    show execMonitor f s = _
    rw [execMonitor, frame_of_accepted hacc, passesOn_of_accepted hacc]
    refine nx ((if_neg Bool.false_ne_true).trans (if_neg ?_))
    rcases hone with hanswer | hnode
    · simp [hanswer]
    · exact fun h => Nat.not_le.2 hnode (of_decide_eq_true (Bool.and_eq_true_iff.mp h).2)
  case discard =>
    intro s u f hacc hrequest hmany
    show execMonitor f s = _
    rw [execMonitor, frame_of_accepted hacc, passesOn_of_accepted hacc]
    exact nx ((if_neg Bool.false_ne_true).trans (if_pos (by rw [hrequest, decide_eq_true hmany]; rfl)))
  case push =>
    intro s u f hacc haccept hprec hop hroom
    have hobeys : u.obeysPush f.payload = true := by
      simp only [State.obeysPush, haccept, Bool.true_and, Bool.and_eq_true, Bool.or_eq_true, decide_eq_true_eq]
      exact ⟨⟨hprec, hop⟩, hroom⟩
    show execGroupPush f s = _
    rw [execGroupPush, frame_of_accepted hacc, passesOn_of_accepted hacc, if_pos hobeys]
    rfl
  case noPush =>
    intro s u f hacc hdecline
    have hobeys : u.obeysPush f.payload = false := by simp [State.obeysPush, hdecline]
    show execGroupPush f s = _
    rw [execGroupPush, frame_of_accepted hacc, passesOn_of_accepted hacc, hobeys]
    rfl

end Sys2Proof.Proofs
